-- ==== Sys2Proof/Word.lean ====
section
/-! DEFINITION. The word and byte types of the Vytar module: registers and instructions are 32-bit words (R9, R109),
memory is addressed by bytes, and multi-byte data is little-endian (R9, R121). -/

namespace Sys2Proof

/-- A 32-bit register or instruction word (R9, R109). -/
abbrev Word := BitVec 32

/-- One byte of memory. -/
abbrev Byte := BitVec 8

end Sys2Proof
end

