-- ==== Sys2Proof/Machine/Bits.lean ====
section
/-! DEFINITION. Bit fields, sign extension, byte order, saturation and rounding: the arithmetic helpers that the
meanings share. Numbers are plain naturals or integers; narrowing is always explicit. -/

namespace Sys2Proof.Machine

/-- Bits [hi:lo] of v, as a number. -/
def bits (v hi lo : Nat) : Nat := (v >>> lo) % 2 ^ (hi + 1 - lo)

/-- v with bits [hi:lo] replaced by the low bits of x. -/
def putBits (v hi lo x : Nat) : Nat :=
  (v >>> (hi + 1)) * 2 ^ (hi + 1) + (x % 2 ^ (hi + 1 - lo)) * 2 ^ lo + v % 2 ^ lo

/-- Bit k of v. -/
def bitAt (v k : Nat) : Bool := v.testBit k

/-- A Bool as the bit it stands for. -/
def bit (b : Bool) : Nat := if b then 1 else 0

/-- The signed value of the low w bits of v, in two's complement. -/
def signed (w v : Nat) : Int :=
  let u := v % 2 ^ w
  if 2 * u < 2 ^ w then (u : Int) else (u : Int) - (2 ^ w : Nat)

/-- The w-bit two's-complement pattern of an integer. -/
def unsign (w : Nat) (i : Int) : Nat := (i % ((2 ^ w : Nat) : Int)).toNat

/-- An integer clamped into lo … hi. -/
def clampI (lo hi i : Int) : Int := max lo (min hi i)

/-- A natural number clamped from above. -/
def sat (m v : Nat) : Nat := min m v

/-- Saturation to a signed range of w bits. -/
def satS (w : Nat) (i : Int) : Int := clampI (-((2 ^ (w - 1) : Nat) : Int)) (((2 ^ (w - 1) : Nat) : Int) - 1) i

/-- v × 2^e for a signed exponent, truncated toward zero. -/
def scaleTrunc (v e : Int) : Int :=
  if 0 ≤ e then v * ((2 ^ e.toNat : Nat) : Int) else Int.tdiv v ((2 ^ (-e).toNat : Nat) : Int)

/-- v × 2^e for a signed exponent, rounded down. -/
def scaleFloor (v e : Int) : Int :=
  if 0 ≤ e then v * ((2 ^ e.toNat : Nat) : Int) else v / ((2 ^ (-e).toNat : Nat) : Int)

/-- num / den rounded to the nearest integer, halves away from zero (den > 0). -/
def divRound (num : Int) (den : Nat) : Int :=
  if 0 ≤ num then (2 * num + den) / (2 * den : Nat) else -((-2 * num + den) / (2 * den : Nat))

/-- The word made of four bytes, the first the least significant (R9). -/
def leWord : List Nat → Nat
  | [] => 0
  | b :: bs => b % 256 + 256 * leWord bs

/-- The n low bytes of v, least significant first (R9). -/
def leBytes : Nat → Nat → List Nat
  | 0, _ => []
  | n + 1, v => v % 256 :: leBytes n (v / 256)

/-- The number whose most significant byte comes first (R102). -/
def beNat (bs : List Nat) : Nat := bs.foldl (fun a b => a * 256 + b % 256) 0

/-- Elements off … off + n - 1 of a list; a place beyond the end reads as 0. -/
def slice (bs : List Nat) (off n : Nat) : List Nat :=
  let t := (bs.drop off).take n
  t ++ List.replicate (n - t.length) 0

/-- The little-endian number in n bytes at an offset. -/
def leAt (bs : List Nat) (off n : Nat) : Nat := leWord (slice bs off n)

/-- One step of CRC-32 over a bit, reflected polynomial 0xEDB8_8320 (R182). -/
def crcBit (c : Nat) : Nat := if c % 2 = 1 then (c / 2) ^^^ 0xEDB88320 else c / 2

/-- CRC-32 register after one byte (R182). -/
def crcByte (c b : Nat) : Nat :=
  crcBit (crcBit (crcBit (crcBit (crcBit (crcBit (crcBit (crcBit (c ^^^ (b % 256)))))))))

/-- CRC-32 of R182: IEEE 802.3 polynomial, register preset to ones, reflected, complemented at the end. -/
def crc32 (bs : List Nat) : Nat := (bs.foldl crcByte 0xFFFFFFFF) ^^^ 0xFFFFFFFF

/-- The lowest index below n at which p holds. -/
def findBelow (n : Nat) (p : Nat → Bool) : Option Nat := (List.range n).find? p

/-- The i-th element, or a given value beyond the end. -/
def nth {α : Type} (l : List α) (i : Nat) (d : α) : α := l.getD i d

/-- Integer square root, by bisection on `fuel` bits. -/
def isqrtFuel : Nat → Nat → Nat → Nat
  | 0, _, r => r
  | k + 1, n, r => if (r + 2 ^ k) * (r + 2 ^ k) ≤ n then isqrtFuel k n (r + 2 ^ k) else isqrtFuel k n r

/-- The largest r with r × r ≤ n, for n below 2^128. -/
def isqrt (n : Nat) : Nat := isqrtFuel 64 n 0

end Sys2Proof.Machine
end

