-- ==== Sys2Proof/Syntax.lean ====
section
/-! DEFINITION. The commands of the module: one constructor for each row of the table of operations and events, with
the operands that the row's rule needs. Operands that physics decides (a measured value, the time of an edge, whether a
transfer failed) stand in the command. -/

namespace Sys2Proof

/-- What a FOC channel measures for a phase 0 (R402, R405, R412 to R414): the three phases' shunt samples at the centre of the last
PWM period, as 12-bit codes, with the low-side on-time of each in tick-PLL cycles; cosine and sine of the angle of that sample, in
1/32768; the response to the injection in the d and q currents, in mA; the speed estimates of the HF tracker and of the observer, in
1/16 rpm; and the observer's angle error in 1/65536 turn. -/
structure FocIn where
  ph     : List (Nat × Nat) := []
  cos    : Int := 32768
  sin    : Int := 0
  hd     : Int := 0
  hq     : Int := 0
  speed  : Int := 0
  ospeed : Int := 0
  err    : Int := 0
  deriving DecidableEq, Repr

/-- What a SPDIN pin gives for a phase 0 (R430): the mean 12-bit code of the previous tick; whether an edge arrived since the last
phase 0, and whether a period was completed; and of the last complete period its high time, its length between rising edges and its
length between falling edges, in tick-PLL cycles. -/
structure SpdIn where
  mean   : Nat := 0
  edge   : Bool := false
  period : Bool := false
  high   : Nat := 0
  per    : Nat := 0
  perF   : Nat := 0
  deriving DecidableEq, Repr

/-- One try of a DRAM channel's training: the narrowest eye of each of the steps 2 to 5 in 1/64 UI, and whether step 6 aligned the
lanes (R466). -/
structure TrainTry where
  eyes    : List Nat
  aligned : Bool
  deriving DecidableEq, Repr

/-- The sense inputs of an HV channel in the tick before: the mean voltage and current codes, and the voltage samples themselves, one
in each 400 tick-PLL cycles (R350, R351). -/
structure HvIn where
  v  : Nat
  i  : Nat
  vs : List Nat := []
  deriving DecidableEq, Repr

/-- The inputs latched at phase 0 of a tick (R35, Table 2-1): the ADC sets, the levels of the pins and the mains
section's return frame. A list shorter than its channels reads 0 beyond its end. -/
structure TickInputs where
  gpio     : Nat := 0
  presBtn  : Bool := true
  foc      : List FocIn := []
  vbusA    : Nat := 0
  vbusB    : Nat := 0
  brkIsns  : Nat := 0
  stpLoad  : List Int := []
  spd      : List SpdIn := []
  msns     : List Nat := []
  hv       : List HvIn := []
  fth      : List Nat := []
  ret      : Bool := true
  deriving DecidableEq, Repr

/-- A data frame of the Eunov ring as it arrives (Tables 18-1 and 18-2): type, BCAST, AUTH, WRAP, destination, source, SEQ
and payload words; LEN is the number of words. -/
structure RingFrame where
  ft      : Nat
  bcast   : Bool := false
  auth    : Bool := false
  wrap    : Bool := false
  dst     : Nat
  src     : Nat
  seq     : Nat := 0
  payload : List Nat
  deriving DecidableEq, Repr

/-- The commands, one for each row of the table. -/
inductive Instr where
  /-- Phase 0 of a tick with the inputs latched there (R35, R14). -/
  | tickPhase0 (inp : TickInputs)
  /-- Output phase p of a tick (R36). -/
  | outputPhase (p : Nat)
  /-- The end of phase 14 (R61). -/
  | phase14Preempt
  /-- Context c has used its WCC (R78). -/
  | budgetExhausted (c : Nat)
  /-- Phase 15: the compare, with the physical pairs and the loop engines whose signatures differ (R89, R90, R329). -/
  | phase15Commit (lanes lawEngines : List Nat)
  /-- The self-test of the replaced pair ends (R93). -/
  | pairSelfTestEnd (pass : Bool)
  /-- Timer t reaches 0 at phase 0 (R84). -/
  | timerExpiry (t : Nat)
  /-- The wake tick of context c is reached at phase 0 (R135). -/
  | wakeTickReached (c : Nat)
  /-- A write of TCK_CTRL.CNTLATCH (R32). -/
  | cntlatch
  /-- A host read of TCK_COUNT_LO (R32). -/
  | countLoRead
  /-- A host write of size bytes to BAR0 offset addr (R9, R11). -/
  | registerWrite (addr size val : Nat)
  /-- Placement admits or refuses the loaded program (R55). -/
  | programAdmission
  /-- A write of PLC_CTRL.RETRY (R57). -/
  | retry
  /-- A write of PLC_LANEMAP (R50). -/
  | lanemapWrite (val : Nat)
  /-- An abort of context c through SEQ_CTXCMD (R97). -/
  | ctxAbort (c : Nat)
  /-- A restart of context c through SEQ_CTXCMD (R99). -/
  | ctxRestart (c : Nat)
  /-- A write of SEQ_EVSET (R80). -/
  | evset (f : Nat)
  /-- A write of SEQ_EV g: each 1 clears its flag (R80). -/
  | eventFlagClear (g val : Nat)
  /-- A write of SEQ_T t _CTRL (R84). -/
  | timerWrite (t val : Nat)
  /-- A write of SEQ_LDCTRL.GO (R106). -/
  | loadGo
  /-- The load reads the image bytes from host memory, checks and stores them (R106, R643). -/
  | loadComplete (image : List Nat) (hostErr readBackErr : Bool)
  /-- A write of SEQ_LDCTRL.ACTIVATE (R107). -/
  | activate
  /-- A write of SEQ_LDCTRL.REPLACE (R107, R108). -/
  | replace
  /-- Yartum ADD in context c (Table 4-4). -/
  | add (c : Nat) (d a b : Fin 16)
  /-- Yartum ADC in context c (Table 4-4). -/
  | adc (c : Nat) (d a b : Fin 16)
  /-- Yartum SUB in context c (Table 4-4). -/
  | sub (c : Nat) (d a b : Fin 16)
  /-- Yartum SBC in context c (Table 4-4). -/
  | sbc (c : Nat) (d a b : Fin 16)
  /-- Yartum AND in context c (Table 4-4). -/
  | andR (c : Nat) (d a b : Fin 16)
  /-- Yartum OR in context c (Table 4-4). -/
  | orR (c : Nat) (d a b : Fin 16)
  /-- Yartum XOR in context c (Table 4-4). -/
  | xorR (c : Nat) (d a b : Fin 16)
  /-- Yartum BIC in context c (Table 4-4). -/
  | bic (c : Nat) (d a b : Fin 16)
  /-- Yartum SHL in context c (Table 4-4). -/
  | shl (c : Nat) (d a b : Fin 16)
  /-- Yartum SHR in context c (Table 4-4). -/
  | shr (c : Nat) (d a b : Fin 16)
  /-- Yartum SAR in context c (Table 4-4). -/
  | sar (c : Nat) (d a b : Fin 16)
  /-- Yartum ROR in context c (Table 4-4). -/
  | ror (c : Nat) (d a b : Fin 16)
  /-- Yartum MUL in context c (Table 4-4). -/
  | mul (c : Nat) (d a b : Fin 16)
  /-- Yartum MULH in context c (Table 4-4). -/
  | mulh (c : Nat) (d a b : Fin 16)
  /-- Yartum MULHU in context c (Table 4-4). -/
  | mulhu (c : Nat) (d a b : Fin 16)
  /-- Yartum DIVU in context c (Table 4-4). -/
  | divu (c : Nat) (d a b : Fin 16)
  /-- Yartum DIVS in context c (Table 4-4). -/
  | divs (c : Nat) (d a b : Fin 16)
  /-- Yartum MIN in context c (Table 4-4). -/
  | minS (c : Nat) (d a b : Fin 16)
  /-- Yartum MAX in context c (Table 4-4). -/
  | maxS (c : Nat) (d a b : Fin 16)
  /-- Yartum MINU in context c (Table 4-4). -/
  | minu (c : Nat) (d a b : Fin 16)
  /-- Yartum MAXU in context c (Table 4-4). -/
  | maxu (c : Nat) (d a b : Fin 16)
  /-- Yartum ADDS in context c (Table 4-4). -/
  | adds (c : Nat) (d a b : Fin 16)
  /-- Yartum SUBS in context c (Table 4-4). -/
  | subs (c : Nat) (d a b : Fin 16)
  /-- Yartum ADDSU in context c (Table 4-4). -/
  | addsu (c : Nat) (d a b : Fin 16)
  /-- Yartum SUBSU in context c (Table 4-4). -/
  | subsu (c : Nat) (d a b : Fin 16)
  /-- Yartum NEG (Table 4-4). -/
  | neg (c : Nat) (d a : Fin 16)
  /-- Yartum CMP (Table 4-4). -/
  | cmp (c : Nat) (a b : Fin 16)
  /-- Yartum TST (Table 4-4). -/
  | tst (c : Nat) (a b : Fin 16)
  /-- Yartum ABS (Table 4-4). -/
  | absR (c : Nat) (d a : Fin 16)
  /-- Yartum CLZ (Table 4-4). -/
  | clz (c : Nat) (d a : Fin 16)
  /-- Yartum PADD.B (Table 4-5). -/
  | paddB (c : Nat) (d a b : Fin 16)
  /-- Yartum PSUB.B (Table 4-5). -/
  | psubB (c : Nat) (d a b : Fin 16)
  /-- Yartum PADDUS.B (Table 4-5). -/
  | paddusB (c : Nat) (d a b : Fin 16)
  /-- Yartum PSUBUS.B (Table 4-5). -/
  | psubusB (c : Nat) (d a b : Fin 16)
  /-- Yartum PADDS.B (Table 4-5). -/
  | paddsB (c : Nat) (d a b : Fin 16)
  /-- Yartum PSUBS.B (Table 4-5). -/
  | psubsB (c : Nat) (d a b : Fin 16)
  /-- Yartum PMAXU.B (Table 4-5). -/
  | pmaxuB (c : Nat) (d a b : Fin 16)
  /-- Yartum PMINU.B (Table 4-5). -/
  | pminuB (c : Nat) (d a b : Fin 16)
  /-- Yartum PAVGU.B (Table 4-5). -/
  | pavguB (c : Nat) (d a b : Fin 16)
  /-- Yartum PSAD.B (Table 4-5). -/
  | psadB (c : Nat) (d a b : Fin 16)
  /-- Yartum PCMPEQ.B (Table 4-5). -/
  | pcmpeqB (c : Nat) (d a b : Fin 16)
  /-- Yartum PCMPGTU.B (Table 4-5). -/
  | pcmpgtuB (c : Nat) (d a b : Fin 16)
  /-- Yartum PSHUF.B (Table 4-5). -/
  | pshufB (c : Nat) (d a b : Fin 16)
  /-- Yartum ADDI with imm16 (Table 4-6). -/
  | addi (c : Nat) (d a : Fin 16) (imm : Nat)
  /-- Yartum CMPI with imm16 (Table 4-6). -/
  | cmpi (c : Nat) (a : Fin 16) (imm : Nat)
  /-- Yartum ANDI with imm16 (Table 4-6). -/
  | andi (c : Nat) (d a : Fin 16) (imm : Nat)
  /-- Yartum ORI with imm16 (Table 4-6). -/
  | ori (c : Nat) (d a : Fin 16) (imm : Nat)
  /-- Yartum XORI with imm16 (Table 4-6). -/
  | xori (c : Nat) (d a : Fin 16) (imm : Nat)
  /-- Yartum SHLI with a 5-bit amount (Table 4-6). -/
  | shli (c : Nat) (d a : Fin 16) (amt : Nat)
  /-- Yartum SHRI with a 5-bit amount (Table 4-6). -/
  | shri (c : Nat) (d a : Fin 16) (amt : Nat)
  /-- Yartum SARI with a 5-bit amount (Table 4-6). -/
  | sari (c : Nat) (d a : Fin 16) (amt : Nat)
  /-- Yartum RORI with a 5-bit amount (Table 4-6). -/
  | rori (c : Nat) (d a : Fin 16) (amt : Nat)
  /-- Yartum MOVI with imm16 (Table 4-6). -/
  | movi (c : Nat) (d : Fin 16) (imm : Nat)
  /-- Yartum MOVHI with imm16 (Table 4-6). -/
  | movhi (c : Nat) (d : Fin 16) (imm : Nat)
  /-- Yartum MFS of TICKLO (Table 4-7). -/
  | mfsTicklo (c : Nat) (d : Fin 16)
  /-- Yartum MFS of TICKHI (Table 4-7). -/
  | mfsTickhi (c : Nat) (d : Fin 16)
  /-- Yartum MFS of PHASE (Table 4-7). -/
  | mfsPhase (c : Nat) (d : Fin 16)
  /-- Yartum MFS of CTX (Table 4-7). -/
  | mfsCtx (c : Nat) (d : Fin 16)
  /-- Yartum MFS of BUDGET (Table 4-7). -/
  | mfsBudget (c : Nat) (d : Fin 16)
  /-- Yartum MFS of LPAIR (Table 4-7). -/
  | mfsLpair (c : Nat) (d : Fin 16)
  /-- Yartum MFS of ACTS (Table 4-7). -/
  | mfsActs (c : Nat) (d : Fin 16)
  /-- Yartum B.cond with off22 (R119, Table 4-3). -/
  | bCond (c cond off : Nat)
  /-- Yartum BL with off26 (R119). -/
  | bl (c off : Nat)
  /-- Yartum BR (R120). -/
  | br (c : Nat) (a : Fin 16)
  /-- Yartum BLR (R120). -/
  | blr (c : Nat) (a : Fin 16)
  /-- Yartum CBZ with off21 (R119). -/
  | cbz (c : Nat) (a : Fin 16) (off : Nat)
  /-- Yartum CBNZ with off21 (R119). -/
  | cbnz (c : Nat) (a : Fin 16) (off : Nat)
  /-- Yartum LDL of width code w with off16 (Table 4-8). -/
  | ldl (c w : Nat) (t a : Fin 16) (off : Nat)
  /-- Yartum LDLX of width code w with off16 (Table 4-8). -/
  | ldlx (c w : Nat) (t a : Fin 16) (off : Nat)
  /-- Yartum STL of width code w with off16 (Table 4-8). -/
  | stl (c w : Nat) (t a : Fin 16) (off : Nat)
  /-- Yartum LDS of width code w with off16 (Table 4-8). -/
  | lds (c w : Nat) (t a : Fin 16) (off : Nat)
  /-- Yartum LDSX of width code w with off16 (Table 4-8). -/
  | ldsx (c w : Nat) (t a : Fin 16) (off : Nat)
  /-- Yartum STS of width code w with off16 (Table 4-8). -/
  | sts (c w : Nat) (t a : Fin 16) (off : Nat)
  /-- Yartum XADD (Table 4-9). -/
  | xadd (c : Nat) (d a b : Fin 16)
  /-- Yartum XCHG (Table 4-9). -/
  | xchg (c : Nat) (d a b : Fin 16)
  /-- Yartum CAS (Table 4-9). -/
  | cas (c : Nat) (d a b : Fin 16)
  /-- Yartum IOR with off16 (R128). -/
  | ior (c : Nat) (t a : Fin 16) (off : Nat)
  /-- Yartum IOW.AT with phase code ph and word offset woff (R129). -/
  | iowAt (c : Nat) (v a : Fin 16) (ph woff : Nat)
  /-- Yartum SIG (R80). -/
  | sig (c : Nat) (reg : Bool) (a : Fin 16) (flag : Nat)
  /-- Yartum WAIT (R132). -/
  | wait (c : Nat) (reg consume : Bool) (a : Fin 16) (flag : Nat)
  /-- Yartum WAITE with the timeout in register t (R134). -/
  | waite (c : Nat) (consume : Bool) (t : Fin 16) (flag : Nat)
  /-- Yartum WAITT with imm20 (R135). -/
  | waitt (c : Nat) (abs useReg : Bool) (a : Fin 16) (imm : Nat)
  /-- Yartum YIELD without the end option (R136). -/
  | yield (c : Nat)
  /-- Yartum YIELD with the end option (R96). -/
  | yieldEnd (c : Nat)
  /-- Yartum HALT (R96). -/
  | halt (c : Nat)
  /-- Yartum MSG with LEN (R138). -/
  | msg (c : Nat) (a b : Fin 16) (auth : Bool) (len : Nat)
  /-- Yartum DMAGO (R140). -/
  | dmago (c : Nat) (a b : Fin 16)
  /-- Yartum LAWSET with param and the 8-bit exponent (R141). -/
  | lawset (c : Nat) (v a : Fin 16) (param exp : Nat)
  /-- Yartum LAWGET (R142). -/
  | lawget (c : Nat) (d a : Fin 16) (param exp : Nat)
  /-- Yartum REC with LEN (R137). -/
  | recI (c : Nat) (a b : Fin 16) (len : Nat)
  /-- Context c meets the word w, which spells no instruction (R112). -/
  | illegal (c w : Nat)
  /-- The PCIe link goes down, or the function enters D3hot (R152). -/
  | linkDown (d3 : Bool)
  /-- PERST_N resets the endpoint (R597). -/
  | perst
  /-- A host read of n bytes at BAR4 offset o; bad when a DRAM burst fails (R151). -/
  | bar4Read (o n : Nat) (bad : Bool)
  /-- A write of FMT_W w _CTRL.OPEN (R155). -/
  | inboxOpen (w : Nat)
  /-- A write of FMT_W w _CTRL.CLOSE (R156). -/
  | inboxClose (w : Nat)
  /-- A host write of bytes to BAR2 offset a (R153). -/
  | inboxWrite (a : Nat) (data : List Nat)
  /-- Window w's envelope takes a handle (R157). -/
  | handleIssue (w : Nat)
  /-- Waiting blocks reserve granules (R160). -/
  | granuleReservation
  /-- A write of FMT_QUEUE with handle h (R170). -/
  | queue (h : Nat)
  /-- A write of FMT_PGSTART with handle h (R174). -/
  | pgstart (h : Nat)
  /-- The CANCEL commands waiting take effect at phase 0 (R176). -/
  | cancel
  /-- The ABANDON commands waiting take effect at phase 0 (R169). -/
  | abandon
  /-- A write of FMT_DONE_CTRL.POP (R177). -/
  | donePop
  /-- A write of FMT_GAPREQ.ACCEPT (R175). -/
  | gapAccept
  /-- FMT_GAPGRACE reaches 0 (R175). -/
  | gapGraceExpiry
  /-- A write of FMT_SPD k (R173). -/
  | spdWrite (k val : Nat)
  /-- Lane l ends its block with the error err of its own, 0 for none (R195). -/
  | blockDecodeComplete (l err : Nat)
  /-- Lane l goes on when a pigeonhole is free (R194). -/
  | decoderResume (l : Nat)
  /-- The spare lane takes the first re-decode (R197). -/
  | redecodeStart
  /-- The re-decode ends with the error err, 0 for none (R197). -/
  | redecodeComplete (err : Nat)
  /-- Lane l's state check fails (R200). -/
  | laneStateFault (l : Nat)
  /-- A line of samples, a line start or a line end on port p, virtual channel vc, data type dt, with its header (0 good, 1 corrected, 2 not correctable) and payload checks (R316, R317). -/
  | sensorLine (p vc dt hdr : Nat) (crc : Bool) (samples : List Nat)
  /-- A frame end on port p, virtual channel vc, with its header (R208, R316). -/
  | frameEnd (p vc hdr : Nat)
  /-- Encoder e has written its block to its ring; ok tells that the write was good (R204). -/
  | encoderBlockComplete (e : Nat) (ok : Bool)
  /-- Encoder e goes on when a descriptor is free (R205). -/
  | encoderOutputResume (e : Nat)
  /-- A write of CDC_E e _CTRL with EN 1 (R203). -/
  | encoderEnable (e : Nat)
  /-- A write of CDC_E e _CTRL with EN 0 (R203). -/
  | encoderDisable (e : Nat)
  /-- A write of CDC_E e _CTRL.FLUSH (R207). -/
  | flush (e : Nat)
  /-- A write of CDC_E e _CTRL.ABORT (R208). -/
  | encoderAbort (e : Nat)
  /-- A write of CDC_E e _RDPTR (R204). -/
  | rdptrWrite (e val : Nat)
  /-- A write of CDC_E e _CTRL.DPOP (R204). -/
  | dpop (e : Nat)
  /-- A beam-detect edge on BD_A of station i at time t, phi in 1/256 pixel, of a pulse of w; times in sixteenths of a tick-PLL cycle (R227, R273). -/
  | beamDetectEdge (i t phi w : Nat) (rising : Bool)
  /-- A write of BST_UPD.ARM (R232). -/
  | arm
  /-- A write of BST_S i _CFG (r 0), _LPC (1) or _START (2) (R235). -/
  | bstConfigWrite (i r val : Nat)
  /-- The beam-detect window of station i opens (R241). -/
  | beamDetectWindowOpen (i : Nat)
  /-- An APC slot of station i starts at time t and reads mon (R242). -/
  | apcSlot (i t mon : Nat)
  /-- A sub-slot of station i is refused by a duty ceiling (R255). -/
  | dutyCeiling (i : Nat)
  /-- A window sum of station i reaches its warning level (R258). -/
  | dutyWarning (i : Nat)
  /-- LSR_ILK opens (R263). -/
  | laserInterlockOpen
  /-- ESTOP_N goes low (R263, R353, R420). -/
  | estop
  /-- A write of EXP_ILK.REARM (R264). -/
  | rearm
  /-- A write of EXP_S i _CTRL.LDEN (R267). -/
  | ldenWrite (i v : Nat)
  /-- The 100 µs after LD_EN of station i rose are over (R266). -/
  | ldenSettleEnd (i : Nat)
  /-- A write of EXP_S i _PWR (R249). -/
  | pwrWrite (i v : Nat)
  /-- A write of EXP_S i _SPICMD.SENDTRIM (R250). -/
  | sendtrim (i : Nat)
  /-- A write of EXP_S i _SPICMD.RAW (R250). -/
  | raw (i : Nat)
  /-- The laser SPI frame of station i ends, with its MISO bits (R250, R251). -/
  | laserSpiFrameDone (i miso : Nat)
  /-- A TRACK window of station i closes without an edge (R276). -/
  | beamDetectMiss (i : Nat)
  /-- An edge on BD_B of station i at time t, of a pulse of w (R273, R278, R279). -/
  | beamDetectBEdge (i t w : Nat) (rising : Bool)
  /-- A write of SCN_S i _CFG.EN (R274). -/
  | scnEnable (i : Nat) (en : Bool)
  /-- A write of CLK_S i _PFREQ (R282). -/
  | pfreqWrite (i v : Nat)
  /-- A write of CLK_CTRL.SSC (R271). -/
  | sscWrite (v : Nat)
  /-- No CLK_REF edge for 200 ns (R298). -/
  | referenceLost
  /-- The reference has been absent for CLK_COAST.LIM ms (R300). -/
  | coastLimit
  /-- CLK_REF is back and every PLL has relocked (R301). -/
  | referenceRestored
  /-- The pixel PLL of station i loses lock (R297). -/
  | pixelPllUnlock (i : Nat)
  /-- A write of CAL_CTRL.RUN (R304). -/
  | calRun
  /-- The input of mark lane k's comparator reaches the 12-bit code v at time t (R309). -/
  | markEdge (k t v : Nat)
  /-- The last window of mark lane k has closed (R311). -/
  | markMeasureEnd (k : Nat)
  /-- The result of a run is written (R320). -/
  | calResult
  /-- A write of CAL_CTRL.APPLY (R321). -/
  | apply
  /-- A pending APPLY takes effect at the coming phase 0 (R321). -/
  | applyEffect
  /-- A write of CAL_CTRL.STORE (R322). -/
  | store
  /-- Both copies of a STORE are written, with the outcome of each verify (R322). -/
  | storeDone (okA okB : Bool)
  /-- A write of LPE_PCMD.WRITE (R344). -/
  | pcmdWrite
  /-- A write of LPE_PCMD.READ (R142). -/
  | pcmdRead
  /-- Two consecutive current samples of HV channel n, as 12-bit codes (R355). -/
  | hvTrip (n a b : Nat)
  /-- A write of HVS_C n _CTRL.TRIPCLR (R355). -/
  | hvTripclr (n : Nat)
  /-- A write of HVS_C n _CFG (R351). -/
  | hvCfgWrite (n v : Nat)
  /-- A write of FUS_T i _CTRL.CLR (R361). -/
  | fuserInputClr (i : Nat)
  /-- A write of FUS_Z z _CTRL.TRIPCLR (R364). -/
  | zoneTripclr (z : Nat)
  /-- The inputs of zone z have disagreed for 50 ticks (R363). -/
  | disagree (z : Nat)
  /-- A zero-cross closes a half-cycle with its rms in 0.1 V and length in µs (R373). -/
  | zeroCross (rms len : Nat)
  /-- No zero-cross has come in time; the rms over the preceding Tm in 0.1 V (R374). -/
  | missingZeroCross (rms : Nat)
  /-- The forward Guyline frame arrives good (R391). -/
  | guylineFrame
  /-- A second forward frame in a row is missing (R392). -/
  | guylineLoss
  /-- A second return frame in a row is missing (R394). -/
  | returnFrameLoss
  /-- A switching period of bridge k ends at IPK, the run-th in a row (R386). -/
  | bridgeCurrentLimit (k run : Nat)
  /-- A write of MNS_CTRL.INVFCLR (R386). -/
  | invfclr
  /-- A write of MNS_CTRL (R387). -/
  | invenWrite (v : Nat)
  /-- A write of the MNS configuration register at an offset of the block (R395). -/
  | mnsConfigWrite (off v : Nat)
  /-- L_VHV rises above 100 V (R396). -/
  | standbyConverterStart
  /-- L_VHV falls below 70 V (0); the load passes 700 mA (1), has done so for 20 ms (2), or no longer does (3) (R396). -/
  | standbyConverterStop (why : Nat)
  /-- 1 s after a stop in current limit (R396). -/
  | standbyConverterRetry
  /-- A write of FOC_C n _CTRL.START (R407). -/
  | focStart (n : Nat)
  /-- A write of FOC_C n _CTRL.STOP (R407). -/
  | focStop (n : Nat)
  /-- A write of FOC_C n _CTRL.FLTCLR (R407). -/
  | fltclr (n : Nat)
  /-- OBSERVE of channel n has timed two periods, with the back-EMF amplitude in mV and the speed in 1/16 rpm (R409). -/
  | observeEnd (n amp : Nat) (speed : Int)
  /-- BRAKE of channel n has lasted BRKTMO ms (R410). -/
  | brakeTimeout (n : Nat)
  /-- ALIGN of channel n ends, with the d and q inductances measured (R411). -/
  | alignEnd (n ld lq : Nat)
  /-- Sixteen latches of channel n meet the hand-over condition (R414). -/
  | hfiHandover (n : Nat)
  /-- Sixteen latches of channel n lie below the hysteresis speed (R415). -/
  | obsReturn (n : Nat)
  /-- A phase sample of FOC channel n, as a 12-bit code, or its driver's fault pin is low (R419). -/
  | motorTrip (n c : Nat) (driver : Bool)
  /-- A sample of the chopper's bus in 10 mV (R421). -/
  | brakeChopperGate (v : Nat)
  /-- Four consecutive samples of BRK_ISNS in 10 mA (R422). -/
  | chopperFault (isns : List Nat)
  /-- A write of FOC_BRKSTAT.CHFCLR (R422). -/
  | chfclr
  /-- Two consecutive samples of bus b in 10 mV (R424). -/
  | busOvervoltage (b v w : Nat)
  /-- A write of FOC_BRKSTAT.OVCLR (R424). -/
  | ovclr
  /-- The highest sample of bus b in 1 ms, in 10 mV (R425). -/
  | busUndervoltage (b v : Nat)
  /-- LIMMOD of channel n has been set in 64 ticks with the advance at its limit (R418). -/
  | vsat (n : Nat)
  /-- SPDIN p has had no edge for TMO ticks (R430). -/
  | spdinTimeout (p : Nat)
  /-- A write of TGT and of the MOVE command of axis n (R441). -/
  | axsMove (n : Nat) (tgt : Int)
  /-- A write of VTGT and of the VEL command of axis n (R443). -/
  | axsVel (n : Nat) (v : Int)
  /-- A write of the ABORT command of axis n (R457). -/
  | axsAbort (n : Nat)
  /-- A write of the QSTOP command of axis n (R457). -/
  | axsQstop (n : Nat)
  /-- A write of the HOME command of axis n (R452). -/
  | axsHome (n : Nat)
  /-- A write of TGT and of the SETPOS command of axis n (R438). -/
  | axsSetpos (n : Nat) (tgt : Int)
  /-- A write of the CLRFLT command of axis n (R438). -/
  | axsClrflt (n : Nat)
  /-- The plan of axis n ends at the coming phase 0 (R442). -/
  | moveCompletion (n : Nat)
  /-- A write of LIMLO (which 0) or LIMHI (1) of axis n (R447). -/
  | limitPairWrite (n which : Nat) (v : Int)
  /-- Switch k (0 low, 1 high, 2 home) of axis n is qualified (R450). -/
  | switchQualified (n k : Nat)
  /-- The home event of axis n has occurred (R453). -/
  | homeEvent (n : Nat)
  /-- The homing of axis n has lasted HTMO seconds (R455). -/
  | homingTimeout (n : Nat)
  /-- Axis n stalls (R456). -/
  | stall (n : Nat)
  /-- Pins A and B of encoder input e have had these levels for w units of 2.5 ns (R436). -/
  | encoderCount (e : Nat) (a b : Bool) (w : Nat)
  /-- An edge of pin Z of encoder input e (R436). -/
  | indexEdge (e : Nat) (rising : Bool)
  /-- A port's request on channel c (R469). -/
  | dramRequest (c port : Nat) (wr : Bool) (addr : Nat) (data : List Nat) (sub : Nat)
  /-- Channel c issues its next burst; errs are the ECC outcomes of the reads it takes (R473). -/
  | burstGrant (c sub : Nat) (errs : List Nat)
  /-- A read is answered (R479). -/
  | dramReadComplete (c : Nat)
  /-- A write is answered (R480). -/
  | dramWriteComplete (c : Nat)
  /-- The refresh of a rank is looked at, sub tick-PLL cycles after the last phase event (R476). -/
  | refresh (c rank sub : Nat)
  /-- A reading of MR4 of each rank of channel c (R477). -/
  | mr4Read (c : Nat) (rates : List Nat)
  /-- A WCK oscillator reading of channel c shows a drift (R467). -/
  | wckOscillatorRead (c : Nat) (drift : Int)
  /-- A write of DRC_C c _CTRL.RETRAIN (R468). -/
  | retrain (c : Nat)
  /-- Training of channel c ends: of each try, from RATE down, the narrowest eye of steps 2 to 5 in 1/64 UI and whether step 6 aligned the lanes; the devices' ranks and GiB per rank; the deskews and Vrefs found (R465, R466). -/
  | dramTraining (c : Nat) (tries : List TrainTry) (ranks dens : Nat) (bits bytes : List Nat)
  /-- The patrol scrubber reads a burst; errs are the ECC outcomes of the reads it takes (R481). -/
  | scrub (c : Nat) (errs : List Nat)
  /-- A write of DMA_C c _CTRL.GO (R490). -/
  | dmaGo (c : Nat)
  /-- A start of channel c falls due at phase 0 (R490). -/
  | dmaStart (c : Nat)
  /-- Channel c executes a MOVE (R494). -/
  | dmaMove (c : Nat)
  /-- Channel c executes a LOOP (R498). -/
  | dmaLoop (c : Nat)
  /-- Channel c executes a WAIT (R498). -/
  | dmaWait (c : Nat)
  /-- The condition of channel c's WAIT holds (R498). -/
  | dmaWaitEnd (c : Nat)
  /-- Channel c executes a SIGNAL (R498). -/
  | dmaSignal (c : Nat)
  /-- Channel c executes an END (R498). -/
  | dmaEnd (c : Nat)
  /-- A chunk read of channel c is answered, with its bytes when the source is host memory (R494, R501). -/
  | dmaChunkRead (c : Nat) (ok : Bool) (data : List Nat)
  /-- A chunk write of channel c is answered (R501). -/
  | dmaWriteResponse (c : Nat) (ok : Bool)
  /-- A write of DMA_C c _CTRL.ABORT (R505). -/
  | dmaAbort (c : Nat)
  /-- A write of DMA_C c _CFG with EN 0 (R486). -/
  | dmaDisable (c : Nat)
  /-- A write of DMA_C c _CFG with EN 1 (R486). -/
  | dmaEnable (c : Nat)
  /-- A write of DMA_C c _SLOTS (R487). -/
  | slotsWrite (c n : Nat)
  /-- Port p has received n consecutive valid IDLE sets, on an inverted pair or not (R509). -/
  | portTrained (p n : Nat) (inv : Bool)
  /-- Code violations of port p at these times, and the cycles without comma alignment and without characters (R509). -/
  | portDown (p : Nat) (viol : List Nat) (align chars : Nat)
  /-- The node unwraps at phase 15 (R512). -/
  | ringUnwrap
  /-- A LINK request leaves on port p at time t, in 1/16 tick-PLL cycle (R514). -/
  | linkRequest (p t : Nat)
  /-- A LINK set arrives at port p: REPLY, its time, the turnaround, and whether it is sound (R514). -/
  | linkFrame (p : Nat) (reply : Bool) (t turn : Nat) (ok : Bool)
  /-- At time t the LINK request on port p is without a reply (R514). -/
  | linkTimeout (p t : Nat)
  /-- A TICK set on port p: TICKNO, ACC, its arrival after the own start of that tick, the time until it is forwarded, and whether another root sent it (R516, R519). -/
  | tickSet (p tickno acc : Nat) (arr : Int) (dep : Nat) (other : Bool)
  /-- 64 ticks without a TICK set end (R521). -/
  | notick
  /-- A write of EUN_CTRL.ENUM (R517). -/
  | enumW
  /-- An ENUM frame on port p, good or not (R513, R518). -/
  | enumFrame (p : Nat) (f : RingFrame) (ok : Bool)
  /-- The ENUM sent is 1,000 ticks old (R518). -/
  | enumTimeout
  /-- A MSG frame on port p, good or not (R513, R523). -/
  | msgFrame (p : Nat) (f : RingFrame) (ok : Bool)
  /-- An RRD frame on port p (R530). -/
  | rrdFrame (p : Nat) (f : RingFrame) (ok : Bool)
  /-- An RWR frame on port p (R530). -/
  | rwrFrame (p : Nat) (f : RingFrame) (ok : Bool)
  /-- An RSP frame on port p (R530). -/
  | rspFrame (p : Nat) (f : RingFrame) (ok : Bool)
  /-- An ACK frame on port p (R527). -/
  | ackFrame (p : Nat) (f : RingFrame) (ok : Bool)
  /-- A SHEET frame on port p (R532). -/
  | sheetFrame (p : Nat) (f : RingFrame) (ok : Bool)
  /-- Unicast frames without an answer in ACKTMO ticks (R524). -/
  | ackTimeout
  /-- A write of EUN_RXPOP (R526). -/
  | rxpop
  /-- A write of EUN_ACKPOP (R527). -/
  | ackpop
  /-- A write of EUN_RA_CMD with GO 1, WR 0 (R530). -/
  | remoteRead (dst : Nat)
  /-- A write of EUN_RA_CMD with GO 1, WR 1 (R530). -/
  | remoteWrite (dst : Nat) (auth : Bool)
  /-- An edge on the GPIO of hand-over channel k at cycle sub of the phase (R531). -/
  | sheetEdge (k sub : Nat) (fall : Bool)
  /-- The choice of a power state, once per millisecond in READY (R542). -/
  | stateChoice
  /-- A write of PWR_ACK (R535). -/
  | pwrAck (code : Nat)
  /-- A wake condition of Table 19-2 arises, PWR_WAKE_N having been low for that many ticks (R543). -/
  | wake (c low : Nat)
  /-- After training on an exit from SLEEP, the resume image's CRC matches or not (R545). -/
  | sleepResume (ok : Bool)
  /-- The heartbeat tick of STANDBY (R537). -/
  | heartbeatTick
  /-- A write of PWR_NEXTEVT_LO and then _HI (R541). -/
  | nextevtWrite (t : Nat)
  /-- Housekeeping channel i reads v, and its self-check holds or not (R546). -/
  | housekeepingSample (i : Nat) (v : Int) (ok : Bool)
  /-- A rail has been dev per mille off nominal for ns nanoseconds (R548, R549). -/
  | supplyWarning (rail : Nat) (dev : Int) (ns : Nat)
  /-- Every rail has been above dev per mille off nominal for us microseconds (R549). -/
  | supplyRecovery (dev : Int) (us : Nat)
  /-- A rail has been dev per mille off nominal for ns nanoseconds (R548, R550). -/
  | supplyReset (rail : Nat) (dev : Int) (ns : Nat)
  /-- A write of PWR_CTRL.THRCLR (R553). -/
  | thrclr
  /-- The 100,000th low sample of PRES_BTN_N in a row (R558). -/
  | presenceButton
  /-- BTN or RING reaches its end (R558). -/
  | presenceExpiry
  /-- A write of SEC_CTRL.PRESFWD (R560). -/
  | presfwd
  /-- A write of SEC_CTRL.PRESCLR (R562). -/
  | presclr
  /-- A pulse of the seal loop comes back or not (R563). -/
  | sealPulse (good : Bool)
  /-- A write of SEC_MINVER (R565). -/
  | minverWrite (v : Nat)
  /-- A write of SEC_KEYCMD.SET (R567, R569). -/
  | keySet
  /-- A write of SEC_KEYCMD.REVOKE (R568, R569). -/
  | keyRevoke
  /-- A write of SEC_FRK k _ADD (R571). -/
  | frankingAdd (k v : Nat)
  /-- The franking batch in progress completes (R572). -/
  | frankingBatch
  /-- A write of SEC_FRKINIT with GO and CTR (R574). -/
  | frkinit (ctr : Nat)
  /-- A write of SEC_DBG.CHAL (R577). -/
  | chal
  /-- A write of SEC_DBG with UNLOCK and LEVEL (R577). -/
  | unlock (level : Nat)
  /-- The head record is written; step 0 for a good write, else the comparison (2 or 4) that fails (R583). -/
  | recordWrite (step : Nat)
  /-- The window of the rule state of a key ends (R586): 0 to 15 a rule, 16 + range the default rule, 0x10000 + code. -/
  | rateWindowEnd (key : Nat)
  /-- A write of REC_CTRL.CLEAR, with CLRSEC or without (R594). -/
  | clear (sec : Bool)
  /-- A write of REC_C u _CMD.NEXT (R593). -/
  | recNext (u : Nat)
  /-- The supplies have been in range for 2 ms; strap is the level of SVC_STRAP at the release (R596, R621, R629). -/
  | powerRelease (strap : Bool)
  /-- RESET_N is released after ns nanoseconds low, with the level of SVC_STRAP (R596). -/
  | resetPin (strap : Bool) (ns : Nat)
  /-- A write of SYS_CTRL.SWRST (R596). -/
  | swrst
  /-- The watchdog reaches 0 (R603). -/
  | watchdogExpiry
  /-- The restart after a failed start, us microseconds in reset (R605). -/
  | startRetry (us : Nat)
  /-- A start step overruns its latest time: the cause bit of Table 22-3 (R600). -/
  | startStepOverrun (cause : Nat)
  /-- The PLLs lock, us microseconds after the release (R600). -/
  | pllLock (us : Nat)
  /-- The active image has been copied and checked (R103). -/
  | imageVerified
  /-- The start budget expires (R602). -/
  | startBudgetExpiry
  /-- An IOW.AT of SYS_START.READY (R601). -/
  | ready
  /-- A write of SYS_WDKICK.KICK (R603). -/
  | kick
  /-- A write of SYS_CTRL.BIVTRY (R608). -/
  | bivtry
  /-- An uncorrectable SRAM error: region and word of R609, and what it hits: station and line of the band store; codec lane; DMA channel; 0 a ring frame on port item, 1 Inbox data of window item, 2 outbound data. -/
  | sramUncorrectable (region word unit item : Nat)
  /-- A single-bit SRAM error, corrected (R13). -/
  | sramSingleBit
  /-- A write of SYS_RTC or of SYS_RTCALM (R599). -/
  | rtcWrite (alarm : Bool) (val : Nat)
  /-- An edge on the pin of capture channel k at cycle sub of the phase begins a pulse of ns nanoseconds (R637). -/
  | eventCapture (k sub : Nat) (fall : Bool) (ns : Nat)
  /-- A write of IOX_SPI k _TX (R638). -/
  | spiTx (k frame : Nat)
  /-- The running frame of SPI controller k ends with its MISO bits (R638). -/
  | spiFrameDone (k miso : Nat)
  /-- A write of IOX_I2C k _CMD with GO, NW, NR and ADDR (R639). -/
  | i2cGo (k nw nr addr : Nat)
  /-- The transfer of I2C controller k ends with the bytes read, a NACK or lost arbitration (R639). -/
  | i2cTransferEnd (k : Nat) (data : List Nat) (nack arb : Bool)
  /-- A write of IOX_U k _TX (R640). -/
  | uartTx (k b : Nat)
  /-- UART k has received a byte (R640). -/
  | uartReceive (k b : Nat)
  /-- A write of IOX_U k _STAT.POP (R640). -/
  | uartPop (k : Nat)
  /-- The PCIe link comes up, or the function returns to D0 (R152). -/
  | pcieLinkUp (speed width : Nat) (msix : Bool)
  /-- LSR_ILK closes (R264). -/
  | laserInterlockClose
  /-- ESTOP_N goes high (R353). -/
  | estopNRise
  /-- A sample of bus b in 10 mV (R425). -/
  | busUndervoltageClear (b v : Nat)
  /-- GPIO k changes to a level (R450). -/
  | switchEdge (k : Nat) (level : Bool)
  /-- A frame start on port p, virtual channel vc, with its header (R202, R316). -/
  | frameStart (p vc hdr : Nat)
  /-- VSTBY and the logic supplies are lost, with VBAT present or not (R534, R631). -/
  | vstbyLoss (vbat : Bool)
  /-- The mains section powers up (R376). -/
  | mainsSectionPowerUp
  /-- A second of the Basecamp clock passes (R598). -/
  | rtcSecond
  /-- The zeroing of the log areas has ended (R594). -/
  | clearDone
  /-- UART k has sent a byte (R640). -/
  | uartByteSent (k : Nat)
  deriving DecidableEq, Repr

end Sys2Proof
end

