-- ==== Sys2Proof/Decode.lean ====
section
/-! DEFINITION. The encoding of the commands. The table of operations and events gives its rows no bits, so no word
spells a command there (decodeTableWord). The Yartum instructions have their own 32-bit encoding (Tables 4-1 and 4-2),
decoded and encoded here. -/

namespace Sys2Proof

open Sys2Proof.Machine

/-- The command a word spells by the table's bits: the table gives no row any bits, so none. -/
def decodeTableWord (_nbits _w : Nat) : Option Instr := none

/-- A four-bit register field whose lowest bit is lo. -/
def regField (w lo : Nat) : Fin 16 := Fin.ofNat 16 (bits w (lo + 3) lo)

/-- Format R: function code, destination and sources (Table 4-1); bits [7:0] are 0. -/
def encR (op fn : Nat) (d a b : Fin 16) : Nat := op * 2 ^ 26 + d.val * 2 ^ 22 + a.val * 2 ^ 18 + b.val * 2 ^ 14 + fn * 2 ^ 8

/-- Format I: selector and imm16. -/
def encI (op sel : Nat) (d a : Fin 16) (imm : Nat) : Nat :=
  op * 2 ^ 26 + d.val * 2 ^ 22 + a.val * 2 ^ 18 + sel * 2 ^ 16 + imm

/-- Opcode 0x01: register arithmetic and logic (Table 4-4). -/
def decodeArith (c w : Nat) : Option Instr :=
  let d := regField w 22
  let a := regField w 18
  let b := regField w 14
  match bits w 13 8 with
  | 0x00 => some (.add c d a b)
  | 0x01 => some (.adc c d a b)
  | 0x02 => some (.sub c d a b)
  | 0x03 => some (.sbc c d a b)
  | 0x04 => some (.andR c d a b)
  | 0x05 => some (.orR c d a b)
  | 0x06 => some (.xorR c d a b)
  | 0x07 => some (.bic c d a b)
  | 0x08 => some (.shl c d a b)
  | 0x09 => some (.shr c d a b)
  | 0x0A => some (.sar c d a b)
  | 0x0B => some (.ror c d a b)
  | 0x0C => some (.mul c d a b)
  | 0x0D => some (.mulh c d a b)
  | 0x0E => some (.mulhu c d a b)
  | 0x0F => some (.divu c d a b)
  | 0x10 => some (.divs c d a b)
  | 0x11 => some (.minS c d a b)
  | 0x12 => some (.maxS c d a b)
  | 0x13 => some (.minu c d a b)
  | 0x14 => some (.maxu c d a b)
  | 0x15 => some (.adds c d a b)
  | 0x16 => some (.subs c d a b)
  | 0x17 => some (.addsu c d a b)
  | 0x18 => some (.subsu c d a b)
  | 0x19 => if b = 0 then some (.neg c d a) else none
  | 0x1A => if d = 0 then some (.cmp c a b) else none
  | 0x1B => if d = 0 then some (.tst c a b) else none
  | 0x1C => if b = 0 then some (.absR c d a) else none
  | 0x1D => if b = 0 then some (.clz c d a) else none
  | _ => none

/-- Opcode 0x02: packed bytes (Table 4-5). -/
def decodePacked (c w : Nat) : Option Instr :=
  let d := regField w 22
  let a := regField w 18
  let b := regField w 14
  match bits w 13 8 with
  | 0x00 => some (.paddB c d a b)
  | 0x01 => some (.psubB c d a b)
  | 0x02 => some (.paddusB c d a b)
  | 0x03 => some (.psubusB c d a b)
  | 0x04 => some (.paddsB c d a b)
  | 0x05 => some (.psubsB c d a b)
  | 0x06 => some (.pmaxuB c d a b)
  | 0x07 => some (.pminuB c d a b)
  | 0x08 => some (.pavguB c d a b)
  | 0x09 => some (.psadB c d a b)
  | 0x0A => some (.pcmpeqB c d a b)
  | 0x0B => some (.pcmpgtuB c d a b)
  | 0x0C => some (.pshufB c d a b)
  | _ => none

/-- Opcodes 0x04 to 0x0B and 0x0D: immediates and MFS (Tables 4-6 and 4-7). -/
def decodeImm (c w op : Nat) : Option Instr :=
  let d := regField w 22
  let a := regField w 18
  let sel := bits w 17 16
  let imm := bits w 15 0
  if op = 0x09 then
    if imm < 32 then
      match sel with
      | 0 => some (.shli c d a imm)
      | 1 => some (.shri c d a imm)
      | 2 => some (.sari c d a imm)
      | _ => some (.rori c d a imm)
    else none
  else if sel ≠ 0 then none
  else
    match op with
    | 0x04 => some (.addi c d a imm)
    | 0x05 => if d = 0 then some (.cmpi c a imm) else none
    | 0x06 => some (.andi c d a imm)
    | 0x07 => some (.ori c d a imm)
    | 0x08 => some (.xori c d a imm)
    | 0x0A => if a = 0 then some (.movi c d imm) else none
    | 0x0B => if a = 0 then some (.movhi c d imm) else none
    | 0x0D =>
      if a ≠ 0 then none
      else
        match imm with
        | 0 => some (.mfsTicklo c d)
        | 1 => some (.mfsTickhi c d)
        | 2 => some (.mfsPhase c d)
        | 3 => some (.mfsCtx c d)
        | 4 => some (.mfsBudget c d)
        | 5 => some (.mfsLpair c d)
        | 6 => some (.mfsActs c d)
        | _ => none
    | _ => none

/-- Opcodes 0x10 to 0x13: branches and calls (R119, R120). -/
def decodeBranch (c w op : Nat) : Option Instr :=
  match op with
  | 0x10 => if bits w 25 22 = 8 then none else some (.bCond c (bits w 25 22) (bits w 21 0))
  | 0x11 => some (.bl c (bits w 25 0))
  | 0x12 =>
    if bits w 25 22 = 0 ∧ bits w 17 14 = 0 ∧ bits w 7 0 = 0 then
      match bits w 13 8 with
      | 0 => some (.br c (regField w 18))
      | 1 => some (.blr c (regField w 18))
      | _ => none
    else none
  | 0x13 => if bits w 21 21 = 0 then some (.cbz c (regField w 22) (bits w 20 0)) else some (.cbnz c (regField w 22) (bits w 20 0))
  | _ => none

/-- Opcodes 0x18 to 0x20: loads, stores, atomics and IOR (Tables 4-8 and 4-9). -/
def decodeMem (c w op : Nat) : Option Instr :=
  let t := regField w 22
  let a := regField w 18
  let wd := bits w 17 16
  let off := bits w 15 0
  if op = 0x1F then
    if bits w 7 0 ≠ 0 then none
    else
      match bits w 13 8 with
      | 0 => some (.xadd c t a (regField w 14))
      | 1 => some (.xchg c t a (regField w 14))
      | 2 => some (.cas c t a (regField w 14))
      | _ => none
  else if op = 0x20 then (if wd = 2 then some (.ior c t a off) else none)
  else if wd = 3 then none
  else
    match op with
    | 0x18 => some (.ldl c wd t a off)
    | 0x19 => some (.ldlx c wd t a off)
    | 0x1A => some (.stl c wd t a off)
    | 0x1C => some (.lds c wd t a off)
    | 0x1D => some (.ldsx c wd t a off)
    | 0x1E => some (.sts c wd t a off)
    | _ => none

/-- Opcodes 0x21 to 0x29: IOW.AT, events, waiting and yielding. -/
def decodeEvent (c w op : Nat) : Option Instr :=
  let a := regField w 22
  let reg := bits w 21 21 = 1
  let con := bits w 20 20 = 1
  let flag := bits w 9 0
  match op with
  | 0x21 => if bits w 17 15 ≤ 4 then some (.iowAt c a (regField w 18) (bits w 17 15) (bits w 14 0)) else none
  | 0x24 =>
    if bits w 20 10 ≠ 0 then none
    else if reg then (if flag = 0 then some (.sig c true a 0) else none)
    else if a = 0 then some (.sig c false 0 flag) else none
  | 0x25 =>
    if bits w 19 10 ≠ 0 then none
    else if reg then (if flag = 0 then some (.wait c true con a 0) else none)
    else if a = 0 then some (.wait c false con 0 flag) else none
  | 0x26 => if bits w 21 21 = 0 ∧ bits w 19 10 = 0 then some (.waite c con a flag) else none
  | 0x27 => if con ∨ a = 0 then some (.waitt c reg con a (bits w 19 0)) else none
  | 0x28 => if bits w 25 1 = 0 then (if bits w 0 0 = 1 then some (.yieldEnd c) else some (.yield c)) else none
  | 0x29 => if bits w 25 0 = 0 then some (.halt c) else none
  | _ => none

/-- Opcodes 0x2C to 0x30: deferred actions and law access. [DESIGN CHOICE, log entry 138] -/
def decodeDefer (c w op : Nat) : Option Instr :=
  let d := regField w 22
  let a := regField w 18
  match op with
  | 0x2C => if bits w 16 12 = 0 ∧ bits w 7 0 = 0 then some (.msg c d a (bits w 17 17 = 1) (bits w 11 8)) else none
  | 0x2D => if d = 0 ∧ bits w 13 8 = 0 ∧ bits w 7 0 = 0 then some (.dmago c a (regField w 14)) else none
  | 0x2E => if bits w 11 8 = 0 then some (.lawset c d a (bits w 17 12) (bits w 7 0)) else none
  | 0x2F => if bits w 11 8 = 0 then some (.lawget c d a (bits w 17 12) (bits w 7 0)) else none
  | 0x30 => if bits w 17 12 = 0 ∧ bits w 7 0 = 0 ∧ bits w 11 8 ≤ 4 then some (.recI c d a (bits w 11 8)) else none
  | _ => none

/-- The Yartum instruction that a 32-bit word spells in context c, or none where the word faults ILLEGAL (R110 to R112,
Tables 4-1 to 4-9). -/
def decodeInsn (c w : Nat) : Option Instr :=
  let op := bits w 31 26
  if op = 0x01 then (if bits w 7 0 = 0 then decodeArith c w else none)
  else if op = 0x02 then (if bits w 7 0 = 0 then decodePacked c w else none)
  else if op < 0x10 then decodeImm c w op
  else if op < 0x18 then decodeBranch c w op
  else if op < 0x21 then decodeMem c w op
  else if op < 0x2C then decodeEvent c w op
  else decodeDefer c w op

/-- The word of a Yartum instruction (Tables 4-1 to 4-9); no other command has one. -/
def encodeInsn : Instr → Option Nat
  | .add _ d a b => some (encR 0x01 0x00 d a b)
  | .adc _ d a b => some (encR 0x01 0x01 d a b)
  | .sub _ d a b => some (encR 0x01 0x02 d a b)
  | .sbc _ d a b => some (encR 0x01 0x03 d a b)
  | .andR _ d a b => some (encR 0x01 0x04 d a b)
  | .orR _ d a b => some (encR 0x01 0x05 d a b)
  | .xorR _ d a b => some (encR 0x01 0x06 d a b)
  | .bic _ d a b => some (encR 0x01 0x07 d a b)
  | .shl _ d a b => some (encR 0x01 0x08 d a b)
  | .shr _ d a b => some (encR 0x01 0x09 d a b)
  | .sar _ d a b => some (encR 0x01 0x0A d a b)
  | .ror _ d a b => some (encR 0x01 0x0B d a b)
  | .mul _ d a b => some (encR 0x01 0x0C d a b)
  | .mulh _ d a b => some (encR 0x01 0x0D d a b)
  | .mulhu _ d a b => some (encR 0x01 0x0E d a b)
  | .divu _ d a b => some (encR 0x01 0x0F d a b)
  | .divs _ d a b => some (encR 0x01 0x10 d a b)
  | .minS _ d a b => some (encR 0x01 0x11 d a b)
  | .maxS _ d a b => some (encR 0x01 0x12 d a b)
  | .minu _ d a b => some (encR 0x01 0x13 d a b)
  | .maxu _ d a b => some (encR 0x01 0x14 d a b)
  | .adds _ d a b => some (encR 0x01 0x15 d a b)
  | .subs _ d a b => some (encR 0x01 0x16 d a b)
  | .addsu _ d a b => some (encR 0x01 0x17 d a b)
  | .subsu _ d a b => some (encR 0x01 0x18 d a b)
  | .neg _ d a => some (encR 0x01 0x19 d a 0)
  | .cmp _ a b => some (encR 0x01 0x1A 0 a b)
  | .tst _ a b => some (encR 0x01 0x1B 0 a b)
  | .absR _ d a => some (encR 0x01 0x1C d a 0)
  | .clz _ d a => some (encR 0x01 0x1D d a 0)
  | .paddB _ d a b => some (encR 0x02 0x00 d a b)
  | .psubB _ d a b => some (encR 0x02 0x01 d a b)
  | .paddusB _ d a b => some (encR 0x02 0x02 d a b)
  | .psubusB _ d a b => some (encR 0x02 0x03 d a b)
  | .paddsB _ d a b => some (encR 0x02 0x04 d a b)
  | .psubsB _ d a b => some (encR 0x02 0x05 d a b)
  | .pmaxuB _ d a b => some (encR 0x02 0x06 d a b)
  | .pminuB _ d a b => some (encR 0x02 0x07 d a b)
  | .pavguB _ d a b => some (encR 0x02 0x08 d a b)
  | .psadB _ d a b => some (encR 0x02 0x09 d a b)
  | .pcmpeqB _ d a b => some (encR 0x02 0x0A d a b)
  | .pcmpgtuB _ d a b => some (encR 0x02 0x0B d a b)
  | .pshufB _ d a b => some (encR 0x02 0x0C d a b)
  | .addi _ d a imm => some (encI 0x04 0 d a imm)
  | .cmpi _ a imm => some (encI 0x05 0 0 a imm)
  | .andi _ d a imm => some (encI 0x06 0 d a imm)
  | .ori _ d a imm => some (encI 0x07 0 d a imm)
  | .xori _ d a imm => some (encI 0x08 0 d a imm)
  | .shli _ d a amt => some (encI 0x09 0 d a amt)
  | .shri _ d a amt => some (encI 0x09 1 d a amt)
  | .sari _ d a amt => some (encI 0x09 2 d a amt)
  | .rori _ d a amt => some (encI 0x09 3 d a amt)
  | .movi _ d imm => some (encI 0x0A 0 d 0 imm)
  | .movhi _ d imm => some (encI 0x0B 0 d 0 imm)
  | .mfsTicklo _ d => some (encI 0x0D 0 d 0 0)
  | .mfsTickhi _ d => some (encI 0x0D 0 d 0 1)
  | .mfsPhase _ d => some (encI 0x0D 0 d 0 2)
  | .mfsCtx _ d => some (encI 0x0D 0 d 0 3)
  | .mfsBudget _ d => some (encI 0x0D 0 d 0 4)
  | .mfsLpair _ d => some (encI 0x0D 0 d 0 5)
  | .mfsActs _ d => some (encI 0x0D 0 d 0 6)
  | .bCond _ cond off => some (0x10 * 2 ^ 26 + cond * 2 ^ 22 + off)
  | .bl _ off => some (0x11 * 2 ^ 26 + off)
  | .br _ a => some (encR 0x12 0 0 a 0)
  | .blr _ a => some (encR 0x12 1 0 a 0)
  | .cbz _ a off => some (0x13 * 2 ^ 26 + a.val * 2 ^ 22 + off)
  | .cbnz _ a off => some (0x13 * 2 ^ 26 + a.val * 2 ^ 22 + 2 ^ 21 + off)
  | .ldl _ w t a off => some (encI 0x18 w t a off)
  | .ldlx _ w t a off => some (encI 0x19 w t a off)
  | .stl _ w t a off => some (encI 0x1A w t a off)
  | .lds _ w t a off => some (encI 0x1C w t a off)
  | .ldsx _ w t a off => some (encI 0x1D w t a off)
  | .sts _ w t a off => some (encI 0x1E w t a off)
  | .xadd _ d a b => some (encR 0x1F 0 d a b)
  | .xchg _ d a b => some (encR 0x1F 1 d a b)
  | .cas _ d a b => some (encR 0x1F 2 d a b)
  | .ior _ t a off => some (encI 0x20 2 t a off)
  | .iowAt _ v a ph woff => some (0x21 * 2 ^ 26 + v.val * 2 ^ 22 + a.val * 2 ^ 18 + ph * 2 ^ 15 + woff)
  | .sig _ reg a flag => some (0x24 * 2 ^ 26 + a.val * 2 ^ 22 + bit reg * 2 ^ 21 + flag)
  | .wait _ reg con a flag => some (0x25 * 2 ^ 26 + a.val * 2 ^ 22 + bit reg * 2 ^ 21 + bit con * 2 ^ 20 + flag)
  | .waite _ con t flag => some (0x26 * 2 ^ 26 + t.val * 2 ^ 22 + bit con * 2 ^ 20 + flag)
  | .waitt _ ab use a imm => some (0x27 * 2 ^ 26 + a.val * 2 ^ 22 + bit ab * 2 ^ 21 + bit use * 2 ^ 20 + imm)
  | .yield _ => some (0x28 * 2 ^ 26)
  | .yieldEnd _ => some (0x28 * 2 ^ 26 + 1)
  | .halt _ => some (0x29 * 2 ^ 26)
  | .msg _ a b auth len => some (0x2C * 2 ^ 26 + a.val * 2 ^ 22 + b.val * 2 ^ 18 + bit auth * 2 ^ 17 + len * 2 ^ 8)
  | .dmago _ a b => some (encR 0x2D 0 0 a b)
  | .lawset _ v a p e => some (0x2E * 2 ^ 26 + v.val * 2 ^ 22 + a.val * 2 ^ 18 + p * 2 ^ 12 + e)
  | .lawget _ d a p e => some (0x2F * 2 ^ 26 + d.val * 2 ^ 22 + a.val * 2 ^ 18 + p * 2 ^ 12 + e)
  | .recI _ a b len => some (0x30 * 2 ^ 26 + a.val * 2 ^ 22 + b.val * 2 ^ 18 + len * 2 ^ 8)
  | _ => none

/-- Cycles charged for a word that faults ILLEGAL: the full count of the instruction its opcode and function code
list, the larger where there are two, and 1 where they are not listed (R117). -/
def illegalCycles (w : Nat) : Nat :=
  let fn := bits w 13 8
  match bits w 31 26 with
  | 0x01 => if fn = 0x0C ∨ fn = 0x0D ∨ fn = 0x0E then 2 else if fn = 0x0F ∨ fn = 0x10 then 12 else 1
  | 0x02 => if fn = 0x09 then 2 else 1
  | 0x10 => 2
  | 0x11 => 2
  | 0x12 => if fn ≤ 1 then 3 else 1
  | 0x13 => 2
  | 0x18 => 2
  | 0x19 => 2
  | 0x1A => 2
  | 0x1C => 8
  | 0x1D => 8
  | 0x1E => 2
  | 0x1F => if fn ≤ 2 then 6 else 1
  | 0x20 => 6
  | 0x21 => 2
  | 0x24 => 2
  | 0x25 => 2
  | 0x26 => 2
  | 0x27 => 2
  | 0x2C => 5 + bits w 11 8
  | 0x2D => if fn = 0 then 2 else 1
  | 0x2E => 2
  | 0x2F => 4
  | 0x30 => 4 + bits w 11 8
  | _ => 1

end Sys2Proof
end

