-- ==== Sys2Proof/Machine/PartsSeq.lean ====
section
/-! DEFINITION. The data of the sequencer, the recorder and the outputs: contexts, deferred actions, journals, records
and the log of what leaves the module (R70, R85, R88, R578). -/

namespace Sys2Proof.Machine

/-- Context status (Table 3-1). -/
inductive Status where
  | unused | ready | running | waiting | sleeping | yielded | preempted | done | halted | aborted | faulted
  deriving DecidableEq, Repr

/-- SEQ_CTXSTAT.STATE code of a status (Table 3-1). -/
def Status.code : Status → Nat
  | .unused => 0 | .ready => 1 | .running => 2 | .waiting => 3 | .sleeping => 4 | .yielded => 5
  | .preempted => 6 | .done => 7 | .halted => 8 | .aborted => 9 | .faulted => 10

/-- A timed-write reservation (Table 3-9). -/
structure TwRes where
  phase  : Nat
  count  : Nat
  target : Nat
  deriving DecidableEq, Repr

/-- What the image declares of a context (Table 3-8), with the logical pair placement gave it and its reservations. -/
structure CtxDecl where
  crit      : Bool
  pin       : Option Nat
  prio      : Nat
  maxActs   : Nat
  startWait : Bool
  wci       : Nat
  wcc       : Nat
  entry     : Nat
  startEv   : Nat
  pair      : Nat
  tw        : List TwRes
  deriving DecidableEq, Repr

/-- One context (R70): its registers, flags, PC, local store, budget and activation counters, wake tick, tick-high
shadow and status, with what it waits on, whether its timeout has been reached for the coming phase 0 (R134), what it has issued
in the tick (R144), and the cycles of the instructions it has executed in the tick. -/
structure Ctx where
  x           : Vector Word 16
  n           : Bool
  z           : Bool
  cy          : Bool
  v           : Bool
  pc          : Nat
  loc         : List Host.Cell
  budget      : Nat
  acts        : Nat
  wake        : Nat
  tickHi      : Nat
  st          : Status
  waitFlag    : Nat
  waitConsume : Bool
  waitTimed   : Bool
  expired     : Bool
  fcode       : Nat
  nMsg        : Nat
  nDma        : Nat
  nLaw        : Nat
  nRec        : Nat
  twUsed      : List Nat
  overran     : Bool
  ovrRun      : Nat
  spent       : Nat
  decl        : Option CtxDecl
  deriving DecidableEq, Repr

/-- A context that no image has declared: every register, flag and byte 0 (R103), status UNUSED. -/
def Ctx.blank : Ctx :=
  { x := Vector.replicate 16 0, n := false, z := false, cy := false, v := false, pc := 0, loc := [], budget := 0,
    acts := 0, wake := 0, tickHi := 0, st := .unused, waitFlag := 0, waitConsume := false, waitTimed := false, expired := false,
    fcode := 0, nMsg := 0, nDma := 0, nLaw := 0, nRec := 0, twUsed := [], overran := false, ovrRun := 0, spent := 0, decl := none }

/-- A deferred action in a pair's output queue (R85). -/
inductive Deferred where
  | iowAt  (ctx addr val phase : Nat)
  | msg    (ctx node : Nat) (bcast : Bool) (type : Nat) (auth : Bool) (body : List Nat)
  | dmago  (ctx ch pc : Nat)
  | lawset (ctx law param : Nat) (val exp : Int)
  | rcd    (ctx code : Nat) (payload : List Nat) (tick : Nat)
  deriving DecidableEq, Repr

/-- The context that issued a deferred action. -/
def Deferred.ctx : Deferred → Nat
  | .iowAt c _ _ _ => c | .msg c _ _ _ _ _ => c | .dmago c _ _ => c | .lawset c _ _ _ _ => c | .rcd c _ _ _ => c

/-- A journal entry: the before-image of one word of a context's local store (`loc = some c`) or of shared or bulk
data (R88), with the logical pair and the cycle of its tick that wrote it (R124). -/
structure JEntry where
  loc  : Option Nat
  addr : Nat
  old  : Nat
  pair : Nat
  cyc  : Nat
  deriving DecidableEq, Repr

/-- A change to an event flag that arrived from hardware, the ring or the host since the last checkpoint (R91). -/
inductive Arrival where
  | set   (f : Nat)
  | clear (f : Nat)
  deriving DecidableEq, Repr

/-- A SIG of this tick: its flag, its cycle, and what a WAIT of the same cycle samples of the flag (R132, R133). -/
structure SigRec where
  flag : Nat
  cyc  : Nat
  old  : Bool
  deriving DecidableEq, Repr

/-- The sequencer: its contexts and the checkpoint of contexts and event flags; the deferred actions queued and released, the
journals and the arrivals to reapply; the faults and records of this tick and the aborts and restarts that wait for the commit;
the contexts with ABORT_LATE and those whose first overrun is recorded; the cycles charged to each pair for dispatch; the SIGs of
the latest cycle that had one; the timers that have expired for the coming phase 0; the physical pair in self-test with the ticks left of it, the pair that is
substituting, whether this tick's collision is recorded, and whether a RETRY is allowed (R57 to R99). -/
structure Seq where
  ctx         : List Ctx
  ckpt        : List Ctx
  flagCkpt    : List Word
  outq        : List Deferred
  rel         : List Deferred
  journal     : List JEntry
  arrivals    : List Arrival
  faults      : List (Nat × Nat)
  commitRecs  : List (Nat × List Nat)
  abortPend   : List Nat
  restartPend : List Nat
  abortLate   : List Nat
  ovrSeen     : List Nat
  pairCyc     : List Nat
  sigs        : List SigRec
  timersDone  : List Nat
  selfTest    : Option (Nat × Nat)
  subst       : Option Nat
  collTold    : Bool
  retryArmed  : Bool
  deriving DecidableEq, Repr

/-- The sequencer at reset. -/
def Seq.blank : Seq :=
  { ctx := List.replicate 512 Ctx.blank, ckpt := List.replicate 512 Ctx.blank, flagCkpt := List.replicate 32 0, outq := [],
    rel := [], journal := [], arrivals := [], faults := [], commitRecs := [], abortPend := [], restartPend := [],
    abortLate := [], ovrSeen := [], pairCyc := List.replicate 8 0, sigs := [], timersDone := [], selfTest := none, subst := none,
    collTold := false, retryArmed := false }

/-- An event record as it waits in the recorder's queue (Table 21-1). -/
structure Rec where
  code    : Nat
  flags   : Nat
  origin  : Nat
  rseq    : Nat
  pcyc    : Nat
  opsec   : Nat
  tick    : Nat
  phase   : Nat
  pflags  : Nat
  payload : List Nat
  snap    : List Nat
  snapOf  : Option Nat
  deriving DecidableEq, Repr

/-- A rate-rule window (R586): key of the rule state, end tick, records accepted and suppressed, first suppressed code
and its origin, last suppressed code. -/
structure RlWin where
  key       : Nat
  endTick   : Nat
  accepted  : Nat
  supp      : Nat
  firstCode : Nat
  firstOrig : Nat
  lastCode  : Nat
  deriving DecidableEq, Repr

/-- The recorder: its queue, the marked and failed slots of the two NVM areas as 128 bytes each, latest first, the last-gasp
bank, the open rate windows, records lost since the last 0x5403, whether a record has been written in this tick, a CLEAR that
waits with its CLRSEC, and the payload of the clear in progress (R578 to R594). -/
structure Recorder where
  queue    : List Rec
  gen      : List (Nat × List Nat)
  sec      : List (Nat × List Nat)
  bank     : List (List Nat)
  wins     : List RlWin
  lostNow  : Nat
  wrote    : Bool
  clrPend  : Option Bool
  clrRec   : List Nat
  deriving DecidableEq, Repr

/-- The recorder with an empty log. -/
def Recorder.blank : Recorder :=
  { queue := [], gen := [], sec := [], bank := [], wins := [], lostNow := 0, wrote := false, clrPend := none, clrRec := [] }

end Sys2Proof.Machine
end

