-- ==== Sys2Proof/Machine/Flags.lean ====
section
/-! DEFINITION. Every flag computation of the Yartum instructions (R114, R115, R118). -/

namespace Sys2Proof.Machine

/-- N and Z from a result, C and V unchanged (R114). -/
def Ctx.setNZ (x : Ctx) (r : Word) : Ctx := { x with n := r.msb, z := r == 0 }

/-- N, Z and V set, C unchanged. -/
def Ctx.setNZV (x : Ctx) (r : Word) (v : Bool) : Ctx := { x.setNZ r with v := v }

/-- All four flags. -/
def Ctx.setNZCV (x : Ctx) (r : Word) (c v : Bool) : Ctx := { x.setNZ r with cy := c, v := v }

/-- An integer lies outside the signed 32-bit range. -/
def outS32 (i : Int) : Bool := i < -2147483648 || 2147483647 < i

/-- a + b + cin: result, carry out of bit 31, signed overflow (R115). -/
def addC (a b : Word) (cin : Bool) : Word × Bool × Bool :=
  (a + b + BitVec.ofNat 32 (bit cin), decide (2 ^ 32 ≤ a.toNat + b.toNat + bit cin), outS32 (a.toInt + b.toInt + bit cin))

/-- a − b − cin: result, borrow, signed overflow (R115). -/
def subC (a b : Word) (cin : Bool) : Word × Bool × Bool :=
  (a - b - BitVec.ofNat 32 (bit cin), decide (a.toNat < b.toNat + bit cin), outS32 (a.toInt - b.toInt - bit cin))

/-- A branch condition holds (Table 4-3): bits [2:0] select the predicate and bit 3 negates it. -/
def condHolds (cond : Nat) (x : Ctx) : Bool :=
  let p := match cond % 8 with
    | 0 => true
    | 1 => x.z
    | 2 => x.cy
    | 3 => x.cy || x.z
    | 4 => x.n != x.v
    | 5 => x.z || (x.n != x.v)
    | 6 => x.n
    | _ => x.v
  if 8 ≤ cond then !p else p

end Sys2Proof.Machine
end

