-- ==== Sys2Proof/Machine/Store.lean ====
section
/-! DEFINITION. A sparse table: a list of (key, value) pairs in one canonical form (keys strictly rising, no value
equal to what an unlisted key reads as). Memories and the register file are held in it. -/

namespace Sys2Proof.Machine

/-- The value at key k; an unlisted key reads as d. -/
def tabGet {α : Type} (d : α) : List (Nat × α) → Nat → α
  | [], _ => d
  | (k', v) :: m, k => if k = k' then v else if k < k' then d else tabGet d m k

/-- Every key of the table lies above k, as far as its first entry tells. -/
def tabAbove {α : Type} (k : Nat) : List (Nat × α) → Bool
  | [] => true
  | (k', _) :: _ => decide (k < k')

/-- The table with key k set to v, in canonical form: setting the value an unlisted key reads as removes the entry. (In a
table that is not in canonical form, which no operation makes, the entry stays where a later key is not above it.) -/
def tabPut {α : Type} [DecidableEq α] (d : α) : List (Nat × α) → Nat → α → List (Nat × α)
  | [], k, v => if v = d then [] else [(k, v)]
  | (k', v') :: m, k, v =>
    if k < k' then (if v = d then (k', v') :: m else (k, v) :: (k', v') :: m)
    else if k = k' then (if v = d && tabAbove k m then m else (k, v) :: m)
    else (k', v') :: tabPut d m k v

/-- Every key of the table lies above lo, the keys rise strictly, and no value equals d. -/
def tabWfFrom {α : Type} [DecidableEq α] (d : α) : Option Nat → List (Nat × α) → Bool
  | _, [] => true
  | lo, (k, v) :: m => (match lo with | none => true | some l => decide (l < k)) && decide (v ≠ d) && tabWfFrom d (some k) m

/-- The canonical form of a table. -/
def tabWf {α : Type} [DecidableEq α] (d : α) (m : List (Nat × α)) : Bool := tabWfFrom d none m

/-- Read n bytes, lowest address first; an unlisted byte reads as 0. -/
def memBytes (m : List Host.Cell) (a n : Nat) : List Nat := (List.range n).map (fun i => (tabGet (0 : Byte) m (a + i)).toNat)

/-- The n-byte little-endian number at address a. [DESIGN CHOICE, log entry 99] -/
def memRead (m : List Host.Cell) (a n : Nat) : Nat := leWord (memBytes m a n)

/-- Store a list of bytes from address a upward. -/
def memPutBytes (m : List Host.Cell) (a : Nat) : List Nat → List Host.Cell
  | [] => m
  | b :: bs => memPutBytes (tabPut (0 : Byte) m a (BitVec.ofNat 8 b)) (a + 1) bs

/-- Store the n low bytes of v little-endian at address a. -/
def memWrite (m : List Host.Cell) (a n v : Nat) : List Host.Cell := memPutBytes m a (leBytes n v)

/-- The canonical form of a memory: addresses strictly rising, no byte 0 listed (an unlisted byte reads as 0). -/
def Memory.wf (m : List Host.Cell) : Bool := tabWf (0 : Byte) m

end Sys2Proof.Machine
end

