-- ==== Sys2Proof/Machine/Operands.lean ====
section
/-! DEFINITION. The operand forms of the Yartum instructions: registers, immediates, widths, addresses and the context
address spaces (Table 4-1, R121 to R123, Table 3-2). -/

namespace Sys2Proof.Machine

/-- Register a of a context (R70). -/
def Ctx.reg (x : Ctx) (a : Fin 16) : Word := x.x[a]

/-- The context with register d holding v. -/
def Ctx.setReg (x : Ctx) (d : Fin 16) (v : Word) : Ctx := { x with x := x.x.set d v }

/-- sext of a w-bit field to 32 bits. -/
def sext (w v : Nat) : Word := BitVec.ofInt 32 (signed w v)

/-- Bytes of a width code: 1, 2 or 4 (R121). -/
def widthBytes (w : Nat) : Nat := match w with | 0 => 1 | 1 => 2 | _ => 4

/-- Address of a format M access: Xa + sext(off16). -/
def Ctx.addrM (x : Ctx) (a : Fin 16) (off : Nat) : Nat := (x.reg a + sext 16 off).toNat

/-- n bytes at an address lie in the local store (Table 3-2). -/
def inLocal (a n : Nat) : Bool := a + n ≤ 1024

/-- n bytes at an address lie in shared data, or in bulk data on an X0 variant (Table 3-2, R123). -/
def inData (x0 : Bool) (a n : Nat) : Bool := a + n ≤ 0x400000 || (x0 && a + n ≤ 0x3400000)

/-- Byte lane i of a word. -/
def lane (w : Word) (i : Nat) : Nat := bits w.toNat (8 * i + 7) (8 * i)

/-- The word of four byte lanes. -/
def ofLanes (f : Nat → Nat) : Word := BitVec.ofNat 32 (leWord [f 0, f 1, f 2, f 3])

/-- PC after a taken branch of a w-bit offset (R119). -/
def branchPc (pc w off : Nat) : Nat := (((pc : Int) + signed w off) % (2 ^ 20 : Nat)).toNat

/-- Output phase of field ph (Table 4-10). -/
def phaseOfField (ph : Nat) : Nat := 2 * ph + 2

end Sys2Proof.Machine
end

