-- ==== Sys2Proof/Machine/Alu.lean ====
section
/-! DEFINITION. The operation of every arithmetic, logic, packed-byte and immediate instruction on a context's registers
and flags (Tables 4-4, 4-5 and 4-6). d is the destination; p and q are the operand values. -/

namespace Sys2Proof.Machine

/-- Xd := r with N and Z from r. -/
def putNZ (x : Ctx) (d : Fin 16) (r : Word) : Ctx := (x.setReg d r).setNZ r

/-- Xd := r with N, Z from r, and V. -/
def putNZV (x : Ctx) (d : Fin 16) (r : Word) (v : Bool) : Ctx := (x.setReg d r).setNZV r v

/-- ADD and ADC. -/
def opAdd (x : Ctx) (d : Fin 16) (p q : Word) (cin : Bool) : Ctx :=
  (x.setReg d (addC p q cin).1).setNZCV (addC p q cin).1 (addC p q cin).2.1 (addC p q cin).2.2

/-- SUB, SBC and NEG. -/
def opSub (x : Ctx) (d : Fin 16) (p q : Word) (cin : Bool) : Ctx :=
  (x.setReg d (subC p q cin).1).setNZCV (subC p q cin).1 (subC p q cin).2.1 (subC p q cin).2.2

/-- CMP and CMPI: the flags of p − q. -/
def opCmp (x : Ctx) (p q : Word) : Ctx := x.setNZCV (subC p q false).1 (subC p q false).2.1 (subC p q false).2.2

/-- TST: the flags of p AND q. -/
def opTst (x : Ctx) (p q : Word) : Ctx := x.setNZ (p &&& q)

/-- The shifted-out bit becomes C; an amount of 0 leaves C unchanged. -/
def shiftC (x : Ctx) (amt : Nat) (b : Bool) : Bool := if amt = 0 then x.cy else b

/-- SHL by amt, 0 to 31. -/
def opShl (x : Ctx) (d : Fin 16) (p : Word) (amt : Nat) : Ctx :=
  { putNZ x d (p <<< amt) with cy := shiftC x amt (p.getLsbD (32 - amt)) }

/-- SHR by amt. -/
def opShr (x : Ctx) (d : Fin 16) (p : Word) (amt : Nat) : Ctx :=
  { putNZ x d (p >>> amt) with cy := shiftC x amt (p.getLsbD (amt - 1)) }

/-- SAR by amt. -/
def opSar (x : Ctx) (d : Fin 16) (p : Word) (amt : Nat) : Ctx :=
  { putNZ x d (p.sshiftRight amt) with cy := shiftC x amt (p.getLsbD (amt - 1)) }

/-- ROR by amt. -/
def opRor (x : Ctx) (d : Fin 16) (p : Word) (amt : Nat) : Ctx :=
  { putNZ x d (p.rotateRight amt) with cy := shiftC x amt (p.getLsbD (amt - 1)) }

/-- The shift amount Xb[4:0]. -/
def amtOf (q : Word) : Nat := q.toNat % 32

/-- MUL: the low word of the product. -/
def opMul (x : Ctx) (d : Fin 16) (p q : Word) : Ctx := putNZ x d (p * q)

/-- MULH: the high word of the signed product. -/
def opMulh (x : Ctx) (d : Fin 16) (p q : Word) : Ctx := putNZ x d (BitVec.ofInt 32 ((p.toInt * q.toInt) / 4294967296))

/-- MULHU: the high word of the unsigned product. -/
def opMulhu (x : Ctx) (d : Fin 16) (p q : Word) : Ctx := putNZ x d (BitVec.ofNat 32 ((p.toNat * q.toNat) / 4294967296))

/-- DIVU: by 0 gives 0 with V 1. -/
def opDivu (x : Ctx) (d : Fin 16) (p q : Word) : Ctx :=
  if q = 0 then putNZV x d 0 true else putNZV x d (BitVec.ofNat 32 (p.toNat / q.toNat)) false

/-- DIVS, truncated toward zero: by 0 gives 0 with V 1; −2^31 by −1 gives −2^31 with V 1. -/
def opDivs (x : Ctx) (d : Fin 16) (p q : Word) : Ctx :=
  if q = 0 then putNZV x d 0 true
  else if p = 0x80000000#32 ∧ q = 0xFFFFFFFF#32 then putNZV x d 0x80000000#32 true
  else putNZV x d (BitVec.ofInt 32 (Int.tdiv p.toInt q.toInt)) false

/-- MIN, MAX: signed. -/
def opMin (x : Ctx) (d : Fin 16) (p q : Word) : Ctx := putNZ x d (if p.toInt ≤ q.toInt then p else q)
/-- Signed maximum. -/
def opMax (x : Ctx) (d : Fin 16) (p q : Word) : Ctx := putNZ x d (if p.toInt ≤ q.toInt then q else p)
/-- Unsigned minimum. -/
def opMinu (x : Ctx) (d : Fin 16) (p q : Word) : Ctx := putNZ x d (if p.toNat ≤ q.toNat then p else q)
/-- Unsigned maximum. -/
def opMaxu (x : Ctx) (d : Fin 16) (p q : Word) : Ctx := putNZ x d (if p.toNat ≤ q.toNat then q else p)

/-- A signed result saturated to 32 bits, with V when it was clamped. -/
def opSatS (x : Ctx) (d : Fin 16) (i : Int) : Ctx := putNZV x d (BitVec.ofInt 32 (satS 32 i)) (outS32 i)

/-- An unsigned result saturated to 0 … 2^32 − 1, with V when it was clamped. -/
def opSatU (x : Ctx) (d : Fin 16) (i : Int) : Ctx :=
  putNZV x d (BitVec.ofInt 32 (clampI 0 4294967295 i)) (decide (i < 0 ∨ 4294967295 < i))

/-- ABS: of −2^31 gives −2^31 with V 1. -/
def opAbs (x : Ctx) (d : Fin 16) (p : Word) : Ctx :=
  if p = 0x80000000#32 then putNZV x d p true else putNZV x d (if p.msb then -p else p) false

/-- Leading zero bits of a word, 0 to 32. -/
def clz (p : Word) : Nat := if p = 0 then 32 else 31 - Nat.log2 p.toNat

/-- A packed operation lane by lane, N and Z from the whole result (R118). -/
def opPacked (x : Ctx) (d : Fin 16) (p q : Word) (f : Nat → Nat → Nat) : Ctx :=
  putNZ x d (ofLanes (fun i => f (lane p i) (lane q i)))

/-- A saturating packed operation: each lane's exact integer is clamped into lo … hi, and V is 1 if any lane was
(R118). -/
def opPackedSat (x : Ctx) (d : Fin 16) (p q : Word) (lo hi : Int) (f : Nat → Nat → Int) : Ctx :=
  let e (i : Nat) : Int := f (lane p i) (lane q i)
  putNZV x d (ofLanes (fun i => unsign 8 (clampI lo hi (e i))))
    ((List.range 4).any (fun i => decide (e i < lo ∨ hi < e i)))

/-- PSAD: sum over the lanes of the absolute differences. -/
def sadLanes (p q : Word) : Nat :=
  ((List.range 4).map (fun i => (lane p i - lane q i) + (lane q i - lane p i))).foldl (· + ·) 0

/-- PSHUF: lane i of the result is lane Xb[2i+1:2i] of p. -/
def shufLanes (p q : Word) : Word := ofLanes (fun i => lane p (bits q.toNat (2 * i + 1) (2 * i)))

end Sys2Proof.Machine
end

