-- ==== Sys2Proof/Config.lean ====
section
/-! DEFINITION. What the spec leaves open and what it gives only by an outside standard: uninterpreted constants. No
definition here has a body, so no proof can rest on a value of one. -/

namespace Sys2Proof

/-- How far the module is into the phases between two phase events, drawn afresh by a counter (R35, Table 4-7). -/
opaque Config.phaseWithin : Nat → Nat

/-- Tick-PLL cycle within the phase (TCK_PHASE.SUB). -/
opaque Config.subCycle : Nat → Nat

/-- SHA-384 of a byte string: 48 bytes (Table 0-3). -/
opaque Config.sha384 : List Nat → List Nat

/-- ECDSA P-384 verification: public key X ‖ Y, hash, signature SIGR ‖ SIGS (Table 0-3). -/
opaque Config.ecdsaOk : List Nat → List Nat → List Nat → Bool

/-- The ECDSA P-384 signature of the module's identity key over a hash, with the randomness of a draw (R572). -/
opaque Config.ecdsaSign : List Nat → List Nat → Nat → List Nat

/-- The public key X ‖ Y of the identity key pair generated from a draw (R566). -/
opaque Config.identityKey : Nat → List Nat

/-- A pair of coordinates X ‖ Y is a point on P-384 (R567). -/
opaque Config.onCurve : List Nat → Bool

/-- HMAC-SHA-256 of a key and a message: 32 bytes (Table 0-3). -/
opaque Config.hmac256 : List Nat → List Nat → List Nat

/-- A byte of the on-die random source (R566, R577). -/
opaque Config.randomByte : Nat → Nat

/-- Whether the vendor public key's SHA-384 equals the fused vendor root hash (R564). -/
opaque Config.vendorHash : List Nat

/-- A 32-bit value that the spec leaves undefined, drawn afresh by a counter. -/
opaque Config.freeWord : Nat → Nat

end Sys2Proof
end

