-- ==== Sys2Proof/Machine/Emit.lean ====
section
/-! DEFINITION. What leaves the module: one entry for each interrupt message, frame or pulse that it sends, so that a
statement can say what was sent. -/

namespace Sys2Proof.Machine

/-- Something the module sends to its surroundings. -/
inductive Emit where
  /-- An MSI-X message of a vector (R149). -/
  | msix (v : Nat)
  /-- A forward Guyline frame: SEQ, REPEAT, INVEN, LINKLOSS, the four zone commands, HOLD, and the register offset and value
  carried, if any (Table 13-5). -/
  | guyline (seq : Nat) (again inven linkloss : Bool) (cmds : List Nat) (hold : Nat) (cfg : Option (Nat × Nat))
  /-- A frame on port A (0) or B (1) of the ring, as its bytes (R513, R522). -/
  | ring (port : Nat) (frame : List Nat)
  /-- A LINK frame sent on a port: REPLY, transmit time and turnaround time (R514). -/
  | link (port : Nat) (reply : Bool) (time turn : Nat)
  /-- A TICK set sent on a port: TICKNO and ACC (R519, Table 18-5). -/
  | tickSet (port tickno acc : Nat)
  /-- A frame to a station's laser driver (R250, R251). -/
  | laserSpi (stn frame : Nat)
  /-- A frame on SPI port k (R638). -/
  | spi (k frame : Nat)
  /-- A transfer on I²C port k: address, bytes written, bytes to read (R639). -/
  | i2c (k addr : Nat) (bytes : List Nat) (nread : Nat)
  /-- A byte on UART k (R640). -/
  | uart (k byte : Nat)
  /-- A write of bytes to host memory by a DMA channel (R494). -/
  | hostWrite (addr : Nat) (bytes : List Nat)
  /-- A read of n bytes of host memory by a DMA channel (R494). -/
  | hostRead (addr n : Nat)
  /-- A completion of a BAR4 read: status 0 data, 1 Unsupported Request, 2 poisoned (R151). -/
  | bar4 (status : Nat) (bytes : List Nat)
  /-- A value returned to a host read of a register. -/
  | hostRead32 (addr val : Nat)
  /-- A mode-register or training command to DRAM channel c (R465 to R477). -/
  | dramCmd (c code : Nat)
  /-- A check line of DRAM channel c fetched, or written back (R462). -/
  | dramCheck (c line : Nat) (back : Bool)
  /-- A request of a DRAM port answered on channel c: read or write, the bursts that failed, and for a read its bytes; no
  failed burst is GOOD, some is PARTIAL for a read and FAILED for a write (R479, R480). -/
  | dramDone (c port : Nat) (wr : Bool) (bad data : List Nat)
  deriving DecidableEq, Repr

end Sys2Proof.Machine
end

