-- ==== Sys2Proof/Machine/PartsCal.lean ====
section
/-! DEFINITION. The data of the calibration block beyond its registers (chapter 10). -/

namespace Sys2Proof.Machine

/-- A line of a ladder row: the zones whose tick it shows, each with its centroid's weighted sum and weight (R318). -/
abbrev RowLine := List (Nat × Int × Nat)

/-- The calibration block: a RUN that waits for phase 0, the configuration sampled by the run (CAL_CFG, CAL_GEOM, CAL_LPC and
the four lanes), how the pattern page ended (DONE or not), the registers active at scan 0, the offsets and remaps that the
generator used by station and whether the banks latched at scan 0 differ from them, the side of each lane's comparator (on the mark),
each lane's edges (leading, and position in 1/256 count), the lanes whose measurement has ended,
the ladder rows with the row in progress, the port and virtual channel of each CSI-2 frame in progress, ticks of COMPUTING, the result set, the set an APPLY took, and the record and
destination of a STORE (R304 to R322). -/
structure Cal where
  runPend  : Bool
  cfg      : Nat
  geom     : Nat
  lpc      : Nat
  lane     : List Nat
  ended    : Option Bool
  old      : Option (List (Nat × Word))
  gen      : List (Nat × List Int × List Nat)
  isStale  : Bool
  onMark   : List Bool
  edges    : List (List (Bool × Int))
  laneDone : List Nat
  rows     : List (List RowLine)
  inRow    : Bool
  frames   : List (Nat × Nat)
  ticks    : Nat
  result   : List Nat
  applySet : Option (List Nat)
  store    : Option (Nat × List Nat)
  deriving DecidableEq, Repr

/-- The calibration block at reset: no run, an empty result set. -/
def Cal.blank : Cal :=
  { runPend := false, cfg := 0, geom := 0, lpc := 0, lane := [0, 0, 0, 0], ended := none, old := none, gen := [],
    isStale := false, onMark := [false, false, false, false], edges := [[], [], [], []], laneDone := [], rows := [], inRow := false, frames := [], ticks := 0, result := List.replicate 1600 0,
    applySet := none, store := none }

end Sys2Proof.Machine
end

