-- ==== Sys2Proof/Machine/PartsHost.lean ====
section
/-! DEFINITION. The data of page intake, security, start and power: Inbox windows, envelopes, completion records,
presence, keys, franking, Basecamp and the NVM die (chapters 05, 19, 20 and 22). -/

namespace Sys2Proof.Machine

/-- Page states (Table 5-7), with CANCELLED of R176. -/
inductive PageState where
  | received | resident | admitted | imaging | done | degraded | defect | abandoned | cancelled
  deriving DecidableEq, Repr

/-- Code of a page state (Table 5-7; 0xF for CANCELLED). -/
def PageState.code : PageState → Nat
  | .received => 1 | .resident => 2 | .admitted => 3 | .imaging => 4 | .done => 5 | .degraded => 6 | .defect => 7
  | .abandoned => 8 | .cancelled => 15

/-- Window states (Table 5-3). -/
inductive WinState where
  | idle | header | stream | resend
  deriving DecidableEq, Repr

/-- Code of a window state (Table 5-3). -/
def WinState.code : WinState → Nat
  | .idle => 0 | .header => 1 | .stream => 2 | .resend => 3

/-- One block of an envelope: station, index, LENGTH and BCRC (Table 5-6), envelope offset, DRAM channel and granules
once reserved (R52, R160), whether its bytes have all arrived and been checked, whether it is invalid, and the window that
receives it (R161). -/
structure Blk where
  stn     : Nat
  idx     : Nat
  len     : Nat
  bcrc    : Nat
  off     : Nat
  chan    : Option Nat
  grans   : List Nat
  checked : Bool
  invalid : Bool
  win     : Nat
  deriving DecidableEq, Repr

/-- An envelope with a handle (Table 5-5, R159, R167), with the lines its page has lost. -/
structure Env where
  handle   : Nat
  state    : PageState
  pageid   : Nat
  stnmask  : Nat
  spdclass : Nat
  side     : Nat
  flags    : Nat
  lines    : Nat
  ppl      : Nat
  media    : Nat
  sheetlen : Nat
  pairid   : Nat
  blklines : Nat
  envlen   : Nat
  blks     : List Blk
  dropped  : Nat
  blank    : Nat
  pattern  : Bool
  deriving DecidableEq, Repr

/-- An Inbox window (R153 to R164): state, ACK and LIMIT in bytes, the 64-byte units received at or above ACK, the
header and table bytes, the slot it fills, and a resend's target block. -/
structure Win where
  state  : WinState
  ack    : Nat
  limit  : Nat
  recv   : List Nat
  buf    : List Host.Cell
  hdrOk  : Bool
  tblOk  : Bool
  full   : Bool
  slot   : Option Nat
  target : Option Nat
  deriving DecidableEq, Repr

/-- An idle window. -/
def Win.blank : Win :=
  { state := .idle, ack := 0, limit := 0, recv := [], buf := [], hdrOk := false, tblOk := false, full := false,
    slot := none, target := none }

/-- A completion record (R177). -/
structure Completion where
  handle : Nat
  state  : Nat
  late   : Bool
  cause  : Nat
  lines  : Nat
  deriving DecidableEq, Repr

/-- A FMT_CMD write that waits for phase 0, with the time of its arrival (R169, R176). -/
structure PageCmd where
  handle  : Nat
  cancel  : Bool
  abandon : Bool
  time    : Nat
  deriving DecidableEq, Repr

/-- Page intake: windows, envelope slots, handle sequence, print queue, completion records, pending commands, the time
of the last page's end (R172), the gap requests in force (R175), the window whose turn it is to reserve granules (R160), and whether the PCIe function is in D3hot (R152). -/
structure Fmt where
  wins      : List Win
  env       : List (Option Env)
  seqNo     : Nat
  queue     : List Nat
  done      : List Completion
  cmds      : List PageCmd
  lastEnd   : Option Nat
  lastAbn   : Option (Nat × Nat × Nat)
  gapDie    : Option Nat
  gapHead   : Option Nat
  wasHold   : Nat
  d3hot     : Bool
  deriving DecidableEq, Repr

/-- Page intake at reset: four idle windows, no handle in use, sequence 1. -/
def Fmt.blank : Fmt :=
  { wins := List.replicate 4 Win.blank, env := List.replicate 64 none, seqNo := 1, queue := [], done := [], cmds := [],
    lastEnd := none, lastAbn := none, gapDie := none, gapHead := none, wasHold := 0, d3hot := false }

/-- State of a customer key slot (R567, R568). -/
inductive KeyState where
  | empty | set | revoked
  deriving DecidableEq, Repr

/-- A customer key slot: its state and its public key, X ‖ Y (96 bytes). -/
structure KeySlot where
  state : KeyState
  key   : List Nat
  deriving DecidableEq, Repr

/-- A franking counter (R570 to R575): committed value, pending amount, ticks since its oldest pending add, latest
committed record (192 bytes) and whether neither copy was valid. -/
structure Frank where
  committed : Nat
  pend      : Nat
  age       : Nat
  copyA     : List Nat
  copyB     : List Nat
  bad       : Bool
  deriving DecidableEq, Repr

/-- The security functions' volatile state: presence (R558), windows of Table 20-8, the outstanding nonce (R577),
franking commands waiting for phase 0, the amounts of the batch being written, the seal loop's run counts, the MINVER and
ROLLWIN values that wait for the end of an NVM hold, the body of an accepted presence message, and whether a page has
reached a final state since the last batch (R561, R565, R572). -/
structure Sec where
  btnLow    : Nat
  btnHigh   : Bool
  remBtn    : Nat
  remRing   : Nat
  strap     : Bool
  clrPend   : Bool
  fwdPend   : Bool
  wins      : List Host.Cell
  nonce     : Option (List Nat)
  challenge : List Nat
  adds      : List (Nat × Nat)
  initPend  : Option (Nat × Nat)
  batch     : List (Nat × Nat)
  sealFail  : Nat
  sealGood  : Nat
  sealNote  : Bool
  minPend   : Nat
  ringPend  : Option Nat
  pageEnded : Bool
  rollPend  : Option Nat
  deriving DecidableEq, Repr

/-- The security functions at reset: no window open, the button seen high. -/
def Sec.blank : Sec :=
  { btnLow := 0, btnHigh := true, remBtn := 0, remRing := 0, strap := false, clrPend := false, fwdPend := false, wins := [],
    nonce := none, challenge := [], adds := [], initPend := none, batch := [], sealFail := 0, sealGood := 0,
    sealNote := false, minPend := 0, ringPend := none, pageEnded := false, rollPend := none }

/-- A stored calibration set: valid flag and its 1,600 bytes, copy A and copy B (R322). -/
structure CalStore where
  copyA : List Nat
  copyB : List Nat
  deriving DecidableEq, Repr

/-- The NVM die (R12, R101, R322, R565 to R575): image slots, active slot and pending mark, MINVER and ROLLWIN, keys,
identity, franking counters and calibration sets. -/
structure Nvm where
  slot0    : List Nat
  slot1    : List Nat
  active   : Nat
  pendOk   : Bool
  minver   : Nat
  rollwin  : Nat
  vendor   : List Nat
  cust     : List KeySlot
  ringKey  : Option (List Nat)
  idPub    : Option (List Nat)
  frank    : List Frank
  frseq    : Nat
  cal      : List CalStore
  deriving DecidableEq, Repr

/-- The NVM die as a module leaves its maker with no image, no identity and no customer key.
[DESIGN CHOICE, log entries 4, 126] -/
def Nvm.blank : Nvm :=
  { slot0 := [], slot1 := [], active := 0, pendOk := false, minver := 0, rollwin := 0, vendor := [],
    cust := List.replicate 2 ⟨.empty, []⟩, ringKey := none, idPub := none,
    frank := List.replicate 16 ⟨0, 0, 0, [], [], false⟩, frseq := 0, cal := List.replicate 4 ⟨[], []⟩ }

/-- Steps of a start (Table 22-2). -/
inductive BootStep where
  | off | held | locking | image | admission | running | bivouac | stopped
  deriving DecidableEq, Repr

/-- The start in progress and Basecamp's failed-start counter (R596 to R608): the step, SYS_RSTC.SRC, microseconds from the
release to the lock, FSCNT, whether program READY has been declared, whether the first phase 0 after an admission is still to
come, the watchdog's count, the image last copied, the replacement asked for (R107), the franking amounts that Basecamp holds
(R573), the tick at which the image or admission step began, and the SRAM region whose error stops the module at phase 15
(R610). -/
structure Boot where
  step     : BootStep
  src      : Nat
  lockUs   : Nat
  fscnt    : Nat
  ready    : Bool
  first    : Bool
  wdog     : Nat
  image    : List Nat
  replace  : Bool
  frkHeld  : List (Nat × Nat)
  stepAt   : Nat
  sramBad  : Option Nat
  deriving DecidableEq, Repr

/-- Before power is applied. -/
def Boot.blank : Boot :=
  { step := .off, src := 0, lockUs := 0, fscnt := 0, ready := false, first := false, wdog := 0, image := [], replace := false,
    frkHeld := [], stepAt := 0, sramBad := none }

/-- Levels of the input pins and supplies that the module samples or acts on outside phase 0. -/
structure Pins where
  ilkClosed : Bool
  estopN    : Bool
  svcStrap  : Bool
  vstby     : Bool
  mainps    : Bool
  gpio      : Nat
  deriving DecidableEq, Repr

/-- The pins with nothing connected: the pulls of Tables 24-2 to 24-5. [DEDUCED, log entry 16] -/
def Pins.blank : Pins :=
  { ilkClosed := false, estopN := false, svcStrap := false, vstby := false, mainps := true, gpio := 0 }

/-- Power management's counters and pending writes (chapter 19): whether the present choice has been refused, a PWR_ACK that
waits, the _LO half of NEXTEVT as written and the pairs that wait for phase 0, the holds of NVM writes by supply and by
temperature, good readings in a row of each stale housekeeping channel, a THRCLR that waits, whether STOP has been carried
out, ticks of the heartbeat, a wake that waits, the core die off in SLEEP, the printhead channels that request a gap, the last
rail at reset level with its postmark (Basecamp), and housekeeping readings that wait for phase 0. -/
structure Pwr where
  choiceRef : Bool
  ackPend   : Option Nat
  nextLo    : Nat
  nextPend  : List Nat
  holdSup   : Bool
  holdTemp  : Bool
  hkGood    : List Nat
  thrClr    : Bool
  stopDone  : Bool
  sbTick    : Nat
  wakePend  : Option Nat
  asleep    : Bool
  gapHot    : List Nat
  lastRail  : Nat
  lastRailPm : List Nat
  hkPend    : List (Nat × Nat × Bool)
  deriving DecidableEq, Repr

/-- Power management at reset. -/
def Pwr.blank : Pwr :=
  { choiceRef := false, ackPend := none, nextLo := 0, nextPend := [], holdSup := false, holdTemp := false,
    hkGood := List.replicate 32 0, thrClr := false, stopDone := false, sbTick := 0, wakePend := none, asleep := false,
    gapHot := [], lastRail := 0, lastRailPm := [], hkPend := [] }

end Sys2Proof.Machine
end

