-- ==== Sys2Proof/Machine/Variant.lean ====
section
/-! DEFINITION. The twelve variants of Table 0-1 and the identification values of Table 0-2 (R1 to R8). -/

namespace Sys2Proof.Machine

/-- The twelve variants of Table 0-1; suffix M has the mains section, suffix L has not. -/
inductive Variant where
  | p6m | p6l | p5m | p5l | p4m | p4l | h4m | h4l | k1m | k1l | x0m | x0l
  deriving DecidableEq, Repr

/-- SYS_FEAT of each variant (Table 0-2). -/
def Variant.feat : Variant → Nat
  | .p6m => 0xB10CA5EC | .p6l => 0x310CA5EC
  | .p5m => 0xA90CA5AA | .p5l => 0x290CA5AA
  | .p4m => 0xA10CA568 | .p4l => 0x210CA568
  | .h4m => 0xA0C85359 | .h4l => 0x20C85359
  | .k1m => 0x8CC852A2 | .k1l => 0x0CC852A2
  | .x0m => 0xD10C4A00 | .x0l => 0x510C4A00

/-- Variant code, SYS_IDENT.VARIANT (Table 0-2). -/
def Variant.code : Variant → Nat
  | .p6m => 0x96 | .p6l => 0x16 | .p5m => 0x95 | .p5l => 0x15 | .p4m => 0x94 | .p4l => 0x14
  | .h4m => 0xA4 | .h4l => 0x24 | .k1m => 0xB1 | .k1l => 0x31 | .x0m => 0xC0 | .x0l => 0x40

/-- A field of SYS_FEAT. -/
def Variant.field (v : Variant) (hi lo : Nat) : Nat := (v.feat >>> lo) % 2 ^ (hi + 1 - lo)

/-- The mains section is populated (R6, R7). -/
def Variant.mains (v : Variant) : Bool := v.field 31 31 == 1
/-- HV channels present. -/
def Variant.hvch (v : Variant) : Nat := v.field 29 25
/-- Stepper channels present. -/
def Variant.stpch (v : Variant) : Nat := v.field 24 20
/-- FOC channels present. -/
def Variant.focch (v : Variant) : Nat := v.field 19 16
/-- CSI-2 ports present. -/
def Variant.csi (v : Variant) : Nat := v.field 15 14
/-- DRAM channels present. -/
def Variant.drch (v : Variant) : Nat := v.field 13 11
/-- Encoder lanes present. -/
def Variant.encl (v : Variant) : Nat := v.field 10 9
/-- Decoder lanes present, the spare included. -/
def Variant.decl (v : Variant) : Nat := v.field 8 6
/-- Beams per station: 0, 16 or 32. -/
def Variant.beams (v : Variant) : Nat := match v.field 5 4 with | 1 => 16 | 2 => 32 | _ => 0
/-- Stations present, S0 upwards. -/
def Variant.stn (v : Variant) : Nat := v.field 3 1
/-- Maximum process speed in mm/s: 500 where SPD500 is 1, else 1,000. -/
def Variant.maxSpeed (v : Variant) : Nat := if v.field 0 0 == 1 then 500 else 1000
/-- The X0 variants, whose band store is bulk sequencer data (R5). -/
def Variant.isX0 (v : Variant) : Bool := v.stn == 0

end Sys2Proof.Machine
end

