-- ==== Sys2Proof/Machine/PartsImage.lean ====
section
/-! DEFINITION. The data of the image path: codec lanes, band store, exposure and scanner synchronisation of each
station (chapters 06 to 09). -/

namespace Sys2Proof.Machine

/-- A decoder lane: CDC_D_STAT.STATE code, station served, the page and block it decodes, the line it is in, how many of the
block's lines have a pigeonhole, and the pixels produced (R178, R193, R194). -/
structure DecLane where
  st     : Nat
  stn    : Nat
  handle : Nat
  blk    : Nat
  line   : Nat
  held   : Nat
  px     : Nat
  deriving DecidableEq, Repr

/-- A lane without a block, in a STATE and of a station. -/
def DecLane.idle (st stn : Nat) : DecLane := { st := st, stn := stn, handle := 0, blk := 0, line := 0, held := 0, px := 0 }

/-- A block to be re-decoded: station, page, block, the lane that failed and its cause, and how many of its lines have a
pigeonhole (R194, R197). -/
structure Redec where
  stn    : Nat
  handle : Nat
  blk    : Nat
  lane   : Nat
  cause  : Nat
  held   : Nat
  deriving DecidableEq, Repr

/-- What waits in an encoder's input FIFO: a sensor line as its block lines with the index of the first and the PPL of its
frame; the place of a discard, with the index at which coding resumes; a frame end (R201, R206, R208). -/
inductive EncItem where
  | line (no ppl : Nat) (ls : List (List Nat))
  | cut (no ppl resume : Nat)
  | frameEnd
  deriving DecidableEq, Repr

/-- A sensor block being coded: its first line index, the index after its range, PPL, its lines, how it has ended (0 not ended,
1 complete or at a frame end, 2 FLUSH, 3 OVERFLOW), WRPTR at its start and the 64-byte units written (R202, R205 to R210). -/
structure EncBlk where
  first : Nat
  stop  : Nat
  ppl   : Nat
  lines : List (List Nat)
  mark  : Nat
  start : Nat
  out   : Nat
  deriving DecidableEq, Repr

/-- A descriptor of an encoder's FIFO (R204). -/
structure Desc where
  off64 : Nat
  len   : Nat
  ovf   : Bool
  flush : Bool
  taken : Bool
  deriving DecidableEq, Repr

/-- Granules of a channel that an encoder holds for a ring (R203). -/
structure EncRing where
  chan  : Nat
  gran  : Nat
  count : Nat
  deriving DecidableEq, Repr

/-- An encoder lane: its input FIFO; of the frame that arrives the index of the next block line, its PPL, a line index at which a
block starts, and the index below which lines are discarded; whether a frame is arriving; the block in progress, pending FLUSH and ABORT, the descriptors,
whether it stops after the block, and the rings it holds, the present one first (R201 to R212). -/
structure Enc where
  fifo      : List EncItem
  nextLine  : Nat
  ppl       : Option Nat
  origin    : Nat
  skip      : Nat
  inFrame   : Bool
  blk       : Option EncBlk
  flushPend : Bool
  abortPend : Bool
  desc      : List Desc
  stopping  : Bool
  rings     : List EncRing
  deriving DecidableEq, Repr

/-- An encoder at reset. -/
def Enc.blank : Enc :=
  { fifo := [], nextLine := 0, ppl := none, origin := 0, skip := 0, inFrame := false, blk := none, flushPend := false, abortPend := false,
    desc := [], stopping := false, rings := [] }

/-- The codec: decoder lanes, re-decode queue, the re-decode running, the lane that took a
station over with re-decodes still to do (R199), the next block of each (page, station), and the
encoders. -/
structure Cdc where
  lanes : List DecLane
  redq  : List Redec
  redec : Option Redec
  sub   : Option Nat
  next  : List (Nat × Nat × Nat)
  enc   : List Enc
  deriving DecidableEq, Repr

/-- The codec at reset: lane s serves station s, the highest present lane is the spare, the others are absent (R50). -/
def Cdc.blank (v : Variant) : Cdc :=
  { lanes := (List.range 7).map (fun l => DecLane.idle (if l < v.stn then 0 else if l + 1 = v.decl then 14 else 15) 0)
    redq := [], redec := none, sub := none, next := [], enc := List.replicate 2 Enc.blank }

/-- A pigeonhole in use: its number, page, line, its block, its pixels once decoded, whether the line is valid, and whether it has
lost its data to an SRAM error (R195, R214, R609). -/
structure Hole where
  no     : Nat
  handle : Nat
  line   : Nat
  blk    : Nat
  pix    : List Nat
  valid  : Bool
  lost   : Bool
  deriving DecidableEq, Repr

/-- The light of BDBEAM in an open beam-detect window: since when, until when if it has gone dark, and the sub-slots of it that
have been counted (R241, R253). -/
structure BdLight where
  since : Nat
  stop  : Option Nat
  done  : Nat
  deriving DecidableEq, Repr

/-- The present facet of a station: each beam's sub-slot masks in pixel order, sub-slots lit on each beam by beam detect and
APC, the place (in sub-slots from SOL) from which a beam or the whole station is dark, the first sub-slot that a duty ceiling
made dark with its beam (32 for the station ceiling), whether that has been told, whether emission was held, and by how many
sub-slots SOL is late (R240, R253 to R257, R277). -/
structure Facet where
  masks : List (List Nat)
  extra : List Nat
  dark  : List (Nat × Nat)
  cut   : Option Nat
  hit   : Option (Nat × Nat)
  told  : Bool
  held  : Bool
  late  : Nat
  deriving DecidableEq, Repr

/-- A facet without image. -/
def Facet.blank : Facet := { masks := [], extra := [], dark := [], cut := none, hit := none, told := false, held := false, late := 0 }

/-- One station's band store, exposure and scanner synchronisation. Positions are in 1/65536 of an axis count, times in
sixteenths of a tick-PLL cycle since tick 0, phases of the scan reference in 1/65536 line (chapters 07 to 09). -/
structure Stn where
  holes     : List Hole
  holeNo    : Nat
  page      : Nat
  endAt     : Option Nat
  finished  : Bool
  endTime   : Nat
  pcommit   : Int
  phoffPg   : Int
  drops     : List (Int × Nat)
  caps      : List Int
  lastPull  : Option Nat
  dropTold  : Bool
  missed    : List Nat
  facet     : Facet
  hist      : List (List Nat)
  warned    : List Nat
  apcNext   : Nat
  apcDone   : Nat
  apcRound  : List Nat
  spiScale  : Option Nat
  spiTrims  : List Nat
  spiRaw    : Nat
  spiRun    : Option Bool
  hot       : Nat
  ldUp      : Nat
  winOpen   : Option Nat
  bdLight   : Option BdLight
  lastEdge  : Option Nat
  ivals     : List Nat
  trk       : Nat
  lastA     : Option Nat
  lastB     : Option Nat
  bDone     : Bool
  aWait     : Bool
  miss      : Nat
  aMiss     : Nat
  bMiss     : Nat
  abOff     : List Int
  okRun     : Nat
  badRun    : Nat
  refBase   : Int
  refLeft   : Int
  refPage   : Bool
  perr      : Int
  pfreqPend : Option Nat
  deriving DecidableEq, Repr

/-- A station at reset. -/
def Stn.blank : Stn :=
  { holes := [], holeNo := 0, page := 0, endAt := none, finished := false, endTime := 0, pcommit := 0, phoffPg := 0, drops := [],
    caps := [], lastPull := none, dropTold := false, missed := [], facet := Facet.blank, hist := [], warned := [],
    apcNext := 0, apcDone := 0, apcRound := [], spiScale := none, spiTrims := [], spiRaw := 0, spiRun := none, hot := 0,
    ldUp := 0, winOpen := none, bdLight := none, lastEdge := none, ivals := [], trk := 0, lastA := none, lastB := none, bDone := true, aWait := false, miss := 0, aMiss := 0,
    bMiss := 0, abOff := [], okRun := 0, badRun := 0, refBase := 0, refLeft := 0, refPage := false, perr := 0,
    pfreqPend := none }

/-- What is common to the stations: the armed banks as armed values of their registers (R232, R239, R283), an ARM that
waits for phase 0, the page that last latched them, the pages that last told a drop and a clamp, since when the laser
interlock and ESTOP_N have been good, a spread setting that waits for phase 0, and ticks of the coast. -/
structure Img where
  stn      : List Stn
  armed    : List (Nat × Word)
  armPend  : Bool
  latched  : Nat
  dropPage : Nat
  clampPg  : Option Nat
  ilkSince : Nat
  sscPend  : Option Nat
  coast    : Nat
  deriving DecidableEq, Repr

/-- The stations at reset. -/
def Img.blank : Img :=
  { stn := List.replicate 6 Stn.blank, armed := [], armPend := false, latched := 0, dropPage := 0, clampPg := none,
    ilkSince := 0, sscPend := none, coast := 0 }

end Sys2Proof.Machine
end

