-- ==== Sys2Proof/Machine/PartsLpe.lean ====
section
/-! DEFINITION. The data of the loop engines: law declarations (Table 11-4), law state (R329) and the parameter writes
that wait for phase 0 (R344). -/

namespace Sys2Proof.Machine

/-- Law types (Table 11-1). -/
inductive LawType where
  | pi | pid | pllspd | dqcur | cvcc | fuser
  deriving DecidableEq, Repr

/-- A source or target field: register offset, lowest bit, width, LSB exponent, and whether it is signed (Table 11-4). -/
structure LawField where
  addr : Nat
  pos  : Nat
  wid  : Nat
  exp  : Int
  sgn  : Bool
  deriving DecidableEq, Repr

/-- A law as declared (Table 11-4) and placed (R48, R49): oph is 0 for a law without a placed phase, else the phase. -/
structure LawDecl where
  law     : Nat
  type    : LawType
  cls     : Nat
  initAct : Bool
  pinPh   : Bool
  pinEng  : Option Nat
  phase   : Nat
  altGrp  : Nat
  meas    : LawField
  aux     : Option LawField
  sp      : Option LawField
  tgt     : LawField
  tgt2    : Option LawField
  ein     : Int
  egain   : Int
  eout    : Int
  eaux    : Int
  init    : List Int
  engine  : Nat
  slot    : Nat
  oph     : Nat
  deriving DecidableEq, Repr

/-- One law slot: parameters as mantissas (Tables 4-11 and 11-2) and state (R329); sticky holds the bits of STATUS that a
write of 1 clears: SAT, LIMHI, LIMLO, SLEWL and HO, from bit 4 down. -/
structure Law where
  decl     : Option LawDecl
  active   : Bool
  actPend  : Bool
  mode     : Nat
  modeCtl  : Nat
  setpt    : Int
  spApplied : Int
  meas     : Int
  ramp     : Int
  outMin   : Int
  outMax   : Int
  slew     : Int
  kp       : Int
  ki       : Int
  kd       : Int
  dflt     : Int
  kff      : Int
  kph      : Int
  setpt2   : Int
  kp2      : Int
  ki2      : Int
  hyst     : Int
  aux      : Int
  r        : Int
  d        : Int
  measPrev : Int
  iw       : Int
  i2w      : Int
  out      : Int
  out2     : Int
  sticky   : Nat
  deriving DecidableEq, Repr

/-- A slot with no law declared. -/
def Law.blank : Law :=
  { decl := none, active := false, actPend := false, mode := 0, modeCtl := 0, setpt := 0,
    spApplied := 0, meas := 0, ramp := 0, outMin := 0, outMax := 0, slew := 0, kp := 0, ki := 0, kd := 0, dflt := 0,
    kff := 0, kph := 0, setpt2 := 0, kp2 := 0, ki2 := 0, hyst := 0, aux := 0, r := 0, d := 0, measPrev := 0, iw := 0,
    i2w := 0, out := 0, out2 := 0, sticky := 0 }

/-- A parameter write of R344: a LAWSET, a host write, or a set-point pull-back by NB / a (R230). -/
inductive ParamWrite where
  | lawset (law param : Nat) (val exp : Int)
  | host   (law param : Nat) (val exp : Int)
  | pull   (law nb a : Nat)
  deriving DecidableEq, Repr

/-- A law output on its way to its target register: output phase (0 for motor current), address and register value. -/
structure LawOut where
  phase : Nat
  addr  : Nat
  val   : Nat
  deriving DecidableEq, Repr

/-- The loop engines: the law slots and their checkpoint, outputs computed and released, parameter writes waiting,
those applied since the checkpoint (R346) and the status bits cleared since it (R142), the engines that mismatched in the last tick (R329), and the law and page of each
hand-over recorded (R339). -/
structure Lpe where
  law      : List Law
  ckpt     : List Law
  outq     : List LawOut
  rel      : List LawOut
  host     : List ParamWrite
  pulls    : List ParamWrite
  applied  : List ParamWrite
  again    : List ParamWrite
  clears   : List (Nat × Nat)
  mmLast   : List Nat
  hoSeen   : List (Nat × Nat)
  deriving DecidableEq, Repr

/-- The loop engines at reset: no law declared. -/
def Lpe.blank : Lpe :=
  { law := List.replicate 128 Law.blank, ckpt := List.replicate 128 Law.blank, outq := [], rel := [], host := [], pulls := [],
    applied := [], again := [], clears := [], mmLast := [], hoSeen := [] }

end Sys2Proof.Machine
end

