-- ==== Sys2Proof/Machine/PartsMem.lean ====
section
/-! DEFINITION. The data of the DRAM controller and the DMA engine (chapters 16 and 17). -/

namespace Sys2Proof.Machine

/-- A request in a DRAM port: the port, whether it writes, its first byte address and bytes (for a read, those of the good bursts
granted so far, zeros elsewhere), the bursts not yet granted, those that failed, its deadline tag and time of acceptance (R469,
R470, R479). -/
structure DramReq where
  port  : Nat
  wr    : Bool
  addr  : Nat
  data  : List Nat
  left  : List Nat
  bad   : List Nat
  issue : Nat
  dl    : Nat
  deriving DecidableEq, Repr

/-- One DRAM channel: its requests in order of acceptance, the ports of its last 63 grants, the open row and the hits
passed of each bank; its check lines, latest used first, with whether each is dirty; per rank the refreshes owed, the forced
sequence, the time in fifths of a tick-PLL cycle at which the next refresh falls due, the interval, and the time in cycles at which
the last stall ends; the ticks at which the next oscillator and MR4 readings are due; its measured drift; the scrubber's burst, the
tick its pass began and the tick of the last self-refresh entry; the tick a RETRAIN in progress began; and whether link ECC is in
force since the last training (R462, R464, R467, R472 to R483). -/
structure DramChan where
  reqs   : List DramReq
  grants : List Nat
  rows   : List (Option Nat)
  passes : List Nat
  check  : List (Nat × Bool)
  owed   : List Int
  forced : List Bool
  refDue : List Nat
  refInt : List Nat
  stall  : List Nat
  oscDue : Nat
  mr4Due : Nat
  drift  : Int
  scrub  : Nat
  scrubFrom : Nat
  srAt   : Nat
  retrainAt : Option Nat
  link   : Bool
  deriving DecidableEq, Repr

/-- A channel before training. -/
def DramChan.blank : DramChan :=
  { reqs := [], grants := [], rows := List.replicate 32 none, passes := List.replicate 32 0, check := [],
    owed := [0, 0], forced := [false, false], refDue := [0, 0], refInt := [7812, 7812], stall := [0, 0], oscDue := 0, mr4Due := 0,
    drift := 0, scrub := 0, scrubFrom := 0, srAt := 0, retrainAt := none, link := false }

/-- A chunk in flight: offset in the MOVE, length, its data once read, reads or writes tried, whether it holds a slot, and
the time at which it became eligible (R494, R501). -/
structure DmaChunk where
  off   : Nat
  len   : Nat
  data  : Option (List Nat)
  tries : Nat
  slot  : Bool
  ready : Nat
  deriving DecidableEq, Repr

/-- The MOVE in progress: spaces, address registers and increments, encoder, total length, source and destination
addresses, bytes whose read is issued, bytes handed to the write engine, chunks in flight, the last chunk written to the
host with its offset, the flush reads tried, and the bytes gathered for DSP 3 (R494 to R497). -/
structure DmaMove where
  ssp    : Nat
  dsp    : Nat
  sa     : Nat
  da     : Nat
  sinc   : Bool
  dinc   : Bool
  enc    : Nat
  len    : Nat
  src    : Nat
  dst    : Nat
  issued : Nat
  given  : Nat
  chunks : List DmaChunk
  lastWr : Nat × List Nat
  flush  : Option Nat
  gather : List Nat
  deriving DecidableEq, Repr

/-- A start that waits for its phase 0: of the program in the buffer, of a copied program, or of one whose address is bad
(R490, Table 17-2). -/
inductive DmaStart where
  | host
  | prog (words : List Nat)
  | badAddr
  deriving DecidableEq, Repr

/-- A DMA channel's state beyond its registers: the MOVE in progress, the tick a timed WAIT ends, a GO and an ABORT written
since phase 0, and the starts due (R490, R505). -/
structure DmaChan where
  move     : Option DmaMove
  waitTick : Nat
  go       : Bool
  abort    : Bool
  starts   : List DmaStart
  deriving DecidableEq, Repr

/-- An idle DMA channel. -/
def DmaChan.blank : DmaChan := { move := none, waitTick := 0, go := false, abort := false, starts := [] }

end Sys2Proof.Machine
end

