-- ==== Sys2Proof/Machine/PartsMotion.lean ====
section
/-! DEFINITION. The data of motion and motor drive beyond their registers (chapters 14 and 15). Plans are kept in units of
2^-64 count and 2^-64 tick. -/

namespace Sys2Proof.Machine

/-- What an axis does when its present plan ends. -/
inductive Goal where
  /-- No plan, or a plan that only comes to rest. -/
  | rest
  /-- A MOVE: DONE (R442). -/
  | move
  /-- A VEL: the velocity is held (R443). -/
  | vel
  /-- An ABORT or QSTOP: ABORTED (R457). -/
  | stop
  /-- A stop at a limit: a plan to the target that was set aside, or DONE (R447). -/
  | limit (next : Option Int)
  /-- The homing search (R452). -/
  | search
  /-- A stop at a limit switch before the search turns round (R454). -/
  | turn
  /-- The final move of homing (R453). -/
  | homing
  deriving DecidableEq, Repr

/-- A switch of an axis: samples in a row at the present level, that level (active), the raw position at its last
active-going edge, and that of the present run of active samples (R450). -/
structure AxisSw where
  run    : Nat
  active : Bool
  edge   : Int
  cap    : Int
  deriving DecidableEq, Repr

/-- An axis beyond its registers: plan segments (duration, jerk) with their start state and ticks elapsed, whether the last
velocity is held, the exact end of the plan, what follows, the sampled state (48.16, 32.16 and 16.32), the command and the
pairs written since phase 0, the pairs in force, the offset of RAW, the peak of R449, the switches (low, high, home), stall
latches in a row, and of homing: index captures, reversed search, whether the home switch has been qualified, limit-switch trips
and ticks. -/
structure Axis where
  segs    : List (Int × Int)
  p0      : Int
  v0      : Int
  a0      : Int
  t       : Nat
  hold    : Bool
  endP    : Option Int
  goal    : Goal
  p       : Int
  v       : Int
  a       : Int
  cmd     : Option Nat
  pairs   : List Nat
  limLo   : Int
  limHi   : Int
  homePos : Int
  off     : Int
  pk      : Int
  sw      : List AxisSw
  stall   : Nat
  idx     : List Int
  rev     : Bool
  found   : Bool
  trips   : Nat
  ticks   : Nat
  deriving DecidableEq, Repr

/-- An axis at reset: limits at the ends of the 48-bit range. -/
def Axis.blank : Axis :=
  { segs := [], p0 := 0, v0 := 0, a0 := 0, t := 0, hold := false, endP := none, goal := .rest, p := 0, v := 0, a := 0,
    cmd := none, pairs := [], limLo := -140737488355328, limHi := 140737488355327, homePos := 0, off := 0, pk := 0,
    sw := List.replicate 3 ⟨0, false, 0, 0⟩, stall := 0, idx := [], rev := false, found := false, trips := 0, ticks := 0 }

/-- What a FOC channel drives its bridge with in a tick: the d and q voltages in force after the limit, the amplitude of the injection
added to d, the phase advance and the hand-over offset in the angle, in 1/65536 turn, the d and q currents that it regulates itself in
BRAKE and in the pulses of ALIGN, in mA, the squared magnitude of the vector before the limit, and whether it was limited (R404, R405,
R410 to R416). -/
structure FocOut where
  vd   : Int
  vq   : Int
  inj  : Nat
  adv  : Int
  off  : Int
  id   : Int
  iq   : Int
  mag2 : Nat
  lim  : Bool
  deriving DecidableEq, Repr

/-- The bridge off. -/
def FocOut.blank : FocOut := { vd := 0, vq := 0, inj := 0, adv := 0, off := 0, id := 0, iq := 0, mag2 := 0, lim := false }

/-- A FOC channel beyond its registers: START, STOP and FLTCLR written since phase 0, phase 0s since the state was entered,
whether a command entered it since the last phase 0, whether the laws are to be activated, latches in a row of the hand-over
and return conditions, FW, ticks LIMMOD has been clear and set in a row, the page that last told VSAT, the RAMP and SETPT2
that others last wrote while loss braking holds, the observer's angle error latched, the offset of a hand-over with the PWM periods
left of it, and the drive of the tick (R407 to R423). -/
structure FocCh where
  start   : Bool
  stop    : Bool
  fltclr  : Bool
  ticks   : Nat
  fresh   : Bool
  enter   : Bool
  hoRun   : Nat
  retRun  : Nat
  fw      : Nat
  clear   : Nat
  satRun  : Nat
  satPage : Option Nat
  ramp    : Option Int
  setpt2  : Option Int
  err     : Int
  off     : Int
  offN    : Nat
  out     : FocOut
  deriving DecidableEq, Repr

/-- A FOC channel at reset. -/
def FocCh.blank : FocCh :=
  { start := false, stop := false, fltclr := false, ticks := 0, fresh := false, enter := false, hoRun := 0, retRun := 0,
    fw := 0, clear := 0, satRun := 0, satPage := none, ramp := none, setpt2 := none, err := 0, off := 0,
    offN := 0, out := FocOut.blank }

/-- A step/direction channel: the axis position that its steps have reached, whether its direction is negative, the frequency in force
of its square wave, in Hz, and the part of a period that the wave has run, in 2^-32 (R428, R429). -/
structure SdCh where
  pos  : Int
  neg  : Bool
  freq : Int
  frac : Nat
  deriving DecidableEq, Repr

/-- A stepper channel: the last position of its axis, ticks since it changed, and its microstep (R426, R427). -/
structure StpCh where
  pos   : Int
  idle  : Nat
  mstep : Int
  deriving DecidableEq, Repr

/-- Motion and motor drive: axes, encoder counts with the levels of A (bit 0) and B (bit 1), FOC channels, stepper channels, step/direction channels, whether ESTOP_N or Bivouac has been seen low by the axes, ticks since the last edge of
each SPDIN pin, and the last sample of BRK_ISNS in 10 mA. -/
structure Motion where
  axis    : List Axis
  enc     : List Int
  encAB   : List Nat
  foc     : List FocCh
  stp     : List StpCh
  sd      : List SdCh
  estopAx : Bool
  spdTmo  : List Nat
  brkIsns : Nat
  deriving DecidableEq, Repr

/-- Motion and motor drive at reset. -/
def Motion.blank : Motion :=
  { axis := List.replicate 36 Axis.blank, enc := List.replicate 24 0, encAB := List.replicate 24 0, foc := List.replicate 12 FocCh.blank,
    stp := List.replicate 16 ⟨0, 50, 0⟩, sd := List.replicate 8 ⟨0, false, 0, 0⟩, estopAx := false, spdTmo := List.replicate 4 0,
    brkIsns := 0 }

end Sys2Proof.Machine
end

