-- ==== Sys2Proof/Machine/PartsPower.lean ====
section
/-! DEFINITION. The data of HV channels, fuser regulation and the mains section beyond their registers (chapters 12 and 13). -/

namespace Sys2Proof.Machine

/-- An HV channel: ticks of a polarity hold, whether its charging window refuses it, and whether that has been told; the DUTY in
force, the high time of HV_DRV_C in the present PWM period and the time of the next period boundary, in tick-PLL cycles; of an AC
AMPLITUDE channel the level of its square wave on HV_POL_C, the time of its next half-period boundary, the extremes of the samples in
the AC period so far (lo 4096 before the first), and the peak-to-peak code of the last complete one (R349, R351, R352, R357). -/
structure HvCh where
  hold    : Option Nat
  refused : Bool
  told    : Bool
  duty    : Int
  high    : Nat
  next    : Nat
  pol     : Bool
  half    : Nat
  lo      : Nat
  hi      : Nat
  pp      : Nat
  deriving DecidableEq, Repr

/-- An HV channel at reset. -/
def HvCh.blank : HvCh :=
  { hold := none, refused := false, told := false, duty := 0, high := 0, next := 0, pol := false, half := 0, lo := 4096, hi := 0, pp := 0 }

/-- The fuser: the CLR of each input that waits for phase 0, ticks in a row at SRC 4 of each zone and whether they have been
told, the zones whose command of the tick is forced to 0, on an L variant those of the tick before, and the high time of FUS_CMD in tick-PLL cycles (R361 to R369). -/
structure Fus where
  clr    : List Bool
  dis    : List Nat
  disTold : List Bool
  zeroed : List Bool
  forced : List Bool
  high   : Nat
  deriving DecidableEq, Repr

/-- A forward Guyline frame (Table 13-5): SEQ, REPEAT, INVEN, LINKLOSS, commands, HOLD and the configuration write, as
register offset and value. -/
structure GlFrame where
  seq      : Nat
  again    : Bool
  inven    : Bool
  linkloss : Bool
  cmds     : List Nat
  hold     : Nat
  cfg      : Option (Nat × Nat)
  deriving DecidableEq, Repr

/-- A bridge of the mains section: stopped by its current limit for the rest of the half-cycle, half-cycles stopped in a
row, the error-diffusion sum of its low range, whether the low range switches in this half-cycle, and its switching frequency
in 10 Hz, 0 when it does not switch (R383, R386). -/
structure Bridge where
  stopped : Bool
  halves  : Nat
  acc     : Nat
  runs    : Bool
  freq    : Nat
  deriving DecidableEq, Repr

/-- The mains section: state, NOM, count of DETECT half-cycles and their row, lengths of the last eight half-cycles in µs,
missing and low half-cycles in a row, OV and half-cycles in a row at or below 290.0 V, INVFLT; the commands, HOLD and INVEN
of the last good frame and its SEQ; the configuration it has taken over; restore ceiling, ceiling of this half-cycle, applied
power by zone, that of the last half-cycle; rms and length of the last half-cycle; source resistance; triac sums and firing;
bridges; the limit on the applied total in this half-cycle; the time of the last zero-cross or missing one and whether it was missing;
whether the forward frame of this tick has come or is missing; missing forward frames in a row, GLFAULT, the ramp-down (ticks and
the powers it began with), good frames in a row since; the standby converter (0 off, 1 on, 2 waiting to retry, 3 on in current
limit); the housekeeping readings for the next return frame; and the index of the last configuration write applied (R373 to
R396). -/
structure Mns where
  st       : Nat
  nom      : Nat
  row      : Nat
  count    : Nat
  lens     : List Nat
  missRun  : Nat
  lowRun   : Nat
  ov       : Bool
  ovRun    : Nat
  invflt   : Bool
  cmds     : List Nat
  hold     : Nat
  inven    : Bool
  seq      : Option Nat
  cfg      : List (Nat × Word)
  restore  : Option Nat
  ceil     : Nat
  lim      : Nat
  zcAt     : Option Nat
  zcMiss   : Bool
  heard    : Bool
  applied  : List Nat
  papp     : Nat
  rms      : Nat
  len      : Nat
  rsrc     : Nat
  triac    : List (Nat × Bool)
  bridge   : List Bridge
  missing  : Nat
  glfault  : Bool
  ramp     : Option (Nat × List Nat)
  goodRun  : Nat
  sby      : Nat
  hk       : List (Nat × Nat × Bool)
  lastCfg  : Nat
  deriving DecidableEq, Repr

/-- The mains section at power-up: ABSENT, every output off (Table 13-4). -/
def Mns.blank : Mns :=
  { st := 0, nom := 0, row := 0, count := 0, lens := [], missRun := 0, lowRun := 0, ov := false, ovRun := 0, invflt := false,
    cmds := [0, 0, 0, 0], hold := 30, inven := false, seq := none, cfg := [], restore := none, ceil := 0, lim := 0, zcAt := none, zcMiss := false, heard := false,
    applied := [0, 0, 0, 0], papp := 0, rms := 0, len := 0, rsrc := 400, triac := [(0, false), (0, false)],
    bridge := [⟨false, 0, 0, false, 0⟩, ⟨false, 0, 0, false, 0⟩], missing := 0, glfault := false, ramp := none, goodRun := 0,
    sby := 0, hk := [], lastCfg := 255 }

/-- A return frame: what MNS_STAT, MNS_LINE, MNS_BOUND and MNS_MEAS show, the readings of the mains die's temperature, of L_VHV and of
the bridges' peak current since the last frame, and the index of the last configuration write applied (R393). -/
structure RetFrame where
  st      : Nat
  nom     : Nat
  f60     : Bool
  glfault : Bool
  sbyok   : Bool
  ov      : Bool
  invflt  : Bool
  ramping : Bool
  len     : Nat
  rms     : Nat
  pflk    : Nat
  pcap    : Nat
  rsrc    : Nat
  papp    : Nat
  hk      : List (Nat × Nat × Bool)
  cfg     : Nat
  deriving DecidableEq, Repr

/-- Power electronics: HV channels, fuser, mains section; and of the core die's side of the Guyline the configuration queue,
the frame on its way, the SEQ and commands of the last frame sent, the return frame of the last phase 15, missing return frames and
good ones in a row, whether LINKLOSS is sent, and the index of the last configuration write that a return frame has shown (R391 to
R395). -/
structure Power where
  hv       : List HvCh
  fus      : Fus
  mns      : Mns
  cfgq     : List (Nat × Nat)
  flight   : Option GlFrame
  sent     : GlFrame
  ret      : Option RetFrame
  retMiss  : Nat
  retGood  : Nat
  linkloss : Bool
  retCfg   : Nat
  deriving DecidableEq, Repr

/-- The power electronics at reset. -/
def Power.blank : Power :=
  { hv := List.replicate 24 HvCh.blank
    fus := { clr := List.replicate 8 false, dis := [0, 0, 0, 0], disTold := List.replicate 4 false,
             zeroed := List.replicate 4 false, forced := List.replicate 4 false, high := 0 }
    mns := Mns.blank, cfgq := [], flight := none
    sent := { seq := 15, again := false, inven := false, linkloss := false, cmds := [0, 0, 0, 0], hold := 30, cfg := none }
    ret := none, retMiss := 0, retGood := 0, linkloss := false, retCfg := 255 }

end Sys2Proof.Machine
end

