-- ==== Sys2Proof/Machine/PartsRing.lean ====
section
/-! DEFINITION. The data of the Eunov ring and of general I/O beyond their registers (chapters 18 and 24). -/

namespace Sys2Proof.Machine

/-- A port: trained, a LINK request due, the time of the outstanding request in 1/16 tick-PLL cycle, the ticks of the last
request and since which the port is up (R509, R512, R514). -/
structure RingPort where
  trained : Bool
  due     : Bool
  req     : Option Nat
  reqTick : Nat
  upTick  : Nat
  deriving DecidableEq, Repr

/-- A message in the FIFO: source, BCAST, AUTH, TYPE and body words (R526). -/
structure RingMsg where
  src   : Nat
  bcast : Bool
  auth  : Bool
  type  : Nat
  body  : List Nat
  deriving DecidableEq, Repr

/-- What a unicast frame that awaits its answer was: a context's MSG, a remote access, or a SHEET of a channel. -/
inductive RingKind where
  | msg (ctx : Nat)
  | access
  | sheet (k : Nat)
  deriving DecidableEq, Repr

/-- A unicast frame that awaits its ACK or RSP: the frame, what it was, resends made and the tick of the last sending
(R524). -/
structure RingTx where
  frame : RingFrame
  kind  : RingKind
  tries : Nat
  sent  : Nat
  deriving DecidableEq, Repr

/-- What a node keeps of a source: highest SEQ accepted, the SEQs recorded with the answer given to each (type and payload),
and the last AUTHCTR accepted (R525, R528). -/
structure RingSrc where
  src  : Nat
  hi   : Nat
  seen : List (Nat × Option (Nat × List Nat))
  ctr  : Option Nat
  deriving DecidableEq, Repr

/-- A remote write that waits for phase 0: source, SEQ, offset, value, and whether its AUTH was accepted (R530). -/
structure RingWrite where
  src  : Nat
  seq  : Nat
  off  : Nat
  val  : Nat
  auth : Bool
  deriving DecidableEq, Repr

/-- A SHEET frame that waits for phase 0 (R532). -/
structure RingSheet where
  ch  : Nat
  no  : Nat
  t   : Nat
  raw : Nat
  src : Nat
  deriving DecidableEq, Repr

/-- The ring: ports, message and ACK FIFO (context, SEQ, RESULT), frames awaiting answers, sources, own SEQ and AUTHCTR,
last EID sent or seen, an ENUM waiting for phase 0 and the tick of the one sent, the tick of the last TICK set on each port,
ticks without one, the adjustment of this tick, a re-timing due (the tick number's change), remote writes and SHEETs waiting,
sheet numbers sent, and the REQ last broadcast (R508 to R532). -/
structure Ring where
  ports    : List RingPort
  fifo     : List RingMsg
  acks     : List (Nat × Nat × Nat)
  pend     : List RingTx
  srcs     : List RingSrc
  seq      : Nat
  ctr      : Nat
  eid      : Option Nat
  enumPend : Bool
  enumAt   : Option Nat
  lastSet  : List (Option Nat)
  noTick   : Nat
  adj      : Int
  retime   : Option Int
  writes   : List RingWrite
  sheetNo  : List Nat
  sheets   : List RingSheet
  gapSent  : Nat
  deriving DecidableEq, Repr

/-- The ring at reset: no port trained, nothing sent. -/
def Ring.blank : Ring :=
  { ports := List.replicate 2 ⟨false, false, none, 0, 0⟩, fifo := [], acks := [], pend := [], srcs := [], seq := 0, ctr := 0,
    eid := none, enumPend := false, enumAt := none, lastSet := [none, none], noTick := 0, adj := 0, retime := none,
    writes := [], sheetNo := [0, 0, 0, 0], sheets := [], gapSent := 0 }

/-- General I/O: frames queued on each SPI controller, the one being sent first; bytes to send and received of each UART
(R638, R640). -/
structure Iox where
  spi : List (List Nat)
  tx  : List (List Nat)
  rx  : List (List Nat)
  deriving DecidableEq, Repr

/-- General I/O at reset: every queue empty. -/
def Iox.blank : Iox := { spi := [[], []], tx := [[], []], rx := [[], []] }

end Sys2Proof.Machine
end

