-- ==== Sys2Proof/Machine/RegMap.lean ====
section
/-! DEFINITION. The register map: every register of Table 23-2 at its BAR0 address (R616), with its instances, its
reset value and the access code of each field as its chapter's register table gives them (R9 to R11). -/

namespace Sys2Proof.Machine

/-- Access codes of Table 0-5 (R11). -/
inductive Acc where
  | ro | rw | wo | w1c | w1p | rwp | rwi
  deriving DecidableEq, Repr

/-- The resource whose absence makes a register absent (R2, Table 2-9). -/
inductive Res where
  | always | station | beam | hvch | stepper | foc | csi | dram | enc | dec | mains
  deriving DecidableEq, Repr

/-- A field: bits [hi:lo] and its access code. Bits in no field are reserved and read 0 (R10). -/
structure FieldDesc where
  hi  : Nat
  lo  : Nat
  acc : Acc
  deriving DecidableEq, Repr

/-- A register or an array of registers. Instance (i, j) lies at base + s1 × i + s2 × j, for i from i0 to n1 - 1 and j
below n2 (R616). -/
structure RegDesc where
  base   : Nat
  i0     : Nat
  n1     : Nat
  s1     : Nat
  n2     : Nat
  s2     : Nat
  reset  : Nat
  res    : Res
  fields : List FieldDesc
  deriving DecidableEq, Repr

/-- One field of one register. -/
structure FldDesc where
  reg : RegDesc
  hi  : Nat
  lo  : Nat
  deriving DecidableEq, Repr

/-- BAR0 address of instance (i, j) of a register (R616). -/
def RegDesc.addr (r : RegDesc) (i j : Nat) : Nat := r.base + r.s1 * i + r.s2 * j

end Sys2Proof.Machine

namespace Sys2Proof.R

open Sys2Proof.Machine

/-- SYS_IDENT: reset 0x56599610. -/
def SYS_IDENT : RegDesc := ⟨0x0, 0, 1, 0x0, 1, 0, 0x56599610, .always, [⟨31, 16, .ro⟩, ⟨15, 8, .ro⟩, ⟨7, 4, .ro⟩, ⟨3, 0, .ro⟩]⟩
/-- SYS_FEAT: reset 0x0. -/
def SYS_FEAT : RegDesc := ⟨0x4, 0, 1, 0x0, 1, 0, 0x0, .always, [⟨31, 31, .ro⟩, ⟨30, 30, .ro⟩, ⟨29, 25, .ro⟩, ⟨24, 20, .ro⟩, ⟨19, 16, .ro⟩, ⟨15, 14, .ro⟩, ⟨13, 11, .ro⟩, ⟨10, 9, .ro⟩, ⟨8, 6, .ro⟩, ⟨5, 4, .ro⟩, ⟨3, 1, .ro⟩, ⟨0, 0, .ro⟩]⟩
/-- SYS_CTRL: reset 0x0. -/
def SYS_CTRL : RegDesc := ⟨0x8, 0, 1, 0x0, 1, 0, 0x0, .always, [⟨1, 1, .rwp⟩, ⟨0, 0, .w1p⟩]⟩
/-- SYS_RSTC: reset 0x0. -/
def SYS_RSTC : RegDesc := ⟨0xC, 0, 1, 0x0, 1, 0, 0x0, .always, [⟨31, 28, .ro⟩, ⟨23, 21, .ro⟩]⟩
/-- SYS_START: reset 0x0. -/
def SYS_START : RegDesc := ⟨0x10, 0, 1, 0x0, 1, 0, 0x0, .always, [⟨31, 30, .ro⟩, ⟨15, 1, .ro⟩, ⟨0, 0, .w1p⟩]⟩
/-- SYS_BIVC: reset 0x0. -/
def SYS_BIVC : RegDesc := ⟨0x14, 0, 1, 0x0, 1, 0, 0x0, .always, [⟨7, 0, .ro⟩]⟩
/-- SYS_WDOG: reset 0x61A8. -/
def SYS_WDOG : RegDesc := ⟨0x18, 0, 1, 0x0, 1, 0, 0x61A8, .always, [⟨23, 0, .rw⟩]⟩
/-- SYS_WDKICK: reset 0x0. -/
def SYS_WDKICK : RegDesc := ⟨0x1C, 0, 1, 0x0, 1, 0, 0x0, .always, [⟨0, 0, .w1p⟩]⟩
/-- SYS_BCCFG: reset 0x14. -/
def SYS_BCCFG : RegDesc := ⟨0x20, 0, 1, 0x0, 1, 0, 0x14, .always, [⟨7, 0, .rwp⟩]⟩
/-- SYS_PCYC: reset 0x0. -/
def SYS_PCYC : RegDesc := ⟨0x24, 0, 1, 0x0, 1, 0, 0x0, .always, [⟨31, 0, .ro⟩]⟩
/-- SYS_OPSEC: reset 0x0. -/
def SYS_OPSEC : RegDesc := ⟨0x28, 0, 1, 0x0, 1, 0, 0x0, .always, [⟨31, 0, .ro⟩]⟩
/-- SYS_RTC: reset 0x0. -/
def SYS_RTC : RegDesc := ⟨0x2C, 0, 1, 0x0, 1, 0, 0x0, .always, [⟨31, 0, .rw⟩]⟩
/-- SYS_RTCALM: reset 0x0. -/
def SYS_RTCALM : RegDesc := ⟨0x30, 0, 1, 0x0, 1, 0, 0x0, .always, [⟨31, 0, .rw⟩]⟩
/-- SYS_ABNCNT: reset 0x0. -/
def SYS_ABNCNT : RegDesc := ⟨0x34, 0, 1, 0x0, 1, 0, 0x0, .always, [⟨31, 0, .w1c⟩]⟩
/-- SYS_BCCAUSE: reset 0x0. -/
def SYS_BCCAUSE : RegDesc := ⟨0x38, 0, 1, 0x0, 1, 0, 0x0, .always, [⟨31, 24, .ro⟩]⟩
/-- SYS_BCHDL: reset 0x0. -/
def SYS_BCHDL : RegDesc := ⟨0x3C, 0, 1, 0x0, 1, 0, 0x0, .always, [⟨31, 0, .ro⟩]⟩
/-- SYS_ABS0: reset 0x0. -/
def SYS_ABS0 : RegDesc := ⟨0x40, 0, 1, 0x0, 1, 0, 0x0, .always, [⟨31, 24, .w1c⟩, ⟨23, 16, .w1c⟩, ⟨15, 8, .w1c⟩, ⟨7, 0, .w1c⟩]⟩
/-- SYS_ABS1: reset 0x0. -/
def SYS_ABS1 : RegDesc := ⟨0x44, 0, 1, 0x0, 1, 0, 0x0, .always, [⟨31, 24, .w1c⟩, ⟨23, 16, .w1c⟩, ⟨15, 8, .w1c⟩, ⟨7, 0, .w1c⟩]⟩
/-- TCK_CTRL: reset 0x0. -/
def TCK_CTRL : RegDesc := ⟨0x10000, 0, 1, 0x0, 1, 0, 0x0, .always, [⟨0, 0, .w1p⟩]⟩
/-- TCK_COUNT_LO: reset 0x0. -/
def TCK_COUNT_LO : RegDesc := ⟨0x10004, 0, 1, 0x0, 1, 0, 0x0, .always, [⟨31, 0, .ro⟩]⟩
/-- TCK_COUNT_HI: reset 0x0. -/
def TCK_COUNT_HI : RegDesc := ⟨0x10008, 0, 1, 0x0, 1, 0, 0x0, .always, [⟨15, 0, .ro⟩]⟩
/-- TCK_PHASE: reset 0x0. -/
def TCK_PHASE : RegDesc := ⟨0x1000C, 0, 1, 0x0, 1, 0, 0x0, .always, [⟨12, 4, .ro⟩, ⟨3, 0, .ro⟩]⟩
/-- TCK_STAT: reset 0x0. -/
def TCK_STAT : RegDesc := ⟨0x10010, 0, 1, 0x0, 1, 0, 0x0, .always, [⟨3, 3, .w1c⟩, ⟨2, 2, .ro⟩, ⟨1, 1, .ro⟩, ⟨0, 0, .ro⟩]⟩
/-- TCK_ADJ: reset 0x0. -/
def TCK_ADJ : RegDesc := ⟨0x10014, 0, 1, 0x0, 1, 0, 0x0, .always, [⟨1, 0, .ro⟩]⟩
/-- PLC_CTRL: reset 0x0. -/
def PLC_CTRL : RegDesc := ⟨0x20000, 0, 1, 0x0, 1, 0, 0x0, .always, [⟨0, 0, .w1p⟩]⟩
/-- PLC_STAT: reset 0x0. -/
def PLC_STAT : RegDesc := ⟨0x20004, 0, 1, 0x0, 1, 0, 0x0, .always, [⟨4, 4, .w1c⟩, ⟨3, 3, .ro⟩, ⟨2, 2, .ro⟩, ⟨1, 0, .ro⟩]⟩
/-- PLC_REFUSE: reset 0x0. -/
def PLC_REFUSE : RegDesc := ⟨0x20008, 0, 1, 0x0, 1, 0, 0x0, .always, [⟨31, 8, .ro⟩, ⟨7, 0, .ro⟩]⟩
/-- PLC_LANEMAP: reset 0x0. -/
def PLC_LANEMAP : RegDesc := ⟨0x20010, 0, 1, 0x0, 1, 0, 0x0, .always, [⟨27, 0, .rwi⟩]⟩
/-- PLC_PAIRMAP: reset 0x76543210. -/
def PLC_PAIRMAP : RegDesc := ⟨0x20014, 0, 1, 0x0, 1, 0, 0x76543210, .always, [⟨31, 0, .ro⟩]⟩
/-- PLC_DMASLOT: reset 0x0. -/
def PLC_DMASLOT : RegDesc := ⟨0x20018, 0, 1, 0x0, 1, 0, 0x0, .always, [⟨8, 0, .ro⟩]⟩
/-- PLC_RETAIN: reset 0x0. -/
def PLC_RETAIN : RegDesc := ⟨0x2001C, 0, 1, 0x0, 1, 0, 0x0, .always, [⟨15, 0, .rwi⟩]⟩
/-- PLC_Pp_LOAD: reset 0x0. -/
def PLC_P_LOAD : RegDesc := ⟨0x20020, 0, 8, 0x4, 1, 0, 0x0, .always, [⟨24, 16, .ro⟩, ⟨15, 0, .ro⟩]⟩
/-- PLC_Ee_LOAD: reset 0x0. -/
def PLC_E_LOAD : RegDesc := ⟨0x20040, 0, 4, 0x4, 1, 0, 0x0, .always, [⟨21, 16, .ro⟩, ⟨15, 0, .ro⟩]⟩
/-- PLC_MAXCLASS: reset 0x0. -/
def PLC_MAXCLASS : RegDesc := ⟨0x20050, 0, 1, 0x0, 1, 0, 0x0, .always, [⟨9, 9, .ro⟩, ⟨8, 8, .ro⟩, ⟨3, 0, .ro⟩]⟩
/-- PLC_OVRLIM: reset 0x4. -/
def PLC_OVRLIM : RegDesc := ⟨0x20054, 0, 1, 0x0, 1, 0, 0x4, .always, [⟨3, 0, .rw⟩]⟩
/-- PLC_OVRCNT: reset 0x0. -/
def PLC_OVRCNT : RegDesc := ⟨0x20058, 0, 1, 0x0, 1, 0, 0x0, .always, [⟨31, 0, .w1c⟩]⟩
/-- PLC_LASTOVR: reset 0x0. -/
def PLC_LASTOVR : RegDesc := ⟨0x2005C, 0, 1, 0x0, 1, 0, 0x0, .always, [⟨31, 16, .ro⟩, ⟨13, 12, .ro⟩, ⟨8, 0, .ro⟩]⟩
/-- PLC_Cc_FREE: reset 0x0. -/
def PLC_C_FREE : RegDesc := ⟨0x20060, 0, 4, 0x4, 1, 0, 0x0, .dram, [⟨16, 0, .ro⟩]⟩
/-- SEQ_STAT: reset 0x0. -/
def SEQ_STAT : RegDesc := ⟨0x30000, 0, 1, 0x0, 1, 0, 0x0, .always, [⟨4, 4, .w1c⟩, ⟨3, 0, .ro⟩]⟩
/-- SEQ_PAIRSTAT: reset 0x10000. -/
def SEQ_PAIRSTAT : RegDesc := ⟨0x30004, 0, 1, 0x0, 1, 0, 0x10000, .always, [⟨26, 18, .ro⟩, ⟨17, 0, .ro⟩]⟩
/-- SEQ_RBCNT: reset 0x0. -/
def SEQ_RBCNT : RegDesc := ⟨0x30008, 0, 1, 0x0, 1, 0, 0x0, .always, [⟨31, 0, .ro⟩]⟩
/-- SEQ_LASTRB: reset 0x0. -/
def SEQ_LASTRB : RegDesc := ⟨0x3000C, 0, 1, 0x0, 1, 0, 0x0, .always, [⟨31, 16, .ro⟩, ⟨7, 7, .ro⟩, ⟨3, 0, .ro⟩]⟩
/-- SEQ_CTXSEL: reset 0x0. -/
def SEQ_CTXSEL : RegDesc := ⟨0x30010, 0, 1, 0x0, 1, 0, 0x0, .always, [⟨8, 0, .rw⟩]⟩
/-- SEQ_CTXSTAT: reset 0x0. -/
def SEQ_CTXSTAT : RegDesc := ⟨0x30014, 0, 1, 0x0, 1, 0, 0x0, .always, [⟨31, 31, .ro⟩, ⟨30, 28, .ro⟩, ⟨27, 24, .ro⟩, ⟨23, 23, .ro⟩, ⟨22, 20, .ro⟩, ⟨15, 8, .ro⟩, ⟨3, 0, .ro⟩]⟩
/-- SEQ_CTXPC: reset 0x0. -/
def SEQ_CTXPC : RegDesc := ⟨0x30018, 0, 1, 0x0, 1, 0, 0x0, .always, [⟨19, 0, .ro⟩]⟩
/-- SEQ_CTXCMD: reset 0x0. -/
def SEQ_CTXCMD : RegDesc := ⟨0x3001C, 0, 1, 0x0, 1, 0, 0x0, .always, [⟨1, 1, .w1p⟩, ⟨0, 0, .w1p⟩]⟩
/-- SEQ_FAULT: reset 0x0. -/
def SEQ_FAULT : RegDesc := ⟨0x30020, 0, 1, 0x0, 1, 0, 0x0, .always, [⟨31, 24, .ro⟩, ⟨8, 0, .ro⟩]⟩
/-- SEQ_EVSET: reset 0x0. -/
def SEQ_EVSET : RegDesc := ⟨0x30024, 0, 1, 0x0, 1, 0, 0x0, .always, [⟨9, 0, .wo⟩]⟩
/-- SEQ_LDADDR_LO: reset 0x0. -/
def SEQ_LDADDR_LO : RegDesc := ⟨0x30040, 0, 1, 0x0, 1, 0, 0x0, .always, [⟨31, 6, .rwp⟩]⟩
/-- SEQ_LDADDR_HI: reset 0x0. -/
def SEQ_LDADDR_HI : RegDesc := ⟨0x30044, 0, 1, 0x0, 1, 0, 0x0, .always, [⟨31, 0, .rwp⟩]⟩
/-- SEQ_LDLEN: reset 0x0. -/
def SEQ_LDLEN : RegDesc := ⟨0x30048, 0, 1, 0x0, 1, 0, 0x0, .always, [⟨21, 0, .rwp⟩]⟩
/-- SEQ_LDCTRL: reset 0x0. -/
def SEQ_LDCTRL : RegDesc := ⟨0x3004C, 0, 1, 0x0, 1, 0, 0x0, .always, [⟨2, 2, .rwp⟩, ⟨1, 1, .rwp⟩, ⟨0, 0, .rwp⟩]⟩
/-- SEQ_LDSTAT: reset 0x0. -/
def SEQ_LDSTAT : RegDesc := ⟨0x30050, 0, 1, 0x0, 1, 0, 0x0, .always, [⟨31, 24, .ro⟩, ⟨2, 0, .ro⟩]⟩
/-- SEQ_IMGINFO: reset 0x0. -/
def SEQ_IMGINFO : RegDesc := ⟨0x30054, 0, 1, 0x0, 1, 0, 0x0, .always, [⟨31, 16, .ro⟩, ⟨1, 1, .ro⟩, ⟨0, 0, .ro⟩]⟩
/-- SEQ_EVg: reset 0x0. -/
def SEQ_EV : RegDesc := ⟨0x30100, 0, 32, 0x4, 1, 0, 0x0, .always, [⟨31, 0, .w1c⟩]⟩
/-- SEQ_Tt_CTRL: reset 0x0. -/
def SEQ_T_CTRL : RegDesc := ⟨0x30200, 0, 64, 0x8, 1, 0, 0x0, .always, [⟨31, 31, .rw⟩, ⟨30, 30, .rw⟩, ⟨23, 0, .rw⟩]⟩
/-- SEQ_Tt_CNT: reset 0x0. -/
def SEQ_T_CNT : RegDesc := ⟨0x30204, 0, 64, 0x8, 1, 0, 0x0, .always, [⟨23, 0, .ro⟩]⟩
/-- FMT_STAT: reset 0x0. -/
def FMT_STAT : RegDesc := ⟨0x40000, 0, 1, 0x0, 1, 0, 0x0, .always, [⟨15, 15, .ro⟩, ⟨14, 14, .ro⟩, ⟨13, 11, .ro⟩, ⟨10, 8, .ro⟩, ⟨6, 0, .ro⟩]⟩
/-- FMT_Ww_CTRL: reset 0x0. -/
def FMT_W_CTRL : RegDesc := ⟨0x40010, 0, 4, 0x20, 1, 0, 0x0, .always, [⟨2, 2, .rw⟩, ⟨1, 1, .w1p⟩, ⟨0, 0, .w1p⟩]⟩
/-- FMT_Ww_RSHDL: reset 0x0. -/
def FMT_W_RSHDL : RegDesc := ⟨0x40014, 0, 4, 0x20, 1, 0, 0x0, .always, [⟨31, 0, .rw⟩]⟩
/-- FMT_Ww_RSBLK: reset 0x0. -/
def FMT_W_RSBLK : RegDesc := ⟨0x40018, 0, 4, 0x20, 1, 0, 0x0, .always, [⟨19, 17, .rw⟩, ⟨16, 0, .rw⟩]⟩
/-- FMT_Ww_STAT: reset 0x0. -/
def FMT_W_STAT : RegDesc := ⟨0x4001C, 0, 4, 0x20, 1, 0, 0x0, .always, [⟨31, 24, .ro⟩, ⟨23, 22, .ro⟩, ⟨21, 21, .w1c⟩, ⟨19, 17, .ro⟩, ⟨16, 0, .ro⟩]⟩
/-- FMT_Ww_ACK: reset 0x0. -/
def FMT_W_ACK : RegDesc := ⟨0x40020, 0, 4, 0x20, 1, 0, 0x0, .always, [⟨31, 0, .ro⟩]⟩
/-- FMT_Ww_LIMIT: reset 0x0. -/
def FMT_W_LIMIT : RegDesc := ⟨0x40024, 0, 4, 0x20, 1, 0, 0x0, .always, [⟨31, 0, .ro⟩]⟩
/-- FMT_Ww_HANDLE: reset 0x0. -/
def FMT_W_HANDLE : RegDesc := ⟨0x40028, 0, 4, 0x20, 1, 0, 0x0, .always, [⟨31, 0, .ro⟩]⟩
/-- FMT_Ww_DROP: reset 0x0. -/
def FMT_W_DROP : RegDesc := ⟨0x4002C, 0, 4, 0x20, 1, 0, 0x0, .always, [⟨31, 0, .w1c⟩]⟩
/-- FMT_QUEUE: reset 0x0. -/
def FMT_QUEUE : RegDesc := ⟨0x40100, 0, 1, 0x0, 1, 0, 0x0, .always, [⟨31, 0, .wo⟩]⟩
/-- FMT_QSTAT: reset 0x0. -/
def FMT_QSTAT : RegDesc := ⟨0x40104, 0, 1, 0x0, 1, 0, 0x0, .always, [⟨23, 23, .w1c⟩, ⟨22, 16, .ro⟩, ⟨6, 0, .ro⟩]⟩
/-- FMT_CMDHDL: reset 0x0. -/
def FMT_CMDHDL : RegDesc := ⟨0x40108, 0, 1, 0x0, 1, 0, 0x0, .always, [⟨31, 0, .rw⟩]⟩
/-- FMT_CMD: reset 0x0. -/
def FMT_CMD : RegDesc := ⟨0x4010C, 0, 1, 0x0, 1, 0, 0x0, .always, [⟨1, 1, .w1p⟩, ⟨0, 0, .w1p⟩]⟩
/-- FMT_CMDSTAT: reset 0x0. -/
def FMT_CMDSTAT : RegDesc := ⟨0x40110, 0, 1, 0x0, 1, 0, 0x0, .always, [⟨1, 0, .ro⟩]⟩
/-- FMT_HEAD: reset 0x0. -/
def FMT_HEAD : RegDesc := ⟨0x40114, 0, 1, 0x0, 1, 0, 0x0, .always, [⟨31, 0, .ro⟩]⟩
/-- FMT_HEADSTAT: reset 0x0. -/
def FMT_HEADSTAT : RegDesc := ⟨0x40118, 0, 1, 0x0, 1, 0, 0x0, .always, [⟨31, 31, .ro⟩, ⟨27, 24, .ro⟩, ⟨23, 16, .ro⟩, ⟨15, 12, .ro⟩, ⟨11, 4, .ro⟩, ⟨3, 0, .ro⟩]⟩
/-- FMT_HEADINFO: reset 0x0. -/
def FMT_HEADINFO : RegDesc := ⟨0x4011C, 0, 1, 0x0, 1, 0, 0x0, .always, [⟨31, 0, .ro⟩]⟩
/-- FMT_PGSTART: reset 0x0. -/
def FMT_PGSTART : RegDesc := ⟨0x40120, 0, 1, 0x0, 1, 0, 0x0, .always, [⟨31, 0, .wo⟩]⟩
/-- FMT_IMAGING: reset 0x0. -/
def FMT_IMAGING : RegDesc := ⟨0x40124, 0, 1, 0x0, 1, 0, 0x0, .always, [⟨31, 0, .ro⟩]⟩
/-- FMT_DONE_HDL: reset 0x0. -/
def FMT_DONE_HDL : RegDesc := ⟨0x40128, 0, 1, 0x0, 1, 0, 0x0, .always, [⟨31, 0, .ro⟩]⟩
/-- FMT_DONE_STAT: reset 0x0. -/
def FMT_DONE_STAT : RegDesc := ⟨0x4012C, 0, 1, 0x0, 1, 0, 0x0, .always, [⟨31, 28, .ro⟩, ⟨27, 27, .ro⟩, ⟨23, 16, .ro⟩, ⟨15, 0, .ro⟩]⟩
/-- FMT_DONE_POP: reset 0x0. -/
def FMT_DONE_POP : RegDesc := ⟨0x40130, 0, 1, 0x0, 1, 0, 0x0, .always, [⟨0, 0, .w1p⟩]⟩
/-- FMT_GAP: reset 0x0. -/
def FMT_GAP : RegDesc := ⟨0x40134, 0, 1, 0x0, 1, 0, 0x0, .always, [⟨31, 16, .ro⟩, ⟨15, 0, .rw⟩]⟩
/-- FMT_GAPREQ: reset 0x0. -/
def FMT_GAPREQ : RegDesc := ⟨0x40138, 0, 1, 0x0, 1, 0, 0x0, .always, [⟨31, 31, .ro⟩, ⟨30, 30, .w1p⟩, ⟨15, 0, .ro⟩]⟩
/-- FMT_GAPGRACE: reset 0x0. -/
def FMT_GAPGRACE : RegDesc := ⟨0x4013C, 0, 1, 0x0, 1, 0, 0x0, .always, [⟨24, 0, .ro⟩]⟩
/-- FMT_SPDk: reset 0x0. -/
def FMT_SPD : RegDesc := ⟨0x4013C, 1, 16, 0x4, 1, 0, 0x0, .always, [⟨10, 0, .rwi⟩]⟩
/-- FMT_DWIN: reset 0x0. -/
def FMT_DWIN : RegDesc := ⟨0x40180, 0, 1, 0x0, 1, 0, 0x0, .always, [⟨21, 20, .rw⟩, ⟨16, 0, .rw⟩]⟩
/-- CDC_STAT: reset 0x0. -/
def CDC_STAT : RegDesc := ⟨0x50000, 0, 1, 0x0, 1, 0, 0x0, .always, [⟨11, 8, .ro⟩, ⟨6, 4, .ro⟩, ⟨3, 3, .ro⟩]⟩
/-- CDC_DEC_FAILCNT: reset 0x0. -/
def CDC_DEC_FAILCNT : RegDesc := ⟨0x50004, 0, 1, 0x0, 1, 0, 0x0, .always, [⟨31, 0, .w1c⟩]⟩
/-- CDC_DEC_LAST: reset 0x0. -/
def CDC_DEC_LAST : RegDesc := ⟨0x50008, 0, 1, 0x0, 1, 0, 0x0, .always, [⟨31, 28, .ro⟩, ⟨27, 24, .ro⟩, ⟨22, 20, .ro⟩, ⟨19, 17, .ro⟩, ⟨16, 0, .ro⟩]⟩
/-- CDC_DEC_BLANK: reset 0x0. -/
def CDC_DEC_BLANK : RegDesc := ⟨0x5000C, 0, 1, 0x0, 1, 0, 0x0, .always, [⟨31, 0, .w1c⟩]⟩
/-- CDC_ENC_DROP: reset 0x0. -/
def CDC_ENC_DROP : RegDesc := ⟨0x50010, 0, 1, 0x0, 1, 0, 0x0, .always, [⟨31, 16, .w1c⟩, ⟨15, 0, .w1c⟩]⟩
/-- CDC_Dl_STAT: reset 0x0. -/
def CDC_D_STAT : RegDesc := ⟨0x50020, 0, 7, 0x4, 1, 0, 0x0, .dec, [⟨31, 28, .ro⟩, ⟨27, 25, .ro⟩, ⟨22, 17, .ro⟩, ⟨16, 0, .ro⟩]⟩
/-- CDC_Ee_CFG: reset 0x1000000. -/
def CDC_E_CFG : RegDesc := ⟨0x50100, 0, 2, 0x40, 1, 0, 0x1000000, .enc, [⟨24, 18, .rwi⟩, ⟨17, 17, .rwi⟩, ⟨16, 15, .rwi⟩, ⟨14, 13, .rwi⟩, ⟨12, 11, .rwi⟩, ⟨10, 10, .rwi⟩]⟩
/-- CDC_Ee_CTRL: reset 0x0. -/
def CDC_E_CTRL : RegDesc := ⟨0x50104, 0, 2, 0x40, 1, 0, 0x0, .enc, [⟨2, 2, .w1p⟩, ⟨1, 1, .w1p⟩, ⟨0, 0, .rw⟩]⟩
/-- CDC_Ee_RING: reset 0x40. -/
def CDC_E_RING : RegDesc := ⟨0x50108, 0, 2, 0x40, 1, 0, 0x40, .enc, [⟨12, 0, .rwi⟩]⟩
/-- CDC_Ee_RINGLOC: reset 0x0. -/
def CDC_E_RINGLOC : RegDesc := ⟨0x5010C, 0, 2, 0x40, 1, 0, 0x0, .enc, [⟨21, 20, .ro⟩, ⟨16, 0, .ro⟩]⟩
/-- CDC_Ee_WRPTR: reset 0x0. -/
def CDC_E_WRPTR : RegDesc := ⟨0x50110, 0, 2, 0x40, 1, 0, 0x0, .enc, [⟨21, 0, .ro⟩]⟩
/-- CDC_Ee_RDPTR: reset 0x0. -/
def CDC_E_RDPTR : RegDesc := ⟨0x50114, 0, 2, 0x40, 1, 0, 0x0, .enc, [⟨21, 0, .rw⟩]⟩
/-- CDC_Ee_DOFF: reset 0x0. -/
def CDC_E_DOFF : RegDesc := ⟨0x50118, 0, 2, 0x40, 1, 0, 0x0, .enc, [⟨21, 0, .ro⟩]⟩
/-- CDC_Ee_DLEN: reset 0x0. -/
def CDC_E_DLEN : RegDesc := ⟨0x5011C, 0, 2, 0x40, 1, 0, 0x0, .enc, [⟨31, 31, .ro⟩, ⟨30, 30, .ro⟩, ⟨29, 29, .ro⟩, ⟨23, 0, .ro⟩]⟩
/-- CDC_Ee_DPOP: reset 0x0. -/
def CDC_E_DPOP : RegDesc := ⟨0x50120, 0, 2, 0x40, 1, 0, 0x0, .enc, [⟨0, 0, .w1p⟩]⟩
/-- CDC_Ee_STAT: reset 0x0. -/
def CDC_E_STAT : RegDesc := ⟨0x50124, 0, 2, 0x40, 1, 0, 0x0, .enc, [⟨31, 30, .ro⟩, ⟨29, 29, .ro⟩, ⟨28, 28, .w1c⟩, ⟨27, 27, .ro⟩, ⟨26, 24, .ro⟩, ⟨20, 16, .ro⟩]⟩
/-- BST_UPD: reset 0x0. -/
def BST_UPD : RegDesc := ⟨0x60000, 0, 1, 0x0, 1, 0, 0x0, .always, [⟨0, 0, .w1p⟩]⟩
/-- BST_UPDSTAT: reset 0x0. -/
def BST_UPDSTAT : RegDesc := ⟨0x60004, 0, 1, 0x0, 1, 0, 0x0, .always, [⟨31, 31, .ro⟩, ⟨30, 30, .w1c⟩, ⟨29, 27, .ro⟩, ⟨23, 16, .ro⟩, ⟨15, 0, .ro⟩]⟩
/-- BST_Ss_CFG: reset 0x20. -/
def BST_S_CFG : RegDesc := ⟨0x61000, 0, 6, 0x1000, 1, 0, 0x20, .station, [⟨31, 31, .rwi⟩, ⟨30, 24, .rwi⟩, ⟨21, 16, .rwi⟩, ⟨5, 0, .rwi⟩]⟩
/-- BST_Ss_LPC: reset 0x10000. -/
def BST_S_LPC : RegDesc := ⟨0x61004, 0, 6, 0x1000, 1, 0, 0x10000, .station, [⟨31, 0, .rwi⟩]⟩
/-- BST_Ss_START: reset 0x0. -/
def BST_S_START : RegDesc := ⟨0x61008, 0, 6, 0x1000, 1, 0, 0x0, .station, [⟨19, 0, .rwi⟩]⟩
/-- BST_Ss_STAT: reset 0x0. -/
def BST_S_STAT : RegDesc := ⟨0x6100C, 0, 6, 0x1000, 1, 0, 0x0, .station, [⟨31, 30, .ro⟩, ⟨29, 29, .ro⟩, ⟨17, 9, .ro⟩, ⟨7, 0, .ro⟩]⟩
/-- BST_Ss_LAG: reset 0x0. -/
def BST_S_LAG : RegDesc := ⟨0x61010, 0, 6, 0x1000, 1, 0, 0x0, .station, [⟨15, 0, .ro⟩]⟩
/-- BST_Ss_SCAN: reset 0x0. -/
def BST_S_SCAN : RegDesc := ⟨0x61014, 0, 6, 0x1000, 1, 0, 0x0, .station, [⟨17, 0, .ro⟩]⟩
/-- BST_Ss_DROPCNT: reset 0x0. -/
def BST_S_DROPCNT : RegDesc := ⟨0x61018, 0, 6, 0x1000, 1, 0, 0x0, .station, [⟨31, 0, .w1c⟩]⟩
/-- BST_Ss_PGDROP: reset 0x0. -/
def BST_S_PGDROP : RegDesc := ⟨0x6101C, 0, 6, 0x1000, 1, 0, 0x0, .station, [⟨15, 0, .ro⟩]⟩
/-- BST_Ss_REMAPb: reset 0x0. -/
def BST_S_REMAP : RegDesc := ⟨0x61100, 0, 6, 0x1000, 32, 4, 0x0, .beam, [⟨22, 16, .ro⟩, ⟨6, 0, .rw⟩]⟩
/-- BST_Ss_ZOFFz: reset 0x0. -/
def BST_S_ZOFF : RegDesc := ⟨0x61200, 0, 6, 0x1000, 64, 4, 0x0, .station, [⟨23, 16, .ro⟩, ⟨7, 0, .rw⟩]⟩
/-- EXP_ILK: reset 0x4. -/
def EXP_ILK : RegDesc := ⟨0x70000, 0, 1, 0x0, 1, 0, 0x4, .always, [⟨3, 3, .w1p⟩, ⟨2, 2, .ro⟩, ⟨1, 1, .ro⟩, ⟨0, 0, .ro⟩]⟩
/-- EXP_Ss_CTRL: reset 0x0. -/
def EXP_S_CTRL : RegDesc := ⟨0x71000, 0, 6, 0x1000, 1, 0, 0x0, .station, [⟨0, 0, .rw⟩]⟩
/-- EXP_Ss_STAT: reset 0x0. -/
def EXP_S_STAT : RegDesc := ⟨0x71004, 0, 6, 0x1000, 1, 0, 0x0, .station, [⟨31, 31, .ro⟩, ⟨30, 30, .ro⟩, ⟨29, 29, .ro⟩, ⟨27, 24, .ro⟩]⟩
/-- EXP_Ss_SPICFG: reset 0x80. -/
def EXP_S_SPICFG : RegDesc := ⟨0x71008, 0, 6, 0x1000, 1, 0, 0x80, .station, [⟨31, 24, .rw⟩, ⟨23, 16, .rw⟩, ⟨15, 8, .rw⟩, ⟨7, 7, .rw⟩, ⟨6, 5, .rw⟩, ⟨4, 0, .rw⟩]⟩
/-- EXP_Ss_SPICMD: reset 0x0. -/
def EXP_S_SPICMD : RegDesc := ⟨0x7100C, 0, 6, 0x1000, 1, 0, 0x0, .station, [⟨1, 1, .w1p⟩, ⟨0, 0, .w1p⟩]⟩
/-- EXP_Ss_SPIRAW: reset 0x0. -/
def EXP_S_SPIRAW : RegDesc := ⟨0x71010, 0, 6, 0x1000, 1, 0, 0x0, .station, [⟨31, 0, .rw⟩]⟩
/-- EXP_Ss_SPIRD: reset 0x0. -/
def EXP_S_SPIRD : RegDesc := ⟨0x71014, 0, 6, 0x1000, 1, 0, 0x0, .station, [⟨31, 0, .ro⟩]⟩
/-- EXP_Ss_PWR: reset 0x0. -/
def EXP_S_PWR : RegDesc := ⟨0x71018, 0, 6, 0x1000, 1, 0, 0x0, .station, [⟨15, 0, .rw⟩]⟩
/-- EXP_Ss_APCCFG: reset 0x4000. -/
def EXP_S_APCCFG : RegDesc := ⟨0x7101C, 0, 6, 0x1000, 1, 0, 0x4000, .station, [⟨31, 16, .rw⟩, ⟨15, 8, .rw⟩, ⟨5, 0, .rw⟩]⟩
/-- EXP_Ss_APCSTB: reset 0x20. -/
def EXP_S_APCSTB : RegDesc := ⟨0x71020, 0, 6, 0x1000, 1, 0, 0x20, .station, [⟨20, 16, .rw⟩, ⟨7, 0, .rw⟩]⟩
/-- EXP_Ss_MONAVG: reset 0x0. -/
def EXP_S_MONAVG : RegDesc := ⟨0x71024, 0, 6, 0x1000, 1, 0, 0x0, .station, [⟨11, 0, .ro⟩]⟩
/-- EXP_Ss_DCFG: reset 0x0. -/
def EXP_S_DCFG : RegDesc := ⟨0x71028, 0, 6, 0x1000, 1, 0, 0x0, .station, [⟨31, 25, .rwi⟩, ⟨24, 15, .rwi⟩, ⟨14, 7, .rwi⟩]⟩
/-- EXP_Ss_EMAX: reset 0xFFFFFFFF. -/
def EXP_S_EMAX : RegDesc := ⟨0x7102C, 0, 6, 0x1000, 1, 0, 0xFFFFFFFF, .station, [⟨31, 0, .rwi⟩]⟩
/-- EXP_Ss_SMAX: reset 0xFFFFFFFF. -/
def EXP_S_SMAX : RegDesc := ⟨0x71030, 0, 6, 0x1000, 1, 0, 0xFFFFFFFF, .station, [⟨31, 0, .rwi⟩]⟩
/-- EXP_Ss_SSUM: reset 0x0. -/
def EXP_S_SSUM : RegDesc := ⟨0x71034, 0, 6, 0x1000, 1, 0, 0x0, .station, [⟨31, 0, .ro⟩]⟩
/-- EXP_Ss_EPEAK: reset 0x0. -/
def EXP_S_EPEAK : RegDesc := ⟨0x71038, 0, 6, 0x1000, 1, 0, 0x0, .station, [⟨31, 0, .ro⟩]⟩
/-- EXP_Ss_DSTAT: reset 0x0. -/
def EXP_S_DSTAT : RegDesc := ⟨0x7103C, 0, 6, 0x1000, 1, 0, 0x0, .station, [⟨31, 31, .w1c⟩, ⟨30, 30, .w1c⟩, ⟨29, 29, .w1c⟩, ⟨28, 28, .w1c⟩, ⟨20, 16, .ro⟩, ⟨15, 0, .ro⟩]⟩
/-- EXP_Ss_TONEi: reset 0x0. -/
def EXP_S_TONE : RegDesc := ⟨0x71100, 0, 6, 0x1000, 64, 4, 0x0, .station, [⟨31, 24, .rw⟩, ⟨23, 16, .rw⟩, ⟨15, 8, .rw⟩, ⟨7, 0, .rw⟩]⟩
/-- EXP_Ss_TACTi: reset 0x0. -/
def EXP_S_TACT : RegDesc := ⟨0x71200, 0, 6, 0x1000, 64, 4, 0x0, .station, [⟨31, 0, .ro⟩]⟩
/-- EXP_Ss_BDLYb: reset 0x0. -/
def EXP_S_BDLY : RegDesc := ⟨0x71300, 0, 6, 0x1000, 32, 4, 0x0, .beam, [⟨27, 16, .ro⟩, ⟨11, 0, .rw⟩]⟩
/-- EXP_Ss_TRIMb: reset 0x0. -/
def EXP_S_TRIM : RegDesc := ⟨0x71380, 0, 6, 0x1000, 32, 4, 0x0, .beam, [⟨15, 0, .rw⟩]⟩
/-- EXP_Ss_MONb: reset 0x0. -/
def EXP_S_MON : RegDesc := ⟨0x71400, 0, 6, 0x1000, 32, 4, 0x0, .beam, [⟨11, 0, .ro⟩]⟩
/-- SCN_LPER: reset 0x10895555. -/
def SCN_LPER : RegDesc := ⟨0x80000, 0, 1, 0x0, 1, 0, 0x10895555, .always, [⟨31, 0, .rw⟩]⟩
/-- SCN_CLAMP: reset 0x0. -/
def SCN_CLAMP : RegDesc := ⟨0x80004, 0, 1, 0x0, 1, 0, 0x0, .always, [⟨31, 31, .rw⟩, ⟨30, 24, .rw⟩]⟩
/-- SCN_CLAMPK: reset 0x0. -/
def SCN_CLAMPK : RegDesc := ⟨0x80008, 0, 1, 0x0, 1, 0, 0x0, .always, [⟨31, 0, .rw⟩]⟩
/-- SCN_STAT: reset 0x0. -/
def SCN_STAT : RegDesc := ⟨0x8000C, 0, 1, 0x0, 1, 0, 0x0, .always, [⟨31, 31, .w1c⟩, ⟨10, 0, .ro⟩]⟩
/-- SCN_Ss_CFG: reset 0x700000. -/
def SCN_S_CFG : RegDesc := ⟨0x81000, 0, 6, 0x1000, 1, 0, 0x700000, .station, [⟨31, 31, .rwi⟩, ⟨30, 29, .rwi⟩, ⟨28, 27, .rwi⟩, ⟨26, 26, .rwi⟩, ⟨25, 25, .rwi⟩, ⟨23, 20, .rwi⟩]⟩
/-- SCN_Ss_RPM: reset 0x3E8EA60. -/
def SCN_S_RPM : RegDesc := ⟨0x81004, 0, 6, 0x1000, 1, 0, 0x3E8EA60, .station, [⟨31, 16, .rwi⟩, ⟨15, 0, .rwi⟩]⟩
/-- SCN_Ss_PXF: reset 0x0. -/
def SCN_S_PXF : RegDesc := ⟨0x81008, 0, 6, 0x1000, 1, 0, 0x0, .station, [⟨31, 0, .rwi⟩]⟩
/-- SCN_Ss_SCANMAX: reset 0x0. -/
def SCN_S_SCANMAX : RegDesc := ⟨0x8100C, 0, 6, 0x1000, 1, 0, 0x0, .station, [⟨15, 0, .rwi⟩]⟩
/-- SCN_Ss_BDWIN: reset 0xC80190. -/
def SCN_S_BDWIN : RegDesc := ⟨0x81010, 0, 6, 0x1000, 1, 0, 0xC80190, .station, [⟨31, 16, .rwi⟩, ⟨15, 0, .rwi⟩]⟩
/-- SCN_Ss_SOLDLY: reset 0x800. -/
def SCN_S_SOLDLY : RegDesc := ⟨0x81014, 0, 6, 0x1000, 1, 0, 0x800, .station, [⟨15, 0, .rwi⟩]⟩
/-- SCN_Ss_LOCK: reset 0x4020. -/
def SCN_S_LOCK : RegDesc := ⟨0x81018, 0, 6, 0x1000, 1, 0, 0x4020, .station, [⟨15, 8, .rwi⟩, ⟨7, 0, .rwi⟩]⟩
/-- SCN_Ss_PHOFF: reset 0x0. -/
def SCN_S_PHOFF : RegDesc := ⟨0x8101C, 0, 6, 0x1000, 1, 0, 0x0, .station, [⟨7, 0, .rwi⟩]⟩
/-- SCN_Ss_MAG: reset 0x0. -/
def SCN_S_MAG : RegDesc := ⟨0x81020, 0, 6, 0x1000, 1, 0, 0x0, .station, [⟨31, 16, .ro⟩, ⟨15, 0, .rw⟩]⟩
/-- SCN_Ss_STAT: reset 0x0. -/
def SCN_S_STAT : RegDesc := ⟨0x81024, 0, 6, 0x1000, 1, 0, 0x0, .station, [⟨31, 30, .ro⟩, ⟨29, 29, .ro⟩, ⟨28, 28, .ro⟩, ⟨27, 27, .ro⟩, ⟨26, 26, .ro⟩, ⟨25, 25, .w1c⟩, ⟨24, 24, .ro⟩, ⟨3, 0, .ro⟩]⟩
/-- SCN_Ss_PERIOD: reset 0x0. -/
def SCN_S_PERIOD : RegDesc := ⟨0x81028, 0, 6, 0x1000, 1, 0, 0x0, .station, [⟨23, 0, .ro⟩]⟩
/-- SCN_Ss_PERR: reset 0x0. -/
def SCN_S_PERR : RegDesc := ⟨0x8102C, 0, 6, 0x1000, 1, 0, 0x0, .station, [⟨15, 0, .ro⟩]⟩
/-- SCN_Ss_ABTIME: reset 0x0. -/
def SCN_S_ABTIME : RegDesc := ⟨0x81030, 0, 6, 0x1000, 1, 0, 0x0, .station, [⟨23, 0, .ro⟩]⟩
/-- SCN_Ss_CAP: reset 0x0. -/
def SCN_S_CAP : RegDesc := ⟨0x81034, 0, 6, 0x1000, 1, 0, 0x0, .station, [⟨31, 16, .ro⟩, ⟨15, 0, .ro⟩]⟩
/-- SCN_Ss_MISSCNT: reset 0x0. -/
def SCN_S_MISSCNT : RegDesc := ⟨0x81038, 0, 6, 0x1000, 1, 0, 0x0, .station, [⟨31, 0, .w1c⟩]⟩
/-- SCN_Ss_ALIGN: reset 0x0. -/
def SCN_S_ALIGN : RegDesc := ⟨0x8103C, 0, 6, 0x1000, 1, 0, 0x0, .station, [⟨7, 0, .ro⟩]⟩
/-- SCN_Ss_LINz: reset 0x0. -/
def SCN_S_LIN : RegDesc := ⟨0x81100, 0, 6, 0x1000, 64, 4, 0x0, .station, [⟨23, 16, .ro⟩, ⟨7, 0, .rw⟩]⟩
/-- CAL_CTRL: reset 0x0. -/
def CAL_CTRL : RegDesc := ⟨0x90000, 0, 1, 0x0, 1, 0, 0x0, .always, [⟨2, 2, .rwp⟩, ⟨1, 1, .w1p⟩, ⟨0, 0, .w1p⟩]⟩
/-- CAL_CFG: reset 0x0. -/
def CAL_CFG : RegDesc := ⟨0x90004, 0, 1, 0x0, 1, 0, 0x0, .always, [⟨31, 31, .rw⟩, ⟨30, 27, .rw⟩, ⟨26, 24, .rw⟩, ⟨23, 18, .rw⟩, ⟨17, 17, .rw⟩, ⟨16, 15, .rw⟩, ⟨14, 12, .rw⟩, ⟨11, 6, .rw⟩]⟩
/-- CAL_GEOM: reset 0x80006030. -/
def CAL_GEOM : RegDesc := ⟨0x90008, 0, 1, 0x0, 1, 0, 0x80006030, .always, [⟨31, 16, .rw⟩, ⟨15, 8, .rw⟩, ⟨7, 0, .rw⟩]⟩
/-- CAL_LPC: reset 0x10000. -/
def CAL_LPC : RegDesc := ⟨0x9000C, 0, 1, 0x0, 1, 0, 0x10000, .always, [⟨31, 0, .rw⟩]⟩
/-- CAL_STAT: reset 0x0. -/
def CAL_STAT : RegDesc := ⟨0x90010, 0, 1, 0x0, 1, 0, 0x0, .always, [⟨31, 29, .ro⟩, ⟨28, 28, .ro⟩, ⟨27, 27, .ro⟩, ⟨23, 16, .ro⟩, ⟨13, 8, .ro⟩, ⟨7, 0, .ro⟩]⟩
/-- CAL_HANDLE: reset 0x0. -/
def CAL_HANDLE : RegDesc := ⟨0x90014, 0, 1, 0x0, 1, 0, 0x0, .always, [⟨31, 0, .ro⟩]⟩
/-- CAL_SET: reset 0xF000. -/
def CAL_SET : RegDesc := ⟨0x90018, 0, 1, 0x0, 1, 0, 0xF000, .always, [⟨15, 12, .rwp⟩, ⟨6, 4, .rw⟩, ⟨1, 0, .rw⟩]⟩
/-- CAL_SETSTAT: reset 0x0. -/
def CAL_SETSTAT : RegDesc := ⟨0x9001C, 0, 1, 0x0, 1, 0, 0x0, .always, [⟨7, 0, .ro⟩]⟩
/-- CAL_Mk_CFG: reset 0x0. -/
def CAL_M_CFG : RegDesc := ⟨0x90040, 0, 4, 0x8, 1, 0, 0x0, .always, [⟨31, 31, .rw⟩, ⟨30, 30, .rw⟩, ⟨29, 27, .rw⟩, ⟨26, 15, .rw⟩, ⟨14, 0, .rw⟩]⟩
/-- CAL_Mk_LAST: reset 0x0. -/
def CAL_M_LAST : RegDesc := ⟨0x90044, 0, 4, 0x8, 1, 0, 0x0, .always, [⟨31, 24, .ro⟩, ⟨11, 0, .ro⟩]⟩
/-- CAL_Pp_CFG: reset 0x0. -/
def CAL_P_CFG : RegDesc := ⟨0x90080, 0, 2, 0x10, 1, 0, 0x0, .csi, [⟨31, 31, .rw⟩, ⟨30, 30, .rw⟩, ⟨29, 28, .rw⟩]⟩
/-- CAL_Pp_STAT: reset 0x0. -/
def CAL_P_STAT : RegDesc := ⟨0x90084, 0, 2, 0x10, 1, 0, 0x0, .csi, [⟨31, 31, .ro⟩, ⟨23, 16, .w1c⟩, ⟨15, 8, .w1c⟩, ⟨7, 0, .w1c⟩]⟩
/-- CAL_Pp_MAP: reset 0x1000. -/
def CAL_P_MAP : RegDesc := ⟨0x90088, 0, 2, 0x10, 1, 0, 0x1000, .csi, [⟨31, 16, .rw⟩, ⟨15, 0, .rw⟩]⟩
/-- LPE_STAT: reset 0x0. -/
def LPE_STAT : RegDesc := ⟨0xA0000, 0, 1, 0x0, 1, 0, 0x0, .always, [⟨19, 16, .w1c⟩, ⟨7, 0, .ro⟩]⟩
/-- LPE_PACC: reset 0x0. -/
def LPE_PACC : RegDesc := ⟨0xA0004, 0, 1, 0x0, 1, 0, 0x0, .always, [⟨22, 16, .rw⟩, ⟨13, 8, .rw⟩, ⟨7, 0, .rw⟩]⟩
/-- LPE_PDATA: reset 0x0. -/
def LPE_PDATA : RegDesc := ⟨0xA0008, 0, 1, 0x0, 1, 0, 0x0, .always, [⟨31, 0, .rw⟩]⟩
/-- LPE_PCMD: reset 0x0. -/
def LPE_PCMD : RegDesc := ⟨0xA000C, 0, 1, 0x0, 1, 0, 0x0, .always, [⟨1, 1, .w1p⟩, ⟨0, 0, .w1p⟩]⟩
/-- LPE_PRD: reset 0x0. -/
def LPE_PRD : RegDesc := ⟨0xA0010, 0, 1, 0x0, 1, 0, 0x0, .always, [⟨31, 0, .ro⟩]⟩
/-- LPE_PSTAT: reset 0x0. -/
def LPE_PSTAT : RegDesc := ⟨0xA0014, 0, 1, 0x0, 1, 0, 0x0, .always, [⟨31, 31, .ro⟩, ⟨1, 0, .ro⟩]⟩
/-- LPE_Ll_STAT: reset 0x0. -/
def LPE_L_STAT : RegDesc := ⟨0xA0100, 0, 128, 0x4, 1, 0, 0x0, .always, [⟨31, 31, .ro⟩, ⟨30, 30, .ro⟩, ⟨29, 28, .ro⟩, ⟨27, 23, .ro⟩, ⟨22, 20, .ro⟩, ⟨19, 16, .ro⟩, ⟨15, 14, .ro⟩, ⟨13, 13, .ro⟩, ⟨12, 12, .w1c⟩, ⟨11, 11, .w1c⟩, ⟨10, 10, .w1c⟩, ⟨9, 9, .w1c⟩, ⟨8, 8, .w1c⟩, ⟨5, 0, .ro⟩]⟩
/-- HVS_TRIP: reset 0x0. -/
def HVS_TRIP : RegDesc := ⟨0xB0000, 0, 1, 0x0, 1, 0, 0x0, .always, [⟨23, 0, .w1c⟩]⟩
/-- HVS_Ss_WIN: reset 0x3C00. -/
def HVS_S_WIN : RegDesc := ⟨0xB0010, 0, 6, 0x4, 1, 0, 0x3C00, .station, [⟨28, 24, .rw⟩, ⟨15, 8, .rw⟩, ⟨7, 0, .rw⟩]⟩
/-- HVS_Cn_CFG: reset 0x1C000FA0. -/
def HVS_C_CFG : RegDesc := ⟨0xB1000, 0, 24, 0x40, 1, 0, 0x1C000FA0, .hvch, [⟨28, 26, .rwi⟩, ⟨25, 25, .rwi⟩, ⟨24, 24, .rwi⟩, ⟨18, 16, .rwi⟩, ⟨15, 15, .rwi⟩, ⟨14, 0, .rwi⟩]⟩
/-- HVS_Cn_CTRL: reset 0x0. -/
def HVS_C_CTRL : RegDesc := ⟨0xB1004, 0, 24, 0x40, 1, 0, 0x0, .hvch, [⟨1, 1, .w1p⟩, ⟨0, 0, .rw⟩]⟩
/-- HVS_Cn_OUT: reset 0x0. -/
def HVS_C_OUT : RegDesc := ⟨0xB1008, 0, 24, 0x40, 1, 0, 0x0, .hvch, [⟨15, 0, .rw⟩]⟩
/-- HVS_Cn_SCALE: reset 0x0. -/
def HVS_C_SCALE : RegDesc := ⟨0xB100C, 0, 24, 0x40, 1, 0, 0x0, .hvch, [⟨31, 16, .rw⟩, ⟨15, 0, .rw⟩]⟩
/-- HVS_Cn_VMEAS: reset 0x0. -/
def HVS_C_VMEAS : RegDesc := ⟨0xB1010, 0, 24, 0x40, 1, 0, 0x0, .hvch, [⟨15, 0, .ro⟩]⟩
/-- HVS_Cn_IMEAS: reset 0x0. -/
def HVS_C_IMEAS : RegDesc := ⟨0xB1014, 0, 24, 0x40, 1, 0, 0x0, .hvch, [⟨15, 0, .ro⟩]⟩
/-- HVS_Cn_PROT: reset 0x7FFF. -/
def HVS_C_PROT : RegDesc := ⟨0xB1018, 0, 24, 0x40, 1, 0, 0x7FFF, .hvch, [⟨15, 0, .rw⟩]⟩
/-- HVS_Cn_POL: reset 0xA32. -/
def HVS_C_POL : RegDesc := ⟨0xB101C, 0, 24, 0x40, 1, 0, 0xA32, .hvch, [⟨31, 16, .rw⟩, ⟨15, 8, .rw⟩, ⟨7, 0, .rw⟩]⟩
/-- HVS_Cn_STAT: reset 0x0. -/
def HVS_C_STAT : RegDesc := ⟨0xB1020, 0, 24, 0x40, 1, 0, 0x0, .hvch, [⟨31, 29, .ro⟩, ⟨28, 28, .ro⟩]⟩
/-- FUS_CFG: reset 0x0. -/
def FUS_CFG : RegDesc := ⟨0xC0000, 0, 1, 0x0, 1, 0, 0x0, .always, [⟨1, 0, .rw⟩]⟩
/-- FUS_HOLD: reset 0x1E. -/
def FUS_HOLD : RegDesc := ⟨0xC0004, 0, 1, 0x0, 1, 0, 0x1E, .always, [⟨6, 0, .rw⟩]⟩
/-- FUS_STAT: reset 0x0. -/
def FUS_STAT : RegDesc := ⟨0xC0008, 0, 1, 0x0, 1, 0, 0x0, .always, [⟨15, 12, .ro⟩, ⟨11, 8, .ro⟩, ⟨7, 0, .ro⟩]⟩
/-- FUS_Ti_CFG: reset 0x0. -/
def FUS_T_CFG : RegDesc := ⟨0xC0100, 0, 8, 0x10, 1, 0, 0x0, .always, [⟨31, 31, .rw⟩, ⟨30, 16, .rw⟩, ⟨15, 8, .rw⟩]⟩
/-- FUS_Ti_RANGE: reset 0x1068FE70. -/
def FUS_T_RANGE : RegDesc := ⟨0xC0104, 0, 8, 0x10, 1, 0, 0x1068FE70, .always, [⟨31, 16, .rw⟩, ⟨15, 0, .rw⟩]⟩
/-- FUS_Ti_VAL: reset 0x0. -/
def FUS_T_VAL : RegDesc := ⟨0xC0108, 0, 8, 0x10, 1, 0, 0x0, .always, [⟨31, 31, .ro⟩, ⟨30, 28, .ro⟩, ⟨27, 16, .ro⟩, ⟨15, 0, .ro⟩]⟩
/-- FUS_Ti_CTRL: reset 0x0. -/
def FUS_T_CTRL : RegDesc := ⟨0xC010C, 0, 8, 0x10, 1, 0, 0x0, .always, [⟨0, 0, .w1p⟩]⟩
/-- FUS_Zz_CFG: reset 0xF000050. -/
def FUS_Z_CFG : RegDesc := ⟨0xC0200, 0, 4, 0x20, 1, 0, 0xF000050, .always, [⟨31, 31, .rw⟩, ⟨27, 24, .rw⟩, ⟨23, 20, .rw⟩, ⟨15, 0, .rw⟩]⟩
/-- FUS_Zz_TRIP: reset 0xF00. -/
def FUS_Z_TRIP : RegDesc := ⟨0xC0204, 0, 4, 0x20, 1, 0, 0xF00, .always, [⟨15, 0, .rw⟩]⟩
/-- FUS_Zz_MAX: reset 0xFFFF. -/
def FUS_Z_MAX : RegDesc := ⟨0xC0208, 0, 4, 0x20, 1, 0, 0xFFFF, .always, [⟨15, 0, .rw⟩]⟩
/-- FUS_Zz_CMD: reset 0x0. -/
def FUS_Z_CMD : RegDesc := ⟨0xC020C, 0, 4, 0x20, 1, 0, 0x0, .always, [⟨15, 0, .rw⟩]⟩
/-- FUS_Zz_TEMP: reset 0x0. -/
def FUS_Z_TEMP : RegDesc := ⟨0xC0210, 0, 4, 0x20, 1, 0, 0x0, .always, [⟨31, 28, .ro⟩, ⟨15, 0, .ro⟩]⟩
/-- FUS_Zz_STAT: reset 0x0. -/
def FUS_Z_STAT : RegDesc := ⟨0xC0214, 0, 4, 0x20, 1, 0, 0x0, .always, [⟨31, 31, .ro⟩, ⟨30, 30, .ro⟩, ⟨29, 29, .w1c⟩, ⟨28, 28, .ro⟩, ⟨15, 0, .ro⟩]⟩
/-- FUS_Zz_CTRL: reset 0x0. -/
def FUS_Z_CTRL : RegDesc := ⟨0xC0218, 0, 4, 0x20, 1, 0, 0x0, .always, [⟨0, 0, .w1p⟩]⟩
/-- MNS_STAT: reset 0x0. -/
def MNS_STAT : RegDesc := ⟨0xD0000, 0, 1, 0x0, 1, 0, 0x0, .mains, [⟨31, 29, .ro⟩, ⟨28, 26, .ro⟩, ⟨25, 25, .ro⟩, ⟨24, 24, .ro⟩, ⟨23, 23, .ro⟩, ⟨22, 22, .ro⟩, ⟨21, 21, .ro⟩, ⟨20, 20, .ro⟩, ⟨19, 19, .ro⟩, ⟨18, 13, .ro⟩]⟩
/-- MNS_LINE: reset 0x0. -/
def MNS_LINE : RegDesc := ⟨0xD0004, 0, 1, 0x0, 1, 0, 0x0, .mains, [⟨31, 16, .ro⟩, ⟨15, 0, .ro⟩]⟩
/-- MNS_CTRL: reset 0x0. -/
def MNS_CTRL : RegDesc := ⟨0xD0008, 0, 1, 0x0, 1, 0, 0x0, .mains, [⟨2, 2, .rwi⟩, ⟨1, 1, .w1p⟩, ⟨0, 0, .rw⟩]⟩
/-- MNS_INV: reset 0x64143C32. -/
def MNS_INV : RegDesc := ⟨0xD000C, 0, 1, 0x0, 1, 0, 0x64143C32, .mains, [⟨31, 24, .rwi⟩, ⟨23, 16, .rwi⟩, ⟨15, 8, .rwi⟩, ⟨7, 0, .rwi⟩]⟩
/-- MNS_FLK: reset 0x19021032. -/
def MNS_FLK : RegDesc := ⟨0xD0010, 0, 1, 0x0, 1, 0, 0x19021032, .mains, [⟨31, 20, .rw⟩, ⟨19, 12, .rw⟩, ⟨11, 0, .rw⟩]⟩
/-- MNS_RAMP: reset 0x14. -/
def MNS_RAMP : RegDesc := ⟨0xD0014, 0, 1, 0x0, 1, 0, 0x14, .mains, [⟨11, 0, .rw⟩]⟩
/-- MNS_CAP: reset 0xA000000. -/
def MNS_CAP : RegDesc := ⟨0xD0018, 0, 1, 0x0, 1, 0, 0xA000000, .mains, [⟨31, 20, .rw⟩, ⟨15, 0, .rw⟩]⟩
/-- MNS_SPDPWR: reset 0x0. -/
def MNS_SPDPWR : RegDesc := ⟨0xD001C, 0, 1, 0x0, 1, 0, 0x0, .always, [⟨31, 16, .rw⟩, ⟨15, 0, .rw⟩]⟩
/-- MNS_BOUND: reset 0x0. -/
def MNS_BOUND : RegDesc := ⟨0xD0020, 0, 1, 0x0, 1, 0, 0x0, .mains, [⟨31, 16, .ro⟩, ⟨15, 0, .ro⟩]⟩
/-- MNS_MEAS: reset 0x0. -/
def MNS_MEAS : RegDesc := ⟨0xD0024, 0, 1, 0x0, 1, 0, 0x0, .mains, [⟨31, 16, .ro⟩, ⟨15, 0, .ro⟩]⟩
/-- MNS_EVCNT: reset 0x0. -/
def MNS_EVCNT : RegDesc := ⟨0xD0028, 0, 1, 0x0, 1, 0, 0x0, .mains, [⟨31, 16, .w1c⟩, ⟨15, 8, .w1c⟩, ⟨7, 0, .w1c⟩]⟩
/-- MNS_LPWR: reset 0x0. -/
def MNS_LPWR : RegDesc := ⟨0xD002C, 0, 1, 0x0, 1, 0, 0x0, .always, [⟨15, 0, .rw⟩]⟩
/-- MNS_SHUNT: reset 0x0. -/
def MNS_SHUNT : RegDesc := ⟨0xD0030, 0, 1, 0x0, 1, 0, 0x0, .mains, [⟨15, 0, .rwi⟩]⟩
/-- MNS_FTABi: reset 0x0. -/
def MNS_FTAB : RegDesc := ⟨0xD003C, 1, 17, 0x4, 1, 0, 0x0, .mains, [⟨31, 16, .rwi⟩, ⟨15, 0, .rwi⟩]⟩
/-- MNS_Zz_PRATED: reset 0x0. -/
def MNS_Z_PRATED : RegDesc := ⟨0xD0080, 0, 4, 0x4, 1, 0, 0x0, .mains, [⟨15, 0, .rwi⟩]⟩
/-- FOC_VBUS: reset 0x0. -/
def FOC_VBUS : RegDesc := ⟨0xE0000, 0, 1, 0x0, 1, 0, 0x0, .always, [⟨31, 16, .ro⟩, ⟨15, 0, .ro⟩]⟩
/-- FOC_BRKCFG: reset 0x736E0A. -/
def FOC_BRKCFG : RegDesc := ⟨0xE0004, 0, 1, 0x0, 1, 0, 0x736E0A, .always, [⟨31, 31, .rw⟩, ⟨23, 16, .rw⟩, ⟨15, 8, .rw⟩, ⟨7, 0, .rw⟩]⟩
/-- FOC_BRKSTAT: reset 0x0. -/
def FOC_BRKSTAT : RegDesc := ⟨0xE0008, 0, 1, 0x0, 1, 0, 0x0, .always, [⟨31, 31, .ro⟩, ⟨30, 29, .ro⟩, ⟨28, 28, .ro⟩, ⟨27, 27, .ro⟩, ⟨26, 26, .ro⟩, ⟨25, 25, .ro⟩, ⟨24, 24, .ro⟩, ⟨1, 1, .w1p⟩, ⟨0, 0, .w1p⟩]⟩
/-- FOC_Cn_CFG: reset 0x102864. -/
def FOC_C_CFG : RegDesc := ⟨0xE1000, 0, 12, 0x80, 1, 0, 0x102864, .foc, [⟨31, 31, .rwi⟩, ⟨30, 30, .rwi⟩, ⟨23, 20, .rwi⟩, ⟨17, 16, .rwi⟩, ⟨15, 8, .rwi⟩, ⟨7, 0, .rwi⟩]⟩
/-- FOC_Cn_MOTOR: reset 0x0. -/
def FOC_C_MOTOR : RegDesc := ⟨0xE1004, 0, 12, 0x80, 1, 0, 0x0, .foc, [⟨31, 16, .rwi⟩, ⟨15, 0, .rwi⟩]⟩
/-- FOC_Cn_ELEC: reset 0x0. -/
def FOC_C_ELEC : RegDesc := ⟨0xE1008, 0, 12, 0x80, 1, 0, 0x0, .foc, [⟨31, 16, .rwi⟩, ⟨15, 0, .rwi⟩]⟩
/-- FOC_Cn_LIMIT: reset 0x0. -/
def FOC_C_LIMIT : RegDesc := ⟨0xE100C, 0, 12, 0x80, 1, 0, 0x0, .foc, [⟨31, 16, .rwi⟩, ⟨15, 0, .rwi⟩]⟩
/-- FOC_Cn_HO: reset 0x3E81410. -/
def FOC_C_HO : RegDesc := ⟨0xE1010, 0, 12, 0x80, 1, 0, 0x3E81410, .foc, [⟨31, 16, .rwi⟩, ⟨15, 8, .rwi⟩, ⟨7, 0, .rwi⟩]⟩
/-- FOC_Cn_START: reset 0x7D00032. -/
def FOC_C_START : RegDesc := ⟨0xE1014, 0, 12, 0x80, 1, 0, 0x7D00032, .foc, [⟨31, 16, .rwi⟩, ⟨7, 0, .rwi⟩]⟩
/-- FOC_Cn_ADV: reset 0x0. -/
def FOC_C_ADV : RegDesc := ⟨0xE1018, 0, 12, 0x80, 1, 0, 0x0, .foc, [⟨31, 31, .rwi⟩, ⟨30, 16, .rwi⟩, ⟨15, 8, .rwi⟩, ⟨7, 0, .rwi⟩]⟩
/-- FOC_Cn_LAWS: reset 0x0. -/
def FOC_C_LAWS : RegDesc := ⟨0xE101C, 0, 12, 0x80, 1, 0, 0x0, .foc, [⟨31, 31, .rwi⟩, ⟨30, 24, .rwi⟩, ⟨22, 16, .rwi⟩, ⟨15, 0, .rwi⟩]⟩
/-- FOC_Cn_CTRL: reset 0x0. -/
def FOC_C_CTRL : RegDesc := ⟨0xE1020, 0, 12, 0x80, 1, 0, 0x0, .foc, [⟨2, 2, .w1p⟩, ⟨1, 1, .w1p⟩, ⟨0, 0, .w1p⟩]⟩
/-- FOC_Cn_STAT: reset 0x7FFF. -/
def FOC_C_STAT : RegDesc := ⟨0xE1024, 0, 12, 0x80, 1, 0, 0x7FFF, .foc, [⟨31, 28, .ro⟩, ⟨27, 24, .ro⟩, ⟨23, 23, .ro⟩, ⟨22, 22, .w1c⟩, ⟨21, 21, .ro⟩, ⟨20, 20, .ro⟩, ⟨15, 0, .ro⟩]⟩
/-- FOC_Cn_VQ: reset 0x0. -/
def FOC_C_VQ : RegDesc := ⟨0xE1028, 0, 12, 0x80, 1, 0, 0x0, .foc, [⟨15, 0, .rw⟩]⟩
/-- FOC_Cn_VD: reset 0x0. -/
def FOC_C_VD : RegDesc := ⟨0xE102C, 0, 12, 0x80, 1, 0, 0x0, .foc, [⟨15, 0, .rw⟩]⟩
/-- FOC_Cn_IQSET: reset 0x0. -/
def FOC_C_IQSET : RegDesc := ⟨0xE1030, 0, 12, 0x80, 1, 0, 0x0, .foc, [⟨15, 0, .rw⟩]⟩
/-- FOC_Cn_IDQ: reset 0x0. -/
def FOC_C_IDQ : RegDesc := ⟨0xE1034, 0, 12, 0x80, 1, 0, 0x0, .foc, [⟨31, 16, .ro⟩, ⟨15, 0, .ro⟩]⟩
/-- FOC_Cn_SPEED: reset 0x0. -/
def FOC_C_SPEED : RegDesc := ⟨0xE1038, 0, 12, 0x80, 1, 0, 0x0, .foc, [⟨31, 0, .ro⟩]⟩
/-- FOC_STn_CFG: reset 0x0. -/
def FOC_ST_CFG : RegDesc := ⟨0xE2000, 0, 16, 0x10, 1, 0, 0x0, .stepper, [⟨31, 31, .rwi⟩, ⟨30, 25, .rwi⟩, ⟨23, 12, .rwi⟩, ⟨11, 0, .rwi⟩]⟩
/-- FOC_STn_CTRL: reset 0x0. -/
def FOC_ST_CTRL : RegDesc := ⟨0xE2004, 0, 16, 0x10, 1, 0, 0x0, .stepper, [⟨0, 0, .rw⟩]⟩
/-- FOC_STn_STAT: reset 0x0. -/
def FOC_ST_STAT : RegDesc := ⟨0xE2008, 0, 16, 0x10, 1, 0, 0x0, .stepper, [⟨31, 30, .ro⟩, ⟨25, 16, .ro⟩, ⟨7, 0, .ro⟩]⟩
/-- FOC_SDn_CFG: reset 0x3232. -/
def FOC_SD_CFG : RegDesc := ⟨0xE2400, 0, 8, 0x10, 1, 0, 0x3232, .always, [⟨31, 31, .rw⟩, ⟨30, 30, .rwi⟩, ⟨29, 29, .rwi⟩, ⟨28, 23, .rwi⟩, ⟨22, 22, .w1c⟩, ⟨15, 8, .rwi⟩, ⟨7, 0, .rwi⟩]⟩
/-- FOC_SDn_FREQ: reset 0x0. -/
def FOC_SD_FREQ : RegDesc := ⟨0xE2404, 0, 8, 0x10, 1, 0, 0x0, .always, [⟨31, 0, .rw⟩]⟩
/-- FOC_SDn_CNT: reset 0x0. -/
def FOC_SD_CNT : RegDesc := ⟨0xE2408, 0, 8, 0x10, 1, 0, 0x0, .always, [⟨31, 0, .ro⟩]⟩
/-- FOC_SPDp_CFG: reset 0x1F4. -/
def FOC_SPD_CFG : RegDesc := ⟨0xE2600, 0, 4, 0x8, 1, 0, 0x1F4, .always, [⟨31, 30, .rw⟩, ⟨29, 29, .rw⟩, ⟨15, 0, .rw⟩]⟩
/-- FOC_SPDp_VAL: reset 0x0. -/
def FOC_SPD_VAL : RegDesc := ⟨0xE2604, 0, 4, 0x8, 1, 0, 0x0, .always, [⟨31, 31, .ro⟩, ⟨23, 0, .ro⟩]⟩
/-- AXS_FLT0: reset 0x0. -/
def AXS_FLT0 : RegDesc := ⟨0xF0000, 0, 1, 0x0, 1, 0, 0x0, .always, [⟨31, 0, .w1c⟩]⟩
/-- AXS_FLT1: reset 0x0. -/
def AXS_FLT1 : RegDesc := ⟨0xF0004, 0, 1, 0x0, 1, 0, 0x0, .always, [⟨3, 0, .w1c⟩]⟩
/-- AXS_An_CFG: reset 0x7E40000. -/
def AXS_A_CFG : RegDesc := ⟨0xF1000, 0, 36, 0x80, 1, 0, 0x7E40000, .always, [⟨31, 30, .rwi⟩, ⟨29, 29, .rwi⟩, ⟨28, 28, .rwi⟩, ⟨27, 27, .rwi⟩, ⟨26, 22, .rwi⟩, ⟨21, 20, .rwi⟩, ⟨19, 15, .rwi⟩]⟩
/-- AXS_An_SW: reset 0x7F7F7F00. -/
def AXS_A_SW : RegDesc := ⟨0xF1004, 0, 36, 0x80, 1, 0, 0x7F7F7F00, .always, [⟨30, 24, .rwi⟩, ⟨22, 16, .rwi⟩, ⟨14, 8, .rwi⟩, ⟨2, 0, .rwi⟩]⟩
/-- AXS_An_VMAX: reset 0x0. -/
def AXS_A_VMAX : RegDesc := ⟨0xF1008, 0, 36, 0x80, 1, 0, 0x0, .always, [⟨31, 0, .rwi⟩]⟩
/-- AXS_An_AMAX: reset 0x0. -/
def AXS_A_AMAX : RegDesc := ⟨0xF100C, 0, 36, 0x80, 1, 0, 0x0, .always, [⟨31, 0, .rwi⟩]⟩
/-- AXS_An_JMAX: reset 0x0. -/
def AXS_A_JMAX : RegDesc := ⟨0xF1010, 0, 36, 0x80, 1, 0, 0x0, .always, [⟨31, 0, .rwi⟩]⟩
/-- AXS_An_DSTOP: reset 0x0. -/
def AXS_A_DSTOP : RegDesc := ⟨0xF1014, 0, 36, 0x80, 1, 0, 0x0, .always, [⟨31, 0, .rwi⟩]⟩
/-- AXS_An_JSTOP: reset 0x0. -/
def AXS_A_JSTOP : RegDesc := ⟨0xF1018, 0, 36, 0x80, 1, 0, 0x0, .always, [⟨31, 0, .rwi⟩]⟩
/-- AXS_An_STALL: reset 0x800. -/
def AXS_A_STALL : RegDesc := ⟨0xF101C, 0, 36, 0x80, 1, 0, 0x800, .always, [⟨31, 16, .rw⟩, ⟨15, 8, .rw⟩, ⟨7, 0, .rw⟩]⟩
/-- AXS_An_HOME: reset 0x1E0000. -/
def AXS_A_HOME : RegDesc := ⟨0xF1020, 0, 36, 0x80, 1, 0, 0x1E0000, .always, [⟨31, 28, .rwi⟩, ⟨27, 27, .rwi⟩, ⟨23, 16, .rwi⟩, ⟨15, 0, .rwi⟩]⟩
/-- AXS_An_HVEL: reset 0x0. -/
def AXS_A_HVEL : RegDesc := ⟨0xF1024, 0, 36, 0x80, 1, 0, 0x0, .always, [⟨31, 0, .rwi⟩]⟩
/-- AXS_An_VTGT: reset 0x0. -/
def AXS_A_VTGT : RegDesc := ⟨0xF1028, 0, 36, 0x80, 1, 0, 0x0, .always, [⟨31, 0, .rw⟩]⟩
/-- AXS_An_CMD: reset 0x0. -/
def AXS_A_CMD : RegDesc := ⟨0xF102C, 0, 36, 0x80, 1, 0, 0x0, .always, [⟨2, 0, .wo⟩]⟩
/-- AXS_An_STAT: reset 0x0. -/
def AXS_A_STAT : RegDesc := ⟨0xF1030, 0, 36, 0x80, 1, 0, 0x0, .always, [⟨31, 28, .ro⟩, ⟨27, 27, .w1c⟩, ⟨26, 26, .w1c⟩, ⟨25, 25, .w1c⟩, ⟨24, 24, .ro⟩, ⟨23, 20, .ro⟩, ⟨19, 16, .ro⟩, ⟨15, 15, .ro⟩, ⟨14, 14, .ro⟩, ⟨13, 13, .ro⟩, ⟨12, 12, .ro⟩, ⟨11, 11, .ro⟩, ⟨10, 10, .w1c⟩]⟩
/-- AXS_An_VEL: reset 0x0. -/
def AXS_A_VEL : RegDesc := ⟨0xF1034, 0, 36, 0x80, 1, 0, 0x0, .always, [⟨31, 0, .ro⟩]⟩
/-- AXS_An_DEV: reset 0x0. -/
def AXS_A_DEV : RegDesc := ⟨0xF1038, 0, 36, 0x80, 1, 0, 0x0, .always, [⟨31, 0, .ro⟩]⟩
/-- AXS_An_TGT_LO: reset 0x0. -/
def AXS_A_TGT_LO : RegDesc := ⟨0xF1040, 0, 36, 0x80, 1, 0, 0x0, .always, [⟨31, 0, .rw⟩]⟩
/-- AXS_An_TGT_HI: reset 0x0. -/
def AXS_A_TGT_HI : RegDesc := ⟨0xF1044, 0, 36, 0x80, 1, 0, 0x0, .always, [⟨15, 0, .rw⟩]⟩
/-- AXS_An_LIMLO_LO: reset 0x0. -/
def AXS_A_LIMLO_LO : RegDesc := ⟨0xF1048, 0, 36, 0x80, 1, 0, 0x0, .always, [⟨31, 0, .rw⟩]⟩
/-- AXS_An_LIMLO_HI: reset 0x8000. -/
def AXS_A_LIMLO_HI : RegDesc := ⟨0xF104C, 0, 36, 0x80, 1, 0, 0x8000, .always, [⟨15, 0, .rw⟩]⟩
/-- AXS_An_LIMHI_LO: reset 0xFFFFFFFF. -/
def AXS_A_LIMHI_LO : RegDesc := ⟨0xF1050, 0, 36, 0x80, 1, 0, 0xFFFFFFFF, .always, [⟨31, 0, .rw⟩]⟩
/-- AXS_An_LIMHI_HI: reset 0x7FFF. -/
def AXS_A_LIMHI_HI : RegDesc := ⟨0xF1054, 0, 36, 0x80, 1, 0, 0x7FFF, .always, [⟨15, 0, .rw⟩]⟩
/-- AXS_An_HOMEPOS_LO: reset 0x0. -/
def AXS_A_HOMEPOS_LO : RegDesc := ⟨0xF1058, 0, 36, 0x80, 1, 0, 0x0, .always, [⟨31, 0, .rwi⟩]⟩
/-- AXS_An_HOMEPOS_HI: reset 0x0. -/
def AXS_A_HOMEPOS_HI : RegDesc := ⟨0xF105C, 0, 36, 0x80, 1, 0, 0x0, .always, [⟨15, 0, .rwi⟩]⟩
/-- AXS_An_CMDPOS_LO: reset 0x0. -/
def AXS_A_CMDPOS_LO : RegDesc := ⟨0xF1060, 0, 36, 0x80, 1, 0, 0x0, .always, [⟨31, 0, .ro⟩]⟩
/-- AXS_An_CMDPOS_HI: reset 0x0. -/
def AXS_A_CMDPOS_HI : RegDesc := ⟨0xF1064, 0, 36, 0x80, 1, 0, 0x0, .always, [⟨15, 0, .ro⟩]⟩
/-- AXS_An_RAW_LO: reset 0x0. -/
def AXS_A_RAW_LO : RegDesc := ⟨0xF1068, 0, 36, 0x80, 1, 0, 0x0, .always, [⟨31, 0, .ro⟩]⟩
/-- AXS_An_RAW_HI: reset 0x0. -/
def AXS_A_RAW_HI : RegDesc := ⟨0xF106C, 0, 36, 0x80, 1, 0, 0x0, .always, [⟨15, 0, .ro⟩]⟩
/-- AXS_An_FILT_LO: reset 0x0. -/
def AXS_A_FILT_LO : RegDesc := ⟨0xF1070, 0, 36, 0x80, 1, 0, 0x0, .always, [⟨31, 0, .ro⟩]⟩
/-- AXS_An_FILT_HI: reset 0x0. -/
def AXS_A_FILT_HI : RegDesc := ⟨0xF1074, 0, 36, 0x80, 1, 0, 0x0, .always, [⟨15, 0, .ro⟩]⟩
/-- AXS_An_HCAP_LO: reset 0x0. -/
def AXS_A_HCAP_LO : RegDesc := ⟨0xF1078, 0, 36, 0x80, 1, 0, 0x0, .always, [⟨31, 0, .ro⟩]⟩
/-- AXS_An_HCAP_HI: reset 0x0. -/
def AXS_A_HCAP_HI : RegDesc := ⟨0xF107C, 0, 36, 0x80, 1, 0, 0x0, .always, [⟨15, 0, .ro⟩]⟩
/-- AXS_Ee_CFG: reset 0x4. -/
def AXS_E_CFG : RegDesc := ⟨0xF3000, 0, 24, 0x10, 1, 0, 0x4, .always, [⟨31, 31, .rw⟩, ⟨30, 30, .rw⟩, ⟨7, 0, .rw⟩]⟩
/-- AXS_Ee_CNT: reset 0x0. -/
def AXS_E_CNT : RegDesc := ⟨0xF3004, 0, 24, 0x10, 1, 0, 0x0, .always, [⟨31, 0, .ro⟩]⟩
/-- AXS_Ee_ERR: reset 0x0. -/
def AXS_E_ERR : RegDesc := ⟨0xF3008, 0, 24, 0x10, 1, 0, 0x0, .always, [⟨31, 0, .w1c⟩]⟩
/-- DRC_STAT: reset 0x0. -/
def DRC_STAT : RegDesc := ⟨0x100000, 0, 1, 0x0, 1, 0, 0x0, .always, [⟨11, 8, .ro⟩, ⟨7, 4, .ro⟩, ⟨3, 0, .ro⟩]⟩
/-- DRC_CFG: reset 0x3. -/
def DRC_CFG : RegDesc := ⟨0x100004, 0, 1, 0x0, 1, 0, 0x3, .always, [⟨2, 0, .rw⟩]⟩
/-- DRC_SCRUB: reset 0x80000018. -/
def DRC_SCRUB : RegDesc := ⟨0x100008, 0, 1, 0x0, 1, 0, 0x80000018, .always, [⟨31, 31, .rw⟩, ⟨15, 0, .rw⟩]⟩
/-- DRC_Pp_CFG: reset 0x0. -/
def DRC_P_CFG : RegDesc := ⟨0x100010, 0, 10, 0x4, 1, 0, 0x0, .always, [⟨31, 16, .rw⟩, ⟨13, 8, .rw⟩]⟩
/-- DRC_Pp_STAT: reset 0x0. -/
def DRC_P_STAT : RegDesc := ⟨0x100040, 0, 10, 0x4, 1, 0, 0x0, .always, [⟨31, 16, .w1c⟩, ⟨15, 0, .w1c⟩]⟩
/-- DRC_Cc_CFG: reset 0x3000. -/
def DRC_C_CFG : RegDesc := ⟨0x101000, 0, 4, 0x100, 1, 0, 0x3000, .dram, [⟨15, 15, .rwi⟩, ⟨14, 12, .rwi⟩]⟩
/-- DRC_Cc_CTRL: reset 0x0. -/
def DRC_C_CTRL : RegDesc := ⟨0x101004, 0, 4, 0x100, 1, 0, 0x0, .dram, [⟨0, 0, .w1p⟩]⟩
/-- DRC_Cc_STAT: reset 0x0. -/
def DRC_C_STAT : RegDesc := ⟨0x101008, 0, 4, 0x100, 1, 0, 0x0, .dram, [⟨31, 28, .ro⟩, ⟨27, 25, .ro⟩, ⟨24, 24, .ro⟩, ⟨23, 23, .w1c⟩, ⟨22, 20, .ro⟩, ⟨19, 16, .ro⟩, ⟨11, 8, .ro⟩, ⟨1, 0, .ro⟩]⟩
/-- DRC_Cc_ECC: reset 0x0. -/
def DRC_C_ECC : RegDesc := ⟨0x10100C, 0, 4, 0x100, 1, 0, 0x0, .dram, [⟨31, 16, .w1c⟩, ⟨15, 0, .w1c⟩]⟩
/-- DRC_Cc_LINKCE: reset 0x0. -/
def DRC_C_LINKCE : RegDesc := ⟨0x101010, 0, 4, 0x100, 1, 0, 0x0, .dram, [⟨31, 0, .w1c⟩]⟩
/-- DRC_Cc_ERRADDR: reset 0x0. -/
def DRC_C_ERRADDR : RegDesc := ⟨0x101014, 0, 4, 0x100, 1, 0, 0x0, .dram, [⟨31, 31, .ro⟩, ⟨26, 0, .ro⟩]⟩
/-- DRC_Cc_BITi: reset 0x0. -/
def DRC_C_BIT : RegDesc := ⟨0x101040, 0, 4, 0x100, 16, 4, 0x0, .dram, [⟨23, 16, .ro⟩, ⟨15, 8, .ro⟩]⟩
/-- DRC_Cc_BYTEl: reset 0x0. -/
def DRC_C_BYTE : RegDesc := ⟨0x101080, 0, 4, 0x100, 2, 4, 0x0, .dram, [⟨31, 24, .ro⟩, ⟨23, 16, .ro⟩, ⟨7, 0, .ro⟩]⟩
/-- DMA_STAT: reset 0x100. -/
def DMA_STAT : RegDesc := ⟨0x110000, 0, 1, 0x0, 1, 0, 0x100, .always, [⟨22, 16, .ro⟩, ⟨8, 0, .ro⟩]⟩
/-- DMA_RETRY: reset 0x3. -/
def DMA_RETRY : RegDesc := ⟨0x110004, 0, 1, 0x0, 1, 0, 0x3, .always, [⟨2, 0, .rw⟩]⟩
/-- DMA_ERRADDR_LO: reset 0x0. -/
def DMA_ERRADDR_LO : RegDesc := ⟨0x110008, 0, 1, 0x0, 1, 0, 0x0, .always, [⟨31, 0, .ro⟩]⟩
/-- DMA_ERRADDR_HI: reset 0x0. -/
def DMA_ERRADDR_HI : RegDesc := ⟨0x11000C, 0, 1, 0x0, 1, 0, 0x0, .always, [⟨31, 0, .ro⟩]⟩
/-- DMA_ERRINFO: reset 0x0. -/
def DMA_ERRINFO : RegDesc := ⟨0x110010, 0, 1, 0x0, 1, 0, 0x0, .always, [⟨31, 28, .ro⟩, ⟨27, 26, .ro⟩, ⟨5, 0, .ro⟩]⟩
/-- DMA_Cc_CFG: reset 0x1F40. -/
def DMA_C_CFG : RegDesc := ⟨0x111000, 0, 64, 0x40, 1, 0, 0x1F40, .always, [⟨31, 31, .ro⟩, ⟨30, 30, .ro⟩, ⟨29, 28, .rwi⟩, ⟨26, 20, .rwi⟩, ⟨15, 0, .rwi⟩]⟩
/-- DMA_Cc_CTRL: reset 0x0. -/
def DMA_C_CTRL : RegDesc := ⟨0x111004, 0, 64, 0x40, 1, 0, 0x0, .always, [⟨2, 2, .w1p⟩, ⟨1, 1, .w1p⟩, ⟨0, 0, .rw⟩]⟩
/-- DMA_Cc_STAT: reset 0x0. -/
def DMA_C_STAT : RegDesc := ⟨0x111008, 0, 64, 0x40, 1, 0, 0x0, .always, [⟨31, 28, .ro⟩, ⟨27, 24, .ro⟩, ⟨23, 20, .ro⟩, ⟨19, 19, .w1c⟩, ⟨18, 18, .w1c⟩, ⟨5, 0, .ro⟩]⟩
/-- DMA_Cc_REM: reset 0x0. -/
def DMA_C_REM : RegDesc := ⟨0x11100C, 0, 64, 0x40, 1, 0, 0x0, .always, [⟨23, 0, .ro⟩]⟩
/-- DMA_Cc_LC: reset 0x0. -/
def DMA_C_LC : RegDesc := ⟨0x111010, 0, 64, 0x40, 1, 0, 0x0, .always, [⟨31, 16, .ro⟩, ⟨15, 0, .ro⟩]⟩
/-- DMA_Cc_SLOT: reset 0x0. -/
def DMA_C_SLOT : RegDesc := ⟨0x111014, 0, 64, 0x40, 1, 0, 0x0, .always, [⟨7, 0, .ro⟩]⟩
/-- DMA_Cc_Ak_LO: reset 0x0. -/
def DMA_C_A_LO : RegDesc := ⟨0x111020, 0, 64, 0x40, 4, 8, 0x0, .always, [⟨31, 0, .rwi⟩]⟩
/-- DMA_Cc_Ak_HI: reset 0x0. -/
def DMA_C_A_HI : RegDesc := ⟨0x111024, 0, 64, 0x40, 4, 8, 0x0, .always, [⟨31, 0, .rwi⟩]⟩
/-- DMA_Cc_PROGi_LO: reset 0x0. -/
def DMA_C_PROG_LO : RegDesc := ⟨0x118000, 0, 64, 0x200, 64, 8, 0x0, .always, [⟨31, 0, .rwi⟩]⟩
/-- DMA_Cc_PROGi_HI: reset 0x0. -/
def DMA_C_PROG_HI : RegDesc := ⟨0x118004, 0, 64, 0x200, 64, 8, 0x0, .always, [⟨31, 0, .rwi⟩]⟩
/-- EUN_CFG: reset 0x4003. -/
def EUN_CFG : RegDesc := ⟨0x120000, 0, 1, 0x0, 1, 0, 0x4003, .always, [⟨31, 31, .rwi⟩, ⟨30, 30, .rw⟩, ⟨15, 8, .rwi⟩, ⟨1, 0, .rwi⟩]⟩
/-- EUN_CTRL: reset 0x0. -/
def EUN_CTRL : RegDesc := ⟨0x120004, 0, 1, 0x0, 1, 0, 0x0, .always, [⟨0, 0, .w1p⟩]⟩
/-- EUN_STAT: reset 0x0. -/
def EUN_STAT : RegDesc := ⟨0x120008, 0, 1, 0x0, 1, 0, 0x0, .always, [⟨31, 31, .ro⟩, ⟨30, 30, .ro⟩, ⟨29, 29, .ro⟩, ⟨28, 28, .ro⟩, ⟨27, 27, .ro⟩, ⟨26, 26, .ro⟩, ⟨25, 25, .ro⟩, ⟨24, 24, .ro⟩, ⟨23, 23, .w1c⟩, ⟨22, 22, .ro⟩, ⟨21, 21, .ro⟩, ⟨20, 10, .ro⟩, ⟨9, 0, .ro⟩]⟩
/-- EUN_TICKERR: reset 0x0. -/
def EUN_TICKERR : RegDesc := ⟨0x12000C, 0, 1, 0x0, 1, 0, 0x0, .always, [⟨31, 0, .ro⟩]⟩
/-- EUN_Px_STAT: reset 0x0. -/
def EUN_P_STAT : RegDesc := ⟨0x120010, 0, 2, 0x10, 1, 0, 0x0, .always, [⟨31, 31, .ro⟩, ⟨30, 30, .ro⟩, ⟨15, 0, .w1c⟩]⟩
/-- EUN_Px_DLY: reset 0x0. -/
def EUN_P_DLY : RegDesc := ⟨0x120014, 0, 2, 0x10, 1, 0, 0x0, .always, [⟨23, 0, .ro⟩]⟩
/-- EUN_Px_CNT: reset 0x0. -/
def EUN_P_CNT : RegDesc := ⟨0x120018, 0, 2, 0x10, 1, 0, 0x0, .always, [⟨31, 16, .w1c⟩, ⟨15, 0, .w1c⟩]⟩
/-- EUN_TXCNT: reset 0x0. -/
def EUN_TXCNT : RegDesc := ⟨0x120030, 0, 1, 0x0, 1, 0, 0x0, .always, [⟨31, 16, .w1c⟩, ⟨15, 8, .w1c⟩, ⟨7, 0, .w1c⟩]⟩
/-- EUN_RXHDR: reset 0x0. -/
def EUN_RXHDR : RegDesc := ⟨0x120040, 0, 1, 0x0, 1, 0, 0x0, .always, [⟨31, 31, .ro⟩, ⟨30, 30, .ro⟩, ⟨29, 29, .ro⟩, ⟨28, 23, .ro⟩, ⟨22, 19, .ro⟩, ⟨17, 10, .ro⟩, ⟨9, 0, .ro⟩]⟩
/-- EUN_RXPOP: reset 0x0. -/
def EUN_RXPOP : RegDesc := ⟨0x120044, 0, 1, 0x0, 1, 0, 0x0, .always, [⟨0, 0, .w1p⟩]⟩
/-- EUN_ACK: reset 0x0. -/
def EUN_ACK : RegDesc := ⟨0x120048, 0, 1, 0x0, 1, 0, 0x0, .always, [⟨31, 31, .ro⟩, ⟨30, 25, .ro⟩, ⟨24, 16, .ro⟩, ⟨15, 8, .ro⟩, ⟨2, 0, .ro⟩]⟩
/-- EUN_ACKPOP: reset 0x0. -/
def EUN_ACKPOP : RegDesc := ⟨0x12004C, 0, 1, 0x0, 1, 0, 0x0, .always, [⟨0, 0, .w1p⟩]⟩
/-- EUN_RA_CMD: reset 0x0. -/
def EUN_RA_CMD : RegDesc := ⟨0x120050, 0, 1, 0x0, 1, 0, 0x0, .always, [⟨31, 31, .w1p⟩, ⟨30, 30, .rw⟩, ⟨29, 29, .rw⟩, ⟨9, 0, .rw⟩]⟩
/-- EUN_RA_OFF: reset 0x0. -/
def EUN_RA_OFF : RegDesc := ⟨0x120054, 0, 1, 0x0, 1, 0, 0x0, .always, [⟨31, 0, .rw⟩]⟩
/-- EUN_RA_DATA: reset 0x0. -/
def EUN_RA_DATA : RegDesc := ⟨0x120058, 0, 1, 0x0, 1, 0, 0x0, .always, [⟨31, 0, .rw⟩]⟩
/-- EUN_RA_STAT: reset 0x0. -/
def EUN_RA_STAT : RegDesc := ⟨0x12005C, 0, 1, 0x0, 1, 0, 0x0, .always, [⟨31, 31, .ro⟩, ⟨2, 0, .ro⟩]⟩
/-- EUN_RXWi: reset 0x0. -/
def EUN_RXW : RegDesc := ⟨0x120080, 0, 16, 0x4, 1, 0, 0x0, .always, [⟨31, 0, .ro⟩]⟩
/-- EUN_SHk_CFG: reset 0x0. -/
def EUN_SH_CFG : RegDesc := ⟨0x120100, 0, 4, 0x10, 1, 0, 0x0, .always, [⟨31, 31, .rw⟩, ⟨30, 30, .rw⟩, ⟨29, 24, .rw⟩, ⟨23, 17, .rw⟩, ⟨16, 16, .w1c⟩, ⟨9, 0, .rw⟩]⟩
/-- EUN_SHk_RXINFO: reset 0x0. -/
def EUN_SH_RXINFO : RegDesc := ⟨0x120104, 0, 4, 0x10, 1, 0, 0x0, .always, [⟨31, 31, .w1c⟩, ⟨25, 16, .ro⟩, ⟨15, 0, .ro⟩]⟩
/-- EUN_SHk_RXT: reset 0x0. -/
def EUN_SH_RXT : RegDesc := ⟨0x120108, 0, 4, 0x10, 1, 0, 0x0, .always, [⟨31, 0, .ro⟩]⟩
/-- EUN_SHk_RXPOS: reset 0x0. -/
def EUN_SH_RXPOS : RegDesc := ⟨0x12010C, 0, 4, 0x10, 1, 0, 0x0, .always, [⟨31, 0, .ro⟩]⟩
/-- PWR_CTRL: reset 0x4. -/
def PWR_CTRL : RegDesc := ⟨0x130000, 0, 1, 0x0, 1, 0, 0x4, .always, [⟨24, 16, .rw⟩, ⟨9, 9, .w1p⟩, ⟨8, 8, .w1p⟩, ⟨3, 3, .rw⟩, ⟨2, 0, .rw⟩]⟩
/-- PWR_STAT: reset 0x0. -/
def PWR_STAT : RegDesc := ⟨0x130004, 0, 1, 0x0, 1, 0, 0x0, .always, [⟨31, 28, .ro⟩, ⟨27, 24, .ro⟩, ⟨23, 22, .ro⟩, ⟨21, 21, .ro⟩, ⟨20, 20, .w1c⟩, ⟨10, 8, .ro⟩]⟩
/-- PWR_NEXTEVT_LO: reset 0x0. -/
def PWR_NEXTEVT_LO : RegDesc := ⟨0x130008, 0, 1, 0x0, 1, 0, 0x0, .always, [⟨31, 0, .rw⟩]⟩
/-- PWR_NEXTEVT_HI: reset 0x0. -/
def PWR_NEXTEVT_HI : RegDesc := ⟨0x13000C, 0, 1, 0x0, 1, 0, 0x0, .always, [⟨31, 0, .rw⟩]⟩
/-- PWR_MARGIN: reset 0x3E8. -/
def PWR_MARGIN : RegDesc := ⟨0x130010, 0, 1, 0x0, 1, 0, 0x3E8, .always, [⟨15, 0, .rw⟩]⟩
/-- PWR_ACK: reset 0x0. -/
def PWR_ACK : RegDesc := ⟨0x130014, 0, 1, 0x0, 1, 0, 0x0, .always, [⟨2, 0, .wo⟩]⟩
/-- PWR_Sk_CFG: reset 0x0. -/
def PWR_S_CFG : RegDesc := ⟨0x130018, 1, 5, 0x8, 1, 0, 0x0, .always, [⟨31, 16, .rw⟩, ⟨15, 0, .rw⟩]⟩
/-- PWR_Sk_COST: reset 0x0. -/
def PWR_S_COST : RegDesc := ⟨0x13001C, 1, 5, 0x8, 1, 0, 0x0, .always, [⟨15, 0, .rw⟩]⟩
/-- PWR_THR: reset 0xC809C4. -/
def PWR_THR : RegDesc := ⟨0x130040, 0, 1, 0x0, 1, 0, 0xC809C4, .always, [⟨31, 16, .rw⟩, ⟨15, 0, .rw⟩]⟩
/-- PWR_SUP: reset 0x0. -/
def PWR_SUP : RegDesc := ⟨0x130044, 0, 1, 0x0, 1, 0, 0x0, .always, [⟨8, 8, .ro⟩, ⟨6, 0, .ro⟩]⟩
/-- PWR_HKi_VAL: reset 0x0. -/
def PWR_HK_VAL : RegDesc := ⟨0x130100, 0, 32, 0x4, 1, 0, 0x0, .always, [⟨31, 31, .ro⟩, ⟨15, 0, .ro⟩]⟩
/-- PWR_HKi_LIM: reset 0x7FFF8000. -/
def PWR_HK_LIM : RegDesc := ⟨0x130180, 0, 32, 0x4, 1, 0, 0x7FFF8000, .always, [⟨31, 16, .rw⟩, ⟨15, 0, .rw⟩]⟩
/-- SEC_STAT: reset 0x0. -/
def SEC_STAT : RegDesc := ⟨0x140000, 0, 1, 0x0, 1, 0, 0x0, .always, [⟨31, 31, .ro⟩, ⟨30, 29, .ro⟩, ⟨28, 28, .ro⟩, ⟨27, 27, .ro⟩, ⟨26, 26, .ro⟩, ⟨25, 25, .ro⟩, ⟨23, 16, .ro⟩]⟩
/-- SEC_PRES: reset 0x0. -/
def SEC_PRES : RegDesc := ⟨0x140004, 0, 1, 0x0, 1, 0, 0x0, .always, [⟨31, 31, .ro⟩, ⟨30, 30, .ro⟩, ⟨29, 29, .ro⟩, ⟨28, 28, .ro⟩, ⟨20, 0, .ro⟩]⟩
/-- SEC_SEAL: reset 0x0. -/
def SEC_SEAL : RegDesc := ⟨0x140008, 0, 1, 0x0, 1, 0, 0x0, .always, [⟨31, 31, .ro⟩, ⟨15, 0, .ro⟩]⟩
/-- SEC_MINVER: reset 0x0. -/
def SEC_MINVER : RegDesc := ⟨0x14000C, 0, 1, 0x0, 1, 0, 0x0, .always, [⟨31, 0, .rwp⟩]⟩
/-- SEC_CTRL: reset 0x0. -/
def SEC_CTRL : RegDesc := ⟨0x140010, 0, 1, 0x0, 1, 0, 0x0, .always, [⟨11, 8, .rwp⟩, ⟨1, 1, .w1p⟩, ⟨0, 0, .w1p⟩]⟩
/-- SEC_KEYSEL: reset 0x0. -/
def SEC_KEYSEL : RegDesc := ⟨0x140014, 0, 1, 0x0, 1, 0, 0x0, .always, [⟨1, 0, .rwp⟩]⟩
/-- SEC_KEYCMD: reset 0x0. -/
def SEC_KEYCMD : RegDesc := ⟨0x140018, 0, 1, 0x0, 1, 0, 0x0, .always, [⟨1, 1, .rwp⟩, ⟨0, 0, .rwp⟩]⟩
/-- SEC_KEYSTAT: reset 0x0. -/
def SEC_KEYSTAT : RegDesc := ⟨0x14001C, 0, 1, 0x0, 1, 0, 0x0, .always, [⟨31, 31, .ro⟩, ⟨3, 2, .ro⟩, ⟨1, 0, .ro⟩]⟩
/-- SEC_DBG: reset 0x0. -/
def SEC_DBG : RegDesc := ⟨0x140020, 0, 1, 0x0, 1, 0, 0x0, .always, [⟨3, 2, .rwp⟩, ⟨1, 1, .rwp⟩, ⟨0, 0, .w1p⟩]⟩
/-- SEC_FRKIV_LO: reset 0x0. -/
def SEC_FRKIV_LO : RegDesc := ⟨0x140024, 0, 1, 0x0, 1, 0, 0x0, .always, [⟨31, 0, .rw⟩]⟩
/-- SEC_FRKIV_HI: reset 0x0. -/
def SEC_FRKIV_HI : RegDesc := ⟨0x140028, 0, 1, 0x0, 1, 0, 0x0, .always, [⟨31, 0, .rw⟩]⟩
/-- SEC_FRKINIT: reset 0x0. -/
def SEC_FRKINIT : RegDesc := ⟨0x14002C, 0, 1, 0x0, 1, 0, 0x0, .always, [⟨31, 31, .w1p⟩, ⟨3, 0, .rw⟩]⟩
/-- SEC_FRKSTAT: reset 0x0. -/
def SEC_FRKSTAT : RegDesc := ⟨0x140030, 0, 1, 0x0, 1, 0, 0x0, .always, [⟨31, 31, .ro⟩, ⟨30, 30, .w1c⟩, ⟨23, 16, .ro⟩, ⟨15, 0, .ro⟩]⟩
/-- SEC_FRKk_ADD: reset 0x0. -/
def SEC_FRK_ADD : RegDesc := ⟨0x140040, 0, 16, 0x4, 1, 0, 0x0, .always, [⟨15, 0, .wo⟩]⟩
/-- SEC_FRKk_VAL_LO: reset 0x0. -/
def SEC_FRK_VAL_LO : RegDesc := ⟨0x140080, 0, 16, 0x8, 1, 0, 0x0, .always, [⟨31, 0, .ro⟩]⟩
/-- SEC_FRKk_VAL_HI: reset 0x0. -/
def SEC_FRK_VAL_HI : RegDesc := ⟨0x140084, 0, 16, 0x8, 1, 0, 0x0, .always, [⟨31, 0, .ro⟩]⟩
/-- REC_STAT: reset 0x0. -/
def REC_STAT : RegDesc := ⟨0x150000, 0, 1, 0x0, 1, 0, 0x0, .always, [⟨31, 31, .ro⟩, ⟨30, 30, .ro⟩, ⟨29, 29, .ro⟩, ⟨28, 28, .ro⟩, ⟨27, 27, .ro⟩, ⟨26, 26, .ro⟩, ⟨25, 22, .ro⟩, ⟨8, 0, .ro⟩]⟩
/-- REC_CTRL: reset 0x0. -/
def REC_CTRL : RegDesc := ⟨0x150004, 0, 1, 0x0, 1, 0, 0x0, .always, [⟨1, 1, .rwp⟩, ⟨0, 0, .rwp⟩]⟩
/-- REC_LOST: reset 0x0. -/
def REC_LOST : RegDesc := ⟨0x150008, 0, 1, 0x0, 1, 0, 0x0, .always, [⟨31, 0, .ro⟩]⟩
/-- REC_SUPP: reset 0x0. -/
def REC_SUPP : RegDesc := ⟨0x15000C, 0, 1, 0x0, 1, 0, 0x0, .always, [⟨31, 0, .w1c⟩]⟩
/-- REC_USED: reset 0x0. -/
def REC_USED : RegDesc := ⟨0x150010, 0, 1, 0x0, 1, 0, 0x0, .always, [⟨29, 16, .ro⟩, ⟨8, 0, .ro⟩]⟩
/-- REC_NEXTSEQ: reset 0x0. -/
def REC_NEXTSEQ : RegDesc := ⟨0x150014, 0, 1, 0x0, 1, 0, 0x0, .always, [⟨31, 0, .ro⟩]⟩
/-- REC_RLDEF: reset 0x1003E8. -/
def REC_RLDEF : RegDesc := ⟨0x150018, 0, 1, 0x0, 1, 0, 0x1003E8, .always, [⟨23, 16, .rwp⟩, ⟨15, 0, .rwp⟩]⟩
/-- REC_RLi_CODE: reset 0x0. -/
def REC_RL_CODE : RegDesc := ⟨0x150040, 0, 16, 0x8, 1, 0, 0x0, .always, [⟨31, 16, .rwp⟩, ⟨15, 0, .rwp⟩]⟩
/-- REC_RLi_LIM: reset 0x0. -/
def REC_RL_LIM : RegDesc := ⟨0x150044, 0, 16, 0x8, 1, 0, 0x0, .always, [⟨31, 31, .rwp⟩, ⟨23, 16, .rwp⟩, ⟨15, 0, .rwp⟩]⟩
/-- REC_SNAPj_CODE: reset 0x0. -/
def REC_SNAP_CODE : RegDesc := ⟨0x1500C0, 0, 16, 0x8, 1, 0, 0x0, .always, [⟨31, 16, .rw⟩, ⟨15, 0, .rw⟩]⟩
/-- REC_SNAPj_CFG: reset 0x0. -/
def REC_SNAP_CFG : RegDesc := ⟨0x1500C4, 0, 16, 0x8, 1, 0, 0x0, .always, [⟨31, 31, .rw⟩, ⟨19, 16, .rw⟩, ⟨14, 0, .rw⟩]⟩
/-- REC_Cu_IDX: reset 0x0. -/
def REC_C_IDX : RegDesc := ⟨0x150200, 0, 2, 0x10, 1, 0, 0x0, .always, [⟨13, 0, .rw⟩]⟩
/-- REC_Cu_STAT: reset 0x0. -/
def REC_C_STAT : RegDesc := ⟨0x150204, 0, 2, 0x10, 1, 0, 0x0, .always, [⟨31, 30, .ro⟩, ⟨29, 28, .ro⟩]⟩
/-- REC_Cu_CMD: reset 0x0. -/
def REC_C_CMD : RegDesc := ⟨0x150208, 0, 2, 0x10, 1, 0, 0x0, .always, [⟨0, 0, .w1p⟩]⟩
/-- CLK_CTRL: reset 0x0. -/
def CLK_CTRL : RegDesc := ⟨0x160000, 0, 1, 0x0, 1, 0, 0x0, .always, [⟨1, 0, .rwi⟩]⟩
/-- CLK_STAT: reset 0x0. -/
def CLK_STAT : RegDesc := ⟨0x160004, 0, 1, 0x0, 1, 0, 0x0, .always, [⟨31, 31, .w1c⟩, ⟨5, 5, .ro⟩, ⟨4, 4, .ro⟩, ⟨3, 3, .ro⟩, ⟨2, 2, .ro⟩, ⟨1, 0, .ro⟩]⟩
/-- CLK_COAST: reset 0x64. -/
def CLK_COAST : RegDesc := ⟨0x160008, 0, 1, 0x0, 1, 0, 0x64, .always, [⟨26, 16, .ro⟩, ⟨9, 0, .rw⟩]⟩
/-- CLK_Ss_PFREQ: reset 0x0. -/
def CLK_S_PFREQ : RegDesc := ⟨0x160100, 0, 6, 0x4, 1, 0, 0x0, .station, [⟨31, 0, .rw⟩]⟩
/-- IOX_GPIO_INg: reset 0x0. -/
def IOX_GPIO_IN : RegDesc := ⟨0x170000, 0, 2, 0x4, 1, 0, 0x0, .always, [⟨31, 0, .ro⟩]⟩
/-- IOX_GPIO_OUTg: reset 0x0. -/
def IOX_GPIO_OUT : RegDesc := ⟨0x170008, 0, 2, 0x4, 1, 0, 0x0, .always, [⟨31, 0, .rw⟩]⟩
/-- IOX_GPIO_OEg: reset 0x0. -/
def IOX_GPIO_OE : RegDesc := ⟨0x170010, 0, 2, 0x4, 1, 0, 0x0, .always, [⟨31, 0, .rw⟩]⟩
/-- IOX_EVCk_CFG: reset 0x0. -/
def IOX_EVC_CFG : RegDesc := ⟨0x170100, 0, 16, 0x10, 1, 0, 0x0, .always, [⟨31, 31, .rw⟩, ⟨30, 29, .rw⟩, ⟨28, 28, .rw⟩, ⟨5, 0, .rw⟩]⟩
/-- IOX_EVCk_TIME: reset 0x0. -/
def IOX_EVC_TIME : RegDesc := ⟨0x170104, 0, 16, 0x10, 1, 0, 0x0, .always, [⟨31, 0, .ro⟩]⟩
/-- IOX_EVCk_CNT: reset 0x0. -/
def IOX_EVC_CNT : RegDesc := ⟨0x170108, 0, 16, 0x10, 1, 0, 0x0, .always, [⟨31, 0, .w1c⟩]⟩
/-- IOX_SPIk_CFG: reset 0x2000. -/
def IOX_SPI_CFG : RegDesc := ⟨0x170200, 0, 2, 0x10, 1, 0, 0x2000, .always, [⟨31, 31, .rw⟩, ⟨15, 10, .rwi⟩, ⟨6, 5, .rwi⟩, ⟨4, 0, .rwi⟩]⟩
/-- IOX_SPIk_TX: reset 0x0. -/
def IOX_SPI_TX : RegDesc := ⟨0x170204, 0, 2, 0x10, 1, 0, 0x0, .always, [⟨31, 0, .wo⟩]⟩
/-- IOX_SPIk_RXD: reset 0x0. -/
def IOX_SPI_RXD : RegDesc := ⟨0x170208, 0, 2, 0x10, 1, 0, 0x0, .always, [⟨31, 0, .ro⟩]⟩
/-- IOX_SPIk_STAT: reset 0x0. -/
def IOX_SPI_STAT : RegDesc := ⟨0x17020C, 0, 2, 0x10, 1, 0, 0x0, .always, [⟨31, 31, .ro⟩, ⟨3, 0, .ro⟩]⟩
/-- IOX_I2Ck_CFG: reset 0x0. -/
def IOX_I2C_CFG : RegDesc := ⟨0x170300, 0, 4, 0x10, 1, 0, 0x0, .always, [⟨31, 31, .rw⟩, ⟨1, 0, .rw⟩]⟩
/-- IOX_I2Ck_CMD: reset 0x0. -/
def IOX_I2C_CMD : RegDesc := ⟨0x170304, 0, 4, 0x10, 1, 0, 0x0, .always, [⟨31, 31, .w1p⟩, ⟨29, 27, .rw⟩, ⟨26, 24, .rw⟩, ⟨22, 16, .rw⟩]⟩
/-- IOX_I2Ck_DATA: reset 0x0. -/
def IOX_I2C_DATA : RegDesc := ⟨0x170308, 0, 4, 0x10, 1, 0, 0x0, .always, [⟨31, 0, .rw⟩]⟩
/-- IOX_I2Ck_STAT: reset 0x0. -/
def IOX_I2C_STAT : RegDesc := ⟨0x17030C, 0, 4, 0x10, 1, 0, 0x0, .always, [⟨31, 31, .ro⟩, ⟨1, 1, .w1c⟩, ⟨0, 0, .w1c⟩]⟩
/-- IOX_Uk_CFG: reset 0x35. -/
def IOX_U_CFG : RegDesc := ⟨0x170400, 0, 2, 0x10, 1, 0, 0x35, .always, [⟨31, 31, .rw⟩, ⟨15, 0, .rwi⟩]⟩
/-- IOX_Uk_TX: reset 0x0. -/
def IOX_U_TX : RegDesc := ⟨0x170404, 0, 2, 0x10, 1, 0, 0x0, .always, [⟨31, 31, .ro⟩, ⟨7, 0, .wo⟩]⟩
/-- IOX_Uk_RX: reset 0x0. -/
def IOX_U_RX : RegDesc := ⟨0x170408, 0, 2, 0x10, 1, 0, 0x0, .always, [⟨31, 31, .ro⟩, ⟨7, 0, .ro⟩]⟩
/-- IOX_Uk_STAT: reset 0x0. -/
def IOX_U_STAT : RegDesc := ⟨0x17040C, 0, 2, 0x10, 1, 0, 0x0, .always, [⟨31, 31, .w1p⟩, ⟨16, 16, .w1c⟩, ⟨12, 8, .ro⟩, ⟨4, 0, .ro⟩]⟩

end Sys2Proof.R

namespace Sys2Proof.Machine

/-- Registers of block SYS, part 0. -/
def regsSYS0 : List RegDesc := [R.SYS_IDENT, R.SYS_FEAT, R.SYS_CTRL, R.SYS_RSTC, R.SYS_START, R.SYS_BIVC, R.SYS_WDOG, R.SYS_WDKICK, R.SYS_BCCFG, R.SYS_PCYC, R.SYS_OPSEC, R.SYS_RTC]
/-- Registers of block SYS, part 1. -/
def regsSYS1 : List RegDesc := [R.SYS_RTCALM, R.SYS_ABNCNT, R.SYS_BCCAUSE, R.SYS_BCHDL, R.SYS_ABS0, R.SYS_ABS1]
/-- Registers of block TCK, part 0. -/
def regsTCK0 : List RegDesc := [R.TCK_CTRL, R.TCK_COUNT_LO, R.TCK_COUNT_HI, R.TCK_PHASE, R.TCK_STAT, R.TCK_ADJ]
/-- Registers of block PLC, part 0. -/
def regsPLC0 : List RegDesc := [R.PLC_CTRL, R.PLC_STAT, R.PLC_REFUSE, R.PLC_LANEMAP, R.PLC_PAIRMAP, R.PLC_DMASLOT, R.PLC_RETAIN, R.PLC_P_LOAD, R.PLC_E_LOAD, R.PLC_MAXCLASS, R.PLC_OVRLIM, R.PLC_OVRCNT]
/-- Registers of block PLC, part 1. -/
def regsPLC1 : List RegDesc := [R.PLC_LASTOVR, R.PLC_C_FREE]
/-- Registers of block SEQ, part 0. -/
def regsSEQ0 : List RegDesc := [R.SEQ_STAT, R.SEQ_PAIRSTAT, R.SEQ_RBCNT, R.SEQ_LASTRB, R.SEQ_CTXSEL, R.SEQ_CTXSTAT, R.SEQ_CTXPC, R.SEQ_CTXCMD, R.SEQ_FAULT, R.SEQ_EVSET, R.SEQ_LDADDR_LO, R.SEQ_LDADDR_HI]
/-- Registers of block SEQ, part 1. -/
def regsSEQ1 : List RegDesc := [R.SEQ_LDLEN, R.SEQ_LDCTRL, R.SEQ_LDSTAT, R.SEQ_IMGINFO, R.SEQ_EV, R.SEQ_T_CTRL, R.SEQ_T_CNT]
/-- Registers of block FMT, part 0. -/
def regsFMT0 : List RegDesc := [R.FMT_STAT, R.FMT_W_CTRL, R.FMT_W_RSHDL, R.FMT_W_RSBLK, R.FMT_W_STAT, R.FMT_W_ACK, R.FMT_W_LIMIT, R.FMT_W_HANDLE, R.FMT_W_DROP, R.FMT_QUEUE, R.FMT_QSTAT, R.FMT_CMDHDL]
/-- Registers of block FMT, part 1. -/
def regsFMT1 : List RegDesc := [R.FMT_CMD, R.FMT_CMDSTAT, R.FMT_HEAD, R.FMT_HEADSTAT, R.FMT_HEADINFO, R.FMT_PGSTART, R.FMT_IMAGING, R.FMT_DONE_HDL, R.FMT_DONE_STAT, R.FMT_DONE_POP, R.FMT_GAP, R.FMT_GAPREQ]
/-- Registers of block FMT, part 2. -/
def regsFMT2 : List RegDesc := [R.FMT_GAPGRACE, R.FMT_SPD, R.FMT_DWIN]
/-- Registers of block CDC, part 0. -/
def regsCDC0 : List RegDesc := [R.CDC_STAT, R.CDC_DEC_FAILCNT, R.CDC_DEC_LAST, R.CDC_DEC_BLANK, R.CDC_ENC_DROP, R.CDC_D_STAT, R.CDC_E_CFG, R.CDC_E_CTRL, R.CDC_E_RING, R.CDC_E_RINGLOC, R.CDC_E_WRPTR, R.CDC_E_RDPTR]
/-- Registers of block CDC, part 1. -/
def regsCDC1 : List RegDesc := [R.CDC_E_DOFF, R.CDC_E_DLEN, R.CDC_E_DPOP, R.CDC_E_STAT]
/-- Registers of block BST, part 0. -/
def regsBST0 : List RegDesc := [R.BST_UPD, R.BST_UPDSTAT, R.BST_S_CFG, R.BST_S_LPC, R.BST_S_START, R.BST_S_STAT, R.BST_S_LAG, R.BST_S_SCAN, R.BST_S_DROPCNT, R.BST_S_PGDROP, R.BST_S_REMAP, R.BST_S_ZOFF]
/-- Registers of block EXP, part 0. -/
def regsEXP0 : List RegDesc := [R.EXP_ILK, R.EXP_S_CTRL, R.EXP_S_STAT, R.EXP_S_SPICFG, R.EXP_S_SPICMD, R.EXP_S_SPIRAW, R.EXP_S_SPIRD, R.EXP_S_PWR, R.EXP_S_APCCFG, R.EXP_S_APCSTB, R.EXP_S_MONAVG, R.EXP_S_DCFG]
/-- Registers of block EXP, part 1. -/
def regsEXP1 : List RegDesc := [R.EXP_S_EMAX, R.EXP_S_SMAX, R.EXP_S_SSUM, R.EXP_S_EPEAK, R.EXP_S_DSTAT, R.EXP_S_TONE, R.EXP_S_TACT, R.EXP_S_BDLY, R.EXP_S_TRIM, R.EXP_S_MON]
/-- Registers of block SCN, part 0. -/
def regsSCN0 : List RegDesc := [R.SCN_LPER, R.SCN_CLAMP, R.SCN_CLAMPK, R.SCN_STAT, R.SCN_S_CFG, R.SCN_S_RPM, R.SCN_S_PXF, R.SCN_S_SCANMAX, R.SCN_S_BDWIN, R.SCN_S_SOLDLY, R.SCN_S_LOCK, R.SCN_S_PHOFF]
/-- Registers of block SCN, part 1. -/
def regsSCN1 : List RegDesc := [R.SCN_S_MAG, R.SCN_S_STAT, R.SCN_S_PERIOD, R.SCN_S_PERR, R.SCN_S_ABTIME, R.SCN_S_CAP, R.SCN_S_MISSCNT, R.SCN_S_ALIGN, R.SCN_S_LIN]
/-- Registers of block CAL, part 0. -/
def regsCAL0 : List RegDesc := [R.CAL_CTRL, R.CAL_CFG, R.CAL_GEOM, R.CAL_LPC, R.CAL_STAT, R.CAL_HANDLE, R.CAL_SET, R.CAL_SETSTAT, R.CAL_M_CFG, R.CAL_M_LAST, R.CAL_P_CFG, R.CAL_P_STAT]
/-- Registers of block CAL, part 1. -/
def regsCAL1 : List RegDesc := [R.CAL_P_MAP]
/-- Registers of block LPE, part 0. -/
def regsLPE0 : List RegDesc := [R.LPE_STAT, R.LPE_PACC, R.LPE_PDATA, R.LPE_PCMD, R.LPE_PRD, R.LPE_PSTAT, R.LPE_L_STAT]
/-- Registers of block HVS, part 0. -/
def regsHVS0 : List RegDesc := [R.HVS_TRIP, R.HVS_S_WIN, R.HVS_C_CFG, R.HVS_C_CTRL, R.HVS_C_OUT, R.HVS_C_SCALE, R.HVS_C_VMEAS, R.HVS_C_IMEAS, R.HVS_C_PROT, R.HVS_C_POL, R.HVS_C_STAT]
/-- Registers of block FUS, part 0. -/
def regsFUS0 : List RegDesc := [R.FUS_CFG, R.FUS_HOLD, R.FUS_STAT, R.FUS_T_CFG, R.FUS_T_RANGE, R.FUS_T_VAL, R.FUS_T_CTRL, R.FUS_Z_CFG, R.FUS_Z_TRIP, R.FUS_Z_MAX, R.FUS_Z_CMD, R.FUS_Z_TEMP]
/-- Registers of block FUS, part 1. -/
def regsFUS1 : List RegDesc := [R.FUS_Z_STAT, R.FUS_Z_CTRL]
/-- Registers of block MNS, part 0. -/
def regsMNS0 : List RegDesc := [R.MNS_STAT, R.MNS_LINE, R.MNS_CTRL, R.MNS_INV, R.MNS_FLK, R.MNS_RAMP, R.MNS_CAP, R.MNS_SPDPWR, R.MNS_BOUND, R.MNS_MEAS, R.MNS_EVCNT, R.MNS_LPWR]
/-- Registers of block MNS, part 1. -/
def regsMNS1 : List RegDesc := [R.MNS_SHUNT, R.MNS_FTAB, R.MNS_Z_PRATED]
/-- Registers of block FOC, part 0. -/
def regsFOC0 : List RegDesc := [R.FOC_VBUS, R.FOC_BRKCFG, R.FOC_BRKSTAT, R.FOC_C_CFG, R.FOC_C_MOTOR, R.FOC_C_ELEC, R.FOC_C_LIMIT, R.FOC_C_HO, R.FOC_C_START, R.FOC_C_ADV, R.FOC_C_LAWS, R.FOC_C_CTRL]
/-- Registers of block FOC, part 1. -/
def regsFOC1 : List RegDesc := [R.FOC_C_STAT, R.FOC_C_VQ, R.FOC_C_VD, R.FOC_C_IQSET, R.FOC_C_IDQ, R.FOC_C_SPEED, R.FOC_ST_CFG, R.FOC_ST_CTRL, R.FOC_ST_STAT, R.FOC_SD_CFG, R.FOC_SD_FREQ, R.FOC_SD_CNT]
/-- Registers of block FOC, part 2. -/
def regsFOC2 : List RegDesc := [R.FOC_SPD_CFG, R.FOC_SPD_VAL]
/-- Registers of block AXS, part 0. -/
def regsAXS0 : List RegDesc := [R.AXS_FLT0, R.AXS_FLT1, R.AXS_A_CFG, R.AXS_A_SW, R.AXS_A_VMAX, R.AXS_A_AMAX, R.AXS_A_JMAX, R.AXS_A_DSTOP, R.AXS_A_JSTOP, R.AXS_A_STALL, R.AXS_A_HOME, R.AXS_A_HVEL]
/-- Registers of block AXS, part 1. -/
def regsAXS1 : List RegDesc := [R.AXS_A_VTGT, R.AXS_A_CMD, R.AXS_A_STAT, R.AXS_A_VEL, R.AXS_A_DEV, R.AXS_A_TGT_LO, R.AXS_A_TGT_HI, R.AXS_A_LIMLO_LO, R.AXS_A_LIMLO_HI, R.AXS_A_LIMHI_LO, R.AXS_A_LIMHI_HI, R.AXS_A_HOMEPOS_LO]
/-- Registers of block AXS, part 2. -/
def regsAXS2 : List RegDesc := [R.AXS_A_HOMEPOS_HI, R.AXS_A_CMDPOS_LO, R.AXS_A_CMDPOS_HI, R.AXS_A_RAW_LO, R.AXS_A_RAW_HI, R.AXS_A_FILT_LO, R.AXS_A_FILT_HI, R.AXS_A_HCAP_LO, R.AXS_A_HCAP_HI, R.AXS_E_CFG, R.AXS_E_CNT, R.AXS_E_ERR]
/-- Registers of block DRC, part 0. -/
def regsDRC0 : List RegDesc := [R.DRC_STAT, R.DRC_CFG, R.DRC_SCRUB, R.DRC_P_CFG, R.DRC_P_STAT, R.DRC_C_CFG, R.DRC_C_CTRL, R.DRC_C_STAT, R.DRC_C_ECC, R.DRC_C_LINKCE, R.DRC_C_ERRADDR, R.DRC_C_BIT]
/-- Registers of block DRC, part 1. -/
def regsDRC1 : List RegDesc := [R.DRC_C_BYTE]
/-- Registers of block DMA, part 0. -/
def regsDMA0 : List RegDesc := [R.DMA_STAT, R.DMA_RETRY, R.DMA_ERRADDR_LO, R.DMA_ERRADDR_HI, R.DMA_ERRINFO, R.DMA_C_CFG, R.DMA_C_CTRL, R.DMA_C_STAT, R.DMA_C_REM, R.DMA_C_LC, R.DMA_C_SLOT, R.DMA_C_A_LO]
/-- Registers of block DMA, part 1. -/
def regsDMA1 : List RegDesc := [R.DMA_C_A_HI, R.DMA_C_PROG_LO, R.DMA_C_PROG_HI]
/-- Registers of block EUN, part 0. -/
def regsEUN0 : List RegDesc := [R.EUN_CFG, R.EUN_CTRL, R.EUN_STAT, R.EUN_TICKERR, R.EUN_P_STAT, R.EUN_P_DLY, R.EUN_P_CNT, R.EUN_TXCNT, R.EUN_RXHDR, R.EUN_RXPOP, R.EUN_ACK, R.EUN_ACKPOP]
/-- Registers of block EUN, part 1. -/
def regsEUN1 : List RegDesc := [R.EUN_RA_CMD, R.EUN_RA_OFF, R.EUN_RA_DATA, R.EUN_RA_STAT, R.EUN_RXW, R.EUN_SH_CFG, R.EUN_SH_RXINFO, R.EUN_SH_RXT, R.EUN_SH_RXPOS]
/-- Registers of block PWR, part 0. -/
def regsPWR0 : List RegDesc := [R.PWR_CTRL, R.PWR_STAT, R.PWR_NEXTEVT_LO, R.PWR_NEXTEVT_HI, R.PWR_MARGIN, R.PWR_ACK, R.PWR_S_CFG, R.PWR_S_COST, R.PWR_THR, R.PWR_SUP, R.PWR_HK_VAL, R.PWR_HK_LIM]
/-- Registers of block SEC, part 0. -/
def regsSEC0 : List RegDesc := [R.SEC_STAT, R.SEC_PRES, R.SEC_SEAL, R.SEC_MINVER, R.SEC_CTRL, R.SEC_KEYSEL, R.SEC_KEYCMD, R.SEC_KEYSTAT, R.SEC_DBG, R.SEC_FRKIV_LO, R.SEC_FRKIV_HI, R.SEC_FRKINIT]
/-- Registers of block SEC, part 1. -/
def regsSEC1 : List RegDesc := [R.SEC_FRKSTAT, R.SEC_FRK_ADD, R.SEC_FRK_VAL_LO, R.SEC_FRK_VAL_HI]
/-- Registers of block REC, part 0. -/
def regsREC0 : List RegDesc := [R.REC_STAT, R.REC_CTRL, R.REC_LOST, R.REC_SUPP, R.REC_USED, R.REC_NEXTSEQ, R.REC_RLDEF, R.REC_RL_CODE, R.REC_RL_LIM, R.REC_SNAP_CODE, R.REC_SNAP_CFG, R.REC_C_IDX]
/-- Registers of block REC, part 1. -/
def regsREC1 : List RegDesc := [R.REC_C_STAT, R.REC_C_CMD]
/-- Registers of block CLK, part 0. -/
def regsCLK0 : List RegDesc := [R.CLK_CTRL, R.CLK_STAT, R.CLK_COAST, R.CLK_S_PFREQ]
/-- Registers of block IOX, part 0. -/
def regsIOX0 : List RegDesc := [R.IOX_GPIO_IN, R.IOX_GPIO_OUT, R.IOX_GPIO_OE, R.IOX_EVC_CFG, R.IOX_EVC_TIME, R.IOX_EVC_CNT, R.IOX_SPI_CFG, R.IOX_SPI_TX, R.IOX_SPI_RXD, R.IOX_SPI_STAT, R.IOX_I2C_CFG, R.IOX_I2C_CMD]
/-- Registers of block IOX, part 1. -/
def regsIOX1 : List RegDesc := [R.IOX_I2C_DATA, R.IOX_I2C_STAT, R.IOX_U_CFG, R.IOX_U_TX, R.IOX_U_RX, R.IOX_U_STAT]

/-- Every register of Table 23-2, in address order. -/
def regMap : List RegDesc :=
  regsSYS0 ++ regsSYS1 ++
  regsTCK0 ++
  regsPLC0 ++ regsPLC1 ++
  regsSEQ0 ++ regsSEQ1 ++
  regsFMT0 ++ regsFMT1 ++ regsFMT2 ++
  regsCDC0 ++ regsCDC1 ++
  regsBST0 ++
  regsEXP0 ++ regsEXP1 ++
  regsSCN0 ++ regsSCN1 ++
  regsCAL0 ++ regsCAL1 ++
  regsLPE0 ++
  regsHVS0 ++
  regsFUS0 ++ regsFUS1 ++
  regsMNS0 ++ regsMNS1 ++
  regsFOC0 ++ regsFOC1 ++ regsFOC2 ++
  regsAXS0 ++ regsAXS1 ++ regsAXS2 ++
  regsDRC0 ++ regsDRC1 ++
  regsDMA0 ++ regsDMA1 ++
  regsEUN0 ++ regsEUN1 ++
  regsPWR0 ++
  regsSEC0 ++ regsSEC1 ++
  regsREC0 ++ regsREC1 ++
  regsCLK0 ++
  regsIOX0 ++ regsIOX1

end Sys2Proof.Machine
end

