-- ==== Sys2Proof/Machine/RegFields.lean ====
section
/-! DEFINITION. Names for the register fields the meanings use, block by block, as the chapters' register tables give
them. -/

namespace Sys2Proof.F

open Sys2Proof.Machine

def SYS_START_STATE : FldDesc := ⟨R.SYS_START, 31, 30⟩
def SYS_START_MS : FldDesc := ⟨R.SYS_START, 15, 1⟩
def SYS_WDOG_TMO : FldDesc := ⟨R.SYS_WDOG, 23, 0⟩
def SYS_BCCFG_SBUDGET : FldDesc := ⟨R.SYS_BCCFG, 7, 0⟩
def SYS_ABNCNT_COUNT : FldDesc := ⟨R.SYS_ABNCNT, 31, 0⟩
def SYS_BCCAUSE_CODE : FldDesc := ⟨R.SYS_BCCAUSE, 31, 24⟩
def SYS_ABS0_LANE : FldDesc := ⟨R.SYS_ABS0, 31, 24⟩
def SYS_ABS0_SRAMCE : FldDesc := ⟨R.SYS_ABS0, 23, 16⟩
def SYS_ABS0_DRAMCE : FldDesc := ⟨R.SYS_ABS0, 15, 8⟩
def SYS_ABS0_DECLANE : FldDesc := ⟨R.SYS_ABS0, 7, 0⟩
def SYS_ABS1_REFLOSS : FldDesc := ⟨R.SYS_ABS1, 31, 24⟩
def SYS_ABS1_RINGBRK : FldDesc := ⟨R.SYS_ABS1, 23, 16⟩
def SYS_ABS1_SENSOR : FldDesc := ⟨R.SYS_ABS1, 15, 8⟩
def SYS_ABS1_HKSTALE : FldDesc := ⟨R.SYS_ABS1, 7, 0⟩
def TCK_STAT_SLIP : FldDesc := ⟨R.TCK_STAT, 3, 3⟩
def TCK_STAT_COAST : FldDesc := ⟨R.TCK_STAT, 2, 2⟩
def TCK_STAT_RINGSYNC : FldDesc := ⟨R.TCK_STAT, 1, 1⟩
def TCK_STAT_LOCK : FldDesc := ⟨R.TCK_STAT, 0, 0⟩
def PLC_STAT_WCOLL : FldDesc := ⟨R.PLC_STAT, 4, 4⟩
def PLC_STAT_LANESUB : FldDesc := ⟨R.PLC_STAT, 3, 3⟩
def PLC_STAT_PAIRSUB : FldDesc := ⟨R.PLC_STAT, 2, 2⟩
def PLC_STAT_RESULT : FldDesc := ⟨R.PLC_STAT, 1, 0⟩
def PLC_REFUSE_CODE : FldDesc := ⟨R.PLC_REFUSE, 7, 0⟩
def PLC_DMASLOT_USED : FldDesc := ⟨R.PLC_DMASLOT, 8, 0⟩
def PLC_RETAIN_GRAN : FldDesc := ⟨R.PLC_RETAIN, 15, 0⟩
def PLC_MAXCLASS_BYMAINS : FldDesc := ⟨R.PLC_MAXCLASS, 9, 9⟩
def PLC_MAXCLASS_BYFLICK : FldDesc := ⟨R.PLC_MAXCLASS, 8, 8⟩
def PLC_MAXCLASS_CLASS : FldDesc := ⟨R.PLC_MAXCLASS, 3, 0⟩
def PLC_OVRLIM_LIM : FldDesc := ⟨R.PLC_OVRLIM, 3, 0⟩
def PLC_OVRCNT_COUNT : FldDesc := ⟨R.PLC_OVRCNT, 31, 0⟩
def SEQ_STAT_RB : FldDesc := ⟨R.SEQ_STAT, 4, 4⟩
def SEQ_STAT_MODE : FldDesc := ⟨R.SEQ_STAT, 3, 0⟩
def SEQ_RBCNT_COUNT : FldDesc := ⟨R.SEQ_RBCNT, 31, 0⟩
def SEQ_LDLEN_LEN : FldDesc := ⟨R.SEQ_LDLEN, 21, 0⟩
def SEQ_LDSTAT_ERR : FldDesc := ⟨R.SEQ_LDSTAT, 31, 24⟩
def SEQ_LDSTAT_STATE : FldDesc := ⟨R.SEQ_LDSTAT, 2, 0⟩
def SEQ_T_CTRL_EN : FldDesc := ⟨R.SEQ_T_CTRL, 31, 31⟩
def SEQ_T_CTRL_PERIODIC : FldDesc := ⟨R.SEQ_T_CTRL, 30, 30⟩
def SEQ_T_CTRL_RELOAD : FldDesc := ⟨R.SEQ_T_CTRL, 23, 0⟩
def SEQ_T_CNT_COUNT : FldDesc := ⟨R.SEQ_T_CNT, 23, 0⟩
def FMT_STAT_LINKUP : FldDesc := ⟨R.FMT_STAT, 14, 14⟩
def FMT_STAT_SPEED : FldDesc := ⟨R.FMT_STAT, 13, 11⟩
def FMT_STAT_WIDTH : FldDesc := ⟨R.FMT_STAT, 10, 8⟩
def FMT_W_CTRL_RESEND : FldDesc := ⟨R.FMT_W_CTRL, 2, 2⟩
def FMT_W_RSBLK_STN : FldDesc := ⟨R.FMT_W_RSBLK, 19, 17⟩
def FMT_W_RSBLK_BLK : FldDesc := ⟨R.FMT_W_RSBLK, 16, 0⟩
def FMT_W_STAT_ERR : FldDesc := ⟨R.FMT_W_STAT, 31, 24⟩
def FMT_W_STAT_BLKERR : FldDesc := ⟨R.FMT_W_STAT, 21, 21⟩
def FMT_W_STAT_ERRSTN : FldDesc := ⟨R.FMT_W_STAT, 19, 17⟩
def FMT_W_STAT_ERRBLK : FldDesc := ⟨R.FMT_W_STAT, 16, 0⟩
def FMT_W_DROP_COUNT : FldDesc := ⟨R.FMT_W_DROP, 31, 0⟩
def FMT_QSTAT_QERR : FldDesc := ⟨R.FMT_QSTAT, 23, 23⟩
def FMT_CMDSTAT_RESULT : FldDesc := ⟨R.FMT_CMDSTAT, 1, 0⟩
def FMT_HEADSTAT_READY : FldDesc := ⟨R.FMT_HEADSTAT, 31, 31⟩
def FMT_HEADSTAT_HOLD : FldDesc := ⟨R.FMT_HEADSTAT, 3, 0⟩
def FMT_GAP_FLOOR : FldDesc := ⟨R.FMT_GAP, 31, 16⟩
def FMT_GAP_MIN : FldDesc := ⟨R.FMT_GAP, 15, 0⟩
def FMT_GAPREQ_PEND : FldDesc := ⟨R.FMT_GAPREQ, 31, 31⟩
def FMT_GAPREQ_REQ : FldDesc := ⟨R.FMT_GAPREQ, 15, 0⟩
def FMT_GAPGRACE_TICKS : FldDesc := ⟨R.FMT_GAPGRACE, 24, 0⟩
def FMT_SPD_MMS : FldDesc := ⟨R.FMT_SPD, 10, 0⟩
def FMT_DWIN_CH : FldDesc := ⟨R.FMT_DWIN, 21, 20⟩
def FMT_DWIN_GRAN : FldDesc := ⟨R.FMT_DWIN, 16, 0⟩
def CDC_DEC_FAILCNT_COUNT : FldDesc := ⟨R.CDC_DEC_FAILCNT, 31, 0⟩
def CDC_DEC_BLANK_COUNT : FldDesc := ⟨R.CDC_DEC_BLANK, 31, 0⟩
def CDC_ENC_DROP_E1 : FldDesc := ⟨R.CDC_ENC_DROP, 31, 16⟩
def CDC_ENC_DROP_E0 : FldDesc := ⟨R.CDC_ENC_DROP, 15, 0⟩
def CDC_E_CFG_BLKLINES : FldDesc := ⟨R.CDC_E_CFG, 24, 18⟩
def CDC_E_CFG_RUNOFF : FldDesc := ⟨R.CDC_E_CFG, 17, 17⟩
def CDC_E_CFG_PRED : FldDesc := ⟨R.CDC_E_CFG, 16, 15⟩
def CDC_E_CFG_DT : FldDesc := ⟨R.CDC_E_CFG, 14, 13⟩
def CDC_E_CFG_VC : FldDesc := ⟨R.CDC_E_CFG, 12, 11⟩
def CDC_E_CFG_PORT : FldDesc := ⟨R.CDC_E_CFG, 10, 10⟩
def CDC_E_CTRL_EN : FldDesc := ⟨R.CDC_E_CTRL, 0, 0⟩
def CDC_E_RING_GRAN : FldDesc := ⟨R.CDC_E_RING, 12, 0⟩
def CDC_E_RINGLOC_CH : FldDesc := ⟨R.CDC_E_RINGLOC, 21, 20⟩
def CDC_E_RINGLOC_GRAN : FldDesc := ⟨R.CDC_E_RINGLOC, 16, 0⟩
def CDC_E_WRPTR_PTR64 : FldDesc := ⟨R.CDC_E_WRPTR, 21, 0⟩
def CDC_E_RDPTR_PTR64 : FldDesc := ⟨R.CDC_E_RDPTR, 21, 0⟩
def CDC_E_STAT_STATE : FldDesc := ⟨R.CDC_E_STAT, 31, 30⟩
def CDC_E_STAT_CFGERR : FldDesc := ⟨R.CDC_E_STAT, 29, 29⟩
def CDC_E_STAT_ABORT_LATE : FldDesc := ⟨R.CDC_E_STAT, 28, 28⟩
def CDC_E_STAT_OUTFULL : FldDesc := ⟨R.CDC_E_STAT, 27, 27⟩
def CDC_E_STAT_FIFO : FldDesc := ⟨R.CDC_E_STAT, 26, 24⟩
def CDC_E_STAT_DCOUNT : FldDesc := ⟨R.CDC_E_STAT, 20, 16⟩
def BST_UPDSTAT_ARMED : FldDesc := ⟨R.BST_UPDSTAT, 31, 31⟩
def BST_UPDSTAT_REFUSED : FldDesc := ⟨R.BST_UPDSTAT, 30, 30⟩
def BST_UPDSTAT_STN : FldDesc := ⟨R.BST_UPDSTAT, 29, 27⟩
def BST_UPDSTAT_ERR : FldDesc := ⟨R.BST_UPDSTAT, 23, 16⟩
def BST_UPDSTAT_LATCH : FldDesc := ⟨R.BST_UPDSTAT, 15, 0⟩
def BST_S_CFG_PULLEN : FldDesc := ⟨R.BST_S_CFG, 31, 31⟩
def BST_S_CFG_PULLLAW : FldDesc := ⟨R.BST_S_CFG, 30, 24⟩
def BST_S_CFG_POSAX : FldDesc := ⟨R.BST_S_CFG, 21, 16⟩
def BST_S_CFG_NB : FldDesc := ⟨R.BST_S_CFG, 5, 0⟩
def BST_S_START_START : FldDesc := ⟨R.BST_S_START, 19, 0⟩
def BST_S_DROPCNT_COUNT : FldDesc := ⟨R.BST_S_DROPCNT, 31, 0⟩
def BST_S_PGDROP_COUNT : FldDesc := ⟨R.BST_S_PGDROP, 15, 0⟩
def BST_S_REMAP_ACT : FldDesc := ⟨R.BST_S_REMAP, 22, 16⟩
def BST_S_REMAP_PEND : FldDesc := ⟨R.BST_S_REMAP, 6, 0⟩
def BST_S_ZOFF_ACT : FldDesc := ⟨R.BST_S_ZOFF, 23, 16⟩
def BST_S_ZOFF_PEND : FldDesc := ⟨R.BST_S_ZOFF, 7, 0⟩
def EXP_ILK_TRIPPED : FldDesc := ⟨R.EXP_ILK, 2, 2⟩
def EXP_ILK_ESTOP : FldDesc := ⟨R.EXP_ILK, 1, 1⟩
def EXP_ILK_ILKOPEN : FldDesc := ⟨R.EXP_ILK, 0, 0⟩
def EXP_S_CTRL_LDEN : FldDesc := ⟨R.EXP_S_CTRL, 0, 0⟩
def EXP_S_STAT_LDOUT : FldDesc := ⟨R.EXP_S_STAT, 31, 31⟩
def EXP_S_STAT_SETTLE : FldDesc := ⟨R.EXP_S_STAT, 30, 30⟩
def EXP_S_STAT_SPIBUSY : FldDesc := ⟨R.EXP_S_STAT, 29, 29⟩
def EXP_S_STAT_REFUSE : FldDesc := ⟨R.EXP_S_STAT, 27, 24⟩
def EXP_S_SPICFG_CMD : FldDesc := ⟨R.EXP_S_SPICFG, 31, 24⟩
def EXP_S_SPICFG_SCALEADDR : FldDesc := ⟨R.EXP_S_SPICFG, 23, 16⟩
def EXP_S_SPICFG_TRIMBASE : FldDesc := ⟨R.EXP_S_SPICFG, 15, 8⟩
def EXP_S_SPICFG_LEN32 : FldDesc := ⟨R.EXP_S_SPICFG, 7, 7⟩
def EXP_S_APCCFG_APCSTART : FldDesc := ⟨R.EXP_S_APCCFG, 31, 16⟩
def EXP_S_APCCFG_APCSLOT : FldDesc := ⟨R.EXP_S_APCCFG, 15, 8⟩
def EXP_S_APCCFG_APCN : FldDesc := ⟨R.EXP_S_APCCFG, 5, 0⟩
def EXP_S_APCSTB_BDBEAM : FldDesc := ⟨R.EXP_S_APCSTB, 20, 16⟩
def EXP_S_APCSTB_SETL : FldDesc := ⟨R.EXP_S_APCSTB, 7, 0⟩
def EXP_S_DCFG_WARN : FldDesc := ⟨R.EXP_S_DCFG, 31, 25⟩
def EXP_S_DCFG_EWIN : FldDesc := ⟨R.EXP_S_DCFG, 24, 15⟩
def EXP_S_DCFG_SWIN : FldDesc := ⟨R.EXP_S_DCFG, 14, 7⟩
def EXP_S_DSTAT_EWARN : FldDesc := ⟨R.EXP_S_DSTAT, 31, 31⟩
def EXP_S_DSTAT_SWARN : FldDesc := ⟨R.EXP_S_DSTAT, 30, 30⟩
def EXP_S_DSTAT_ECEIL : FldDesc := ⟨R.EXP_S_DSTAT, 29, 29⟩
def EXP_S_DSTAT_SCEIL : FldDesc := ⟨R.EXP_S_DSTAT, 28, 28⟩
def EXP_S_DSTAT_PBEAM : FldDesc := ⟨R.EXP_S_DSTAT, 20, 16⟩
def EXP_S_DSTAT_HOLDCNT : FldDesc := ⟨R.EXP_S_DSTAT, 15, 0⟩
def EXP_S_BDLY_ACT : FldDesc := ⟨R.EXP_S_BDLY, 27, 16⟩
def EXP_S_BDLY_PEND : FldDesc := ⟨R.EXP_S_BDLY, 11, 0⟩
def EXP_S_TRIM_TRIM : FldDesc := ⟨R.EXP_S_TRIM, 15, 0⟩
def SCN_CLAMP_EN : FldDesc := ⟨R.SCN_CLAMP, 31, 31⟩
def SCN_CLAMP_LAW : FldDesc := ⟨R.SCN_CLAMP, 30, 24⟩
def SCN_STAT_CLAMPED : FldDesc := ⟨R.SCN_STAT, 31, 31⟩
def SCN_STAT_CLAMPV : FldDesc := ⟨R.SCN_STAT, 10, 0⟩
def SCN_S_CFG_EN : FldDesc := ⟨R.SCN_S_CFG, 31, 31⟩
def SCN_S_CFG_REFMODE : FldDesc := ⟨R.SCN_S_CFG, 30, 29⟩
def SCN_S_CFG_BDMODE : FldDesc := ⟨R.SCN_S_CFG, 28, 27⟩
def SCN_S_CFG_BDPOL : FldDesc := ⟨R.SCN_S_CFG, 26, 26⟩
def SCN_S_CFG_TRACK : FldDesc := ⟨R.SCN_S_CFG, 25, 25⟩
def SCN_S_CFG_NFM1 : FldDesc := ⟨R.SCN_S_CFG, 23, 20⟩
def SCN_S_RPM_RPMMIN : FldDesc := ⟨R.SCN_S_RPM, 31, 16⟩
def SCN_S_RPM_RPMMAX : FldDesc := ⟨R.SCN_S_RPM, 15, 0⟩
def SCN_S_SCANMAX_SCANMAX : FldDesc := ⟨R.SCN_S_SCANMAX, 15, 0⟩
def SCN_S_BDWIN_POST : FldDesc := ⟨R.SCN_S_BDWIN, 31, 16⟩
def SCN_S_BDWIN_PRE : FldDesc := ⟨R.SCN_S_BDWIN, 15, 0⟩
def SCN_S_SOLDLY_SOLDLY : FldDesc := ⟨R.SCN_S_SOLDLY, 15, 0⟩
def SCN_S_LOCK_PHSLEW : FldDesc := ⟨R.SCN_S_LOCK, 15, 8⟩
def SCN_S_LOCK_LOCKTOL : FldDesc := ⟨R.SCN_S_LOCK, 7, 0⟩
def SCN_S_PHOFF_PHOFF : FldDesc := ⟨R.SCN_S_PHOFF, 7, 0⟩
def SCN_S_MAG_ACT : FldDesc := ⟨R.SCN_S_MAG, 31, 16⟩
def SCN_S_MAG_PEND : FldDesc := ⟨R.SCN_S_MAG, 15, 0⟩
def SCN_S_STAT_STATE : FldDesc := ⟨R.SCN_S_STAT, 31, 30⟩
def SCN_S_STAT_LOCK : FldDesc := ⟨R.SCN_S_STAT, 29, 29⟩
def SCN_S_STAT_PLLLOCK : FldDesc := ⟨R.SCN_S_STAT, 28, 28⟩
def SCN_S_STAT_AFAIL : FldDesc := ⟨R.SCN_S_STAT, 27, 27⟩
def SCN_S_STAT_BFAIL : FldDesc := ⟨R.SCN_S_STAT, 26, 26⟩
def SCN_S_STAT_FCLAMP : FldDesc := ⟨R.SCN_S_STAT, 25, 25⟩
def SCN_S_STAT_RPHASE : FldDesc := ⟨R.SCN_S_STAT, 24, 24⟩
def SCN_S_STAT_FACET : FldDesc := ⟨R.SCN_S_STAT, 3, 0⟩
def SCN_S_PERIOD_PERIOD : FldDesc := ⟨R.SCN_S_PERIOD, 23, 0⟩
def SCN_S_ABTIME_AB : FldDesc := ⟨R.SCN_S_ABTIME, 23, 0⟩
def SCN_S_CAP_VMIN : FldDesc := ⟨R.SCN_S_CAP, 31, 16⟩
def SCN_S_CAP_VMAX : FldDesc := ⟨R.SCN_S_CAP, 15, 0⟩
def SCN_S_MISSCNT_COUNT : FldDesc := ⟨R.SCN_S_MISSCNT, 31, 0⟩
def SCN_S_ALIGN_N : FldDesc := ⟨R.SCN_S_ALIGN, 7, 0⟩
def SCN_S_LIN_ACT : FldDesc := ⟨R.SCN_S_LIN, 23, 16⟩
def SCN_S_LIN_PEND : FldDesc := ⟨R.SCN_S_LIN, 7, 0⟩
def CAL_STAT_STATE : FldDesc := ⟨R.CAL_STAT, 31, 29⟩
def CAL_STAT_APPLYPEND : FldDesc := ⟨R.CAL_STAT, 28, 28⟩
def CAL_STAT_STBUSY : FldDesc := ⟨R.CAL_STAT, 27, 27⟩
def CAL_STAT_ERR : FldDesc := ⟨R.CAL_STAT, 23, 16⟩
def CAL_STAT_STNERR : FldDesc := ⟨R.CAL_STAT, 13, 8⟩
def CAL_STAT_RUN : FldDesc := ⟨R.CAL_STAT, 7, 0⟩
def CAL_SET_BOOT : FldDesc := ⟨R.CAL_SET, 15, 12⟩
def CAL_SET_SRC : FldDesc := ⟨R.CAL_SET, 6, 4⟩
def CAL_SET_DST : FldDesc := ⟨R.CAL_SET, 1, 0⟩
def CAL_SETSTAT_VALID : FldDesc := ⟨R.CAL_SETSTAT, 7, 0⟩
def CAL_M_LAST_REPS : FldDesc := ⟨R.CAL_M_LAST, 31, 24⟩
def CAL_M_LAST_LEVEL : FldDesc := ⟨R.CAL_M_LAST, 11, 0⟩
def CAL_P_CFG_EN : FldDesc := ⟨R.CAL_P_CFG, 31, 31⟩
def CAL_P_STAT_ACTIVE : FldDesc := ⟨R.CAL_P_STAT, 31, 31⟩
def CAL_P_STAT_ECCCOR : FldDesc := ⟨R.CAL_P_STAT, 23, 16⟩
def CAL_P_STAT_CRCERR : FldDesc := ⟨R.CAL_P_STAT, 15, 8⟩
def CAL_P_STAT_DTDROP : FldDesc := ⟨R.CAL_P_STAT, 7, 0⟩
def CAL_P_MAP_ORG : FldDesc := ⟨R.CAL_P_MAP, 31, 16⟩
def CAL_P_MAP_PITCH : FldDesc := ⟨R.CAL_P_MAP, 15, 0⟩
def LPE_STAT_ENGMM : FldDesc := ⟨R.LPE_STAT, 19, 16⟩
def LPE_STAT_NLAW : FldDesc := ⟨R.LPE_STAT, 7, 0⟩
def LPE_PACC_LAW : FldDesc := ⟨R.LPE_PACC, 22, 16⟩
def LPE_PACC_PARAM : FldDesc := ⟨R.LPE_PACC, 13, 8⟩
def LPE_PACC_EXP : FldDesc := ⟨R.LPE_PACC, 7, 0⟩
def LPE_PSTAT_BUSY : FldDesc := ⟨R.LPE_PSTAT, 31, 31⟩
def LPE_PSTAT_RESULT : FldDesc := ⟨R.LPE_PSTAT, 1, 0⟩
def HVS_S_WIN_HKCH : FldDesc := ⟨R.HVS_S_WIN, 28, 24⟩
def HVS_S_WIN_THI : FldDesc := ⟨R.HVS_S_WIN, 15, 8⟩
def HVS_S_WIN_TLO : FldDesc := ⟨R.HVS_S_WIN, 7, 0⟩
def HVS_C_CFG_STN : FldDesc := ⟨R.HVS_C_CFG, 28, 26⟩
def HVS_C_CFG_CHARGE : FldDesc := ⟨R.HVS_C_CFG, 25, 25⟩
def HVS_C_CFG_CRIT : FldDesc := ⟨R.HVS_C_CFG, 24, 24⟩
def HVS_C_CFG_TYPE : FldDesc := ⟨R.HVS_C_CFG, 18, 16⟩
def HVS_C_CFG_NEG : FldDesc := ⟨R.HVS_C_CFG, 15, 15⟩
def HVS_C_CFG_DRVP : FldDesc := ⟨R.HVS_C_CFG, 14, 0⟩
def HVS_C_CTRL_EN : FldDesc := ⟨R.HVS_C_CTRL, 0, 0⟩
def HVS_C_OUT_DUTY : FldDesc := ⟨R.HVS_C_OUT, 15, 0⟩
def HVS_C_SCALE_VFS : FldDesc := ⟨R.HVS_C_SCALE, 31, 16⟩
def HVS_C_SCALE_IFS : FldDesc := ⟨R.HVS_C_SCALE, 15, 0⟩
def HVS_C_VMEAS_V : FldDesc := ⟨R.HVS_C_VMEAS, 15, 0⟩
def HVS_C_PROT_ITRIP : FldDesc := ⟨R.HVS_C_PROT, 15, 0⟩
def HVS_C_POL_ACFREQ : FldDesc := ⟨R.HVS_C_POL, 31, 16⟩
def HVS_C_POL_ZEROV : FldDesc := ⟨R.HVS_C_POL, 15, 8⟩
def HVS_C_POL_POLTMO : FldDesc := ⟨R.HVS_C_POL, 7, 0⟩
def HVS_C_STAT_STATE : FldDesc := ⟨R.HVS_C_STAT, 31, 29⟩
def HVS_C_STAT_POLNOW : FldDesc := ⟨R.HVS_C_STAT, 28, 28⟩
def FUS_CFG_LZONE : FldDesc := ⟨R.FUS_CFG, 1, 0⟩
def FUS_HOLD_PCT : FldDesc := ⟨R.FUS_HOLD, 6, 0⟩
def FUS_T_CFG_EN : FldDesc := ⟨R.FUS_T_CFG, 31, 31⟩
def FUS_T_CFG_TBL64 : FldDesc := ⟨R.FUS_T_CFG, 30, 16⟩
def FUS_T_CFG_RATEMAX : FldDesc := ⟨R.FUS_T_CFG, 15, 8⟩
def FUS_T_RANGE_TMAX : FldDesc := ⟨R.FUS_T_RANGE, 31, 16⟩
def FUS_T_RANGE_TMIN : FldDesc := ⟨R.FUS_T_RANGE, 15, 0⟩
def FUS_T_VAL_FAULT : FldDesc := ⟨R.FUS_T_VAL, 31, 31⟩
def FUS_T_VAL_CAUSE : FldDesc := ⟨R.FUS_T_VAL, 30, 28⟩
def FUS_T_VAL_CODE : FldDesc := ⟨R.FUS_T_VAL, 27, 16⟩
def FUS_T_VAL_TEMP : FldDesc := ⟨R.FUS_T_VAL, 15, 0⟩
def FUS_Z_CFG_EN : FldDesc := ⟨R.FUS_Z_CFG, 31, 31⟩
def FUS_Z_CFG_SEC : FldDesc := ⟨R.FUS_Z_CFG, 27, 24⟩
def FUS_Z_CFG_PRI : FldDesc := ⟨R.FUS_Z_CFG, 23, 20⟩
def FUS_Z_CFG_DIFF : FldDesc := ⟨R.FUS_Z_CFG, 15, 0⟩
def FUS_Z_TRIP_TRIP : FldDesc := ⟨R.FUS_Z_TRIP, 15, 0⟩
def FUS_Z_MAX_MAXD : FldDesc := ⟨R.FUS_Z_MAX, 15, 0⟩
def FUS_Z_CMD_DEMAND : FldDesc := ⟨R.FUS_Z_CMD, 15, 0⟩
def FUS_Z_TEMP_SRC : FldDesc := ⟨R.FUS_Z_TEMP, 31, 28⟩
def FUS_Z_TEMP_TEMP : FldDesc := ⟨R.FUS_Z_TEMP, 15, 0⟩
def FUS_Z_STAT_OVT : FldDesc := ⟨R.FUS_Z_STAT, 31, 31⟩
def FUS_Z_STAT_FAULT : FldDesc := ⟨R.FUS_Z_STAT, 30, 30⟩
def FUS_Z_STAT_DISAGREE : FldDesc := ⟨R.FUS_Z_STAT, 29, 29⟩
def FUS_Z_STAT_FALLBACK : FldDesc := ⟨R.FUS_Z_STAT, 28, 28⟩
def FUS_Z_STAT_SENT : FldDesc := ⟨R.FUS_Z_STAT, 15, 0⟩
def MNS_STAT_STATE : FldDesc := ⟨R.MNS_STAT, 31, 29⟩
def MNS_STAT_NOM : FldDesc := ⟨R.MNS_STAT, 28, 26⟩
def MNS_STAT_F60 : FldDesc := ⟨R.MNS_STAT, 25, 25⟩
def MNS_STAT_LINK : FldDesc := ⟨R.MNS_STAT, 24, 24⟩
def MNS_STAT_GLFAULT : FldDesc := ⟨R.MNS_STAT, 23, 23⟩
def MNS_STAT_SBYOK : FldDesc := ⟨R.MNS_STAT, 22, 22⟩
def MNS_STAT_OV : FldDesc := ⟨R.MNS_STAT, 21, 21⟩
def MNS_STAT_INVFLT : FldDesc := ⟨R.MNS_STAT, 20, 20⟩
def MNS_STAT_RAMPING : FldDesc := ⟨R.MNS_STAT, 19, 19⟩
def MNS_STAT_CFGQ : FldDesc := ⟨R.MNS_STAT, 18, 13⟩
def MNS_CTRL_FULL : FldDesc := ⟨R.MNS_CTRL, 2, 2⟩
def MNS_CTRL_INVEN : FldDesc := ⟨R.MNS_CTRL, 0, 0⟩
def MNS_INV_FMAX : FldDesc := ⟨R.MNS_INV, 31, 24⟩
def MNS_INV_FMIN : FldDesc := ⟨R.MNS_INV, 23, 16⟩
def MNS_INV_IPK : FldDesc := ⟨R.MNS_INV, 15, 8⟩
def MNS_FLK_RREF : FldDesc := ⟨R.MNS_FLK, 31, 20⟩
def MNS_FLK_DMAX : FldDesc := ⟨R.MNS_FLK, 19, 12⟩
def MNS_FLK_FSTEP : FldDesc := ⟨R.MNS_FLK, 11, 0⟩
def MNS_RAMP_RSTEP : FldDesc := ⟨R.MNS_RAMP, 11, 0⟩
def MNS_CAP_IBR : FldDesc := ⟨R.MNS_CAP, 31, 20⟩
def MNS_CAP_PREST : FldDesc := ⟨R.MNS_CAP, 15, 0⟩
def MNS_SPDPWR_KV : FldDesc := ⟨R.MNS_SPDPWR, 31, 16⟩
def MNS_SPDPWR_P0 : FldDesc := ⟨R.MNS_SPDPWR, 15, 0⟩
def MNS_BOUND_PFLK : FldDesc := ⟨R.MNS_BOUND, 31, 16⟩
def MNS_BOUND_PCAP : FldDesc := ⟨R.MNS_BOUND, 15, 0⟩
def MNS_EVCNT_WARN : FldDesc := ⟨R.MNS_EVCNT, 31, 16⟩
def MNS_EVCNT_LOSS : FldDesc := ⟨R.MNS_EVCNT, 15, 8⟩
def MNS_EVCNT_GLMISS : FldDesc := ⟨R.MNS_EVCNT, 7, 0⟩
def MNS_LPWR_LPWR : FldDesc := ⟨R.MNS_LPWR, 15, 0⟩
def MNS_SHUNT_RSH : FldDesc := ⟨R.MNS_SHUNT, 15, 0⟩
def MNS_FTAB_FB : FldDesc := ⟨R.MNS_FTAB, 31, 16⟩
def MNS_FTAB_FA : FldDesc := ⟨R.MNS_FTAB, 15, 0⟩
def MNS_Z_PRATED_PRATED : FldDesc := ⟨R.MNS_Z_PRATED, 15, 0⟩
def FOC_VBUS_VA : FldDesc := ⟨R.FOC_VBUS, 31, 16⟩
def FOC_VBUS_VB : FldDesc := ⟨R.FOC_VBUS, 15, 0⟩
def FOC_BRKCFG_BUS : FldDesc := ⟨R.FOC_BRKCFG, 31, 31⟩
def FOC_BRKCFG_CHON : FldDesc := ⟨R.FOC_BRKCFG, 23, 16⟩
def FOC_BRKCFG_CHOFF : FldDesc := ⟨R.FOC_BRKCFG, 15, 8⟩
def FOC_BRKCFG_IMIN : FldDesc := ⟨R.FOC_BRKCFG, 7, 0⟩
def FOC_BRKSTAT_CHFLT : FldDesc := ⟨R.FOC_BRKSTAT, 31, 31⟩
def FOC_BRKSTAT_FTYPE : FldDesc := ⟨R.FOC_BRKSTAT, 30, 29⟩
def FOC_BRKSTAT_GATE : FldDesc := ⟨R.FOC_BRKSTAT, 28, 28⟩
def FOC_BRKSTAT_OVA : FldDesc := ⟨R.FOC_BRKSTAT, 27, 27⟩
def FOC_BRKSTAT_OVB : FldDesc := ⟨R.FOC_BRKSTAT, 26, 26⟩
def FOC_BRKSTAT_UVA : FldDesc := ⟨R.FOC_BRKSTAT, 25, 25⟩
def FOC_BRKSTAT_UVB : FldDesc := ⟨R.FOC_BRKSTAT, 24, 24⟩
def FOC_C_CFG_BUS : FldDesc := ⟨R.FOC_C_CFG, 31, 31⟩
def FOC_C_CFG_CRIT : FldDesc := ⟨R.FOC_C_CFG, 30, 30⟩
def FOC_C_CFG_PP : FldDesc := ⟨R.FOC_C_CFG, 23, 20⟩
def FOC_C_CFG_PWMK : FldDesc := ⟨R.FOC_C_CFG, 17, 16⟩
def FOC_C_CFG_DEADT : FldDesc := ⟨R.FOC_C_CFG, 15, 8⟩
def FOC_C_CFG_SAMPW : FldDesc := ⟨R.FOC_C_CFG, 7, 0⟩
def FOC_C_MOTOR_RATED : FldDesc := ⟨R.FOC_C_MOTOR, 31, 16⟩
def FOC_C_MOTOR_KE : FldDesc := ⟨R.FOC_C_MOTOR, 15, 0⟩
def FOC_C_LIMIT_IMAX : FldDesc := ⟨R.FOC_C_LIMIT, 31, 16⟩
def FOC_C_LIMIT_ISCALE : FldDesc := ⟨R.FOC_C_LIMIT, 15, 0⟩
def FOC_C_HO_HOSPD : FldDesc := ⟨R.FOC_C_HO, 31, 16⟩
def FOC_C_HO_HOHYS : FldDesc := ⟨R.FOC_C_HO, 15, 8⟩
def FOC_C_HO_HFIAMP : FldDesc := ⟨R.FOC_C_HO, 7, 0⟩
def FOC_C_START_BRKTMO : FldDesc := ⟨R.FOC_C_START, 31, 16⟩
def FOC_C_START_BRKI : FldDesc := ⟨R.FOC_C_START, 7, 0⟩
def FOC_C_ADV_ADVEN : FldDesc := ⟨R.FOC_C_ADV, 31, 31⟩
def FOC_C_ADV_TBL64 : FldDesc := ⟨R.FOC_C_ADV, 30, 16⟩
def FOC_C_ADV_SPDSTEP : FldDesc := ⟨R.FOC_C_ADV, 15, 8⟩
def FOC_C_ADV_ADVMAX : FldDesc := ⟨R.FOC_C_ADV, 7, 0⟩
def FOC_C_LAWS_LAWEN : FldDesc := ⟨R.FOC_C_LAWS, 31, 31⟩
def FOC_C_LAWS_SPDLAW : FldDesc := ⟨R.FOC_C_LAWS, 30, 24⟩
def FOC_C_LAWS_CURLAW : FldDesc := ⟨R.FOC_C_LAWS, 22, 16⟩
def FOC_C_LAWS_LOSSID : FldDesc := ⟨R.FOC_C_LAWS, 15, 0⟩
def FOC_C_STAT_STATE : FldDesc := ⟨R.FOC_C_STAT, 31, 28⟩
def FOC_C_STAT_FAULT : FldDesc := ⟨R.FOC_C_STAT, 27, 24⟩
def FOC_C_STAT_LIMMOD : FldDesc := ⟨R.FOC_C_STAT, 23, 23⟩
def FOC_C_STAT_VSAT : FldDesc := ⟨R.FOC_C_STAT, 22, 22⟩
def FOC_C_STAT_LOSSBRK : FldDesc := ⟨R.FOC_C_STAT, 21, 21⟩
def FOC_C_STAT_REV : FldDesc := ⟨R.FOC_C_STAT, 20, 20⟩
def FOC_C_STAT_VLIM : FldDesc := ⟨R.FOC_C_STAT, 15, 0⟩
def FOC_C_VQ_VQ : FldDesc := ⟨R.FOC_C_VQ, 15, 0⟩
def FOC_C_VD_VD : FldDesc := ⟨R.FOC_C_VD, 15, 0⟩
def FOC_C_IDQ_IQ : FldDesc := ⟨R.FOC_C_IDQ, 15, 0⟩
def FOC_ST_CFG_BUS : FldDesc := ⟨R.FOC_ST_CFG, 31, 31⟩
def FOC_ST_CFG_AXIS : FldDesc := ⟨R.FOC_ST_CFG, 30, 25⟩
def FOC_ST_CFG_IRUN : FldDesc := ⟨R.FOC_ST_CFG, 23, 12⟩
def FOC_ST_CFG_IHOLD : FldDesc := ⟨R.FOC_ST_CFG, 11, 0⟩
def FOC_ST_CTRL_EN : FldDesc := ⟨R.FOC_ST_CTRL, 0, 0⟩
def FOC_ST_STAT_STATE : FldDesc := ⟨R.FOC_ST_STAT, 31, 30⟩
def FOC_ST_STAT_MSTEP : FldDesc := ⟨R.FOC_ST_STAT, 25, 16⟩
def FOC_ST_STAT_LOAD : FldDesc := ⟨R.FOC_ST_STAT, 7, 0⟩
def FOC_SD_CFG_EN : FldDesc := ⟨R.FOC_SD_CFG, 31, 31⟩
def FOC_SD_CFG_MODE : FldDesc := ⟨R.FOC_SD_CFG, 30, 30⟩
def FOC_SD_CFG_DIRPOL : FldDesc := ⟨R.FOC_SD_CFG, 29, 29⟩
def FOC_SD_CFG_AXIS : FldDesc := ⟨R.FOC_SD_CFG, 28, 23⟩
def FOC_SD_CFG_OVR : FldDesc := ⟨R.FOC_SD_CFG, 22, 22⟩
def FOC_SD_CFG_PW : FldDesc := ⟨R.FOC_SD_CFG, 15, 8⟩
def FOC_SD_CFG_DSET : FldDesc := ⟨R.FOC_SD_CFG, 7, 0⟩
def FOC_SPD_CFG_MODE : FldDesc := ⟨R.FOC_SPD_CFG, 31, 30⟩
def FOC_SPD_CFG_POL : FldDesc := ⟨R.FOC_SPD_CFG, 29, 29⟩
def FOC_SPD_CFG_TMO : FldDesc := ⟨R.FOC_SPD_CFG, 15, 0⟩
def FOC_SPD_VAL_LOST : FldDesc := ⟨R.FOC_SPD_VAL, 31, 31⟩
def FOC_SPD_VAL_VALUE : FldDesc := ⟨R.FOC_SPD_VAL, 23, 0⟩
def AXS_A_CFG_MODE : FldDesc := ⟨R.AXS_A_CFG, 31, 30⟩
def AXS_A_CFG_CRIT : FldDesc := ⟨R.AXS_A_CFG, 29, 29⟩
def AXS_A_CFG_LIMEN : FldDesc := ⟨R.AXS_A_CFG, 28, 28⟩
def AXS_A_CFG_ENCPOL : FldDesc := ⟨R.AXS_A_CFG, 27, 27⟩
def AXS_A_CFG_ENC : FldDesc := ⟨R.AXS_A_CFG, 26, 22⟩
def AXS_A_CFG_JITB : FldDesc := ⟨R.AXS_A_CFG, 21, 20⟩
def AXS_A_CFG_QUAL : FldDesc := ⟨R.AXS_A_CFG, 19, 15⟩
def AXS_A_SW_GPLO : FldDesc := ⟨R.AXS_A_SW, 30, 24⟩
def AXS_A_SW_GPHI : FldDesc := ⟨R.AXS_A_SW, 22, 16⟩
def AXS_A_SW_GPHOME : FldDesc := ⟨R.AXS_A_SW, 14, 8⟩
def AXS_A_SW_POL : FldDesc := ⟨R.AXS_A_SW, 2, 0⟩
def AXS_A_STALL_DEVMAX : FldDesc := ⟨R.AXS_A_STALL, 31, 16⟩
def AXS_A_STALL_STALLN : FldDesc := ⟨R.AXS_A_STALL, 15, 8⟩
def AXS_A_STALL_LAMAX : FldDesc := ⟨R.AXS_A_STALL, 7, 0⟩
def AXS_A_HOME_METHOD : FldDesc := ⟨R.AXS_A_HOME, 31, 28⟩
def AXS_A_HOME_HDIR : FldDesc := ⟨R.AXS_A_HOME, 27, 27⟩
def AXS_A_HOME_HTMO : FldDesc := ⟨R.AXS_A_HOME, 23, 16⟩
def AXS_A_HOME_HREVOFF : FldDesc := ⟨R.AXS_A_HOME, 15, 0⟩
def AXS_A_STAT_STATE : FldDesc := ⟨R.AXS_A_STAT, 31, 28⟩
def AXS_A_STAT_LIMSTOP : FldDesc := ⟨R.AXS_A_STAT, 27, 27⟩
def AXS_A_STAT_ABORT_LATE : FldDesc := ⟨R.AXS_A_STAT, 26, 26⟩
def AXS_A_STAT_TCLIP : FldDesc := ⟨R.AXS_A_STAT, 25, 25⟩
def AXS_A_STAT_HOMED : FldDesc := ⟨R.AXS_A_STAT, 24, 24⟩
def AXS_A_STAT_HFAIL : FldDesc := ⟨R.AXS_A_STAT, 23, 20⟩
def AXS_A_STAT_FLT : FldDesc := ⟨R.AXS_A_STAT, 19, 16⟩
def AXS_A_STAT_DIR : FldDesc := ⟨R.AXS_A_STAT, 15, 15⟩
def AXS_A_STAT_SWLO : FldDesc := ⟨R.AXS_A_STAT, 14, 14⟩
def AXS_A_STAT_SWHI : FldDesc := ⟨R.AXS_A_STAT, 13, 13⟩
def AXS_A_STAT_SWHOME : FldDesc := ⟨R.AXS_A_STAT, 12, 12⟩
def AXS_A_STAT_HSIDE : FldDesc := ⟨R.AXS_A_STAT, 11, 11⟩
def AXS_A_STAT_CMDERR : FldDesc := ⟨R.AXS_A_STAT, 10, 10⟩
def AXS_E_CFG_EN : FldDesc := ⟨R.AXS_E_CFG, 31, 31⟩
def AXS_E_CFG_ZPOL : FldDesc := ⟨R.AXS_E_CFG, 30, 30⟩
def AXS_E_CFG_FILT : FldDesc := ⟨R.AXS_E_CFG, 7, 0⟩
def AXS_E_ERR_COUNT : FldDesc := ⟨R.AXS_E_ERR, 31, 0⟩
def DRC_CFG_RETRY : FldDesc := ⟨R.DRC_CFG, 2, 0⟩
def DRC_SCRUB_EN : FldDesc := ⟨R.DRC_SCRUB, 31, 31⟩
def DRC_SCRUB_HOURS : FldDesc := ⟨R.DRC_SCRUB, 15, 0⟩
def DRC_P_CFG_LAT : FldDesc := ⟨R.DRC_P_CFG, 31, 16⟩
def DRC_P_CFG_SHARE : FldDesc := ⟨R.DRC_P_CFG, 13, 8⟩
def DRC_P_STAT_MAXWAIT : FldDesc := ⟨R.DRC_P_STAT, 31, 16⟩
def DRC_P_STAT_LATE : FldDesc := ⟨R.DRC_P_STAT, 15, 0⟩
def DRC_C_CFG_LINKECC : FldDesc := ⟨R.DRC_C_CFG, 15, 15⟩
def DRC_C_CFG_RATE : FldDesc := ⟨R.DRC_C_CFG, 14, 12⟩
def DRC_C_STAT_STATE : FldDesc := ⟨R.DRC_C_STAT, 31, 28⟩
def DRC_C_STAT_TRERR : FldDesc := ⟨R.DRC_C_STAT, 27, 25⟩
def DRC_C_STAT_DOWNRATE : FldDesc := ⟨R.DRC_C_STAT, 24, 24⟩
def DRC_C_STAT_DRIFT : FldDesc := ⟨R.DRC_C_STAT, 23, 23⟩
def DRC_C_STAT_REFX : FldDesc := ⟨R.DRC_C_STAT, 22, 20⟩
def DRC_C_STAT_DENS : FldDesc := ⟨R.DRC_C_STAT, 11, 8⟩
def DRC_C_STAT_RANKS : FldDesc := ⟨R.DRC_C_STAT, 1, 0⟩
def DRC_C_ECC_CE : FldDesc := ⟨R.DRC_C_ECC, 31, 16⟩
def DRC_C_ECC_UE : FldDesc := ⟨R.DRC_C_ECC, 15, 0⟩
def DRC_C_LINKCE_COUNT : FldDesc := ⟨R.DRC_C_LINKCE, 31, 0⟩
def DRC_C_BIT_WDSK : FldDesc := ⟨R.DRC_C_BIT, 15, 8⟩
def DMA_STAT_ACTIVE : FldDesc := ⟨R.DMA_STAT, 22, 16⟩
def DMA_STAT_FREE : FldDesc := ⟨R.DMA_STAT, 8, 0⟩
def DMA_RETRY_RETRY : FldDesc := ⟨R.DMA_RETRY, 2, 0⟩
def DMA_C_CFG_SEQ : FldDesc := ⟨R.DMA_C_CFG, 31, 31⟩
def DMA_C_CFG_CFGERR : FldDesc := ⟨R.DMA_C_CFG, 30, 30⟩
def DMA_C_CFG_PRIO : FldDesc := ⟨R.DMA_C_CFG, 29, 28⟩
def DMA_C_CFG_SLOTS : FldDesc := ⟨R.DMA_C_CFG, 26, 20⟩
def DMA_C_CFG_CLAT : FldDesc := ⟨R.DMA_C_CFG, 15, 0⟩
def DMA_C_CTRL_EN : FldDesc := ⟨R.DMA_C_CTRL, 0, 0⟩
def DMA_C_STAT_STATE : FldDesc := ⟨R.DMA_C_STAT, 31, 28⟩
def DMA_C_STAT_ERRCODE : FldDesc := ⟨R.DMA_C_STAT, 27, 24⟩
def DMA_C_STAT_REFCODE : FldDesc := ⟨R.DMA_C_STAT, 23, 20⟩
def DMA_C_STAT_REFUSED : FldDesc := ⟨R.DMA_C_STAT, 19, 19⟩
def DMA_C_STAT_ABORT_LATE : FldDesc := ⟨R.DMA_C_STAT, 18, 18⟩
def DMA_C_STAT_PC : FldDesc := ⟨R.DMA_C_STAT, 5, 0⟩
def DMA_C_LC_LC1 : FldDesc := ⟨R.DMA_C_LC, 31, 16⟩
def DMA_C_LC_LC0 : FldDesc := ⟨R.DMA_C_LC, 15, 0⟩
def DMA_C_SLOT_BASE : FldDesc := ⟨R.DMA_C_SLOT, 7, 0⟩
def EUN_CFG_ROOT : FldDesc := ⟨R.EUN_CFG, 31, 31⟩
def EUN_CFG_RWEN : FldDesc := ⟨R.EUN_CFG, 30, 30⟩
def EUN_CFG_ACKTMO : FldDesc := ⟨R.EUN_CFG, 15, 8⟩
def EUN_CFG_RETRY : FldDesc := ⟨R.EUN_CFG, 1, 0⟩
def EUN_STAT_ADDRV : FldDesc := ⟨R.EUN_STAT, 31, 31⟩
def EUN_STAT_CLOSED : FldDesc := ⟨R.EUN_STAT, 30, 30⟩
def EUN_STAT_WRAPA : FldDesc := ⟨R.EUN_STAT, 29, 29⟩
def EUN_STAT_WRAPB : FldDesc := ⟨R.EUN_STAT, 28, 28⟩
def EUN_STAT_LINKA : FldDesc := ⟨R.EUN_STAT, 27, 27⟩
def EUN_STAT_LINKB : FldDesc := ⟨R.EUN_STAT, 26, 26⟩
def EUN_STAT_ENUMDONE : FldDesc := ⟨R.EUN_STAT, 25, 25⟩
def EUN_STAT_ENUMFAIL : FldDesc := ⟨R.EUN_STAT, 24, 24⟩
def EUN_STAT_ROOTERR : FldDesc := ⟨R.EUN_STAT, 23, 23⟩
def EUN_STAT_TICKSRC : FldDesc := ⟨R.EUN_STAT, 22, 22⟩
def EUN_STAT_NOTICK : FldDesc := ⟨R.EUN_STAT, 21, 21⟩
def EUN_STAT_NODES : FldDesc := ⟨R.EUN_STAT, 20, 10⟩
def EUN_STAT_ADDR : FldDesc := ⟨R.EUN_STAT, 9, 0⟩
def EUN_P_STAT_UP : FldDesc := ⟨R.EUN_P_STAT, 31, 31⟩
def EUN_P_STAT_INV : FldDesc := ⟨R.EUN_P_STAT, 30, 30⟩
def EUN_P_STAT_CODEERR : FldDesc := ⟨R.EUN_P_STAT, 15, 0⟩
def EUN_P_DLY_DLY : FldDesc := ⟨R.EUN_P_DLY, 23, 0⟩
def EUN_P_CNT_CRCERR : FldDesc := ⟨R.EUN_P_CNT, 31, 16⟩
def EUN_P_CNT_DOWN : FldDesc := ⟨R.EUN_P_CNT, 15, 0⟩
def EUN_TXCNT_RESENT : FldDesc := ⟨R.EUN_TXCNT, 31, 16⟩
def EUN_TXCNT_AUTHREJ : FldDesc := ⟨R.EUN_TXCNT, 15, 8⟩
def EUN_TXCNT_ACKLOST : FldDesc := ⟨R.EUN_TXCNT, 7, 0⟩
def EUN_RA_STAT_BUSY : FldDesc := ⟨R.EUN_RA_STAT, 31, 31⟩
def EUN_RA_STAT_RESULT : FldDesc := ⟨R.EUN_RA_STAT, 2, 0⟩
def EUN_SH_CFG_EN : FldDesc := ⟨R.EUN_SH_CFG, 31, 31⟩
def EUN_SH_CFG_FALL : FldDesc := ⟨R.EUN_SH_CFG, 30, 30⟩
def EUN_SH_CFG_AXIS : FldDesc := ⟨R.EUN_SH_CFG, 29, 24⟩
def EUN_SH_CFG_TXFAIL : FldDesc := ⟨R.EUN_SH_CFG, 16, 16⟩
def EUN_SH_CFG_DST : FldDesc := ⟨R.EUN_SH_CFG, 9, 0⟩
def PWR_CTRL_HBCTX : FldDesc := ⟨R.PWR_CTRL, 24, 16⟩
def PWR_CTRL_RINGSLEEP : FldDesc := ⟨R.PWR_CTRL, 3, 3⟩
def PWR_CTRL_DEEPEST : FldDesc := ⟨R.PWR_CTRL, 2, 0⟩
def PWR_STAT_STATE : FldDesc := ⟨R.PWR_STAT, 31, 28⟩
def PWR_STAT_TARGET : FldDesc := ⟨R.PWR_STAT, 27, 24⟩
def PWR_STAT_THR : FldDesc := ⟨R.PWR_STAT, 23, 22⟩
def PWR_STAT_ENTREF : FldDesc := ⟨R.PWR_STAT, 20, 20⟩
def PWR_STAT_WAKE : FldDesc := ⟨R.PWR_STAT, 10, 8⟩
def PWR_MARGIN_MS : FldDesc := ⟨R.PWR_MARGIN, 15, 0⟩
def PWR_S_CFG_DRAW : FldDesc := ⟨R.PWR_S_CFG, 31, 16⟩
def PWR_S_CFG_EXIT : FldDesc := ⟨R.PWR_S_CFG, 15, 0⟩
def PWR_S_COST_COST : FldDesc := ⟨R.PWR_S_COST, 15, 0⟩
def PWR_THR_GRACE : FldDesc := ⟨R.PWR_THR, 31, 16⟩
def PWR_THR_GAP : FldDesc := ⟨R.PWR_THR, 15, 0⟩
def PWR_SUP_VBATLOW : FldDesc := ⟨R.PWR_SUP, 8, 8⟩
def PWR_SUP_WARN : FldDesc := ⟨R.PWR_SUP, 6, 0⟩
def PWR_HK_VAL_STALE : FldDesc := ⟨R.PWR_HK_VAL, 31, 31⟩
def PWR_HK_VAL_VALUE : FldDesc := ⟨R.PWR_HK_VAL, 15, 0⟩
def PWR_HK_LIM_HI : FldDesc := ⟨R.PWR_HK_LIM, 31, 16⟩
def PWR_HK_LIM_LO : FldDesc := ⟨R.PWR_HK_LIM, 15, 0⟩
def SEC_STAT_DBGUNL : FldDesc := ⟨R.SEC_STAT, 31, 31⟩
def SEC_STAT_LEVEL : FldDesc := ⟨R.SEC_STAT, 30, 29⟩
def SEC_STAT_FRKLOCK : FldDesc := ⟨R.SEC_STAT, 28, 28⟩
def SEC_STAT_ERR : FldDesc := ⟨R.SEC_STAT, 23, 16⟩
def SEC_SEAL_BROKEN : FldDesc := ⟨R.SEC_SEAL, 31, 31⟩
def SEC_SEAL_COUNT : FldDesc := ⟨R.SEC_SEAL, 15, 0⟩
def SEC_DBG_LEVEL : FldDesc := ⟨R.SEC_DBG, 3, 2⟩
def SEC_FRKSTAT_SAT : FldDesc := ⟨R.SEC_FRKSTAT, 30, 30⟩
def SEC_FRKSTAT_ERR : FldDesc := ⟨R.SEC_FRKSTAT, 23, 16⟩
def REC_STAT_LOGMEM_FAIL : FldDesc := ⟨R.REC_STAT, 31, 31⟩
def REC_STAT_FULL : FldDesc := ⟨R.REC_STAT, 30, 30⟩
def REC_STAT_NEARFULL : FldDesc := ⟨R.REC_STAT, 29, 29⟩
def REC_STAT_SECFULL : FldDesc := ⟨R.REC_STAT, 28, 28⟩
def REC_STAT_CLRBUSY : FldDesc := ⟨R.REC_STAT, 27, 27⟩
def REC_LOST_COUNT : FldDesc := ⟨R.REC_LOST, 31, 0⟩
def REC_SUPP_COUNT : FldDesc := ⟨R.REC_SUPP, 31, 0⟩
def REC_RLDEF_MAXN : FldDesc := ⟨R.REC_RLDEF, 23, 16⟩
def REC_RLDEF_WIN : FldDesc := ⟨R.REC_RLDEF, 15, 0⟩
def REC_RL_CODE_MASK : FldDesc := ⟨R.REC_RL_CODE, 31, 16⟩
def REC_RL_CODE_CODE : FldDesc := ⟨R.REC_RL_CODE, 15, 0⟩
def REC_RL_LIM_EN : FldDesc := ⟨R.REC_RL_LIM, 31, 31⟩
def REC_RL_LIM_MAXN : FldDesc := ⟨R.REC_RL_LIM, 23, 16⟩
def REC_RL_LIM_WIN : FldDesc := ⟨R.REC_RL_LIM, 15, 0⟩
def REC_SNAP_CODE_MASK : FldDesc := ⟨R.REC_SNAP_CODE, 31, 16⟩
def REC_SNAP_CODE_CODE : FldDesc := ⟨R.REC_SNAP_CODE, 15, 0⟩
def REC_SNAP_CFG_EN : FldDesc := ⟨R.REC_SNAP_CFG, 31, 31⟩
def REC_SNAP_CFG_NM1 : FldDesc := ⟨R.REC_SNAP_CFG, 19, 16⟩
def REC_SNAP_CFG_TBL64 : FldDesc := ⟨R.REC_SNAP_CFG, 14, 0⟩
def CLK_CTRL_SSC : FldDesc := ⟨R.CLK_CTRL, 1, 0⟩
def CLK_STAT_REFLOST : FldDesc := ⟨R.CLK_STAT, 31, 31⟩
def CLK_STAT_COASTEXP : FldDesc := ⟨R.CLK_STAT, 5, 5⟩
def CLK_STAT_COAST : FldDesc := ⟨R.CLK_STAT, 4, 4⟩
def CLK_STAT_REFOK : FldDesc := ⟨R.CLK_STAT, 3, 3⟩
def CLK_STAT_CORELOCK : FldDesc := ⟨R.CLK_STAT, 2, 2⟩
def CLK_STAT_SSCNOW : FldDesc := ⟨R.CLK_STAT, 1, 0⟩
def CLK_COAST_ELAPSED : FldDesc := ⟨R.CLK_COAST, 26, 16⟩
def CLK_COAST_LIM : FldDesc := ⟨R.CLK_COAST, 9, 0⟩
def CLK_S_PFREQ_FREQ : FldDesc := ⟨R.CLK_S_PFREQ, 31, 0⟩
def IOX_EVC_CFG_EN : FldDesc := ⟨R.IOX_EVC_CFG, 31, 31⟩
def IOX_EVC_CFG_EDGE : FldDesc := ⟨R.IOX_EVC_CFG, 30, 29⟩
def IOX_EVC_CFG_IRQ : FldDesc := ⟨R.IOX_EVC_CFG, 28, 28⟩
def IOX_EVC_CNT_VALUE : FldDesc := ⟨R.IOX_EVC_CNT, 31, 0⟩
def IOX_SPI_CFG_EN : FldDesc := ⟨R.IOX_SPI_CFG, 31, 31⟩
def IOX_SPI_CFG_LEN : FldDesc := ⟨R.IOX_SPI_CFG, 15, 10⟩
def IOX_I2C_CFG_EN : FldDesc := ⟨R.IOX_I2C_CFG, 31, 31⟩
def IOX_I2C_CFG_SPEED : FldDesc := ⟨R.IOX_I2C_CFG, 1, 0⟩
def IOX_I2C_CMD_NW : FldDesc := ⟨R.IOX_I2C_CMD, 29, 27⟩
def IOX_I2C_CMD_NR : FldDesc := ⟨R.IOX_I2C_CMD, 26, 24⟩
def IOX_I2C_CMD_ADDR : FldDesc := ⟨R.IOX_I2C_CMD, 22, 16⟩
def IOX_I2C_STAT_BUSY : FldDesc := ⟨R.IOX_I2C_STAT, 31, 31⟩
def IOX_I2C_STAT_ARB : FldDesc := ⟨R.IOX_I2C_STAT, 1, 1⟩
def IOX_I2C_STAT_NACK : FldDesc := ⟨R.IOX_I2C_STAT, 0, 0⟩
def IOX_U_CFG_EN : FldDesc := ⟨R.IOX_U_CFG, 31, 31⟩
def IOX_U_STAT_OVR : FldDesc := ⟨R.IOX_U_STAT, 16, 16⟩

end Sys2Proof.F
end

