-- ==== Sys2Proof/Machine/RegInit.lean ====
section
/-! DEFINITION. The register file right after reset: the registers whose reset value differs between instances or variants
(Tables 5-8 and 16-3, R50, and the register tables of the band store and of power management). -/

namespace Sys2Proof.Machine

/-- Process speed of class k at reset, in mm/s (Table 5-8). -/
def speedReset (k : Nat) : Nat :=
  ([0, 50, 100, 150, 200, 250, 300, 350, 400, 500, 600, 700, 800, 900, 1000] : List Nat).getD k 0

/-- DRC_P{p}_CFG at reset: LAT and SHARE (Table 16-3). -/
def dramPortReset (p : Nat) : Nat :=
  let t : List (Nat × Nat) := [(4000, 14), (4000, 11), (8000, 2), (20000, 20), (20000, 2), (8000, 3), (8000, 3), (40000, 1),
    (65535, 1), (65535, 0)]
  (t.getD p (0, 0)).1 * 2 ^ 16 + (t.getD p (0, 0)).2 * 2 ^ 8

/-- The lane map before any admission: lane s serves station s, the highest present lane is the spare (R50). -/
def Variant.laneMap (v : Variant) : Nat :=
  (List.range 7).foldl (fun m l =>
    m + 16 ^ l * (if l < v.stn then l else if l + 1 = v.decl then 0xE else 0xF)) 0

/-- The values of the registers after reset that RegDesc.reset does not give, in ascending order of address. -/
def regInits (v : Variant) : List (Nat × Nat) :=
  [(R.PLC_LANEMAP.addr 0 0, v.laneMap)] ++
  (List.range 15).map (fun k => (R.FMT_SPD.addr (k + 1) 0, speedReset (k + 1))) ++
  ((List.range v.stn).map (fun i =>
    (if v.beams = 16 then [(R.BST_S_CFG.addr i 0, 0x10)] else []) ++
    (List.range v.beams).map (fun b => (R.BST_S_REMAP.addr i b, b * 2 ^ 16 + b)))).flatten ++
  (List.range 10).map (fun p => (R.DRC_P_CFG.addr p 0, dramPortReset p)) ++
  [(R.PWR_S_CFG.addr 1 0, 0x003C0190), (R.PWR_S_CFG.addr 2 0, 0x00231770), (R.PWR_S_CFG.addr 3 0, 0x00040019),
   (R.PWR_S_CFG.addr 4 0, 0x000000B4)]

/-- The MSI-X table after a reset of the endpoint: every vector masked, by bit 0 of its vector control word (PCI Express Base 5.0).
[PRESUMED, log entry 145] -/
def msixReset : List Host.Cell := (List.range 64).map (fun k => ⟨16 * k + 12, 1⟩)

/-- The register file of a variant after reset. -/
def regInit (v : Variant) : List (Nat × Word) :=
  (regInits v).foldr (fun av m => tabPut (0 : Word) m av.1 (BitVec.ofNat 32 av.2)) []

/-- The reset value of the register at an address, whose description gives d. -/
def resetOf (v : Variant) (a d : Nat) : Nat :=
  match (regInits v).find? (fun av => av.1 == a) with
  | some av => av.2
  | none => d

end Sys2Proof.Machine
end

