-- ==== Sys2Proof/Machine/State.lean ====
section
/-! DEFINITION. The state of the module. -/

namespace Sys2Proof.Machine

/-- Why the machine stops with a fault: nothing that the spec describes stops the module's model, so there is no fault. -/
inductive Fault where
  deriving DecidableEq, Repr

/-- Why a command has no meaning. -/
inductive Refusal where
  /-- Raised by an arm of exec whose command has no meaning yet; safe, because nothing is claimed of that command. -/
  | notModelled (mnemonic : String)
  deriving DecidableEq, Repr

/-- The module: the commands that wait; variant, stepping and fuse revision (R1 to R8); the register file, which holds every
register of BAR0 whose value is not a view of what follows (R9, R616); the time (tick count, ticks begun since the PLLs locked,
which a re-timing to the ring does not change, last phase event, whether the tick has been committed) and the counter of free values; program store, shared and bulk data, table RAM (R71); MSI-X table, pending
vectors and enable (R149); what has been sent; and the blocks. -/
@[ext]
structure State where
  pending  : List Instr
  variant  : Variant
  stepping : Nat
  fuseRev  : Nat
  regs     : List (Nat × Word)
  tick     : Nat
  elapsed  : Nat
  phase    : Nat
  committed : Bool
  free     : Nat
  prog     : List Host.Cell
  data     : List Host.Cell
  table    : List Host.Cell
  msixTab  : List Host.Cell
  msixPend : List Nat
  msixEn   : Bool
  log      : List Emit
  seq      : Seq
  lpe      : Lpe
  rcd      : Recorder
  fmt      : Fmt
  sec      : Sec
  nvm      : Nvm
  boot     : Boot
  pins     : Pins
  pwr      : Pwr
  cdc      : Cdc
  img      : Img
  dramCh   : List DramChan
  dram     : List Host.Cell
  dma      : List DmaChan
  dmaShare : Nat
  motion   : Motion
  cal      : Cal
  power    : Power
  ring     : Ring
  iox      : Iox
  deriving DecidableEq, Repr

/-- A module of a variant before its supplies come up. -/
def State.initial (v : Variant) : State :=
  { pending := [], variant := v, stepping := 0, fuseRev := 0, regs := regInit v, tick := 0, elapsed := 0, phase := 0, committed := false,
    free := 0, prog := [], data := [], table := [], msixTab := msixReset, msixPend := [], msixEn := false, log := [],
    seq := Seq.blank, lpe := Lpe.blank, rcd := Recorder.blank, fmt := Fmt.blank, sec := Sec.blank, nvm := Nvm.blank,
    boot := Boot.blank, pins := Pins.blank, pwr := Pwr.blank, cdc := Cdc.blank v, img := Img.blank,
    dramCh := List.replicate 4 DramChan.blank, dram := [], dma := List.replicate 64 DmaChan.blank, dmaShare := 0,
    motion := Motion.blank, cal := Cal.blank, power := Power.blank, ring := Ring.blank, iox := Iox.blank }

/-- The machine right after reset: a VYT-P6M to which power is about to be applied. -/
def State.reset : State := State.initial .p6m

end Sys2Proof.Machine
end

