-- ==== Sys2Proof/Machine/Ops.lean ====
section
/-! DEFINITION. Operations over the state that every block shares: registers and their fields, event flags and the
contexts they wake, event records and interrupt vectors. -/

namespace Sys2Proof.Machine

/-! ### Registers and fields -/

/-- The stored value of instance (i, j) of a register; one that nothing has written holds its reset value. -/
def State.rget (s : State) (r : RegDesc) (i j : Nat := 0) : Nat :=
  (tabGet (BitVec.ofNat 32 r.reset) s.regs (r.addr i j)).toNat

/-- The state with instance (i, j) of a register holding v. -/
def State.rset (s : State) (r : RegDesc) (v : Nat) (i j : Nat := 0) : State :=
  { s with regs := tabPut (BitVec.ofNat 32 r.reset) s.regs (r.addr i j) (BitVec.ofNat 32 v) }

/-- A field of instance (i, j) of its register, as a number. -/
def State.fget (s : State) (f : FldDesc) (i j : Nat := 0) : Nat := bits (s.rget f.reg i j) f.hi f.lo

/-- The state with a field of instance (i, j) of its register set to the low bits of v. -/
def State.fset (s : State) (f : FldDesc) (v : Nat) (i j : Nat := 0) : State :=
  s.rset f.reg (putBits (s.rget f.reg i j) f.hi f.lo v) i j

/-- A one-bit field as a Bool. -/
def State.fbit (s : State) (f : FldDesc) (i j : Nat := 0) : Bool := s.fget f i j == 1

/-- A counter field raised by n, saturating at its largest value. -/
def State.finc (s : State) (f : FldDesc) (n : Nat) (i j : Nat := 0) : State :=
  s.fset f (min (s.fget f i j + n) (2 ^ (f.hi + 1 - f.lo) - 1)) i j

/-- A field read as a signed number. -/
def State.fsigned (s : State) (f : FldDesc) (i j : Nat := 0) : Int := signed (f.hi + 1 - f.lo) (s.fget f i j)

/-- SEQ_STAT.MODE is 3: the engine program runs. -/
def State.running (s : State) : Bool := s.fget F.SEQ_STAT_MODE == 3

/-- The core die is powered and out of reset, with its tick running: the steps from the lock on. -/
def State.ticking (s : State) : Bool :=
  match s.boot.step with
  | .off | .held | .locking => false
  | _ => true

/-- Phase 15 after the commit or the restore, until phase 0 of the next tick. -/
def State.boundary (s : State) : Bool := s.phase == 15 && s.committed

/-- Tick count [31:0] of the current tick. -/
def State.now32 (s : State) : Nat := s.tick % 2 ^ 32

/-- The state with one more thing sent. -/
def State.emit (s : State) (e : Emit) : State := { s with log := s.log ++ [e] }

/-- The next free value: the counter that an open value is drawn with is advanced. [DESIGN CHOICE, log entry 9] -/
def State.nextFree (s : State) : State := { s with free := s.free + 1 }

/-! ### Interrupt vectors -/

/-- Raise MSI-X vector v: the message is sent when the host has enabled MSI-X and not masked the vector, and the
vector's pending bit is set otherwise (R149, and PCI Express Base 5.0 for the mask and pending bits). -/
def State.raise (s : State) (v : Nat) : State :=
  let masked := (memRead s.msixTab (16 * v + 12) 4).testBit 0
  if s.msixEn && !masked then s.emit (.msix v)
  else { s with msixPend := if v ∈ s.msixPend then s.msixPend else v :: s.msixPend }

/-! ### Contexts -/

/-- Context c; a number outside 0 to 511 names no context. -/
def State.ctx (s : State) (c : Nat) : Ctx := nth s.seq.ctx c Ctx.blank

/-- The state with context c replaced. -/
def State.setCtx (s : State) (c : Nat) (x : Ctx) : State := { s with seq := { s.seq with ctx := s.seq.ctx.set c x } }

/-- Declared priority of a context. -/
def Ctx.prio (x : Ctx) : Nat := match x.decl with | some d => d.prio | none => 0

/-- The context made READY by its flag or its timeout (R81, R134): C tells which of the two ended a WAITE. -/
def Ctx.wakeUp (x : Ctx) (byTimeout : Bool) : Ctx :=
  { x with st := .ready, cy := if x.waitTimed then byTimeout else x.cy, waitTimed := false, expired := false }

/-- The context waits on flag f. -/
def Ctx.waitsOn (x : Ctx) (f : Nat) : Bool := x.st == .waiting && x.waitFlag == f

/-- The better of the best context so far, as priority and number, and one more (R75). -/
def betterCtx (p : Nat → Ctx → Bool) (b : Option (Nat × Nat)) (xc : Ctx × Nat) : Option (Nat × Nat) :=
  if p xc.2 xc.1 then
    match b with
    | none => some (xc.1.prio, xc.2)
    | some (q, k) => if q < xc.1.prio then some (xc.1.prio, xc.2) else some (q, k)
  else b

/-- Of the contexts that satisfy p, the one with the highest priority, ties to the lowest number (R75, R81). -/
def bestCtx (l : List Ctx) (p : Nat → Ctx → Bool) : Option Nat := (l.zipIdx.foldl (betterCtx p) none).map (·.2)

/-! ### Event flags -/

/-- Event flag f is set. -/
def State.flag (s : State) (f : Nat) : Bool := (s.rget R.SEQ_EV (f / 32)).testBit (f % 32)

/-- Event flag f written to b, waking nobody. -/
def State.putFlag (s : State) (f : Nat) (b : Bool) : State :=
  s.rset R.SEQ_EV (putBits (s.rget R.SEQ_EV (f / 32)) (f % 32) (f % 32) (bit b)) (f / 32)

/-- Set flag f and wake its waiters (R81): every waiter without the consume option becomes READY; of those with it only
the best one does, and the flag is then cleared. -/
def State.raiseFlag (s : State) (f : Nat) : State :=
  let l := s.seq.ctx
  let one := bestCtx l (fun _ x => x.waitsOn f && x.waitConsume)
  let l := l.map (fun x => if x.waitsOn f && !x.waitConsume then x.wakeUp false else x)
  let l := match one with
    | some c => l.set c ((nth l c Ctx.blank).wakeUp false)
    | none => l
  ({ s with seq := { s.seq with ctx := l } }).putFlag f one.isNone

/-- A flag set that arrives from hardware, the ring or the host: it is kept for R91 beside taking effect. -/
def State.setFlag (s : State) (f : Nat) : State :=
  { s.raiseFlag f with seq := { (s.raiseFlag f).seq with arrivals := s.seq.arrivals ++ [.set f] } }

/-- A host clear of flag f (R80), kept for R91. -/
def State.clearFlag (s : State) (f : Nat) : State :=
  { s.putFlag f false with seq := { (s.putFlag f false).seq with arrivals := s.seq.arrivals ++ [.clear f] } }

/-! ### Event records -/

/-- The 16-byte postmark of a moment (Table 21-2). -/
def postmark (pcyc opsec tick phase pflags : Nat) : List Nat :=
  leBytes 4 pcyc ++ leBytes 4 opsec ++ leBytes 6 tick ++ [phase % 256, pflags % 256]

/-- The postmark of the present moment. -/
def State.postmarkNow (s : State) : List Nat :=
  postmark (s.rget R.SYS_PCYC) (s.rget R.SYS_OPSEC) s.tick s.phase (s.fget F.TCK_STAT_RINGSYNC)

/-- The 128 bytes of a record (Table 21-1): bytes 0x00 to 0x77, their CRC and the mark. -/
def Rec.bytes (r : Rec) : List Nat :=
  let body := leBytes 2 r.code ++ [r.flags % 256, r.payload.length % 256] ++ leBytes 2 r.origin ++
    [r.snap.length % 256, 0] ++ leBytes 4 r.rseq ++ leBytes 4 0 ++
    postmark r.pcyc r.opsec r.tick r.phase r.pflags ++
    slice ((r.payload.map (leBytes 4)).flatten) 0 16 ++ slice ((r.snap.map (leBytes 4)).flatten) 0 64 ++ leBytes 8 0
  body ++ leBytes 4 (crc32 body) ++ leBytes 4 0x43455259

/-- The rate rule that applies to a code (R586): the lowest enabled REC_RL i whose masked code matches. -/
def State.rateRule (s : State) (code : Nat) : Option Nat :=
  findBelow 16 (fun i => s.fbit F.REC_RL_LIM_EN i &&
    ((code &&& s.fget F.REC_RL_CODE_MASK i) == (s.fget F.REC_RL_CODE_CODE i &&& s.fget F.REC_RL_CODE_MASK i)))

/-- The key of a rate rule's state: the rule, or for the default rule the 0x400-code range, or the code itself from
0x6000 to 0x63FF (R586). -/
def rateKey (rule : Option Nat) (code : Nat) : Nat :=
  match rule with
  | some i => i
  | none => if 0x6000 ≤ code && code ≤ 0x63FF then 0x10000 + code else 16 + code / 0x400

/-- MAXN and WIN in ticks of a rate rule; a WIN of 0 counts as 1 ms (R586). -/
def State.rateLimits (s : State) (rule : Option Nat) : Nat × Nat :=
  let (n, w) := match rule with
    | some i => (s.fget F.REC_RL_LIM_MAXN i, s.fget F.REC_RL_LIM_WIN i)
    | none => (s.fget F.REC_RLDEF_MAXN, s.fget F.REC_RLDEF_WIN)
  (n, max w 1 * 50)

/-- The snapshot entry that matches a code (R588). -/
def State.snapEntry (s : State) (code : Nat) : Option Nat :=
  findBelow 16 (fun j => s.fbit F.REC_SNAP_CFG_EN j &&
    ((code &&& s.fget F.REC_SNAP_CODE_MASK j) == (s.fget F.REC_SNAP_CODE_CODE j &&& s.fget F.REC_SNAP_CODE_MASK j)))

/-- A record enters the queue with the next RSEQ; at a full queue it is lost and counted (R581, R585). -/
def State.enqueue (s : State) (r : Rec) : State :=
  if 256 ≤ s.rcd.queue.length then
    { s.finc F.REC_LOST_COUNT 1 with rcd := { s.rcd with lostNow := s.rcd.lostNow + 1 } }
  else
    let q := s.rget R.REC_NEXTSEQ
    { s.rset R.REC_NEXTSEQ (q + 1) with
      rcd := { s.rcd with queue := s.rcd.queue ++ [{ r with rseq := q, snapOf := s.snapEntry r.code }] } }

/-- The rate windows' entry for a key. -/
def State.rateWin (s : State) (key : Nat) : Option RlWin := s.rcd.wins.find? (fun w => w.key == key)

/-- The state with the rate window of w.key replaced by w. -/
def State.putRateWin (s : State) (w : RlWin) : State :=
  { s with rcd := { s.rcd with wins := w :: s.rcd.wins.filter (fun v => v.key != w.key) } }

/-- Close a rate window, with its summary record when it suppressed any (R586). -/
def State.closeRateWin (s : State) (w : RlWin) : State :=
  let s := { s with rcd := { s.rcd with wins := s.rcd.wins.filter (fun v => v.key != w.key) } }
  if w.supp = 0 then s
  else s.enqueue { code := w.firstCode, flags := 1, origin := w.firstOrig, rseq := 0, pcyc := s.rget R.SYS_PCYC,
                   opsec := s.rget R.SYS_OPSEC, tick := w.endTick, phase := 0,
                   pflags := s.fget F.TCK_STAT_RINGSYNC,
                   payload := [w.supp, w.lastCode % 2 ^ 16 + 2 ^ 16 * (if w.key < 16 then w.key else 0xFFFF)],
                   snap := [], snapOf := none }

/-- The window of a key is closed when it has ended at a tick (R586). -/
def State.rateTurn (s : State) (key tick : Nat) : State :=
  match s.rateWin key with
  | some w => if w.endTick ≤ tick then s.closeRateWin w else s
  | none => s

/-- A record under its open window: into the queue while the window has room, counted as suppressed after (R586, R587). -/
def State.admitRec (s : State) (w : RlWin) (maxn : Nat) (r : Rec) : State :=
  if w.accepted < maxn then (s.putRateWin { w with accepted := w.accepted + 1 }).enqueue r
  else
    let w := if w.supp = 0 then { w with firstCode := r.code, firstOrig := r.origin } else w
    (s.putRateWin { w with supp := w.supp + 1, lastCode := r.code }).finc F.REC_SUPP_COUNT 1

/-- A record is checked against its rate rule and enters the queue or is suppressed (R586, R587). -/
def State.pushRec (s : State) (r : Rec) : State :=
  if 0x5000 ≤ r.code && r.code ≤ 0x57FF then s.enqueue r
  else
    let rule := s.rateRule r.code
    let key := rateKey rule r.code
    let (maxn, win) := s.rateLimits rule
    let s := s.rateTurn key r.tick
    let w := match s.rateWin key with
      | some w => w
      | none => { key := key, endTick := r.tick + win, accepted := 0, supp := 0, firstCode := 0, firstOrig := 0, lastCode := 0 }
    s.admitRec w maxn r

/-- A module record of the present moment with the values its rule names, one to a word, at most four (R579, R580). -/
def State.record (s : State) (code : Nat) (payload : List Nat := []) : State :=
  s.pushRec { code := code, flags := 0, origin := 0xFFFF, rseq := 0, pcyc := s.rget R.SYS_PCYC,
              opsec := s.rget R.SYS_OPSEC, tick := s.tick, phase := s.phase, pflags := s.fget F.TCK_STAT_RINGSYNC,
              payload := (payload.take 4).map (· % 2 ^ 32), snap := [], snapOf := none }

/-- A released REC is recorded: the tick of issue with phase 15, and its context as origin (R145, R579, R581). -/
def State.putRec (s : State) (ctx code tick : Nat) (payload : List Nat) : State :=
  s.pushRec { code := code, flags := 0, origin := ctx, rseq := 0, pcyc := s.rget R.SYS_PCYC, opsec := s.rget R.SYS_OPSEC,
              tick := tick, phase := 15, pflags := s.fget F.TCK_STAT_RINGSYNC, payload := payload, snap := [], snapOf := none }

/-- Released RECs enter the recorder's queue, before any record of the coming phase 0 (R581). [DEDUCED, log entry 41] -/
def State.recRelease (s : State) : State :=
  let l := s.seq.rel
  let s := { s with seq := { s.seq with rel := l.filter (fun d => match d with | .rcd .. => false | _ => true) } }
  l.foldl (fun (s : State) d => match d with | .rcd c code p t => s.putRec c code t p | _ => s) s

/-- A record under a rule that names no code: 0x6000 + rule number; the payload holds what the rule says the record carries, after the
position of the kind where the rule records several (R580, R644). [DEDUCED, log entry 131] -/
def State.recRule (s : State) (rule : Nat) (payload : List Nat := []) : State := s.record (0x6000 + rule) payload

/-- A security event of R557 under a rule: 0x5000 + rule number (R644). -/
def State.recSec (s : State) (rule : Nat) (payload : List Nat := []) : State := s.record (0x5000 + rule) payload

/-- An absorbed fault: its counter and event flag 929 (R611, Table 22-6). -/
def State.absorb (s : State) (f : FldDesc) : State := (s.finc f 1).setFlag 929

/-! ### Presence -/

/-- A presence window is open (R558). -/
def State.presence (s : State) : Bool := s.sec.strap || 0 < s.sec.remBtn || 0 < s.sec.remRing

/-- A write of an RWP field outside a presence window, recorded when it differs from the field (R11). -/
def State.recRwp (s : State) (addr val : Nat) : State := s.record 0x500B [addr, val]

/-- A value differs from another in a field of an access code. -/
def RegDesc.differs (r : RegDesc) (a : Acc) (x y : Nat) : Bool :=
  r.fields.any (fun f => f.acc = a && bits x f.hi f.lo != bits y f.hi f.lo)

/-- A write of an RWI register while its unit is not idle, recorded when it differs from an RWI field (R11). -/
def State.recRwi (s : State) (r : RegDesc) (v : Nat) (i j : Nat := 0) : State :=
  if r.differs .rwi (s.rget r i j) v then s.record 0x600B [r.addr i j, v % 2 ^ 32] else s

/-! ### Power states -/

/-- A deeper state is chosen and not yet entered (R535, R544). -/
def State.entering (s : State) : Bool := max 1 (s.fget F.PWR_STAT_STATE) < s.fget F.PWR_STAT_TARGET

/-- A wake condition applies in the present power state, or in the one that is being entered (R544, Table 19-2). -/
def State.wakeOk (s : State) (c : Nat) : Bool :=
  let st := if s.entering then s.fget F.PWR_STAT_TARGET else s.fget F.PWR_STAT_STATE
  s.fget F.PWR_STAT_TARGET == st &&
    ((st == 2 && (c == 1 || c == 2 || c == 3 || c == 5)) || (st == 3 && 1 ≤ c && c ≤ 6) ||
      (st == 4 && (c == 1 || c == 4 || (c == 5 && s.fbit F.PWR_CTRL_RINGSLEEP) || c == 6)))

/-- A wake condition arises; the first one waits for phase 0 (R543). [DEDUCED, log entry 110] -/
def State.wakeBy (s : State) (c : Nat) : State :=
  if s.wakeOk c then { s with pwr := { s.pwr with wakePend := s.pwr.wakePend.or (some c) } } else s

/-- NVM writes are held (R549, R554). -/
def State.nvmHold (s : State) : Bool := s.pwr.holdSup || s.pwr.holdTemp

end Sys2Proof.Machine
end

