-- ==== Sys2Proof/Machine/Read.lean ====
section
/-! DEFINITION. Reading a register: the register map searched by address, the registers whose value is a view of other
state, absent instances, Bivouac mode and the windows of BAR0 (R2, R9, R73, R607, R617). -/

namespace Sys2Proof.Machine

/-- The instance that a BAR0 offset names in a register description, if any (R616). -/
def RegDesc.index (r : RegDesc) (a : Nat) : Option (Nat × Nat) :=
  let off := a - r.base
  let i := if r.s1 = 0 then 0 else off / r.s1
  let j := if r.s2 = 0 then 0 else (off - r.s1 * i) / r.s2
  if r.base ≤ a && r.s1 * i + r.s2 * j == off && r.i0 ≤ i && i < r.n1 && j < r.n2 then some (i, j) else none

/-- The register at a BAR0 offset, with its instance numbers. -/
def findReg (a : Nat) : Option (RegDesc × Nat × Nat) :=
  regMap.findSome? (fun r => (r.index a).map (fun ij => (r, ij.1, ij.2)))

/-- The instance (i, j) of a register belongs to a resource the variant lacks (R2, Table 2-9). -/
def Res.absent (v : Variant) (r : Res) (i j : Nat) : Bool :=
  match r with
  | .always => false
  | .station => v.stn ≤ i
  | .beam => v.stn ≤ i || v.beams ≤ j
  | .hvch => v.hvch ≤ i
  | .stepper => v.stpch ≤ i
  | .foc => v.focch ≤ i
  | .csi => v.csi ≤ i
  | .dram => v.drch ≤ i
  | .enc => v.encl ≤ i
  | .dec => v.decl ≤ i
  | .mains => !v.mains

/-- How many phases lie from a phase event to the next one. -/
def phaseSpan (p : Nat) : Nat := if p = 10 then 5 else if p < 10 then 2 else 1

/-- The phase in which something happens now: at or after the last phase event and before the next (Table 2-1). -/
def State.livePhase (s : State) : Nat := s.phase + Config.phaseWithin s.free % phaseSpan s.phase

/-- SEQ_CTXSTAT of a context: its state as at the last commit, its declaration, ABORT_LATE and last fault. -/
def State.ctxStat (s : State) (c : Nat) : Nat :=
  let k := nth s.seq.ckpt c Ctx.blank
  let d := match k.decl with
    | some d => bit d.crit * 2 ^ 31 + d.prio * 2 ^ 28 + d.pair * 2 ^ 24
    | none => 0
  d + bit (decide (c ∈ s.seq.abortLate)) * 2 ^ 23 + (k.acts % 8) * 2 ^ 20 + (k.fcode % 256) * 2 ^ 8 + k.st.code

/-- Ticks until the presence window closes: 0x1F_FFFF while STRAP is open (SEC_PRES.REMAIN). -/
def State.presRemain (s : State) : Nat := if s.sec.strap then 0x1FFFFF else max s.sec.remBtn s.sec.remRing

/-- The queue head: the first queued handle that is not IMAGING (R170). -/
def State.envOf (s : State) (h : Nat) : Option Env :=
  match nth s.fmt.env (h % 64) none with
  | some e => if e.handle == h then some e else none
  | none => none

/-- The first queued handle that is not IMAGING, or 0 (R170). -/
def State.headHandle (s : State) : Nat :=
  (s.fmt.queue.find? (fun h => match s.envOf h with | some e => e.state != .imaging | none => false)).getD 0

/-- The handle of the page IMAGING, or 0. -/
def State.imagingHandle (s : State) : Nat :=
  (s.fmt.env.findSome? (fun e => match e with
    | some e => if e.state == .imaging then some e.handle else none
    | none => none)).getD 0

/-- Slots in use (FMT_STAT.HELD). -/
def State.held (s : State) : Nat := (s.fmt.env.filter Option.isSome).length

/-- The module is in Bivouac mode. -/
def State.bivouac (s : State) : Bool := s.boot.step == .bivouac

/-! ### DRAM channels -/

/-- DRAM channel c. -/
def State.chan (s : State) (c : Nat) : DramChan := nth s.dramCh c DramChan.blank

/-- Tick-PLL cycles since the start, `sub` after the last phase event: the time by which intervals are measured, which no
re-timing of the tick count changes. -/
def State.cycNow (s : State) (sub : Nat) : Nat := s.elapsed * 8000 + s.phase * 500 + sub

/-- Intervals of a rank that have passed at a time in cycles and are not yet among the refreshes owed (R476). -/
def DramChan.fallen (x : DramChan) (rank cyc : Nat) : Nat :=
  if 5 * cyc < nth x.refDue rank 0 then 0 else (5 * cyc - nth x.refDue rank 0) / max (nth x.refInt rank 0) 1 + 1

/-- Refreshes owed of a rank at a time (R476). -/
def DramChan.owedOf (x : DramChan) (rank cyc : Nat) : Int := nth x.owed rank 0 + x.fallen rank cyc

end Sys2Proof.Machine
end

