-- ==== Sys2Proof/Machine/LawParam.lean ====
section
/-! DEFINITION. Law values and parameters: block floating point (R331 to R334), the parameter tables (4-11 and 11-2),
and the reads and writes that LAWGET, LAWSET and LPE_PCMD make of them (R142, R143, R344). -/

namespace Sys2Proof.Machine

/-- cv(x, F, T) of R332: x at exponent F re-expressed at exponent T, rounding half up. -/
def cv (x f t : Int) : Int :=
  if t ≤ f then x * ((2 ^ (f - t).toNat : Nat) : Int)
  else if 62 < t - f then 0
  else (x + ((2 ^ (t - f - 1).toNat : Nat) : Int)) / ((2 ^ (t - f).toNat : Nat) : Int)

/-- s16 of R332. -/
def s16 (x : Int) : Int := clampI (-32768) 32767 x

/-- s16 clamps x. -/
def s16Sat (x : Int) : Bool := x < -32768 || 32767 < x

/-- The value of a field of a register word, signed or unsigned as declared. -/
def LawField.value (f : LawField) (word : Nat) : Int :=
  let v := bits word (f.pos + f.wid - 1) f.pos
  if f.sgn then signed f.wid v else v

/-- An output mantissa entered into its target field: the register word, other bits 0 (R327, R334). -/
def LawField.word (f : LawField) (m eout : Int) : Nat :=
  let v := cv m eout f.exp
  let v := if f.sgn then satS f.wid v else clampI 0 (((2 ^ f.wid : Nat) : Int) - 1) v
  (unsign f.wid v * 2 ^ f.pos) % 2 ^ 32

/-- The law types that have a parameter, Table 11-2; parameters 0 to 6 belong to every type (Table 4-11). -/
def paramOf (t : LawType) (p : Nat) : Bool :=
  match p with
  | 0 | 1 | 2 | 3 | 4 | 5 | 6 => true
  | 16 | 17 | 21 | 22 | 60 | 62 => true
  | 18 | 19 => t == .pid
  | 20 => t != .dqcur
  | 23 => t == .pllspd || t == .dqcur || t == .cvcc
  | 24 => t == .pllspd
  | 25 => t == .dqcur || t == .cvcc || t == .fuser
  | 26 | 27 => t == .dqcur || t == .cvcc
  | 28 => t == .cvcc || t == .fuser
  | 29 | 30 => t == .dqcur
  | 61 => t == .cvcc || t == .fuser
  | _ => false

/-- Read-only parameters (Tables 4-11 and 11-2). -/
def paramRo (p : Nat) : Bool := p == 1 || p == 2 || p == 21 || p == 22 || p == 23 || p == 29 || p == 30 || p == 62

/-- Exponent of the stage of a parameter; integer parameters have exponent 0 (R331, Table 11-2). -/
def paramExp (d : LawDecl) (p : Nat) : Int :=
  match p with
  | 0 | 1 | 3 | 22 => d.ein
  | 2 | 4 | 5 | 6 | 21 | 29 | 30 => d.eout
  | 16 | 17 | 18 | 19 | 20 | 24 | 26 | 27 => d.egain
  | 23 | 25 | 28 => d.eaux
  | _ => 0

/-- STATUS, LPE_L_STAT [15:8]: MODE in effect, RAMPING, and the sticky bits SAT, LIMHI, LIMLO, SLEWL and HO (R337). -/
def Law.status (l : Law) : Nat := (l.mode % 4) * 64 + bit (l.r ≠ l.setpt) * 32 + l.sticky % 32

/-- The present value of a parameter, as a mantissa of its stage. -/
def Law.param (l : Law) (p : Nat) : Int :=
  match l.decl with
  | none => 0
  | some d =>
    match p with
    | 0 => l.setpt | 1 => l.meas | 2 => l.out | 3 => l.ramp | 4 => l.outMin | 5 => l.outMax | 6 => l.slew
    | 16 => l.kp | 17 => l.ki | 18 => l.kd | 19 => l.dflt | 20 => l.kff
    | 21 => s16 (cv l.iw (d.eout - 16) d.eout) | 22 => l.r | 23 => l.aux | 24 => l.kph | 25 => l.setpt2
    | 26 => l.kp2 | 27 => l.ki2 | 28 => l.hyst | 29 => l.out2 | 30 => s16 (cv l.i2w (d.eout - 16) d.eout)
    | 60 => bit l.active | 61 => l.modeCtl | 62 => l.status
    | _ => 0

/-- A parameter write of a law checks that the law is declared, and the parameter is the type's and not read-only
(R143). -/
def Law.writable (l : Law) (p : Nat) : Bool :=
  match l.decl with
  | none => false
  | some d => paramOf d.type p && !paramRo p

/-- A parameter can be read: the law is declared and the parameter is the type's (R143). -/
def Law.readable (l : Law) (p : Nat) : Bool :=
  match l.decl with
  | none => false
  | some d => paramOf d.type p

/-- val × 2^exp as it enters a parameter: the mantissa of its stage, or an integer parameter saturated to its range
(R334), and whether it saturated. -/
def paramEnter (d : LawDecl) (p : Nat) (val exp : Int) : Int × Bool :=
  if p = 60 then (clampI 0 1 (cv val exp 0), cv val exp 0 < 0 || 1 < cv val exp 0)
  else if p = 61 then (clampI 0 2 (cv val exp 0), cv val exp 0 < 0 || 2 < cv val exp 0)
  else (s16 (cv val exp (paramExp d p)), s16Sat (cv val exp (paramExp d p)))

/-- The law with a stage parameter set to a mantissa; ACTIVE and MODE are handled where they are applied. -/
def Law.setParam (l : Law) (p : Nat) (m : Int) : Law :=
  match p with
  | 0 => { l with setpt := m } | 3 => { l with ramp := m } | 4 => { l with outMin := m }
  | 5 => { l with outMax := m } | 6 => { l with slew := m } | 16 => { l with kp := m } | 17 => { l with ki := m }
  | 18 => { l with kd := m } | 19 => { l with dflt := m } | 20 => { l with kff := m } | 24 => { l with kph := m }
  | 25 => { l with setpt2 := m } | 26 => { l with kp2 := m } | 27 => { l with ki2 := m } | 28 => { l with hyst := m }
  | _ => l

/-- What LAWGET gives of a parameter at an exponent, with V when the value saturates: to 32 bits, or an integer parameter to
its range (R142, R334). -/
def Law.get (l : Law) (p : Nat) (exp : Int) : Nat × Bool :=
  match l.decl with
  | none => (0, false)
  | some d =>
    let v := scaleTrunc (l.param p) (paramExp d p - exp)
    let w := if p = 60 then clampI 0 1 v else if p = 61 then clampI 0 2 v else if p = 62 then clampI 0 255 v else satS 32 v
    (unsign 32 w, decide (w ≠ v))

/-- Law l of the running program. -/
def State.law (s : State) (l : Nat) : Law := nth s.lpe.law l Law.blank

/-- Law l as committed at the end of the previous tick (R142). [DEDUCED, log entry 47] -/
def State.lawCommitted (s : State) (l : Nat) : Law := nth s.lpe.ckpt l Law.blank

/-- The state with law l replaced. -/
def State.setLaw (s : State) (l : Nat) (x : Law) : State := { s with lpe := { s.lpe with law := s.lpe.law.set l x } }

/-- A register is the target of a law output and so owned by that law (R38). -/
def State.lawOwned (s : State) (addr : Nat) : Bool :=
  s.lpe.law.any (fun l => match l.decl with
    | some d => d.tgt.addr == addr || (match d.tgt2 with | some f => f.addr == addr | none => false)
    | none => false)

end Sys2Proof.Machine
end

