-- ==== Sys2Proof/Machine/Sequencer.lean ====
section
/-! DEFINITION. How contexts run: dispatch, retiring an instruction, ending an activation and taking an instruction
fault (R74 to R79, R100, R113, R117, R136, R146). -/

namespace Sys2Proof.Machine

/-- Logical pair of a context. -/
def Ctx.pair (x : Ctx) : Nat := match x.decl with | some d => d.pair | none => 0

/-- Declared maximum activations of a context. -/
def Ctx.maxActs (x : Ctx) : Nat := match x.decl with | some d => d.maxActs | none => 0

/-- Cycles of its tick that a logical pair has used: the starts of contexts and the instructions executed (R75, R78). -/
def State.pairNow (s : State) (p : Nat) : Nat :=
  s.seq.ctx.foldl (fun a x => if x.pair == p then a + x.spent else a) (nth s.seq.pairCyc p 0)

/-- The cycle at which context c executes its next instruction. -/
def State.cycleOf (s : State) (c : Nat) : Nat := s.pairNow (s.ctx c).pair

/-- No other context that can go on stands at an earlier cycle, or at the same one on a lower logical pair: instructions take effect
in the order of their cycles, those of one cycle in ascending pair number (R72, R125, R133). [DEDUCED, log entry 8] -/
def State.inTurn (s : State) (c : Nat) : Bool :=
  s.seq.ctx.all (fun x => !(x.st == .running && decide (0 < x.budget)) || decide (s.cycleOf c < s.pairNow x.pair) ||
    (s.cycleOf c == s.pairNow x.pair && decide ((s.ctx c).pair ≤ x.pair)))

/-- An instruction of context c can execute: the program runs, the compute window is open, the context is RUNNING and
its budget is not used up (R61, R78, R79). -/
def State.runs (s : State) (c : Nat) : Bool :=
  s.running && decide (s.phase < 14) && (s.ctx c).st == .running && decide (0 < (s.ctx c).budget)

/-- The instruction at a context's PC in the program store: the one its word spells, or ILLEGAL (R103, R112, R113). -/
def State.fetched (s : State) (c : Nat) : Instr :=
  let w := memRead s.prog (4 * (s.ctx c).pc) 4
  (decodeInsn c w).getD (.illegal c w)

/-- Context c executes instruction i: it can execute, it is its turn, and i is the one at its PC. [DEDUCED, log entry 7] -/
def State.executes (s : State) (c : Nat) (i : Instr) : Bool := s.runs c && s.inTurn c && decide (s.fetched c = i)

/-- STANDBY with the core clock gated: from the entry until an exit begins (R537, R545). -/
def State.gated (s : State) : Bool := s.fget F.PWR_STAT_STATE == 3 && s.fget F.PWR_STAT_TARGET == 3

/-- A context may be dispatched in this power state: in STANDBY only the heartbeat context, in its tick; in SLEEP
none (R537, R538). -/
def State.mayDispatch (s : State) (c : Nat) : Bool :=
  if s.gated then c == s.fget F.PWR_CTRL_HBCTX && s.pwr.sbTick == 51 else !s.pwr.asleep

/-- A dispatch point of pair p: the READY context with the highest priority starts, unless it has used its
activations; the pair is charged 32 cycles (R75, R77). No context starts from the end of phase 14 on (R79). -/
def State.dispatch (s : State) (p : Nat) : State :=
  if !s.running || 14 ≤ s.phase || s.seq.ctx.any (fun x => x.st == .running && x.pair == p) then s
  else
    match bestCtx s.seq.ctx (fun c x => x.st == .ready && x.pair == p && decide (x.acts < x.maxActs) && s.mayDispatch c) with
    | none => s
    | some c =>
      let s := s.setCtx c { s.ctx c with st := .running, acts := (s.ctx c).acts + 1 }
      { s with seq := { s.seq with pairCyc := s.seq.pairCyc.set p (nth s.seq.pairCyc p 0 + 32) } }

/-- The context after an instruction of cyc cycles that goes on to pc. -/
def Ctx.retireTo (x : Ctx) (pc cyc : Nat) : Ctx := { x with pc := pc % 2 ^ 20, budget := x.budget - cyc, spent := x.spent + cyc }

/-- The context after an instruction of cyc cycles: PC := (PC + 1) mod 2^20 (R113). -/
def Ctx.retire (x : Ctx) (cyc : Nat) : Ctx := x.retireTo (x.pc + 1) cyc

/-- An instruction i of context c that changes only the context's registers and flags. -/
def State.stepReg (s : State) (c : Nat) (i : Instr) (cyc : Nat) (f : Ctx → Ctx) : State :=
  if s.executes c i then s.setCtx c ((f (s.ctx c)).retire cyc) else s

/-- The activation of context c ends with status st, and its pair comes to a dispatch point (R75, R136). -/
def State.endActivation (s : State) (c : Nat) (x : Ctx) (st : Status) : State :=
  (s.setCtx c { x with st := st }).dispatch x.pair

/-- Context c takes instruction fault `code`: nothing but its status and budget changes, and its PC stays at the
instruction (R100, R117, R146). SEQ_FAULT and the record follow at the commit (R148). -/
def State.faultCtx (s : State) (c code cyc : Nat) : State :=
  let x := s.ctx c
  let s := { s with seq := { s.seq with faults := s.seq.faults ++ [(c, code)] } }
  s.endActivation c { x with fcode := code, budget := x.budget - cyc, spent := x.spent + cyc } .faulted

/-- An entry of the output queues (R85). -/
def State.queueOut (s : State) (d : Deferred) : State := { s with seq := { s.seq with outq := s.seq.outq ++ [d] } }

/-- Journal the word that holds address a of a space before context c writes it (R88). -/
def State.journalWord (s : State) (c : Nat) (loc : Option Nat) (a : Nat) : State :=
  let w := a / 4 * 4
  let old := match loc with
    | some c => memRead (s.ctx c).loc w 4
    | none => memRead s.data w 4
  { s with seq := { s.seq with journal := { loc := loc, addr := w, old := old, pair := (s.ctx c).pair, cyc := s.cycleOf c } :: s.seq.journal } }

/-- A journalled store of n bytes to shared or bulk data by context c. -/
def State.storeData (s : State) (c a n v : Nat) : State :=
  let s := s.journalWord c none a
  { s with data := memWrite s.data a n v }

/-- A journalled store of n bytes to the local store of context c. -/
def State.storeLocal (s : State) (c a n v : Nat) : State :=
  let s := s.journalWord c (some c) a
  s.setCtx c { s.ctx c with loc := memWrite (s.ctx c).loc a n v }

/-- Shared and bulk data without the latest stores of other pairs in cycle t: those at the head of a journal (R124). -/
def undoCycle (p t : Nat) (m : List Host.Cell) : List JEntry → List Host.Cell
  | [] => m
  | j :: js => if j.cyc == t && j.pair != p then undoCycle p t (if j.loc.isNone then memWrite m j.addr 4 j.old else m) js else m

/-- Shared and bulk data as a load of context c sees them: a store that another pair makes in the same cycle is visible from the
next cycle on (R72, R124). -/
def State.seenData (s : State) (c : Nat) : List Host.Cell := undoCycle (s.ctx c).pair (s.cycleOf c) s.data s.seq.journal

/-! ### Flags of a cycle (R82, R132, R133) -/

/-- The SIG that set flag f in the cycle of context c. -/
def State.sigOf (s : State) (c f : Nat) : Option SigRec := s.seq.sigs.find? (fun r => r.flag == f && r.cyc == s.cycleOf c)

/-- Flag f as a WAIT or WAITE of context c samples it, at the start of its cycle (R132). -/
def State.sampled (s : State) (c f : Nat) : Bool := match s.sigOf c f with | some r => r.old | none => s.flag f

/-- A SIG of context c sets flag f: what its cycle began with is kept (R80, R132). -/
def State.sigFlag (s : State) (c f : Nat) : State :=
  let t := s.cycleOf c
  let r : List SigRec := if (s.sigOf c f).isSome then [] else [⟨f, t, s.flag f⟩]
  ({ s with seq := { s.seq with sigs := s.seq.sigs.filter (fun (r : SigRec) => r.cyc == t) ++ r } }).raiseFlag f

/-- Context c consumes flag f that it has sampled: of a consume and a set in one cycle the set comes last (R82), and no second
context of the cycle consumes the flag (R133). -/
def State.consumeFlag (s : State) (c f : Nat) : State :=
  if (s.sigOf c f).isSome then
    { s with seq := { s.seq with sigs := s.seq.sigs.map (fun r => if r.flag == f && r.cyc == s.cycleOf c then { r with old := false } else r) } }
  else s.putFlag f false

/-- Context c, as x, blocks on flag f; where a SIG of the same cycle has set the flag, it wakes at once (R81, R132). -/
def State.blockOn (s : State) (c : Nat) (x : Ctx) (f : Nat) (consume timed : Bool) : State :=
  if (s.sigOf c f).isSome && s.flag f then
    (if consume then s.putFlag f false else s).endActivation c { x with cy := if timed then false else x.cy } .ready
  else s.endActivation c { x with waitFlag := f, waitConsume := consume, waitTimed := timed, expired := false } .waiting

end Sys2Proof.Machine
end

