-- ==== Sys2Proof/Machine/Arith.lean ====
section
/-! DEFINITION. The register-only Yartum instructions: arithmetic and logic, packed bytes, immediates and MFS
(Tables 4-4 to 4-7). -/

namespace Sys2Proof.Machine

/-- ADD (Table 4-4). -/
def execAdd (c : Nat) (d a b : Fin 16) (s : State) : Host.Outcome State Fault Refusal :=
  .next (s.stepReg c (.add c d a b) 1 (fun x => opAdd x d (x.reg a) (x.reg b) false))

/-- ADC (Table 4-4). -/
def execAdc (c : Nat) (d a b : Fin 16) (s : State) : Host.Outcome State Fault Refusal :=
  .next (s.stepReg c (.adc c d a b) 1 (fun x => opAdd x d (x.reg a) (x.reg b) x.cy))

/-- SUB (Table 4-4). -/
def execSub (c : Nat) (d a b : Fin 16) (s : State) : Host.Outcome State Fault Refusal :=
  .next (s.stepReg c (.sub c d a b) 1 (fun x => opSub x d (x.reg a) (x.reg b) false))

/-- SBC (Table 4-4). -/
def execSbc (c : Nat) (d a b : Fin 16) (s : State) : Host.Outcome State Fault Refusal :=
  .next (s.stepReg c (.sbc c d a b) 1 (fun x => opSub x d (x.reg a) (x.reg b) x.cy))

/-- AND (Table 4-4). -/
def execAndR (c : Nat) (d a b : Fin 16) (s : State) : Host.Outcome State Fault Refusal :=
  .next (s.stepReg c (.andR c d a b) 1 (fun x => putNZ x d (x.reg a &&& x.reg b)))

/-- OR (Table 4-4). -/
def execOrR (c : Nat) (d a b : Fin 16) (s : State) : Host.Outcome State Fault Refusal :=
  .next (s.stepReg c (.orR c d a b) 1 (fun x => putNZ x d (x.reg a ||| x.reg b)))

/-- XOR (Table 4-4). -/
def execXorR (c : Nat) (d a b : Fin 16) (s : State) : Host.Outcome State Fault Refusal :=
  .next (s.stepReg c (.xorR c d a b) 1 (fun x => putNZ x d (x.reg a ^^^ x.reg b)))

/-- BIC (Table 4-4). -/
def execBic (c : Nat) (d a b : Fin 16) (s : State) : Host.Outcome State Fault Refusal :=
  .next (s.stepReg c (.bic c d a b) 1 (fun x => putNZ x d (x.reg a &&& ~~~(x.reg b))))

/-- SHL (Table 4-4). -/
def execShl (c : Nat) (d a b : Fin 16) (s : State) : Host.Outcome State Fault Refusal :=
  .next (s.stepReg c (.shl c d a b) 1 (fun x => opShl x d (x.reg a) (amtOf (x.reg b))))

/-- SHR (Table 4-4). -/
def execShr (c : Nat) (d a b : Fin 16) (s : State) : Host.Outcome State Fault Refusal :=
  .next (s.stepReg c (.shr c d a b) 1 (fun x => opShr x d (x.reg a) (amtOf (x.reg b))))

/-- SAR (Table 4-4). -/
def execSar (c : Nat) (d a b : Fin 16) (s : State) : Host.Outcome State Fault Refusal :=
  .next (s.stepReg c (.sar c d a b) 1 (fun x => opSar x d (x.reg a) (amtOf (x.reg b))))

/-- ROR (Table 4-4). -/
def execRor (c : Nat) (d a b : Fin 16) (s : State) : Host.Outcome State Fault Refusal :=
  .next (s.stepReg c (.ror c d a b) 1 (fun x => opRor x d (x.reg a) (amtOf (x.reg b))))

/-- MUL (Table 4-4). -/
def execMul (c : Nat) (d a b : Fin 16) (s : State) : Host.Outcome State Fault Refusal :=
  .next (s.stepReg c (.mul c d a b) 2 (fun x => opMul x d (x.reg a) (x.reg b)))

/-- MULH (Table 4-4). -/
def execMulh (c : Nat) (d a b : Fin 16) (s : State) : Host.Outcome State Fault Refusal :=
  .next (s.stepReg c (.mulh c d a b) 2 (fun x => opMulh x d (x.reg a) (x.reg b)))

/-- MULHU (Table 4-4). -/
def execMulhu (c : Nat) (d a b : Fin 16) (s : State) : Host.Outcome State Fault Refusal :=
  .next (s.stepReg c (.mulhu c d a b) 2 (fun x => opMulhu x d (x.reg a) (x.reg b)))

/-- DIVU (Table 4-4). -/
def execDivu (c : Nat) (d a b : Fin 16) (s : State) : Host.Outcome State Fault Refusal :=
  .next (s.stepReg c (.divu c d a b) 12 (fun x => opDivu x d (x.reg a) (x.reg b)))

/-- DIVS (Table 4-4). -/
def execDivs (c : Nat) (d a b : Fin 16) (s : State) : Host.Outcome State Fault Refusal :=
  .next (s.stepReg c (.divs c d a b) 12 (fun x => opDivs x d (x.reg a) (x.reg b)))

/-- MINS (Table 4-4). -/
def execMinS (c : Nat) (d a b : Fin 16) (s : State) : Host.Outcome State Fault Refusal :=
  .next (s.stepReg c (.minS c d a b) 1 (fun x => opMin x d (x.reg a) (x.reg b)))

/-- MAXS (Table 4-4). -/
def execMaxS (c : Nat) (d a b : Fin 16) (s : State) : Host.Outcome State Fault Refusal :=
  .next (s.stepReg c (.maxS c d a b) 1 (fun x => opMax x d (x.reg a) (x.reg b)))

/-- MINU (Table 4-4). -/
def execMinu (c : Nat) (d a b : Fin 16) (s : State) : Host.Outcome State Fault Refusal :=
  .next (s.stepReg c (.minu c d a b) 1 (fun x => opMinu x d (x.reg a) (x.reg b)))

/-- MAXU (Table 4-4). -/
def execMaxu (c : Nat) (d a b : Fin 16) (s : State) : Host.Outcome State Fault Refusal :=
  .next (s.stepReg c (.maxu c d a b) 1 (fun x => opMaxu x d (x.reg a) (x.reg b)))

/-- ADDS (Table 4-4). -/
def execAdds (c : Nat) (d a b : Fin 16) (s : State) : Host.Outcome State Fault Refusal :=
  .next (s.stepReg c (.adds c d a b) 1 (fun x => opSatS x d ((x.reg a).toInt + (x.reg b).toInt)))

/-- SUBS (Table 4-4). -/
def execSubs (c : Nat) (d a b : Fin 16) (s : State) : Host.Outcome State Fault Refusal :=
  .next (s.stepReg c (.subs c d a b) 1 (fun x => opSatS x d ((x.reg a).toInt - (x.reg b).toInt)))

/-- ADDSU (Table 4-4). -/
def execAddsu (c : Nat) (d a b : Fin 16) (s : State) : Host.Outcome State Fault Refusal :=
  .next (s.stepReg c (.addsu c d a b) 1 (fun x => opSatU x d ((x.reg a).toNat + (x.reg b).toNat : Nat)))

/-- SUBSU (Table 4-4). -/
def execSubsu (c : Nat) (d a b : Fin 16) (s : State) : Host.Outcome State Fault Refusal :=
  .next (s.stepReg c (.subsu c d a b) 1 (fun x => opSatU x d (((x.reg a).toNat : Int) - ((x.reg b).toNat : Int))))

/-- NEG (Table 4-4). -/
def execNeg (c : Nat) (d a : Fin 16) (s : State) : Host.Outcome State Fault Refusal :=
  .next (s.stepReg c (.neg c d a) 1 (fun x => opSub x d 0 (x.reg a) false))

/-- CMP (Table 4-4). -/
def execCmp (c : Nat) (a b : Fin 16) (s : State) : Host.Outcome State Fault Refusal :=
  .next (s.stepReg c (.cmp c a b) 1 (fun x => opCmp x (x.reg a) (x.reg b)))

/-- TST (Table 4-4). -/
def execTst (c : Nat) (a b : Fin 16) (s : State) : Host.Outcome State Fault Refusal :=
  .next (s.stepReg c (.tst c a b) 1 (fun x => opTst x (x.reg a) (x.reg b)))

/-- ABS (Table 4-4). -/
def execAbsR (c : Nat) (d a : Fin 16) (s : State) : Host.Outcome State Fault Refusal :=
  .next (s.stepReg c (.absR c d a) 1 (fun x => opAbs x d (x.reg a)))

/-- CLZ (Table 4-4). -/
def execClz (c : Nat) (d a : Fin 16) (s : State) : Host.Outcome State Fault Refusal :=
  .next (s.stepReg c (.clz c d a) 1 (fun x => putNZ x d (BitVec.ofNat 32 (clz (x.reg a)))))

/-- PADDB (Table 4-5). -/
def execPaddB (c : Nat) (d a b : Fin 16) (s : State) : Host.Outcome State Fault Refusal :=
  .next (s.stepReg c (.paddB c d a b) 1 (fun x => opPacked x d (x.reg a) (x.reg b) (fun i j => (i + j) % 256)))

/-- PSUBB (Table 4-5). -/
def execPsubB (c : Nat) (d a b : Fin 16) (s : State) : Host.Outcome State Fault Refusal :=
  .next (s.stepReg c (.psubB c d a b) 1 (fun x => opPacked x d (x.reg a) (x.reg b) (fun i j => (i + 256 - j) % 256)))

/-- PADDUSB (Table 4-5). -/
def execPaddusB (c : Nat) (d a b : Fin 16) (s : State) : Host.Outcome State Fault Refusal :=
  .next (s.stepReg c (.paddusB c d a b) 1 (fun x => opPackedSat x d (x.reg a) (x.reg b) 0 255 (fun i j => (i : Int) + j)))

/-- PSUBUSB (Table 4-5). -/
def execPsubusB (c : Nat) (d a b : Fin 16) (s : State) : Host.Outcome State Fault Refusal :=
  .next (s.stepReg c (.psubusB c d a b) 1 (fun x => opPackedSat x d (x.reg a) (x.reg b) 0 255 (fun i j => (i : Int) - j)))

/-- PADDSB (Table 4-5). -/
def execPaddsB (c : Nat) (d a b : Fin 16) (s : State) : Host.Outcome State Fault Refusal :=
  .next (s.stepReg c (.paddsB c d a b) 1 (fun x => opPackedSat x d (x.reg a) (x.reg b) (-128) 127 (fun i j => signed 8 i + signed 8 j)))

/-- PSUBSB (Table 4-5). -/
def execPsubsB (c : Nat) (d a b : Fin 16) (s : State) : Host.Outcome State Fault Refusal :=
  .next (s.stepReg c (.psubsB c d a b) 1 (fun x => opPackedSat x d (x.reg a) (x.reg b) (-128) 127 (fun i j => signed 8 i - signed 8 j)))

/-- PMAXUB (Table 4-5). -/
def execPmaxuB (c : Nat) (d a b : Fin 16) (s : State) : Host.Outcome State Fault Refusal :=
  .next (s.stepReg c (.pmaxuB c d a b) 1 (fun x => opPacked x d (x.reg a) (x.reg b) (fun i j => max i j)))

/-- PMINUB (Table 4-5). -/
def execPminuB (c : Nat) (d a b : Fin 16) (s : State) : Host.Outcome State Fault Refusal :=
  .next (s.stepReg c (.pminuB c d a b) 1 (fun x => opPacked x d (x.reg a) (x.reg b) (fun i j => min i j)))

/-- PAVGUB (Table 4-5). -/
def execPavguB (c : Nat) (d a b : Fin 16) (s : State) : Host.Outcome State Fault Refusal :=
  .next (s.stepReg c (.pavguB c d a b) 1 (fun x => opPacked x d (x.reg a) (x.reg b) (fun i j => (i + j + 1) / 2)))

/-- PSADB (Table 4-5). -/
def execPsadB (c : Nat) (d a b : Fin 16) (s : State) : Host.Outcome State Fault Refusal :=
  .next (s.stepReg c (.psadB c d a b) 2 (fun x => putNZ x d (BitVec.ofNat 32 (sadLanes (x.reg a) (x.reg b)))))

/-- PCMPEQB (Table 4-5). -/
def execPcmpeqB (c : Nat) (d a b : Fin 16) (s : State) : Host.Outcome State Fault Refusal :=
  .next (s.stepReg c (.pcmpeqB c d a b) 1 (fun x => opPacked x d (x.reg a) (x.reg b) (fun i j => if i = j then 255 else 0)))

/-- PCMPGTUB (Table 4-5). -/
def execPcmpgtuB (c : Nat) (d a b : Fin 16) (s : State) : Host.Outcome State Fault Refusal :=
  .next (s.stepReg c (.pcmpgtuB c d a b) 1 (fun x => opPacked x d (x.reg a) (x.reg b) (fun i j => if j < i then 255 else 0)))

/-- PSHUFB (Table 4-5). -/
def execPshufB (c : Nat) (d a b : Fin 16) (s : State) : Host.Outcome State Fault Refusal :=
  .next (s.stepReg c (.pshufB c d a b) 1 (fun x => putNZ x d (shufLanes (x.reg a) (x.reg b))))

/-- ADDI (Table 4-6). -/
def execAddi (c : Nat) (d a : Fin 16) (imm : Nat) (s : State) : Host.Outcome State Fault Refusal :=
  .next (s.stepReg c (.addi c d a imm) 1 (fun x => opAdd x d (x.reg a) (sext 16 imm) false))

/-- CMPI (Table 4-6). -/
def execCmpi (c : Nat) (a : Fin 16) (imm : Nat) (s : State) : Host.Outcome State Fault Refusal :=
  .next (s.stepReg c (.cmpi c a imm) 1 (fun x => opCmp x (x.reg a) (sext 16 imm)))

/-- ANDI (Table 4-6). -/
def execAndi (c : Nat) (d a : Fin 16) (imm : Nat) (s : State) : Host.Outcome State Fault Refusal :=
  .next (s.stepReg c (.andi c d a imm) 1 (fun x => putNZ x d (x.reg a &&& BitVec.ofNat 32 (imm % 65536))))

/-- ORI (Table 4-6). -/
def execOri (c : Nat) (d a : Fin 16) (imm : Nat) (s : State) : Host.Outcome State Fault Refusal :=
  .next (s.stepReg c (.ori c d a imm) 1 (fun x => putNZ x d (x.reg a ||| BitVec.ofNat 32 (imm % 65536))))

/-- XORI (Table 4-6). -/
def execXori (c : Nat) (d a : Fin 16) (imm : Nat) (s : State) : Host.Outcome State Fault Refusal :=
  .next (s.stepReg c (.xori c d a imm) 1 (fun x => putNZ x d (x.reg a ^^^ BitVec.ofNat 32 (imm % 65536))))

/-- SHLI (Table 4-6). -/
def execShli (c : Nat) (d a : Fin 16) (amt : Nat) (s : State) : Host.Outcome State Fault Refusal :=
  .next (s.stepReg c (.shli c d a amt) 1 (fun x => opShl x d (x.reg a) (amt % 32)))

/-- SHRI (Table 4-6). -/
def execShri (c : Nat) (d a : Fin 16) (amt : Nat) (s : State) : Host.Outcome State Fault Refusal :=
  .next (s.stepReg c (.shri c d a amt) 1 (fun x => opShr x d (x.reg a) (amt % 32)))

/-- SARI (Table 4-6). -/
def execSari (c : Nat) (d a : Fin 16) (amt : Nat) (s : State) : Host.Outcome State Fault Refusal :=
  .next (s.stepReg c (.sari c d a amt) 1 (fun x => opSar x d (x.reg a) (amt % 32)))

/-- RORI (Table 4-6). -/
def execRori (c : Nat) (d a : Fin 16) (amt : Nat) (s : State) : Host.Outcome State Fault Refusal :=
  .next (s.stepReg c (.rori c d a amt) 1 (fun x => opRor x d (x.reg a) (amt % 32)))

/-- MOVI (Table 4-6). -/
def execMovi (c : Nat) (d : Fin 16) (imm : Nat) (s : State) : Host.Outcome State Fault Refusal :=
  .next (s.stepReg c (.movi c d imm) 1 (fun x => x.setReg d (sext 16 imm)))

/-- MOVHI (Table 4-6). -/
def execMovhi (c : Nat) (d : Fin 16) (imm : Nat) (s : State) : Host.Outcome State Fault Refusal :=
  .next (s.stepReg c (.movhi c d imm) 1 (fun x => x.setReg d (BitVec.ofNat 32 (imm % 65536 * 65536 + (x.reg d).toNat % 65536))))

/-- MFS TICKLO: now, and the upper count into the tick-high shadow (Table 4-7). -/
def execMfsTicklo (c : Nat) (d : Fin 16) (s : State) : Host.Outcome State Fault Refusal :=
  .next (s.stepReg c (.mfsTicklo c d) 1 (fun x => { x.setReg d (BitVec.ofNat 32 s.now32) with tickHi := s.tick / 2 ^ 32 % 65536 }))

/-- MFS TICKHI (Table 4-7). -/
def execMfsTickhi (c : Nat) (d : Fin 16) (s : State) : Host.Outcome State Fault Refusal :=
  .next (s.stepReg c (.mfsTickhi c d) 1 (fun x => x.setReg d (BitVec.ofNat 32 x.tickHi)))

/-- MFS CTX (Table 4-7). -/
def execMfsCtx (c : Nat) (d : Fin 16) (s : State) : Host.Outcome State Fault Refusal :=
  .next (s.stepReg c (.mfsCtx c d) 1 (fun x => x.setReg d (BitVec.ofNat 32 c)))

/-- MFS BUDGET: the counter before this instruction (Table 4-7). -/
def execMfsBudget (c : Nat) (d : Fin 16) (s : State) : Host.Outcome State Fault Refusal :=
  .next (s.stepReg c (.mfsBudget c d) 1 (fun x => x.setReg d (BitVec.ofNat 32 x.budget)))

/-- MFS LPAIR (Table 4-7). -/
def execMfsLpair (c : Nat) (d : Fin 16) (s : State) : Host.Outcome State Fault Refusal :=
  .next (s.stepReg c (.mfsLpair c d) 1 (fun x => x.setReg d (BitVec.ofNat 32 x.pair)))

/-- MFS ACTS (Table 4-7). -/
def execMfsActs (c : Nat) (d : Fin 16) (s : State) : Host.Outcome State Fault Refusal :=
  .next (s.stepReg c (.mfsActs c d) 1 (fun x => x.setReg d (BitVec.ofNat 32 x.acts)))

/-- MFS PHASE: the phase in which it executes, which the model knows only to lie before the next phase event
(Table 4-7). -/
def execMfsPhase (c : Nat) (d : Fin 16) (s : State) : Host.Outcome State Fault Refusal :=
  .next (if s.executes c (.mfsPhase c d) then (s.stepReg c (.mfsPhase c d) 1 (fun x => x.setReg d (BitVec.ofNat 32 s.livePhase))).nextFree else s)

end Sys2Proof.Machine
end

