-- ==== Sys2Proof/Machine/Page.lean ====
section
/-! DEFINITION. Pages: granules and the bytes of DRAM, envelopes and their states, completion records, and what ends a
page (R23, R52 to R54, R167 to R169, R176, R177, R196, R216). -/

namespace Sys2Proof.Machine

/-! ### DRAM granules -/

/-- Key of a byte of DRAM: channel c, usable address a. [DESIGN CHOICE, log entry 98] -/
def dramKey (c a : Nat) : Nat := c * 2 ^ 33 + a

/-- The state with bytes stored in DRAM. -/
def State.dramPut (s : State) (c a : Nat) (bs : List Nat) : State :=
  { s with dram := memPutBytes s.dram (dramKey c a) bs }

/-- n bytes of DRAM. -/
def State.dramGet (s : State) (c a n : Nat) : List Nat := memBytes s.dram (dramKey c a) n

/-- Usable granules of a channel: 7/8 of ranks × GiB per rank, in 64 KiB granules (R52, Table 16-1). -/
def State.dramCap (s : State) (c : Nat) : Nat :=
  if s.variant.drch ≤ c then 0 else s.fget F.DRC_C_STAT_RANKS c * s.fget F.DRC_C_STAT_DENS c * 14336

/-- Granules of the encoders' rings on a channel (R203). -/
def State.ringGrans (s : State) (c : Nat) : List Nat :=
  s.cdc.enc.flatMap (fun x => x.rings.flatMap (fun r => if r.chan = c then (List.range r.count).map (r.gran + ·) else []))

/-- Granules of a channel that blocks and rings hold. -/
def State.usedGrans (s : State) (c : Nat) : List Nat :=
  (s.fmt.env.map (fun e => match e with
    | some e => (e.blks.map (fun b => if b.chan = some c then b.grans else [])).flatten
    | none => [])).flatten ++ s.ringGrans c

/-- First granule outside the retained region: PLC_RETAIN on channel 0 (R54). -/
def State.granLo (s : State) (c : Nat) : Nat := if c = 0 then s.fget F.PLC_RETAIN_GRAN else 0

/-- Free granules of a channel. -/
def State.freeCount (s : State) (c : Nat) : Nat := s.dramCap c - s.granLo c - (s.usedGrans c).length

/-- The n lowest free granules of a channel, if it has as many. [DESIGN CHOICE, log entry 132] -/
def State.freeGrans (s : State) (c n : Nat) : Option (List Nat) :=
  let used := s.usedGrans c
  if s.freeCount c < n then none
  else some ((((List.range (used.length + n)).map (s.granLo c + ·)).filter (fun g => !used.contains g)).take n)

/-- The lowest start of n contiguous free granules of a channel (R203). -/
def State.freeRun (s : State) (c n : Nat) : Option Nat :=
  let used := s.usedGrans c
  let ok (a : Nat) : Bool := a + n ≤ s.dramCap c && used.all (fun g => g < a || a + n ≤ g)
  (((s.granLo c :: used.map (· + 1)).filter (fun a => s.granLo c ≤ a && ok a)).foldl
    (fun m a => some (match m with | none => a | some b => min a b)) none)

/-- Channel and granules for block k of station stn of a length: the channel (s + k) mod C, else the next channels in
ascending order (R52). -/
def State.placeBlock (s : State) (stn k len : Nat) : Option (Nat × List Nat) :=
  let n := (len + 65535) / 65536
  let c := s.variant.drch
  (List.range c).findSome? (fun i =>
    let ch := (stn + k + i) % c
    (s.freeGrans ch n).map (fun g => (ch, g)))

/-- Usable address of byte p of a block. -/
def Blk.addr (b : Blk) (p : Nat) : Nat := nth b.grans (p / 65536) 0 * 65536 + p % 65536

/-- The stored bytes of a block, piece by piece of a granule. -/
def State.blkBytes (s : State) (b : Blk) : List Nat :=
  match b.chan with
  | none => []
  | some c => ((List.range b.grans.length).map (fun i =>
      s.dramGet c (nth b.grans i 0 * 65536) (min 65536 (b.len - 65536 * i)))).flatten

/-! ### Envelopes -/

/-- The state with the slot of a handle holding e. -/
def State.putEnv (s : State) (slot : Nat) (e : Option Env) : State := { s with fmt := { s.fmt with env := s.fmt.env.set slot e } }

/-- The state with the envelope of a handle changed. -/
def State.modEnv (s : State) (h : Nat) (f : Env → Env) : State :=
  match s.envOf h with
  | some e => s.putEnv (h % 64) (some (f e))
  | none => s

/-- State of the page of a handle. -/
def State.pageState (s : State) (h : Nat) : Option PageState := (s.envOf h).map (·.state)

/-- A page is ADMITTED or IMAGING. -/
def State.pageBusy (s : State) : Bool :=
  s.fmt.env.any (fun e => match e with | some e => e.state == .admitted || e.state == .imaging | none => false)

/-- A page is IMAGING. -/
def State.anyImaging (s : State) : Bool := s.imagingHandle != 0

/-- The ADMITTED page, or 0. -/
def State.admittedHandle (s : State) : Nat :=
  (s.fmt.env.findSome? (fun e => match e with
    | some e => if e.state == .admitted then some e.handle else none
    | none => none)).getD 0

/-- Station stn belongs to an envelope's mask. -/
def Env.has (e : Env) (stn : Nat) : Bool := e.stnmask.testBit stn

/-- Station stn is imaging: a page IMAGING has it in its mask. -/
def State.stnImaging (s : State) (stn : Nat) : Bool :=
  match s.envOf s.imagingHandle with
  | some e => e.state == .imaging && e.has stn
  | none => false

/-- Blocks of a station (R163). -/
def Env.nblk (e : Env) : Nat := (e.lines + e.blklines - 1) / max e.blklines 1

/-- Lines of block k of a station (R165). -/
def Env.blkLines (e : Env) (k : Nat) : Nat := min e.blklines (e.lines - k * e.blklines)

/-- The station (i) of the state. -/
def State.stn (s : State) (i : Nat) : Stn := nth s.img.stn i Stn.blank

/-- The state with station i replaced. -/
def State.setStn (s : State) (i : Nat) (x : Stn) : State := { s with img := { s.img with stn := s.img.stn.set i x } }

/-- The state with every station changed by f of its number. -/
def State.mapStn (s : State) (f : Nat → Stn → Stn) : State :=
  { s with img := { s.img with stn := s.img.stn.zipIdx.map (fun xi => f xi.2 xi.1) } }

/-- PLC_LANEMAP entry of physical lane l. -/
def State.laneMap (s : State) (l : Nat) : Nat := bits (s.rget R.PLC_LANEMAP) (4 * l + 3) (4 * l)

/-- The pigeonholes of a page released. The claim point moves back to the first of them only where no line claimed later is left
(R216). -/
def Stn.dropPage (x : Stn) (h : Nat) : Stn :=
  let keep := x.holes.filter (fun p => p.handle != h)
  let gone := x.holes.reverse.takeWhile (fun p => p.handle == h)
  { x with holes := keep, holeNo := match gone.getLast? with | some p => p.no | none => x.holeNo }

/-- A page leaves the codec and the band store: its lanes stop, its re-decodes are dropped, its pigeonholes released and
its progress forgotten. The lane that re-decoded it is the spare again, or serves its station (R196, R216). -/
def State.releasePage (s : State) (h : Nat) : State :=
  let s := s.mapStn (fun _ x => { x.dropPage h with page := if x.page = h then 0 else x.page })
  let stop (xl : DecLane × Nat) : DecLane :=
    let m := s.laneMap xl.2
    if xl.1.handle ≠ h || 4 < xl.1.st then xl.1 else if m = 14 then DecLane.idle 14 0 else DecLane.idle 0 m
  let q := s.cdc.redq.filter (fun r => r.handle != h)
  let r := match s.cdc.redec with | some r => if r.handle = h then none else some r | none => none
  { s with cdc := { s.cdc with
      lanes := s.cdc.lanes.zipIdx.map stop, redq := q, redec := r, sub := if q.isEmpty && r.isNone then none else s.cdc.sub
      next := s.cdc.next.filter (fun n => n.1 != h) } }

/-- A page's granules are freed. -/
def Env.freeBlks (e : Env) : Env := { e with blks := e.blks.map (fun b => { b with chan := none, grans := [] }) }

/-- A completion record, with vector 2 and flag 769 (R177). -/
def State.addDone (s : State) (d : Completion) : State :=
  ({ s with fmt := { s.fmt with done := s.fmt.done ++ [d] } }.raise 2).setFlag 769

/-- A page reaches a final state or is cancelled: granules freed, pigeonholes released, a completion record added
(R177, R216). -/
def State.endPage (s : State) (h : Nat) (st : PageState) (late : Bool) (cause : Nat) : State :=
  match s.envOf h with
  | none => s
  | some e =>
    let lines := min 65535 (e.dropped + e.blank)
    let s := s.modEnv h (fun e => { e.freeBlks with state := st })
    let s := { s with fmt := { s.fmt with queue := s.fmt.queue.filter (· != h) } }
    let s := if st ≠ .cancelled then { s with sec := { s.sec with pageEnded := true } } else s
    let s := if s.rget R.CAL_HANDLE = h then { s with cal := { s.cal with ended := some (st == .done) } } else s
    (s.releasePage h).addDone { handle := h, state := st.code, late := late, cause := cause, lines := lines }

/-- The time of the last phase event, in sixteenths of a tick-PLL cycle since the lock. [DESIGN CHOICE, log entry 14] -/
def State.time16 (s : State) : Nat := (s.elapsed * 8000 + s.phase * 500) * 16

/-- Sub-slots of station i in a time: 8 per pixel clock of 25 MHz × FREQ / 2^28 (R237, R272). -/
def State.subSlots (s : State) (i dt : Nat) : Nat := dt * s.fget F.CLK_S_PFREQ_FREQ i / 2 ^ 33

/-- The grid pixels at which zone z takes its phase steps for LIN[z] = l (R287). -/
def zoneSteps (z : Nat) (l : Int) : List Nat := (List.range l.natAbs).map (fun k => 512 * z + 2 + (2 * k + 1) * 254 / l.natAbs)

/-- Phase that the linearity zones of station i have added before sub-slot p of the grid, in 1/2048 pixel: each of the 8 sub-slots of
a stepped period takes one part of its step; positive lengthens (R285, R287, R288). -/
def State.zonePhase (s : State) (i p : Nat) : Int :=
  (List.range (min 64 (p / 4096 + 1))).foldl (fun acc z =>
    let l := s.fsigned F.SCN_S_LIN_ACT i z
    let n : Nat := ((zoneSteps z l).map (fun g => min 8 (p - 8 * g))).foldl (· + ·) 0
    if 0 ≤ l then acc + n else acc - n) 0

/-- Sub-slots from the edge to SOL of station i's facet (R277, R286). -/
def State.solAt (s : State) (i : Nat) : Nat := s.fget F.SCN_S_SOLDLY_SOLDLY i + (s.stn i).facet.late

/-- The last sub-slot that begins by q, in 1/2048 pixel after SOL: sub-slot p begins 256 p and the phase of the zones after SOL. -/
def State.subAt (s : State) (i q : Nat) : Nat :=
  let p := ((Int.ofNat q - s.zonePhase i (q / 256)) / 256).toNat
  (([p + 2, p + 1, p, p - 1] : List Nat).find? (fun k : Nat => decide (256 * (k : Int) + s.zonePhase i k ≤ (q : Int)))).getD (p - 2)

/-- Place of a time in station i's facet, in sub-slots from SOL (R240, R286 to R288). [DEDUCED, log entry 62] -/
def State.subPos (s : State) (i t : Nat) : Nat :=
  match (s.stn i).lastEdge with
  | some e => s.subAt i ((t - e) * s.fget F.CLK_S_PFREQ_FREQ i / 2 ^ 25 - 256 * s.solAt i)
  | none => 0

/-- Station i is dark from a time on for the rest of the facet, and so is the light of an open beam-detect window. -/
def State.darkFrom (s : State) (i t : Nat) : State :=
  let x := s.stn i
  let p := s.subPos i t
  s.setStn i { x with
    facet := { x.facet with cut := some (match x.facet.cut with | some c => min c p | none => p) }
    bdLight := x.bdLight.map (fun b => { b with stop := b.stop.or (some t) }) }

/-- Laser enables off: LDEN of every station clears, and with it LD_EN and the settling interval; the beams go dark (R23,
R268). -/
def State.clearLden (s : State) : State :=
  (List.range 6).foldl (fun s i =>
    (((s.fset F.EXP_S_CTRL_LDEN 0 i).fset F.EXP_S_STAT_LDOUT 0 i).fset F.EXP_S_STAT_SETTLE 0 i).darkFrom i s.time16) s

/-- Abandonment of the page IMAGING for a cause: laser enables off, the page ABANDONED, the cause recorded and kept
in Basecamp with the handle, vector 3 (R23, R150, R268, R613); without a page IMAGING nothing happens. -/
def State.abandon (s : State) (cause : Nat) : State :=
  let h := s.imagingHandle
  if h = 0 then s
  else
    let s := (s.clearLden.endPage h .abandoned false cause).raise 3
    let s := ((s.fset F.SYS_BCCAUSE_CODE cause).rset R.SYS_BCHDL h).finc F.SYS_ABNCNT_COUNT 1
    { s with fmt := { s.fmt with lastEnd := some (s.elapsed * 128000), lastAbn := some (h, s.elapsed, cause) } }.recRule 23 [cause]

/-- An interlock or ESTOP_N trip abandons with cause 5, and takes precedence over a cause 8 of the same tick (R268).
[DEDUCED, log entry 155] -/
def State.abandonIlk (s : State) : State :=
  if s.imagingHandle ≠ 0 then s.abandon 5
  else match s.fmt.lastAbn with
    | some (h, t, 8) =>
      if t ≠ s.elapsed then s
      else
        let s := if s.rget R.SYS_BCHDL = h then s.fset F.SYS_BCCAUSE_CODE 5 else s
        { s with fmt := { s.fmt with
            lastAbn := some (h, t, 5)
            done := s.fmt.done.map (fun d => if d.handle = h && d.state = 8 then { d with cause := 5 } else d) } }
    | _ => s

/-- The completion point of the page IMAGING, at time t: DEFECT with blank lines, else DEGRADED with dropped ones, else DONE; LATE
when an ABANDON was waiting that had arrived before it (R168, R169, R172). [DEDUCED, log entry 55] -/
def State.completePage (s : State) (h t : Nat) : State :=
  match s.envOf h with
  | none => s
  | some e =>
    let st : PageState := if 0 < e.blank then .defect else if 0 < e.dropped then .degraded else .done
    let late := s.fmt.cmds.any (fun k => k.handle == h && k.abandon && decide (k.time < t))
    let s := s.endPage h st late 0
    { s with fmt := { s.fmt with lastEnd := some t } }

end Sys2Proof.Machine
end

