-- ==== Sys2Proof/Machine/Vrc.lean ====
section
/-! DEFINITION. The Vytar raster code: predictors, contexts, Golomb-Rice parameters, the decoder of a block with its
checks, and the encoder (R180 to R192, R195). Bodies are lists of bits, most significant bit of each byte first (R183). -/

namespace Sys2Proof.Machine

/-- The prediction of R184 from the neighbours a, b and c. -/
def predict (pred a b c : Nat) : Nat :=
  match pred with
  | 0 => if max a b ≤ c then min a b else if c ≤ min a b then max a b else a + b - c
  | 1 => a
  | 2 => b
  | _ => (a + b) / 2

/-- Distance of two pixel values. -/
def dist (p q : Nat) : Nat := (p - q) + (q - p)

/-- Activity class of Table 6-3. -/
def activity (n : Nat) : Nat :=
  if n = 0 then 0 else if n ≤ 2 then 1 else if n ≤ 6 then 2 else if n ≤ 14 then 3 else if n ≤ 30 then 4
  else if n ≤ 62 then 5 else if n ≤ 126 then 6 else 7

/-- Context of a regular-mode pixel (R185). -/
def vrcContext (a b c d : Nat) : Nat :=
  8 * activity (dist d b + dist b c + dist c a) + 4 * bit (b < d) + 2 * bit (c < b) + bit (a < c)

/-- The adaptive parameters: A and N of the 64 contexts, and kr (R187). -/
structure Rice where
  sumA : List Nat
  cntN : List Nat
  kr   : Nat
  deriving DecidableEq, Repr

/-- The parameters at the start of a block (Table 6-4). -/
def Rice.start : Rice := { sumA := List.replicate 64 4, cntN := List.replicate 64 1, kr := 3 }

/-- k of a context: the smallest from 0 to 7 with N × 2^k ≥ A, else 7. -/
def Rice.k (g : Rice) (ctx : Nat) : Nat :=
  (findBelow 8 (fun k => decide (nth g.sumA ctx 4 ≤ nth g.cntN ctx 1 * 2 ^ k))).getD 7

/-- Update of a context after a regular-mode pixel of mapped residue m. -/
def Rice.update (g : Rice) (ctx m : Nat) : Rice :=
  let a := nth g.sumA ctx 4 + m
  let n := nth g.cntN ctx 1 + 1
  if n = 64 then { g with sumA := g.sumA.set ctx (a / 2), cntN := g.cntN.set ctx 32 }
  else { g with sumA := g.sumA.set ctx a, cntN := g.cntN.set ctx n }

/-- Update of kr after a run of length r. -/
def Rice.updateRun (g : Rice) (r : Nat) : Rice :=
  if 2 * 2 ^ g.kr ≤ r then { g with kr := min (g.kr + 1) 7 }
  else if 0 < g.kr && r < 2 ^ (g.kr - 1) then { g with kr := g.kr - 1 }
  else g

/-- Mapped residue of pixel p against a prediction (R186). -/
def mapResidue (p pred : Nat) : Nat :=
  let e := (p + 256 - pred % 256) % 256
  if e < 128 then 2 * e else 2 * (256 - e) - 1

/-- The pixel of a mapped residue and a prediction (R186). -/
def unmapResidue (m pred : Nat) : Nat := if m % 2 = 0 then (pred + m / 2) % 256 else (pred + 256 - (m + 1) / 2) % 256

/-! ### Bits -/

/-- The w bits of a number, most significant first. -/
def toBits (w v : Nat) : List Bool := (List.range w).map (fun i => v.testBit (w - 1 - i))

/-- The number of a list of bits, most significant first. -/
def ofBits (l : List Bool) : Nat := l.foldl (fun n b => 2 * n + bit b) 0

/-- The bits of a list of bytes (R183). -/
def bitsOfBytes (bs : List Nat) : List Bool := bs.flatMap (toBits 8)

/-- The bytes of a list of bits, padded with zero-bits to a byte boundary; fuel bounds the bytes. -/
def bytesOfBits : Nat → List Bool → List Nat
  | 0, _ => []
  | n + 1, l => if l.isEmpty then [] else ofBits ((l ++ List.replicate 8 false).take 8) :: bytesOfBits n (l.drop 8)

/-- Leading one-bits, counted up to n, and the bits after them. -/
def leadOnes : Nat → List Bool → Nat × List Bool
  | 0, l => (0, l)
  | n + 1, true :: l => ((leadOnes n l).1 + 1, (leadOnes n l).2)
  | _ + 1, l => (0, l)

/-- A field of w bits from the front. -/
def takeField (w : Nat) (l : List Bool) : Option (Nat × List Bool) :=
  if l.length < w then none else some (ofBits (l.take w), l.drop w)

/-- A code word read: a prefix q below 24 with its low field, an escape with its field of `esc` bits; a marker, or too few
bits, is none (R188 to R192). The Bool tells an escape. -/
def readWord (low esc : Nat) (l : List Bool) : Option (Bool × Nat × List Bool) :=
  let r := leadOnes 24 l
  match r.2 with
  | [] => none
  | true :: _ => none
  | false :: l' =>
    if r.1 = 24 then (takeField esc l').map (fun x => (true, x.1, x.2))
    else (takeField low l').map (fun x => (false, r.1 * 2 ^ low + x.1, x.2))

/-- A code word written: q one-bits, a zero-bit and the low field, or the escape when q is 24 or more (R188, R189). -/
def writeWord (v low escVal esc : Nat) : List Bool :=
  if v / 2 ^ low < 24 then List.replicate (v / 2 ^ low) true ++ false :: toBits low v
  else List.replicate 24 true ++ false :: toBits esc escVal

/-- A marker of type t (R190). -/
def marker (t : Nat) : List Bool := List.replicate 25 true ++ toBits 3 t

/-! ### Lines -/

/-- Decode a line from pixel x on. `prev` is the line above from x, a and c the neighbours to the left, `left` the pixels
still to come, `acc` the pixels found, newest first (R184, R188, R189). -/
def decodeLine (pred : Nat) (runoff : Bool) : Nat → Nat → List Nat → Nat → Nat → Bool → List Nat → Rice → List Bool →
    Option (List Nat × Rice × List Bool)
  | _, 0, _, _, _, _, acc, g, bs => some (acc.reverse, g, bs)
  | 0, _ + 1, _, _, _, _, _, _, _ => none
  | fuel + 1, left + 1, prev, a, c, ends, acc, g, bs =>
    let b := prev.headD 0
    let d := (prev.drop 1).headD b
    if !runoff && !ends && a == b && b == c && c == d then
      match readWord g.kr 16 bs with
      | none => none
      | some (_, r, bs') =>
        if left + 1 < r then none
        else
          let c' := if r = 0 then c else nth prev (r - 1) 0
          decodeLine pred runoff fuel (left + 1 - r) (prev.drop r) a c' true (List.replicate r a ++ acc) (g.updateRun r) bs'
    else
      let ctx := vrcContext a b c d
      let p := predict pred a b c
      match readWord (g.k ctx) 8 bs with
      | none => none
      | some (true, v, bs') =>
        decodeLine pred runoff fuel left (prev.drop 1) v b false (v :: acc) (g.update ctx (mapResidue v p)) bs'
      | some (false, m, bs') =>
        if 255 < m then none
        else
          let v := unmapResidue m p
          decodeLine pred runoff fuel left (prev.drop 1) v b false (v :: acc) (g.update ctx m) bs'

/-- Decode n lines; `a0` and `c0` are P(−1, y) and P(−1, y − 1) of the line to come. -/
def decodeLines (pred : Nat) (runoff : Bool) (ppl : Nat) : Nat → List Nat → Nat → Nat → Rice → List Bool →
    Option (List (List Nat) × List Bool)
  | 0, _, _, _, _, bs => some ([], bs)
  | n + 1, prev, a0, c0, g, bs =>
    match decodeLine pred runoff (2 * ppl + 2) ppl prev a0 c0 false [] g bs with
    | none => none
    | some (l, g', bs') =>
      (decodeLines pred runoff ppl n l (l.headD 0) a0 g' bs').map (fun r => (l :: r.1, r.2))

/-- Length of the run of value a at the front of a line. -/
def runLength (a : Nat) : List Nat → Nat
  | [] => 0
  | p :: ps => if p = a then runLength a ps + 1 else 0

/-- The code words of a line, as an encoder writes them. -/
def encodeLine (pred : Nat) (runoff : Bool) : Nat → List Nat → List Nat → Nat → Nat → Bool → Rice → List Bool × Rice
  | 0, _, _, _, _, _, g => ([], g)
  | _ + 1, [], _, _, _, _, g => ([], g)
  | fuel + 1, p :: ps, prev, a, c, ends, g =>
    let b := prev.headD 0
    let d := (prev.drop 1).headD b
    if !runoff && !ends && a == b && b == c && c == d then
      let r := runLength a (p :: ps)
      let c' := if r = 0 then c else nth prev (r - 1) 0
      let w := writeWord r g.kr r 16
      let t := encodeLine pred runoff fuel ((p :: ps).drop r) (prev.drop r) a c' true (g.updateRun r)
      (w ++ t.1, t.2)
    else
      let ctx := vrcContext a b c d
      let m := mapResidue p (predict pred a b c)
      let w := writeWord m (g.k ctx) p 8
      let t := encodeLine pred runoff fuel ps (prev.drop 1) p b false (g.update ctx m)
      (w ++ t.1, t.2)

/-- The code words of a list of lines. -/
def encodeLines (pred : Nat) (runoff : Bool) (ppl : Nat) : List (List Nat) → List Nat → Nat → Nat → Rice → List Bool
  | [], _, _, _, _ => []
  | l :: ls, prev, a0, c0, g =>
    let r := encodeLine pred runoff (2 * ppl + 2) l prev a0 c0 false g
    r.1 ++ encodeLines pred runoff ppl ls l (l.headD 0) a0 r.2

/-! ### Blocks -/

/-- The bits of a list split into lines of n. -/
def splitLines (n : Nat) : Nat → List Nat → List (List Nat)
  | 0, _ => []
  | k + 1, l => l.take n :: splitLines n k (l.drop n)

/-- Decode and check a page block of PPL, LINES, LINE0 and SRC as its envelope gives them: the lines, or the cause 1 to 4
of Table 6-6 that fails first (R195). -/
def decodeBlock (ppl lines line0 src : Nat) (bs : List Nat) : Except Nat (List (List Nat)) :=
  let coding := leAt bs 3 1
  let mode := bits coding 1 0
  let pred := bits coding 3 2
  let runoff := coding.testBit 4
  let headOk := leAt bs 0 2 == 0x5256 && leAt bs 2 1 == 1 && bits coding 7 6 == 0 && mode != 3 &&
    (mode == 0 || (pred == 0 && !runoff)) && (mode == 2 || leAt bs 7 1 == 0) && leAt bs 4 2 == ppl &&
    leAt bs 6 1 == lines && leAt bs 8 4 == line0 && leAt bs 12 1 == src && leAt bs 13 3 == 0
  if !headOk || bs.length < 16 then .error 1
  else if bs.length < 24 then .error 2
  else
    let body := (bs.drop 16).take (bs.length - 24)
    let tr := bs.drop (bs.length - 8)
    let px : Option (List (List Nat)) :=
      match mode with
      | 1 => if body.length = lines * ppl then some (splitLines ppl lines body) else none
      | 2 => if body.isEmpty then some (List.replicate lines (List.replicate ppl (leAt bs 7 1))) else none
      | _ =>
        match decodeLines pred runoff ppl lines (List.replicate ppl 0) 0 0 Rice.start (bitsOfBytes body) with
        | none => none
        | some (ls, rest) => if rest.length < 8 && rest.all (fun b => !b) then some ls else none
    match px with
    | none => .error 2
    | some ls =>
      if leAt tr 3 1 ≠ 0xC3 ∨ leAt tr 0 2 ≠ lines ∨ leAt tr 2 1 ≠ 0 then .error 3
      else if leAt tr 4 4 ≠ crc32 ls.flatten then .error 4
      else .ok ls

/-- The code words of the lines of a block that starts with them. -/
def encodeBody (pred : Nat) (runoff : Bool) (ppl : Nat) (ls : List (List Nat)) : List Bool :=
  encodeLines pred runoff ppl ls (List.replicate ppl 0) 0 0 Rice.start

/-- Lines that a lane has begun when the body of a page block fails (cause 2): the lines that decode, and the one that does not
(R194, R195). -/
def bodyReach (ppl lines : Nat) (bs : List Nat) : Nat :=
  let coding := leAt bs 3 1
  let body := (bs.drop 16).take (bs.length - 24)
  let good (n : Nat) : Bool := match bits coding 1 0 with
    | 1 => decide (n * ppl ≤ body.length)
    | 2 => false
    | _ => (decodeLines (bits coding 3 2) (coding.testBit 4) ppl n (List.replicate ppl 0) 0 0 Rice.start (bitsOfBytes body)).isSome
  min lines (((List.range lines).filter (fun k => good (k + 1))).length + 1)

/-- A sensor block as an encoder lane writes it: `lines` is the header's LINES, `ls` the lines coded, mark 0 none,
1 FLUSH, 2 OVERFLOW (R190, R191, R202). -/
def encodeBlock (pred : Nat) (runoff : Bool) (ppl lines line0 src mark : Nat) (ls : List (List Nat)) : List Nat :=
  let head := leBytes 2 0x5256 ++ [1, 4 * pred + 16 * bit runoff + 32] ++ leBytes 2 ppl ++ [lines, 0] ++
    leBytes 4 line0 ++ [src, 0, 0, 0]
  let code := encodeBody pred runoff ppl ls ++ (if mark = 0 then [] else marker mark)
  let body := bytesOfBits (code.length / 8 + 1) code
  head ++ body ++ leBytes 2 ls.length ++ [bit (mark = 2) + 2 * bit (mark = 1), 0xC3] ++ leBytes 4 (crc32 ls.flatten)

end Sys2Proof.Machine
end

