-- ==== Sys2Proof/Machine/Codec.lean ====
section
/-! DEFINITION. The raster codec: decoder lanes, block failures and the spare lane, and the encoder lanes (R193 to R213). -/

namespace Sys2Proof.Machine

/-! ### Decoder lanes -/

/-- Decoder lane l. -/
def State.lane (s : State) (l : Nat) : DecLane := nth s.cdc.lanes l (DecLane.idle 15 0)

/-- The state with decoder lane l replaced. -/
def State.setLane (s : State) (l : Nat) (x : DecLane) : State :=
  { s with cdc := { s.cdc with lanes := s.cdc.lanes.set l x } }

/-- The lane that a map entry names. -/
def State.laneWith (s : State) (v : Nat) : Option Nat := findBelow 7 (fun l => s.laneMap l == v)

/-- The lane that re-decodes: the spare, or the lane that has taken a station with re-decodes still to do. -/
def State.redLane (s : State) : Option Nat := (s.laneWith 14).or s.cdc.sub

/-- A lane decodes a block, or is stopped in it. -/
def DecLane.busy (x : DecLane) : Bool := 1 ≤ x.st && x.st ≤ 3

/-- No decode and no re-decode is queued or running, and no page is ADMITTED or IMAGING (R50). -/
def State.codecIdle (s : State) : Bool :=
  !s.pageBusy && s.cdc.redq.isEmpty && s.cdc.redec.isNone && s.cdc.lanes.all (fun l => l.st == 0 || 14 ≤ l.st)

/-- The lane map written, with the lanes idle, spare or retired as it says (R50). -/
def State.setLaneMap (s : State) (v : Nat) : State :=
  let s := s.rset R.PLC_LANEMAP v
  { s with cdc := { s.cdc with lanes := (List.range 7).map (fun l =>
      let m := s.laneMap l
      if m < 6 then (if (s.lane l).st < 5 then { s.lane l with stn := m } else DecLane.idle 0 m) else DecLane.idle m 0) } }

/-- Next block of a page for a station. -/
def State.nextBlk (s : State) (h stn : Nat) : Nat :=
  ((s.cdc.next.find? (fun n => n.1 == h && n.2.1 == stn)).map (·.2.2)).getD 0

/-- The next block of a page for a station recorded. -/
def State.putNext (s : State) (h stn k : Nat) : State :=
  { s with cdc := { s.cdc with next := (h, stn, k) :: s.cdc.next.filter (fun n => !(n.1 == h && n.2.1 == stn)) } }

/-- A pattern page's lane takes generated lines in place of a decode (R306). -/
def State.pageKind (s : State) (h : Nat) : Bool := match s.envOf h with | some e => e.pattern | none => false

/-- Lines of block k of a page. -/
def State.linesOf (s : State) (h k : Nat) : Nat := match s.envOf h with | some e => e.blkLines k | none => 0

/-- Block k of station stn of a page, as its table gives it. -/
def State.blockOf (s : State) (h stn k : Nat) : Option Blk :=
  (s.envOf h).bind (fun e => e.blks.find? (fun b => b.stn == stn && b.idx == k))

/-- The data of a block waits for DRAM: its channel is retraining (R194, R468). -/
def State.dramWaits (s : State) (h stn k : Nat) : Bool :=
  match (s.blockOf h stn k).bind (·.chan) with
  | some c => s.fget F.DRC_C_STAT_STATE c == 2
  | none => false

/-! ### Pigeonholes (R194, R214) -/

/-- Pigeonholes free at the claim point of a station: all, or those up to the oldest in use, in cyclic order. -/
def Stn.freeHoles (x : Stn) : Nat :=
  match x.holes.head? with
  | none => 256
  | some p => (p.no + 256 - x.holeNo % 256) % 256

/-- Station stn claims pigeonholes, as far as they are free, for m lines of a block from its line `at0` on. -/
def State.claimLines (s : State) (stn h k at0 m : Nat) : State :=
  match s.envOf h with
  | none => s
  | some e =>
    let x := s.stn stn
    let new := (List.range (min m x.freeHoles)).map (fun i =>
      ({ no := (x.holeNo + i) % 256, handle := h, line := k * e.blklines + at0 + i, blk := k, pix := [], valid := false,
         lost := false } : Hole))
    s.setStn stn { x with holes := x.holes ++ new, holeNo := (x.holeNo + new.length) % 256 }

/-- A failed block claims what is free for its lines that have no pigeonhole yet. -/
def State.redecClaim (s : State) (r : Redec) : State × Redec :=
  let m := min (s.linesOf r.handle r.blk - r.held) (s.stn r.stn).freeHoles
  (s.claimLines r.stn r.handle r.blk r.held m, { r with held := r.held + m })

/-- The failed blocks of a station claim their lines before a later block does, in order of failure: lines are claimed in order
(R197, R214). -/
def State.redecClaims (s : State) (stn : Nat) : State :=
  let s := match s.cdc.redec with
    | some r => if r.stn = stn then
        { (s.redecClaim r).1 with cdc := { (s.redecClaim r).1.cdc with redec := some (s.redecClaim r).2 } } else s
    | none => s
  (List.range s.cdc.redq.length).foldl (fun s i => match s.cdc.redq[i]? with
    | some r => if r.stn = stn then
        { (s.redecClaim r).1 with cdc := { (s.redecClaim r).1.cdc with redq := s.cdc.redq.set i (s.redecClaim r).2 } } else s
    | none => s) s

/-- A failed block of a station still lacks a pigeonhole. -/
def State.redecLacks (s : State) (stn : Nat) : Bool :=
  (s.cdc.redec.toList ++ s.cdc.redq).any (fun r => r.stn == stn && decide (r.held < s.linesOf r.handle r.blk))

/-- Lane l has begun n lines of its block: it claims their pigeonholes as far as they are free, and stops where none is.
[DESIGN CHOICE, log entry 58] -/
def State.claimTo (s : State) (l n : Nat) : State :=
  let s := s.redecClaims (s.lane l).stn
  let x := s.lane l
  let m := if s.redecLacks x.stn then 0 else min (n - x.held) (s.stn x.stn).freeHoles
  (s.claimLines x.stn x.handle x.blk x.held m).setLane l { x with held := x.held + m }

/-- Lane l goes on with its block by n pixels: line by line it claims a pigeonhole, stops after the last code word of a line when
none is free for the next, and waits while its data cannot come (R178, R194). -/
def State.laneRun (s : State) (l n : Nat) : State :=
  let x := s.lane l
  match s.envOf x.handle with
  | none => s
  | some e =>
    if !x.busy then s
    else if s.dramWaits x.handle x.stn x.blk then s.setLane l { x with st := 3 }
    else
      let lines := e.blkLines x.blk
      let ppl := max e.ppl 1
      let px := min (x.px + n) (lines * ppl)
      let s := s.claimTo l (min lines (px / ppl + 1))
      let held := (s.lane l).held
      let stopped := held < min lines (px / ppl + 1)
      let px := if stopped then held * ppl else px
      s.setLane l { s.lane l with st := if stopped then 2 else 1, px := px, line := min (px / ppl) (lines - 1) }

/-! ### Blocks -/

/-- An idle lane starts its station's next block: of the page IMAGING first, then of the ADMITTED page (R193). -/
def State.startLane (s : State) (l : Nat) : State :=
  let x := s.lane l
  if x.st ≠ 0 || 6 ≤ s.laneMap l || s.cdc.sub == some l then s
  else
    let todo (h : Nat) : Option (Nat × Nat) :=
      match s.envOf h with
      | some e => if h ≠ 0 && e.has x.stn && s.nextBlk h x.stn < e.nblk then some (h, s.nextBlk h x.stn) else none
      | none => none
    match (todo s.imagingHandle).or (todo s.admittedHandle) with
    | none => s
    | some (h, k) =>
      ((s.setLane l { DecLane.idle 1 x.stn with handle := h, blk := k }).putNext h x.stn (k + 1)).laneRun l 0

/-- The pigeonholes of a block take its pixels and become valid (R195). -/
def State.blockValid (s : State) (stn h k : Nat) (ls : List (List Nat)) : State :=
  match s.envOf h with
  | none => s
  | some e => s.setStn stn { s.stn stn with holes := (s.stn stn).holes.map (fun p =>
      if p.handle == h && p.blk == k then { p with pix := nth ls (p.line - k * e.blklines) [], valid := !p.lost } else p) }

/-- Lane l leaves its block and is idle. -/
def State.freeLane (s : State) (l : Nat) : State := s.setLane l (DecLane.idle 0 (s.lane l).stn)

/-! ### Failures (R195 to R199) -/

/-- CDC_DEC_LAST (R198). -/
def State.decLast (s : State) (cause lane stn out blk : Nat) : State :=
  s.rset R.CDC_DEC_LAST (cause * 2 ^ 28 + lane * 2 ^ 24 + stn * 2 ^ 20 + out * 2 ^ 17 + blk % 2 ^ 17)

/-- A failure is reported: flag 776, vector 7, CDC_DEC_LAST, the count and a record (R198). -/
def State.decFail (s : State) (cause lane stn out blk : Nat) : State :=
  ((((s.decLast cause lane stn out blk).finc F.CDC_DEC_FAILCNT_COUNT 1).setFlag 776).raise 7).recRule 198

/-- The outcome of a lane's work on a block, and how many of its lines it has begun then: its lines, or the first check that
fails, by the stored bytes or by the lane's own error err (1 to 4); 5 is a failed DRAM burst (R194, R195, Table 6-6). -/
def State.decodeOf (s : State) (h stn k err : Nat) : Except Nat (List (List Nat)) × Nat :=
  match s.envOf h, s.blockOf h stn k with
  | some e, some b =>
    let n := e.blkLines k
    let bs := s.blkBytes b
    let r := decodeBlock e.ppl n (k * e.blklines) stn bs
    let own := match r with
      | .ok _ => err
      | .error c => if err = 0 then c else min c err
    let at0 := match r with | .error 2 => if err ≠ 2 then bodyReach e.ppl n bs else 0 | _ => 0
    if err = 5 then (.error 5, 0)
    else match own with
      | 0 => (r, n)
      | 1 => (.error 1, 0)
      | 2 => (.error 2, at0)
      | c => (.error c, n)
  | _, _ => (.error (max err 1), 0)

/-- The lane that re-decodes is free of it: with none left it goes on as the substitute of its station. -/
def State.subDone (s : State) : State :=
  if s.cdc.redq.isEmpty && s.cdc.redec.isNone then
    match s.cdc.sub with
    | some p => { s with cdc := { s.cdc with sub := none } }.startLane p
    | none => s
  else s

/-- The re-decode that ran is over: the lane that ran it is the spare again, or serves its station. -/
def State.redecOver (s : State) : State :=
  let s := { s with cdc := { s.cdc with redec := none } }
  (match s.redLane with
    | none => s
    | some p => s.setLane p (if s.laneMap p = 14 then DecLane.idle 14 0 else DecLane.idle 0 (s.laneMap p))).subDone

/-- Every waiting re-decode ends with OUTCOME 4: no spare is left (Table 6-7). -/
def State.dropRedq (s : State) : State :=
  let s := s.cdc.redq.foldl (fun s r => s.decLast r.cause r.lane r.stn 4 r.blk) s
  { s with cdc := { s.cdc with redq := [] } }.subDone

/-- The lane map with lane l retired, and its station given to lane p where there is one (R50). -/
def State.retireLane (s : State) (l : Nat) (dst : Option Nat) : State :=
  let m := s.laneMap l
  let s := (s.rset R.PLC_LANEMAP (putBits (s.rget R.PLC_LANEMAP) (4 * l + 3) (4 * l) 15)).setLane l (DecLane.idle 15 0)
  match dst with
  | none => s
  | some p =>
    let s := s.rset R.PLC_LANEMAP (putBits (s.rget R.PLC_LANEMAP) (4 * p + 3) (4 * p) m)
    let s := if (s.lane p).st = 4 then s else s.setLane p (DecLane.idle 0 m)
    (s.fset F.PLC_STAT_LANESUB 1).absorb F.SYS_ABS0_DECLANE

/-- A block has failed a check on lane l, with m lines begun: it is queued for re-decode where there is a spare, and is invalid
otherwise (R197, R198, Table 6-7). -/
def State.failBlock (s : State) (l : Nat) (x : DecLane) (cause : Nat) : State :=
  if (s.laneWith 14).isNone then s.decFail cause l x.stn 4 x.blk
  else
    let s := s.decFail cause l x.stn 0 x.blk
    { s with cdc := { s.cdc with redq := s.cdc.redq ++ [⟨x.stn, x.handle, x.blk, l, cause, x.held⟩] } }

/-- Lane l's state check fails. The lane retires at once and the spare takes its station; a block in progress is re-decoded, and
with none the fault is reported by itself. A lane that re-decodes fails that block for good. A lane that takes generated lines
does not fail them (R199, R306, Table 6-7). -/
def State.laneFault (s : State) (l : Nat) : State :=
  let x := s.lane l
  let m := s.laneMap l
  let p := s.laneWith 14
  if m = 15 || 7 ≤ l || (x.busy && s.pageKind x.handle) then s
  else match (if x.st = 4 then s.cdc.redec else none) with
    | some r =>
      let s := { s with cdc := { s.cdc with redec := none, sub := none } }
      ((s.retireLane l none).decFail 6 l r.stn 3 r.blk).dropRedq
    | none =>
      if m = 14 then ((s.retireLane l none).decFail 6 l 0 4 0x1FFFF).dropRedq
      else if p.isNone then
        let sub := s.cdc.sub == some l
        let s := { s with cdc := { s.cdc with sub := if sub then none else s.cdc.sub } }
        let s := (s.retireLane l none).decFail 6 l m 4 (if x.busy then x.blk else 0x1FFFF)
        if sub then s.dropRedq else s
      else
        let s := s.retireLane l p
        let s := { s with cdc := { s.cdc with sub := p } }
        if x.busy then
          let s := s.decFail 6 l m 0 x.blk
          { s with cdc := { s.cdc with redq := s.cdc.redq ++ [⟨m, x.handle, x.blk, l, 6, x.held⟩] } }
        else (s.decFail 6 l m 1 0x1FFFF).subDone

/-- BLOCK_DECODE_COMPLETE with what the lane's work has given: the lines of the block, all of whose pigeonholes are claimed, or
the check that failed with the line reached. The lane goes on with its station's next block (R195, R196, R198). -/
def State.blockDone (s : State) (l : Nat) (r : Except Nat (List (List Nat)) × Nat) : State :=
  let x := s.lane l
  if !x.busy || s.dramWaits x.handle x.stn x.blk then s
  else
    let s := s.laneRun l (r.2 * (match s.envOf x.handle with | some e => max e.ppl 1 | none => 1) - 1 - x.px)
    let x := s.lane l
    if x.held < r.2 then s
    else match r.1 with
      | .ok ls => ((s.blockValid x.stn x.handle x.blk ls).freeLane l).startLane l
      | .error c => ((s.failBlock l x c).freeLane l).startLane l

/-- DECODER_RESUME: a lane stopped for a pigeonhole goes on when one is free (R194, R215). -/
def execDecoderResume (l : Nat) (s : State) : Host.Outcome State Fault Refusal :=
  .next (if (s.lane l).st = 2 then s.laneRun l 0 else s)

/-- REDECODE_START: the spare lane takes the oldest failed block (R197). -/
def execRedecodeStart (s : State) : Host.Outcome State Fault Refusal :=
  .next (match s.redLane, s.cdc.redq, s.cdc.redec with
    | some p, r :: rs, none =>
      if (s.lane p).st = 14 || (s.lane p).st = 0 then
        let s := s.setLane p { DecLane.idle 4 r.stn with handle := r.handle, blk := r.blk }
        { s with cdc := { s.cdc with redq := rs, redec := some r } }.redecClaims r.stn
      else s
    | _, _, _ => s)

/-- A re-decode has passed on a failure of the lane: the lane retires and the spare takes its station, and restarts the block that
the lane was decoding (Table 6-7). -/
def State.replaceLane (s : State) (l : Nat) : State :=
  let x := s.lane l
  match s.laneWith 14 with
  | none => s.redecOver
  | some p =>
    let s := (s.redecOver.retireLane l (some p)).dropRedq
    if x.busy then (s.setLane p { x with st := 1, line := 0, px := 0 }).laneRun p 0 else s.startLane p

/-- REDECODE_COMPLETE: the outcome of Table 6-7. A second failure leaves the block invalid (R198). -/
def execRedecodeComplete (err : Nat) (s : State) : Host.Outcome State Fault Refusal :=
  .next (match s.cdc.redec with
    | none => s
    | some r =>
      if s.dramWaits r.handle r.stn r.blk then s
      else
        let w := s.decodeOf r.handle r.stn r.blk err
        let s := s.redecClaims r.stn
        if (match s.cdc.redec with | some r => r.held | none => 0) < w.2 then s
        else match w.1 with
          | .error c => (s.decFail c r.lane r.stn 3 r.blk).redecOver
          | .ok ls =>
            let s := s.blockValid r.stn r.handle r.blk ls
            if r.cause = 5 then ((s.decLast 5 r.lane r.stn 2 r.blk).absorb F.SYS_ABS0_DECLANE).redecOver
            else
              let s := s.decLast r.cause r.lane r.stn 1 r.blk
              if r.cause = 6 then s.redecOver
              else if s.laneMap r.lane == r.stn then s.replaceLane r.lane
              else (s.absorb F.SYS_ABS0_DECLANE).redecOver)

/-- LANE_STATE_FAULT of lane l (R199). -/
def execLaneStateFault (l : Nat) (s : State) : Host.Outcome State Fault Refusal := .next (s.laneFault l)

/-! ### Encoder lanes -/

/-- Encoder e. -/
def State.enc (s : State) (e : Nat) : Enc := nth s.cdc.enc e Enc.blank

/-- The state with encoder e replaced. -/
def State.setEnc (s : State) (e : Nat) (x : Enc) : State := { s with cdc := { s.cdc with enc := s.cdc.enc.set e x } }

/-- The discard counter of encoder e. -/
def encDrop (e : Nat) : FldDesc := if e = 0 then F.CDC_ENC_DROP_E0 else F.CDC_ENC_DROP_E1

/-- x rounded up to a multiple of 64. -/
def pad64 (x : Nat) : Nat := (x + 63) / 64 * 64

/-- SRC byte of encoder e's blocks (Table 6-1). -/
def State.encSrc (s : State) (e : Nat) : Nat :=
  s.fget F.CDC_E_CFG_PORT e + 2 * s.fget F.CDC_E_CFG_VC e + 8 * s.fget F.CDC_E_CFG_DT e

/-- BLKLINES of encoder e. -/
def State.encBl (s : State) (e : Nat) : Nat := s.fget F.CDC_E_CFG_BLKLINES e

/-- Block lines of a sensor line of encoder e (R201). -/
def State.encPlanes (s : State) (e : Nat) : Nat := if s.fget F.CDC_E_CFG_DT e = 3 then 3 else 1

/-- A sensor line waits in the FIFO. -/
def EncItem.isLine : EncItem → Bool
  | .line .. => true
  | _ => false

/-- Sensor lines in the input FIFO. -/
def Enc.lineCount (x : Enc) : Nat := (x.fifo.filter EncItem.isLine).length

/-- The stored bytes of encoder e's block, ended as its mark says (R202, R206 to R209). -/
def State.encBytes (s : State) (e : Nat) (b : EncBlk) : List Nat :=
  encodeBlock (s.fget F.CDC_E_CFG_PRED e) (s.fbit F.CDC_E_CFG_RUNOFF e) b.ppl
    (if b.mark = 1 then b.lines.length else s.encBl e) b.first (s.encSrc e) (b.mark - 1) b.lines

/-- Room the block needs with its marker, padding and trailer (R207). -/
def State.encNeed (s : State) (e : Nat) (b : EncBlk) : Nat := pad64 ((s.encBytes e { b with mark := 3 }).length)

/-- What encoder e has coded of its block: the header's room and the whole bytes of the body, or all of a block that has ended, padded
to the next block's start (R204). -/
def State.encOut (s : State) (e : Nat) (b : EncBlk) : List Nat :=
  if b.mark = 0 then
    let code := encodeBody (s.fget F.CDC_E_CFG_PRED e) (s.fbit F.CDC_E_CFG_RUNOFF e) b.ppl b.lines
    List.replicate 16 0 ++ bytesOfBits (code.length / 8) code
  else
    let bs := s.encBytes e b
    bs ++ List.replicate (pad64 bs.length - bs.length) 0

/-! ### The output ring (R203 to R205) -/

/-- Ring size of encoder e in 64-byte units. -/
def State.encUnits (s : State) (e : Nat) : Nat :=
  match (s.enc e).rings.head? with | some r => r.count * 1024 | none => s.fget F.CDC_E_RING_GRAN e * 1024

/-- Ring size in bytes. -/
def State.encRing (s : State) (e : Nat) : Nat := s.encUnits e * 64

/-- 64-byte units free in the ring before WRPTR would equal RDPTR (R205). -/
def State.encFree (s : State) (e : Nat) : Nat :=
  let n := s.encUnits e
  n - 1 - (s.fget F.CDC_E_WRPTR_PTR64 e + n - s.fget F.CDC_E_RDPTR_PTR64 e) % max n 1

/-- Bytes stored in encoder e's ring from a byte offset on; past its end they go on at offset 0 (R204). -/
def State.ringPut (s : State) (e at0 : Nat) (bs : List Nat) : State :=
  let n := max (s.encRing e) 1
  let base := s.fget F.CDC_E_RINGLOC_GRAN e * 65536
  let ch := s.fget F.CDC_E_RINGLOC_CH e
  let o := at0 % n
  (s.dramPut ch (base + o) (bs.take (n - o))).dramPut ch base (bs.drop (n - o))

/-- Encoder e writes what it has coded of its block, 64 bytes at a time and as far as the ring has room, all but the header
(R202, R204, R205). -/
def State.encWrite (s : State) (e : Nat) : State :=
  let x := s.enc e
  match x.blk with
  | none => s
  | some b =>
    let bs := s.encOut e b
    let m := min (bs.length / 64 - b.out) (s.encFree e)
    let lo := max 16 (64 * b.out)
    let s := s.ringPut e (64 * b.start + lo) ((bs.drop lo).take (64 * (b.out + m) - lo))
    (s.setEnc e { x with blk := some { b with out := b.out + m } }).fset F.CDC_E_WRPTR_PTR64
      ((b.start + b.out + m) % max (s.encUnits e) 1) e

/-- All that encoder e has coded of its block is written. -/
def State.encDrained (s : State) (e : Nat) (b : EncBlk) : Bool := (s.encOut e b).length / 64 ≤ b.out

/-! ### Coding (R202, R206 to R208) -/

/-- First line index after the block of line i, for blocks that start at `first`. -/
def State.encNextStart (s : State) (e first i : Nat) : Nat :=
  let n := max (s.encBl e) 1
  first + n * ((i - first) / n + 1)

/-- The first discard of a block is told: flag 774 + e and a record (R206). -/
def State.encTell (s : State) (e : Nat) : State := (s.setFlag (774 + e)).recRule 206

/-- What is left of a FIFO when the lines below an index are discarded up to the next frame end, and the sensor lines discarded. -/
def dropBelow (stop : Nat) : List EncItem → List EncItem × Nat
  | [] => ([], 0)
  | .frameEnd :: q => (.frameEnd :: q, 0)
  | .line no ppl ls :: q =>
    if no < stop then ((dropBelow stop q).1, (dropBelow stop q).2 + 1) else (.line no ppl ls :: q, 0)
  | .cut no ppl r :: q => if no < stop then dropBelow stop q else (.cut no ppl r :: q, 0)

/-- The rest of the range of encoder e's block is discarded, in the FIFO and as it arrives; n more lines count with them
(R206, R210). -/
def State.dropRange (s : State) (e stop n : Nat) : State :=
  let x := s.enc e
  let d := dropBelow stop x.fifo
  let here := !x.fifo.contains .frameEnd
  (s.setEnc e { x with
    fifo := d.1
    skip := if here then max x.skip stop else x.skip
    origin := if here then stop else x.origin }).finc (encDrop e) (n + d.2)

/-- Encoder e takes what is at the head of its FIFO into its block: a line when all before it is written, an end of a block that its
frame end or a discard makes (R202, R205 to R208). -/
def State.encTake (s : State) (e : Nat) : State :=
  let x := s.enc e
  match x.blk, x.fifo with
  | _, [] => s
  | none, .frameEnd :: q => s.setEnc e { x with fifo := q }
  | none, .cut no ppl r :: q =>
    s.setEnc e { x with fifo := q, blk := some ⟨no, r, ppl, [], 3, s.fget F.CDC_E_WRPTR_PTR64 e, 0⟩ }
  | none, .line no ppl _ :: _ =>
    s.setEnc e { x with blk := some ⟨no, no + max (s.encBl e) 1, ppl, [], 0, s.fget F.CDC_E_WRPTR_PTR64 e, 0⟩ }
  | some b, i :: q =>
    if b.mark ≠ 0 || !s.encDrained e b then s
    else match i with
      | .frameEnd => s.setEnc e { x with fifo := q, blk := if b.lines.isEmpty then none else some { b with mark := 1 } }
      | .cut _ _ _ => s.setEnc e { x with fifo := q, blk := some { b with mark := 3 } }
      | .line _ _ ls =>
        let b' := { b with lines := b.lines ++ ls }
        if s.encRing e ≤ s.encNeed e b' + 64 then
          ((s.setEnc e { x with blk := some { b with mark := 3 } }).dropRange e b.stop 0).encTell e
        else s.setEnc e { x with fifo := q, blk := some { b' with mark := if b.stop ≤ b.first + b'.lines.length then 1 else 0 } }

/-- The output buffer of encoder e is full: the next 64 bytes would make WRPTR equal RDPTR, or no descriptor entry is left for the
block that is ready (R205). -/
def State.encFull (s : State) (e : Nat) : Bool :=
  let x := s.enc e
  !x.rings.isEmpty && (s.encFree e = 0 || match x.blk with
    | some b => b.mark ≠ 0 && s.encDrained e b && 16 ≤ x.desc.length
    | none => false)

/-- CDC_E_STAT, DOFF and DLEN of encoder e brought up to date. -/
def State.encSync (s : State) (e : Nat) : State :=
  let x := s.enc e
  let s := ((s.fset F.CDC_E_STAT_OUTFULL (bit (s.encFull e)) e).fset F.CDC_E_STAT_FIFO x.lineCount e).fset
    F.CDC_E_STAT_DCOUNT x.desc.length e
  match x.desc with
  | [] => (s.rset R.CDC_E_DLEN 0 e).rset R.CDC_E_DOFF 0 e
  | d :: _ =>
    (s.rset R.CDC_E_DLEN (2 ^ 31 + bit d.ovf * 2 ^ 30 + bit d.flush * 2 ^ 29 + d.len % 2 ^ 24) e).rset R.CDC_E_DOFF d.off64 e

/-- Encoder e works through its FIFO as far as it can. -/
def State.encPump (s : State) (e : Nat) : State :=
  ((List.range (2 * (s.enc e).fifo.length + 2)).foldl (fun s _ => (s.encTake e).encWrite e) (s.encWrite e)).encSync e

/-- A sensor line reduced to its block lines of 8-bit samples: RAW8 as it is, RAW10 and RAW12 to their 8 most significant
bits, RGB888 as its R, G and B planes (R201). -/
def senseLines (dt : Nat) (px : List Nat) : List (List Nat) :=
  match dt with
  | 0 => [px.map (· % 256)]
  | 1 => [px.map (fun p => p / 4 % 256)]
  | 2 => [px.map (fun p => p / 16 % 256)]
  | _ => (List.range 3).map (fun c => (List.range (px.length / 3)).map (fun i => nth px (3 * i + c) 0 % 256))

/-- Encoder e takes sensor lines and frame ends: it codes, or it is to stop and phase 0 has not yet ended its block (R209). -/
def State.encTaking (s : State) (e : Nat) : Bool :=
  s.fget F.CDC_E_STAT_STATE e = 2 || (s.fget F.CDC_E_STAT_STATE e = 3 && (s.enc e).flushPend && (s.enc e).inFrame)

/-- A sensor line finds four in the FIFO of encoder e and is discarded with the rest of its block's range: the block being coded ends
with the lines it has, one not yet begun where the FIFO comes to this place (R206). -/
def State.encOverflow (s : State) (e i ppl : Nat) : State :=
  let x := s.enc e
  let s := match x.blk with
    | some b =>
      if b.mark = 0 && i < b.stop && !x.fifo.contains .frameEnd then
        (s.setEnc e { x with blk := some { b with mark := 3 } }).dropRange e b.stop 1
      else
        let stop := s.encNextStart e x.origin i
        (s.setEnc e { x with fifo := x.fifo ++ [EncItem.cut i ppl stop], skip := stop, origin := stop }).finc (encDrop e) 1
    | none =>
      let stop := s.encNextStart e x.origin i
      (s.setEnc e { x with fifo := x.fifo ++ [EncItem.cut i ppl stop], skip := stop, origin := stop }).finc (encDrop e) 1
  (s.encTell e).encPump e

/-- A sensor line reaches encoder e (R201, R206). -/
def State.encLine (s : State) (e : Nat) (px : List Nat) : State :=
  let x := s.enc e
  let ls := senseLines (s.fget F.CDC_E_CFG_DT e) px
  let n := (ls.headD []).length
  let i := x.nextLine
  if !s.encTaking e then s
  else if n = 0 || 32768 < n || (match x.ppl with | some p => p != n | none => false) then s.finc (encDrop e) 1
  else
    let s := s.setEnc e { x with ppl := some n, nextLine := i + ls.length }
    if i < x.skip then s.finc (encDrop e) 1
    else if 4 ≤ x.lineCount then s.encOverflow e i n
    else (s.setEnc e { s.enc e with fifo := x.fifo ++ [EncItem.line i n ls] }).encPump e

/-- A frame end, or a frame start without one, enters the FIFO of encoder e (R208). -/
def State.encFrameEnd (s : State) (e : Nat) : State :=
  let x := s.enc e
  if x.fifo.getLast? = some .frameEnd || (x.fifo.isEmpty && x.blk.isNone) then s
  else (s.setEnc e { x with fifo := x.fifo ++ [EncItem.frameEnd] }).encPump e

/-- The encoders that code a port and virtual channel. -/
def State.encsOf (s : State) (p vc : Nat) : List Nat :=
  (List.range 2).filter (fun e => e < s.variant.encl && s.fget F.CDC_E_CFG_PORT e == p && s.fget F.CDC_E_CFG_VC e == vc)

/-- Encoder e stops once its last block is complete; its rings are held until the last descriptor has been popped (R203, R209). -/
def State.encStop (s : State) (e : Nat) : State :=
  let x := s.enc e
  ((s.setEnc e { x with fifo := [], blk := none, stopping := false, flushPend := false, inFrame := false,
                        rings := if x.desc.isEmpty then [] else x.rings }).fset F.CDC_E_STAT_STATE 0 e).encSync e

/-- The block in progress of encoder e is discarded: WRPTR returns to its start, its lines are counted, with those of its range not
yet coded; coding resumes at the next block boundary (R210, R211). [DEDUCED, log entry 57] -/
def State.encDiscard (s : State) (e : Nat) : State :=
  let x := s.enc e
  match x.blk with
  | none => s
  | some b =>
    let n := b.lines.length / s.encPlanes e
    let s := (s.setEnc e { x with blk := none }).fset F.CDC_E_WRPTR_PTR64 b.start e
    let s := if b.mark = 0 then s.dropRange e b.stop n else s.finc (encDrop e) n
    if x.stopping && !x.flushPend then s.encStop e else s.encPump e

/-- FLUSH and ABORT of encoder e take effect at phase 0 (R209, R210). -/
def State.encPhase0 (s : State) (e : Nat) : State :=
  let x := s.enc e
  let s := if x.abortPend then (s.setEnc e { x with abortPend := false }).encDiscard e else s
  let x := s.enc e
  if !x.flushPend then s
  else
    let s := s.setEnc e { x with flushPend := false }
    let x := s.enc e
    let s := match x.blk with
      | some b =>
        if b.mark = 0 && !b.lines.isEmpty then
          s.setEnc e { x with blk := some { b with mark := 2 }
                              origin := if x.fifo.contains .frameEnd then x.origin else b.first + b.lines.length }
        else s
      | none => s
    if x.stopping && (match (s.enc e).blk with | some b => b.mark == 0 | none => true) then s.encStop e else s.encPump e

/-- Port p is present and enabled, and a packet's header is good (0) or has been corrected (1): it is taken (R316, Table 10-2). -/
def State.csiTakes (s : State) (p hdr : Nat) : Bool := decide (p < s.variant.csi) && s.fbit F.CAL_P_CFG_EN p && decide (hdr < 2)

/-- A corrected header is counted (R316, CAL_P_STAT.ECCCOR). -/
def State.csiHeader (s : State) (p hdr : Nat) : State := if hdr = 1 then s.finc F.CAL_P_STAT_ECCCOR 1 p else s

/-- A frame starts or ends on a virtual channel of port p, which is ACTIVE while it receives any frame. -/
def State.csiFrame (s : State) (p vc : Nat) (on : Bool) : State :=
  let fs := s.cal.frames.filter (· != (p, vc))
  let fs := if on then (p, vc) :: fs else fs
  ({ s with cal := { s.cal with frames := fs } }).fset F.CAL_P_STAT_ACTIVE (bit (fs.any (fun f => f.1 == p))) p

/-- FRAME_START on a CSI-2 port and virtual channel: the block line count restarts, and a frame start without a frame end
ends the block in progress (R202, R208, R316). -/
def execFrameStart (p vc hdr : Nat) (s : State) : Host.Outcome State Fault Refusal :=
  .next (if !s.csiTakes p hdr then s
  else ((s.csiHeader p hdr).encsOf p vc).foldl (fun s e =>
    let st := s.fget F.CDC_E_STAT_STATE e
    let s := if s.encTaking e then s.encFrameEnd e else s
    if st = 1 || st = 2 then
      (s.setEnc e { s.enc e with nextLine := 0, ppl := none, origin := 0, skip := 0, inFrame := true }).fset F.CDC_E_STAT_STATE 2 e
    else s.setEnc e { s.enc e with inFrame := false }) ((s.csiHeader p hdr).csiFrame p vc true))

/-- ENCODER_BLOCK_COMPLETE: the write response for a block. A good one for the header of a block that has ended and is written posts
its descriptor, with vector 5 + e and flag 772 + e; a write that fails after its retries discards the block in progress (R204, R210,
R211). -/
def execEncoderBlockComplete (e : Nat) (ok : Bool) (s : State) : Host.Outcome State Fault Refusal :=
  .next (
    let x := s.enc e
    match x.blk with
    | none => s
    | some b =>
      if !ok then (s.encDiscard e).recRule 211
      else if b.mark = 0 || !s.encDrained e b || 16 ≤ x.desc.length then s
      else
        let bs := s.encBytes e b
        let s := s.ringPut e (64 * b.start) (bs.take 16)
        let s := if x.abortPend then s.fset F.CDC_E_STAT_ABORT_LATE 1 e else s
        let d : Desc := ⟨b.start, bs.length, b.mark == 3, b.mark == 2, false⟩
        let s := s.setEnc e { x with blk := none, abortPend := false, desc := x.desc ++ [d] }
        let s := (s.raise (5 + e)).setFlag (772 + e)
        if x.stopping && !x.flushPend then s.encStop e else s.encPump e)

/-- ENCODER_OUTPUT_RESUME: an encoder whose output has room again goes on with its FIFO (R205). -/
def execEncoderOutputResume (e : Nat) (s : State) : Host.Outcome State Fault Refusal :=
  .next (if e < s.variant.encl then s.encPump e else s)

/-- A write of CDC_E_CTRL.EN = 1: the checks of R212, then a ring is reserved and the encoder waits for a frame start. Rings of
descriptors not yet popped stay held (R203). -/
def State.encEnable (s : State) (e : Nat) : State :=
  if s.variant.encl ≤ e || s.fbit F.CDC_E_CTRL_EN e then s
  else
    let bl := s.encBl e
    let g := s.fget F.CDC_E_RING_GRAN e
    let x := s.enc e
    let run := (List.range s.variant.drch).findSome? (fun c => (s.freeRun c g).map (fun a => (c, a)))
    let bad := bl = 0 || 64 < bl || (s.fget F.CDC_E_CFG_DT e = 3 && bl % 3 ≠ 0) || g < 16 || 4096 < g ||
      s.variant.csi ≤ s.fget F.CDC_E_CFG_PORT e
    match (if bad then none else run) with
    | none => s.fset F.CDC_E_STAT_CFGERR 1 e
    | some (c, a) =>
      let s := (s.fset F.CDC_E_STAT_CFGERR 0 e).fset F.CDC_E_CTRL_EN 1 e
      let s := ((s.rset R.CDC_E_RINGLOC (c * 2 ^ 20 + a) e).fset F.CDC_E_WRPTR_PTR64 0 e).fset F.CDC_E_RDPTR_PTR64 0 e
      ((s.setEnc e { Enc.blank with rings := ⟨c, a, g⟩ :: x.rings, desc := x.desc }).fset F.CDC_E_STAT_STATE 1 e).encSync e

/-- A write of CDC_E_CTRL.EN = 0: it acts as FLUSH, and the encoder stops after the block (R209). -/
def State.encDisable (s : State) (e : Nat) : State :=
  if !s.fbit F.CDC_E_CTRL_EN e then s.fset F.CDC_E_STAT_CFGERR 0 e
  else
    ((((s.fset F.CDC_E_STAT_CFGERR 0 e).fset F.CDC_E_CTRL_EN 0 e).setEnc e { s.enc e with stopping := true, flushPend := true }).fset
      F.CDC_E_STAT_STATE 3 e)

/-- ENCODER_ENABLE (R203, R212). -/
def execEncoderEnable (e : Nat) (s : State) : Host.Outcome State Fault Refusal := .next (s.encEnable e)

/-- ENCODER_DISABLE (R209). -/
def execEncoderDisable (e : Nat) (s : State) : Host.Outcome State Fault Refusal := .next (s.encDisable e)

/-- FLUSH: sampled at the next phase 0 (R209). -/
def execFlush (e : Nat) (s : State) : Host.Outcome State Fault Refusal := 
  .next (if e < s.variant.encl then s.setEnc e { s.enc e with flushPend := true } else s)

/-- ENCODER_ABORT: sampled at the next phase 0 (R210). -/
def execEncoderAbort (e : Nat) (s : State) : Host.Outcome State Fault Refusal := 
  .next (if e < s.variant.encl then s.setEnc e { s.enc e with abortPend := true } else s)

/-- A write of CDC_E_RDPTR: inside the filled part it frees ring space, outside it is ignored and recorded (R204). -/
def State.rdptrWrite (s : State) (e v : Nat) : State :=
  let n := max (s.encUnits e) 1
  let r := s.fget F.CDC_E_RDPTR_PTR64 e
  let v := v % 2 ^ 22
  if v < n && (v + n - r) % n ≤ (s.fget F.CDC_E_WRPTR_PTR64 e + n - r) % n then
    (s.fset F.CDC_E_RDPTR_PTR64 v e).encSync e
  else s.recRule 204

/-- RDPTR_WRITE (R204). -/
def execRdptrWrite (e val : Nat) (s : State) : Host.Outcome State Fault Refusal :=
  .next (if e < s.variant.encl then s.rdptrWrite e val else s)

/-- The oldest descriptor of encoder e is removed; with EN 0 the last one releases the rings (R203, R204). -/
def State.dpop (s : State) (e : Nat) : State :=
  let x := s.enc e
  let d := x.desc.drop 1
  (s.setEnc e { x with desc := d, rings := if s.fget F.CDC_E_STAT_STATE e = 0 && d.isEmpty then [] else x.rings }).encSync e

/-- DPOP (R204). -/
def execDpop (e : Nat) (s : State) : Host.Outcome State Fault Refusal := .next (if e < s.variant.encl then s.dpop e else s)

end Sys2Proof.Machine
end

