-- ==== Sys2Proof/Machine/Intake.lean ====
section
/-! DEFINITION. Page intake: the link, the Inbox windows, handles, granules, the print queue, commit and completion records
(R149 to R177). -/

namespace Sys2Proof.Machine

/-! ### Windows -/

/-- Window w. -/
def State.win (s : State) (w : Nat) : Win := nth s.fmt.wins w Win.blank

/-- The state with window w replaced. -/
def State.setWin (s : State) (w : Nat) (x : Win) : State := { s with fmt := { s.fmt with wins := s.fmt.wins.set w x } }

/-- A window error: the window returns to IDLE with ERR, vector 0 and, for a header or table fault, a record (R158,
R162). -/
def State.winError (s : State) (w code : Nat) : State :=
  ((s.setWin w { s.win w with state := .idle, recv := [], buf := [], hdrOk := false, tblOk := false, slot := none,
                              target := none, full := false }).fset F.FMT_W_STAT_ERR code w).raise 0

/-- ACK after the units received: the longest run without a gap (R155). -/
def ackFrom : Nat → Nat → List Nat → Nat × List Nat
  | 0, a, l => (a, l)
  | n + 1, a, l => if l.contains (a / 64) then ackFrom n (a + 64) (l.filter (· != a / 64)) else (a, l)

/-- LIMIT of a streaming window: the least of ACK + 64 MiB, ENVLEN and the end of the last block placed (R160). -/
def Env.limit (e : Env) (ack : Nat) : Nat :=
  let placed := match e.blks.find? (fun b => b.chan.isNone) with
    | some b => b.off
    | none => e.envlen
  min (ack + 2 ^ 26) (min e.envlen placed)

/-- The envelope of slot i. -/
def State.slotEnv (s : State) (i : Nat) : Option Env := nth s.fmt.env i none

/-- The window's LIMIT brought up to date. -/
def State.winLimit (s : State) (w : Nat) : State :=
  match (s.win w).state, (s.win w).slot with
  | .stream, some i => (match s.slotEnv i with
    | some e => s.setWin w { s.win w with limit := e.limit (s.win w).ack }
    | none => s)
  | _, _ => s

/-- ERR of a header, the lowest code that applies; 0 when it passes (Table 5-4, Table 5-5, R158).
[DESIGN CHOICE, log entry 140] -/
def State.headerErr (s : State) (h : List Nat) : Nat :=
  let stn := leAt h 0x14 1
  let cls := leAt h 0x15 1
  if leAt h 0 4 ≠ 0x564E4559 ∨ leAt h 4 2 ≠ 1 ∨ leAt h 6 2 ≠ 64 ∨ (slice h 0x29 15).any (· != 0) then 1
  else if leAt h 0x3C 4 ≠ crc32 (slice h 0 0x3C) then 2
  else if stn = 0 ∨ 2 ^ s.variant.stn ≤ stn then 3
  else if leAt h 0x18 4 = 0 ∨ 131072 < leAt h 0x18 4 ∨ leAt h 0x1C 2 = 0 ∨ 32768 < leAt h 0x1C 2 then 4
  else if leAt h 0x28 1 = 0 ∨ 64 < leAt h 0x28 1 then 5
  else if cls = 0 ∨ 15 < cls ∨ s.fget F.FMT_SPD_MMS cls = 0 then 6
  else if 64 ≤ s.held then 10
  else 0

/-- Number of stations in a mask. -/
def maskCount (m : Nat) : Nat := ((List.range 8).filter (fun i => m.testBit i)).length

/-- Blocks of a header's page: stations × blocks per station (R163). -/
def hdrBlocks (h : List Nat) : Nat :=
  maskCount (leAt h 0x14 1) * ((leAt h 0x18 4 + leAt h 0x28 1 - 1) / max (leAt h 0x28 1) 1)

/-- The blocks of a table that window w receives, laid out after it (R165, R166). -/
def tableBlks (w : Nat) (h tbl : List Nat) : List Blk :=
  let nb := (leAt h 0x18 4 + leAt h 0x28 1 - 1) / max (leAt h 0x28 1) 1
  let stns := (List.range 8).filter (fun i => (leAt h 0x14 1).testBit i)
  let keys := stns.flatMap (fun t => (List.range nb).map (fun k => (t, k)))
  (keys.zipIdx.foldl (fun (acc : List Blk × Nat) ki =>
    let len := leAt tbl (8 * ki.2) 4
    (acc.1 ++ [⟨ki.1.1, ki.1.2, len, leAt tbl (8 * ki.2 + 4) 4, acc.2, none, [], false, false, w⟩], acc.2 + pad64 len))
    ([], 64 + pad64 (8 * hdrBlocks h))).1

/-- ERR of a table that has arrived with its header (Table 5-4). -/
def State.tableErr (s : State) (h tbl : List Nat) : Nat :=
  let blks := tableBlks 0 h tbl
  if leAt h 0x38 4 ≠ crc32 (slice tbl 0 (8 * hdrBlocks h)) then 7
  else if blks.any (fun b => b.len < 24 || 2359296 < b.len) then 8
  else if leAt h 8 8 ≠ 64 + pad64 (8 * hdrBlocks h) + (blks.map (fun b => pad64 b.len)).foldl (· + ·) 0 then 9
  else if 64 ≤ s.held then 10
  else 0

/-- The header and the table are checked as they arrive (R157, R158). [DESIGN CHOICE, log entry 141] -/
def State.winCheck (s : State) (w : Nat) : State :=
  let x := s.win w
  let h := memBytes x.buf 0 64
  let s :=
    if x.state == .header && !x.hdrOk && 64 ≤ x.ack then
      match s.headerErr h with
      | 0 => s.setWin w { x with hdrOk := true, limit := 64 + pad64 (8 * hdrBlocks h) }
      | k => (s.winError w k).recRule 158
    else s
  let x := s.win w
  if x.state == .header && x.hdrOk && !x.tblOk && 64 + pad64 (8 * hdrBlocks h) ≤ x.ack then
    match s.tableErr h (memBytes x.buf 64 (8 * hdrBlocks h)) with
    | 0 => s.setWin w { x with tblOk := true }
    | k => (s.winError w k).recRule 158
  else s

/-- HANDLE_ISSUE for window w: the envelope takes the lowest free slot, its handle is issued, and the window enters STREAM
(R157, R159). [DESIGN CHOICE, log entry 142] -/
def execHandleIssue (w : Nat) (s : State) : Host.Outcome State Fault Refusal :=
  .next (
    let x := s.win w
    if !(x.state == .header && x.tblOk) then s
    else match findBelow 64 (fun i => (s.slotEnv i).isNone) with
      | none => (s.winError w 10).recRule 158
      | some i =>
        let h := memBytes x.buf 0 64
        let hd := s.fmt.seqNo * 64 + i
        let e : Env :=
          { handle := hd, state := .received, pageid := leAt h 0x10 4, stnmask := leAt h 0x14 1, spdclass := leAt h 0x15 1,
            side := leAt h 0x16 1, flags := leAt h 0x17 1, lines := leAt h 0x18 4, ppl := leAt h 0x1C 2,
            media := leAt h 0x1E 2, sheetlen := leAt h 0x20 4, pairid := leAt h 0x24 4, blklines := leAt h 0x28 1,
            envlen := leAt h 8 8, blks := tableBlks w h (memBytes x.buf 64 (8 * hdrBlocks h)), dropped := 0, blank := 0,
            pattern := false }
        let s := { s with fmt := { s.fmt with seqNo := if s.fmt.seqNo = 0x3FFFFFF then 1 else s.fmt.seqNo + 1 } }
        let s := ((s.putEnv i (some e)).rset R.FMT_W_HANDLE hd w).raise 0
        (s.setWin w { x with state := .stream, slot := some i, buf := [] }).winLimit w)

/-- GRANULE_RESERVATION: the next block of the next window that needs granules, taken in turn, is placed, which raises
LIMIT; without room LIMIT is held and FULL set (R53, R160). [DEDUCED, log entry 52] -/
def execGranuleReservation (s : State) : Host.Outcome State Fault Refusal :=
  .next (
    let next (w : Nat) : Option (Nat × Env × Blk) :=
      match (s.win w).state, (s.win w).slot with
      | .stream, some i => (s.slotEnv i).bind (fun e => (e.blks.find? (fun b => b.chan.isNone)).map (fun b => (i, e, b)))
      | _, _ => none
    let order := (List.range 4).map (fun k => (s.fmt.wasHold + k) % 4)
    match order.findSome? (fun w => (next w).map (fun r => (w, r))) with
    | none => s
    | some (w, i, e, b) =>
      match s.placeBlock b.stn b.idx b.len with
      | none =>
        let s := if (s.win w).full then s else s.raise 0
        { s.setWin w { s.win w with full := true } with
          fmt := { (s.setWin w { s.win w with full := true }).fmt with wasHold := (w + 1) % 4 } }
      | some (c, g) =>
        let put (t : Blk) : Blk := if t.stn == b.stn && t.idx == b.idx then { t with chan := some c, grans := g } else t
        let s := s.putEnv i (some { e with blks := e.blks.map put })
        let s := (s.setWin w { s.win w with full := false }).winLimit w
        { s with fmt := { s.fmt with wasHold := (w + 1) % 4 } })

/-- The block of an envelope that holds envelope offset o. -/
def Env.blkAt (e : Env) (o : Nat) : Option Blk := e.blks.find? (fun b => b.off ≤ o && o < b.off + pad64 b.len)

/-- Bytes from position p of a block on stored in DRAM, each 64 of them in the block's own granule; bytes past its LENGTH are not
stored (R164, R165). -/
def State.putBlk (s : State) (b : Blk) (p : Nat) (bs : List Nat) : State :=
  match b.chan with
  | some c => (List.range ((bs.length + 63) / 64)).foldl (fun s u =>
      s.dramPut c (b.addr (p + 64 * u)) (((bs.drop (64 * u)).take 64).take (b.len - (p + 64 * u)))) s
  | none => s

/-- A block found invalid: BLKERR, vector 0 and a record (R161). [DESIGN CHOICE, log entry 149] -/
def State.blkBad (s : State) (w : Nat) (b : Blk) : State :=
  ((((s.fset F.FMT_W_STAT_BLKERR 1 w).fset F.FMT_W_STAT_ERRSTN b.stn w).fset F.FMT_W_STAT_ERRBLK b.idx w).raise 0).recRule 161

/-- The state with one block of the envelope in slot i changed. -/
def State.modBlk (s : State) (i stn idx : Nat) (f : Blk → Blk) : State :=
  match s.slotEnv i with
  | some e => s.putEnv i (some { e with blks := e.blks.map (fun b => if b.stn == stn && b.idx == idx then f b else b) })
  | none => s

/-- A received envelope whose stream has ended at ENVLEN with no block invalid becomes RESIDENT (Table 5-7). -/
def State.toResident (s : State) (i : Nat) : State :=
  match s.slotEnv i with
  | some e => if e.state == .received && e.blks.all (fun b => b.checked && !b.invalid) &&
        !s.fmt.wins.any (fun x => x.state == .stream && x.slot == some i) then
      s.putEnv i (some { e with state := .resident }) else s
  | none => s

/-- The CRC of a block whose last byte has arrived is compared; a block already found invalid is not told again (R161). -/
def State.checkBlk (s : State) (w i : Nat) (b : Blk) : State :=
  let bad := crc32 (s.blkBytes b) ≠ b.bcrc
  let s := s.modBlk i b.stn b.idx (fun t => { t with checked := true, invalid := decide bad || t.invalid })
  if bad && !b.invalid then s.blkBad w b else s

/-- The blocks of the stream that have wholly arrived are checked, and at ENVLEN the window returns to IDLE (R161,
R162). -/
def State.streamCheck (s : State) (w : Nat) : State :=
  match (s.win w).slot with
  | none => s
  | some i =>
    match s.slotEnv i with
    | none => s
    | some e =>
      let x := s.win w
      let got (b : Blk) : Bool := (List.range (pad64 b.len / 64)).all (fun u => decide (b.off / 64 + u < x.ack / 64) || x.recv.contains (b.off / 64 + u))
      let s := (e.blks.filter (fun b => !b.checked && b.chan.isSome && got b)).foldl (fun s b => s.checkBlk w i b) s
      let s := s.winLimit w
      if x.ack = e.envlen then (s.setWin w { s.win w with state := .idle, recv := [], slot := none }).toResident i else s

/-- The target of a resend, when it qualifies: an invalid block of a RECEIVED envelope (R164). -/
def State.resendTarget (s : State) (w : Nat) : Option (Nat × Blk) :=
  match s.envOf (s.rget R.FMT_W_RSHDL w) with
  | some e =>
    if e.state == .received && e.handle ≠ 0 then
      (e.blks.find? (fun b => b.stn == s.fget F.FMT_W_RSBLK_STN w && b.idx == s.fget F.FMT_W_RSBLK_BLK w && b.invalid)).map
        (fun b => (e.handle % 64, b))
    else none
  | none => none

/-- OPEN of an IDLE window: HEADER, or RESEND of the target block (R154, R164). [DEDUCED, log entry 49] -/
def State.open_ (s : State) (w : Nat) : State :=
  let s := s.wakeBy 2
  let x := s.win w
  if x.state ≠ .idle || 4 ≤ w then s
  else
    let s := s.fset F.FMT_W_STAT_ERR 0 w
    if s.fbit F.FMT_W_CTRL_RESEND w then
      match s.resendTarget w with
      | none => (s.setWin w { Win.blank with limit := 64 }).winError w 11
      | some (i, b) =>
        let s := s.modBlk i b.stn b.idx (fun t => { t with win := w })
        s.setWin w { Win.blank with state := .resend, limit := pad64 b.len, slot := some i, target := some (b.stn * 2 ^ 17 + b.idx) }
    else s.setWin w { Win.blank with state := .header, limit := 64 }

/-- OPEN (R154). -/
def execInboxOpen (w : Nat) (s : State) : Host.Outcome State Fault Refusal := .next (s.open_ w)

/-- An envelope without a record leaves: its slot, its granules and its place in the queue are freed (R152, R162). -/
def State.discardEnv (s : State) (i : Nat) : State :=
  match s.slotEnv i with
  | none => s
  | some e =>
    let s := s.releasePage e.handle
    { s.putEnv i none with fmt := { (s.putEnv i none).fmt with queue := s.fmt.queue.filter (· != e.handle) } }

/-- CLOSE: in HEADER and STREAM the envelope is discarded, in RESEND the resend alone ends; ERR 0x0C (R162). -/
def State.close (s : State) (w : Nat) : State :=
  let x := s.win w
  match x.state, x.slot with
  | .idle, _ => s
  | .stream, some i => (s.discardEnv i).winError w 12
  | _, _ => s.winError w 12

/-- CLOSE (R162). -/
def execInboxClose (w : Nat) (s : State) : Host.Outcome State Fault Refusal := .next (s.close w)

/-- Bytes accepted by a streaming window at envelope offset o: to the buffer or to their block.
[DESIGN CHOICE, log entry 139] -/
def State.streamPut (s : State) (i o : Nat) (bs : List Nat) : State :=
  match s.slotEnv i with
  | none => s
  | some e =>
    (List.range (bs.length / 64)).foldl (fun s u =>
      match e.blkAt (o + 64 * u) with
      | some b => s.putBlk b (o + 64 * u - b.off) ((bs.drop (64 * u)).take 64)
      | none => s) s

/-- The block a resend window fills. -/
def State.resendBlk (s : State) (w : Nat) : Option (Nat × Blk) :=
  match (s.win w).slot, (s.win w).target with
  | some i, some t => (s.slotEnv i).bind (fun e =>
      (e.blks.find? (fun b => b.stn == t / 2 ^ 17 && b.idx == t % 2 ^ 17)).map (fun b => (i, b)))
  | _, _ => none

/-- A resend that has arrived: the block is checked again and the window returns to IDLE (R164). -/
def State.resendDone (s : State) (w : Nat) : State :=
  match s.resendBlk w with
  | none => s
  | some (i, b) =>
    if (s.win w).ack < pad64 b.len then s
    else
      let s := s.modBlk i b.stn b.idx (fun t => { t with invalid := false, checked := false })
      let s := s.checkBlk w i { b with invalid := false, checked := false }
      (s.setWin w { s.win w with state := .idle, recv := [], slot := none, target := none }).toResident i

/-- INBOX_WRITE at BAR2 offset a: accepted within LIMIT, discarded and counted otherwise (R156). -/
def execInboxWrite (a : Nat) (data : List Nat) (s : State) : Host.Outcome State Fault Refusal :=
  .next (
    let w := a / 2 ^ 26
    let p := a % 2 ^ 26
    let n := data.length
    let x := s.win w
    let o := x.ack + (p + 2 ^ 26 - x.ack % 2 ^ 26) % 2 ^ 26
    if 4 ≤ w then s
    else if x.state == .idle || p % 64 ≠ 0 || n % 64 ≠ 0 || 2 ^ 26 < p + n || x.limit < o + n then
      s.finc F.FMT_W_DROP_COUNT 1 w
    else
      let s := match x.state, x.slot with
        | .stream, some i => s.streamPut i o data
        | .resend, _ => (match s.resendBlk w with | some (_, b) => s.putBlk b o data | none => s)
        | _, _ => s.setWin w { x with buf := memPutBytes x.buf o data }
      let units := (List.range (n / 64)).map (o / 64 + ·)
      let recv := x.recv ++ units.filter (fun u => !x.recv.contains u)
      let (ack, recv) := ackFrom (recv.length + 1) x.ack recv
      let s := s.setWin w { s.win w with ack := ack, recv := recv }
      match x.state with
      | .header => s.winCheck w
      | .stream => s.streamCheck w
      | .resend => s.resendDone w
      | .idle => s)

/-- A failed DRAM write of an Inbox block makes the block invalid, which is told in the window that receives it (R161, R480). -/
def State.inboxWriteFailed (s : State) (c addr : Nat) : State :=
  match (List.range 64).findSome? (fun i => (s.slotEnv i).bind (fun e =>
      (e.blks.find? (fun b => b.chan == some c && b.grans.contains (addr / 65536))).map (fun b => (i, b)))) with
  | none => s
  | some (i, b) =>
    if b.invalid then s else (s.modBlk i b.stn b.idx (fun t => { t with invalid := true })).blkBad b.win b

/-! ### Link -/

/-- The link is lost or the function enters D3hot: envelopes not yet RESIDENT are discarded and the windows return to
IDLE; the rest is kept (R152). -/
def State.intakeStop (s : State) : State :=
  let s := (List.range 64).foldl (fun s i => match s.slotEnv i with
    | some e => if e.state == .received then s.discardEnv i else s
    | none => s) s
  let idle (x : Win) : Win := { x with state := .idle, recv := [], buf := [], hdrOk := false, tblOk := false, slot := none,
                                       target := none, full := false }
  { s with fmt := { s.fmt with wins := s.fmt.wins.map idle } }

/-- The link is lost: FMT_STAT shows no link (R152). -/
def State.linkDown (s : State) : State := s.intakeStop.rset R.FMT_STAT 0

/-- The function enters D3hot with its link up (Table 5-1, R152). -/
def State.enterD3 (s : State) : State := { s.intakeStop with fmt := { s.intakeStop.fmt with d3hot := true } }

/-- LINK_DOWN: the link is lost, or the function enters D3hot (R152). -/
def execLinkDown (d3 : Bool) (s : State) : Host.Outcome State Fault Refusal := .next (if d3 then s.enterD3 else s.linkDown)

/-- What Table 5-1 gives the endpoint: IDs, class code, sizes of its three regions, the values of Max_Payload_Size, the speed codes
of FMT_STAT, the link widths, its outstanding non-posted requests and tag bits, its MSI-X vectors, and whether it reports errors
through AER and has D3hot and ASPM L1 (R149). -/
structure PcieTable where
  vendor   : Nat
  device   : Nat
  revision : Nat
  cls      : Nat
  bars     : List Nat
  mps      : List Nat
  speeds   : List Nat
  widths   : List Nat
  reqs     : Nat
  tagBits  : Nat
  vectors  : Nat
  aer      : Bool
  d3hot    : Bool
  aspmL1   : Bool
  deriving DecidableEq, Repr

/-- SYS_FEAT.PCIX1. -/
def Variant.pcix1 (v : Variant) : Bool := v.field 30 30 == 1

/-- Table 5-1 for the module: its revision is SYS_IDENT [7:0], and only one lane where SYS_FEAT.PCIX1 is 1 (R149).
[DESIGN CHOICE, log entry 146] -/
def State.pcie (s : State) : PcieTable :=
  { vendor := 0x1F3C, device := 0x5659, revision := s.stepping * 16 + s.fuseRev, cls := 0x118000, bars := [2 ^ 25, 2 ^ 28, 2 ^ 30]
    mps := [128, 256, 512], speeds := [1, 2, 3, 4, 5], widths := if s.variant.pcix1 then [1] else [1, 2, 4], reqs := 256, tagBits := 10
    vectors := 64, aer := true, d3hot := true, aspmL1 := true }

/-- PERST: the endpoint alone is reset, its MSI-X table and enable with it, and the link goes down (R152, R597). -/
def execPerst (s : State) : Host.Outcome State Fault Refusal :=
  .next { s.linkDown with msixEn := false, msixTab := msixReset, msixPend := [], fmt := { s.linkDown.fmt with d3hot := false } }

/-- PCIE_LINK_UP at a speed code and width of Table 5-1, with MSI-X enabled or not by the host: the link comes up, or the function
returns to D0 (R149, R152). A link at another speed or width does not come up. [DEDUCED, log entry 144] -/
def execPcieLinkUp (speed width : Nat) (msix : Bool) (s : State) : Host.Outcome State Fault Refusal :=
  .next (
    if !(s.pcie.speeds.contains speed && s.pcie.widths.contains width) then s
    else
      let s := ((s.fset F.FMT_STAT_LINKUP 1).fset F.FMT_STAT_SPEED speed).fset F.FMT_STAT_WIDTH width
      { s with msixEn := msix, fmt := { s.fmt with d3hot := false } })

/-- BAR4_READ of n bytes at offset o: data, Unsupported Request outside the usable space, or poisoned data after an
uncorrectable error (R151, R484). -/
def execBar4Read (o n : Nat) (bad : Bool) (s : State) : Host.Outcome State Fault Refusal :=
  .next (
    let c := s.fget F.FMT_DWIN_CH
    let a := s.fget F.FMT_DWIN_GRAN * 65536 + o
    if s.bivouac || s.dramCap c * 65536 < a + n then s.emit (.bar4 1 [])
    else s.emit (.bar4 (if bad then 2 else 0) (s.dramGet c a n)))

/-! ### Queue, commit, commands -/

/-- A write of FMT_QUEUE (R170). -/
def State.queuePage (s : State) (h : Nat) : State :=
  let s := s.wakeBy 2
  let ok : Bool := match s.envOf h with
    | some e => h ≠ 0 && (e.state == .received || e.state == .resident) && !s.fmt.queue.contains h && s.fmt.queue.length < 64
    | none => false
  if ok then { s with fmt := { s.fmt with queue := s.fmt.queue ++ [h] } } else s.fset F.FMT_QSTAT_QERR 1

/-- QUEUE (R170). -/
def execQueue (h : Nat) (s : State) : Host.Outcome State Fault Refusal := .next (s.queuePage h)

/-- A FMT_CMD write, kept for phase 0 (R169, R176). [DEDUCED, log entry 50; DESIGN CHOICE, log entry 148] -/
def State.pageCmd (s : State) (cancel abandon : Bool) : State :=
  let c : PageCmd := ⟨s.rget R.FMT_CMDHDL, cancel, abandon, s.time16⟩
  { s.fset F.FMT_CMDSTAT_RESULT 0 with fmt := { s.fmt with cmds := s.fmt.cmds ++ [c] } }

/-- CANCEL (R176). -/
def execCancel (s : State) : Host.Outcome State Fault Refusal := .next (s.pageCmd true false)

/-- ABANDON (R169). -/
def execAbandon (s : State) : Host.Outcome State Fault Refusal := .next (s.pageCmd false true)

/-- A waiting FMT_CMD acts at phase 0 against the page's state (R169, R176). -/
def State.applyCmd (s : State) (k : PageCmd) : State :=
  match s.envOf k.handle with
  | none => s.fset F.FMT_CMDSTAT_RESULT 3
  | some e =>
    if k.handle = 0 then s.fset F.FMT_CMDSTAT_RESULT 3
    else if k.cancel && (e.state == .received || e.state == .resident || e.state == .admitted) then
      let quit (x : Win) : Win := if x.slot == some (k.handle % 64) then Win.blank else x
      let s := { s with fmt := { s.fmt with wins := s.fmt.wins.map quit } }
      (s.endPage k.handle .cancelled false 0).fset F.FMT_CMDSTAT_RESULT 1
    else if k.abandon && e.state == .imaging then (s.abandon 1).fset F.FMT_CMDSTAT_RESULT 1
    else s.fset F.FMT_CMDSTAT_RESULT 2

/-- DONE_POP removes the oldest completion record and frees its slot (R177). -/
def State.donePop (s : State) : State :=
  match s.fmt.done with
  | [] => s
  | d :: ds => { s.putEnv (d.handle % 64) none with fmt := { (s.putEnv (d.handle % 64) none).fmt with done := ds } }

/-- DONE_POP (R177). -/
def execDonePop (s : State) : Host.Outcome State Fault Refusal := .next s.donePop

/-- The pending gap request is accepted: FLOOR rises to REQ and PEND clears (R175). -/
def State.gapAccept (s : State) : State :=
  (((s.fset F.FMT_GAP_FLOOR (max (s.fget F.FMT_GAP_FLOOR) (s.fget F.FMT_GAPREQ_REQ))).fset F.FMT_GAPREQ_PEND 0).fset
    F.FMT_GAPGRACE_TICKS 0)

/-- GAP_ACCEPT (R175). -/
def execGapAccept (s : State) : Host.Outcome State Fault Refusal :=
  .next (if s.fbit F.FMT_GAPREQ_PEND then s.gapAccept else s)

/-- The speeds of the classes, with class k at v, without the undefined ones. -/
def State.speeds (s : State) (k v : Nat) : List Nat :=
  ((List.range 15).map (fun i => if i + 1 = k then v else s.fget F.FMT_SPD_MMS (i + 1))).filter (· != 0)

/-- Strictly ascending. -/
def ascending : List Nat → Bool
  | a :: b :: l => decide (a < b) && ascending (b :: l)
  | _ => true

/-- A write of FMT_SPD{k}: outside its unit's idle time, out of range or out of order it is ignored and recorded (R11,
R174). -/
def State.spdWrite (s : State) (k v : Nat) : State :=
  let m := v % 2048
  if s.pageBusy then s.recRwi R.FMT_SPD v k
  else if (m ≠ 0 && m < 50) || 1000 < m || !ascending (s.speeds k m) then s.recRule 174
  else s.fset F.FMT_SPD_MMS m k

/-- SPD_WRITE (R174). -/
def execSpdWrite (k val : Nat) (s : State) : Host.Outcome State Fault Refusal :=
  .next (if 1 ≤ k && k ≤ 15 then s.spdWrite k val else s)

end Sys2Proof.Machine
end

