-- ==== Sys2Proof/Machine/Band.lean ====
section
/-! DEFINITION. The band store: output lines and beams, the armed and active banks, the facet decision by drum position,
lines dropped, and the completion point (R214 to R235). -/

namespace Sys2Proof.Machine

/-! ### Banks (R232, R233, R239, R283) -/

/-- A bank: its pending and active fields and how many of them a station has. -/
structure Bank where
  pend : FldDesc
  act  : FldDesc
  n    : Nat

/-- The banks that an ARM copies and a latch makes active. -/
def banks : List Bank :=
  [⟨F.BST_S_REMAP_PEND, F.BST_S_REMAP_ACT, 32⟩, ⟨F.BST_S_ZOFF_PEND, F.BST_S_ZOFF_ACT, 64⟩,
   ⟨⟨R.EXP_S_TONE, 31, 0⟩, ⟨R.EXP_S_TACT, 31, 0⟩, 64⟩, ⟨F.EXP_S_BDLY_PEND, F.EXP_S_BDLY_ACT, 32⟩,
   ⟨F.SCN_S_MAG_PEND, F.SCN_S_MAG_ACT, 1⟩, ⟨F.SCN_S_LIN_PEND, F.SCN_S_LIN_ACT, 64⟩]

/-- Remap, zone offset, start delay and magnification of a station: active ones, or those of the banks an ARM checks. -/
def State.remapOf (s : State) (pend : Bool) (i b : Nat) : Nat :=
  s.fget (if pend then F.BST_S_REMAP_PEND else F.BST_S_REMAP_ACT) i b

/-- Zone offset of a station, pending or active. -/
def State.zoffOf (s : State) (pend : Bool) (i z : Nat) : Int :=
  s.fsigned (if pend then F.BST_S_ZOFF_PEND else F.BST_S_ZOFF_ACT) i z

/-- NB of a station. -/
def State.nb (s : State) (i : Nat) : Nat := s.fget F.BST_S_CFG_NB i

/-- Remap entries of the beams in use. -/
def State.dList (s : State) (pend : Bool) (i : Nat) : List Nat := (List.range (s.nb i)).map (s.remapOf pend i)

/-- Zone offsets of a station. -/
def State.zList (s : State) (pend : Bool) (i : Nat) : List Int := (List.range 64).map (s.zoffOf pend i)

/-- Least element of a list of integers. -/
def minI (l : List Int) : Int := l.foldl min (l.headD 0)

/-- Greatest element of a list of integers. -/
def maxI (l : List Int) : Int := l.foldl max (l.headD 0)

/-- Dmin and Dmax (R219). -/
def State.dMin (s : State) (pend : Bool) (i : Nat) : Int := minI ((s.dList pend i).map Int.ofNat)

/-- Dmax (R219). -/
def State.dMax (s : State) (pend : Bool) (i : Nat) : Int := maxI ((s.dList pend i).map Int.ofNat)

/-- Zmin (R219). -/
def State.zMin (s : State) (pend : Bool) (i : Nat) : Int := minI (s.zList pend i)

/-- Zmax (R219). -/
def State.zMax (s : State) (pend : Bool) (i : Nat) : Int := maxI (s.zList pend i)

/-- The read window W (R222). -/
def State.window (s : State) (pend : Bool) (i : Nat) : Int :=
  (s.dMax pend i - s.dMin pend i) + (s.zMax pend i - s.zMin pend i) + 1

/-- No element twice. -/
def allDistinct : List Nat → Bool
  | [] => true
  | a :: l => !l.contains a && allDistinct l

/-- ERR of a station's pending bank, the lowest code that applies; 0 when it passes (R221, R222). -/
def State.armErr (s : State) (i : Nat) : Nat :=
  let d := s.dList true i
  if !allDistinct (d.map (· % max (s.nb i) 1)) then 1
  else if 160 < s.window true i then 2
  else if (s.zList true i).any (fun z => z < -80 || 80 < z) then 3
  else if d.any (127 < ·) then 4
  else 0

/-- The pending value of one field of a bank, under the address of its register. -/
def State.pendEntry (s : State) (k : Bank) (i j : Nat) : Nat × Word :=
  (k.pend.reg.addr i j, BitVec.ofNat 32 (s.fget k.pend i j))

/-- The check and copy of an ARM (R232): true when the ARM is accepted. [DEDUCED, log entry 61] -/
def State.arm (s : State) : State × Bool :=
  match (List.range s.variant.stn).find? (fun i => s.armErr i != 0) with
  | some i =>
    let s' := ((s.fset F.BST_UPDSTAT_REFUSED 1).fset F.BST_UPDSTAT_ERR (s.armErr i)).fset F.BST_UPDSTAT_STN i
    (s'.recRule 232, false)
  | none =>
    let a := (List.range s.variant.stn).flatMap (fun i =>
      banks.flatMap (fun k => (List.range k.n).map (fun j => s.pendEntry k i j)))
    let s' := (s.fset F.BST_UPDSTAT_ARMED 1).fset F.BST_UPDSTAT_ERR 0
    ({ s' with img := { s'.img with armed := a } }, true)

/-- ARM: the write waits for phase 0 (R232). -/
def execArm (s : State) : Host.Outcome State Fault Refusal := .next { s with img := { s.img with armPend := true } }

/-- An ARM that waits acts at phase 0. -/
def State.armPhase0 (s : State) : State :=
  if s.img.armPend then { s with img := { s.img with armPend := false } }.arm.1 else s

/-- The armed value of a field, if the armed banks hold it. -/
def State.armedVal (s : State) (f : FldDesc) (i j : Nat) : Option Nat :=
  ((s.img.armed.find? (fun e => e.1 == f.reg.addr i j)).map (·.2.toNat))

/-- The armed banks become active for all stations (R233). -/
def State.latchBanks (s : State) : State :=
  let s := (List.range s.variant.stn).foldl (fun s i =>
    banks.foldl (fun s k =>
      (List.range k.n).foldl (fun s j => match s.armedVal k.pend i j with
        | some v => s.fset k.act v i j
        | none => s) s) s) s
  ((s.fset F.BST_UPDSTAT_ARMED 0).fset F.BST_UPDSTAT_LATCH (s.fget F.BST_UPDSTAT_LATCH + 1)).setFlag 779

/-! ### Configuration (R235) -/

/-- A write of BST_S_CFG (0), _LPC (1) or _START (2): outside the idle band store it is ignored and recorded as an RWI
write, with a value out of range as a breach of R235. -/
def State.bstWrite (s : State) (i r v : Nat) : State :=
  let reg := match r with | 0 => R.BST_S_CFG | 1 => R.BST_S_LPC | _ => R.BST_S_START
  if s.variant.stn ≤ i then s
  else if s.pageBusy then s.recRwi reg v i
  else
    match r with
    | 0 =>
      if bits v 5 0 = 0 || s.variant.beams < bits v 5 0 || 35 < bits v 21 16 then s.recRule 235
      else s.rset R.BST_S_CFG (bits v 31 24 * 2 ^ 24 + bits v 21 16 * 2 ^ 16 + bits v 5 0) i
    | 1 => if v % 2 ^ 32 = 0 then s.recRule 235 else s.rset R.BST_S_LPC v i
    | _ => s.rset R.BST_S_START (v % 2 ^ 20) i

/-- BST_CONFIG_WRITE (R235). -/
def execBstConfigWrite (i r val : Nat) (s : State) : Host.Outcome State Fault Refusal := .next (s.bstWrite i r val)

/-! ### Positions -/

/-- Axis n beyond its registers. -/
def State.axis (s : State) (n : Nat) : Axis := nth s.motion.axis n Axis.blank

/-- Commanded position of an axis, in counts: the sample rounded to the nearest count, ties up (R440). -/
def Axis.cmdPos (x : Axis) : Int := (x.p + 32768) / 65536

/-- Raw position of axis n at this moment: the encoder count with its polarity and offset, the commanded position in OPEN,
and the last value in OFF (R432, R436). -/
def State.axRaw (s : State) (n : Nat) : Int :=
  match s.fget F.AXS_A_CFG_MODE n with
  | 0 => signed 48 (s.rget R.AXS_A_RAW_LO n + 2 ^ 32 * s.rget R.AXS_A_RAW_HI n)
  | 2 => (s.axis n).cmdPos
  | _ =>
    let c := nth s.motion.enc (s.fget F.AXS_A_CFG_ENC n) 0
    (if s.fbit F.AXS_A_CFG_ENCPOL n then -c else c) + (s.axis n).off

/-- Position of the axis that station i follows, in 1/65536 count (R226). -/
def State.drumPos (s : State) (i : Nat) : Int := s.axRaw (s.fget F.BST_S_CFG_POSAX i) * 65536

/-- LPC of a station: counts per line × 65536. -/
def State.lpc (s : State) (i : Nat) : Int := max (s.rget R.BST_S_LPC i) 1

/-- Drum travel from the page origin at a position, in counts × 65536: u of R227 is this over LPC. -/
def State.travel (s : State) (i : Nat) (pcap : Int) : Int :=
  pcap - (s.stn i).pcommit - s.fget F.BST_S_START_START i * s.lpc i

/-- Next scan j of the page. -/
def State.scanNo (s : State) (i : Nat) : Nat := s.rget R.BST_S_SCAN i

/-- R(j) (R219). -/
def State.rOf (s : State) (i : Nat) (j : Int) : Int := s.zMin false i - s.dMax false i + s.nb i * j

/-- Lines dropped on the page so far: the total of δ. -/
def Stn.delta (x : Stn) : Int := (x.drops.map (fun d => (d.2 : Int))).foldl (· + ·) 0

/-- δ(Y): lines dropped at thresholds at or below output line Y (R217). -/
def Stn.deltaAt (x : Stn) (y : Int) : Int := ((x.drops.filter (fun d => d.1 ≤ y)).map (fun d => (d.2 : Int))).foldl (· + ·) 0

/-- The last scan J of a page (R220). -/
def State.lastScan (s : State) (i lines : Nat) : Int :=
  ((lines : Int) - 1 + s.zMax false i - s.zMin false i + s.dMax false i - s.dMin false i) / max (s.nb i : Int) 1

/-! ### Lines of a scan -/

/-- The pixels of an image line: those of its pigeonhole when it is valid (R195, R224). -/
def Stn.linePix (x : Stn) (h line : Nat) : Option (List Nat) :=
  (x.holes.find? (fun p => p.handle == h && p.line == line && p.valid)).map (·.pix)

/-- Tone mask of a pixel word from the active table (R236). -/
def State.toneMask (s : State) (i v : Nat) : Nat := s.rget R.EXP_S_TACT i (v / 4) / 2 ^ (8 * (v % 4)) % 256

/-- The image line that zone z of output line Y shows (R217). -/
def State.imageLine (s : State) (i : Nat) (y : Int) (z : Nat) : Int := y - s.zoffOf false i z + (s.stn i).deltaAt y

/-- Output line of beam b in scan j, unless the beam is dark (R219, R220). -/
def State.beamLine (s : State) (i lines j b : Nat) : Option Int :=
  let y := s.rOf i j + s.remapOf false i b
  if b < s.nb i && decide (s.zMin false i ≤ y) && decide (y ≤ (lines : Int) - 1 + s.zMax false i) then some y else none

/-- The masks of an output line's pixels, zone by zone; margin, missing lines and tone entries of 0 give 0, and a line not valid when
it was first needed gives 0 for good (R200, R217, R218, R236, R238). -/
def State.lineMasks (s : State) (i : Nat) (e : Env) (y : Int) : List Nat :=
  (List.range ((e.ppl + 511) / 512)).flatMap (fun z =>
    let n := min 512 (e.ppl - 512 * z)
    let l := s.imageLine i y z
    if l < 0 || (e.lines : Int) ≤ l || (s.stn i).missed.contains l.toNat then List.replicate n 0
    else match (s.stn i).linePix e.handle l.toNat with
      | some px => (List.range n).map (fun k => s.toneMask i (nth px (512 * z + k) 0))
      | none => List.replicate n 0)

/-- The masks of every beam in scan j. -/
def State.scanMasks (s : State) (i : Nat) (e : Env) (j : Nat) : List (List Nat) :=
  (List.range 32).map (fun b => match s.beamLine i e.lines j b with
    | some y => s.lineMasks i e y
    | none => [])

/-- Image lines that scan j needs and that are not valid, each once (R200, R224). -/
def State.scanMissing (s : State) (i : Nat) (e : Env) (j : Nat) : List Nat :=
  ((List.range 32).flatMap (fun b => match s.beamLine i e.lines j b with
    | some y => (List.range ((e.ppl + 511) / 512)).filterMap (fun z =>
        let l := s.imageLine i y z
        if l < 0 || (e.lines : Int) ≤ l then none
        else if ((s.stn i).linePix e.handle l.toNat).isSome then none else some l.toNat)
    | none => [])).eraseDups

/-- Blank lines of a scan, counted once per image line of the page and station (R200). -/
def State.countBlank (s : State) (i : Nat) (e : Env) (j : Nat) : State :=
  let new := (s.scanMissing i e j).filter (fun l => !(s.stn i).missed.contains l)
  if new.isEmpty then s
  else
    let s := s.setStn i { s.stn i with missed := (s.stn i).missed ++ new }
    (s.modEnv e.handle (fun e => { e with blank := e.blank + new.length })).finc F.CDC_DEC_BLANK_COUNT new.length

/-- Lines no later scan of the page needs leave their pigeonholes as scan j starts (R223). -/
def State.releaseFor (s : State) (i h j : Nat) : State :=
  let x := s.stn i
  let y := s.rOf i j + s.dMin false i
  let lo := y - s.zMax false i + x.deltaAt y
  s.setStn i { x with holes := x.holes.filter (fun p => p.handle != h || decide (lo ≤ p.line)) }

/-- Lines dropped at scan j: threshold, counters, the first drop's record, flag 778 and vector 8 (R227, R229). -/
def State.dropLines (s : State) (i h j n : Nat) (lag : Int) : State :=
  let yd := s.rOf i j + s.dMax false i + 1
  let first := !(s.stn i).dropTold
  let s := s.setStn i { s.stn i with drops := (s.stn i).drops ++ [(yd, n)], dropTold := true }
  let s := ((s.finc F.BST_S_DROPCNT_COUNT n i).finc F.BST_S_PGDROP_COUNT n i).modEnv h (fun e => { e with dropped := e.dropped + n })
  let s := if first then s.recRule 229 [i, j, unsign 16 lag, unsign 32 yd] else s
  if s.img.dropPage = h then s
  else { (s.setFlag 778).raise 8 with img := { s.img with dropPage := h } }

/-- The set-point pull-back of a drop at scan j: NB over the drum travel per written scan, at most once in 16 scans; with
a single scan written there is no travel to average, and none is made (R230). [DEDUCED, log entry 59] -/
def State.pullBack (s : State) (i j : Nat) : State :=
  let x := s.stn i
  let k := min 16 (x.caps.length - 1)
  let d := nth x.caps 0 0 - nth x.caps k 0
  let soon := match x.lastPull with | some p => decide (j < p + 16) | none => false
  if !s.fbit F.BST_S_CFG_PULLEN i || soon || k = 0 || d ≤ 0 then s
  else
    let s := s.setStn i { x with lastPull := some j }
    { s with lpe := { s.lpe with pulls := s.lpe.pulls ++
      [.pull (s.fget F.BST_S_CFG_PULLLAW i) ((s.nb i : Int) * k * s.lpc i).toNat d.toNat] } }

/-- Time, in sixteenths of a tick-PLL cycle, of n sub-slots of station i. -/
def State.slotTime (s : State) (i n : Nat) : Nat := n * 2 ^ 33 / max (s.fget F.CLK_S_PFREQ_FREQ i) 1

/-- Largest active start delay of the beams in use. -/
def State.bdlyMax (s : State) (i : Nat) : Nat := ((List.range (s.nb i)).map (fun b => s.fget F.EXP_S_BDLY_ACT i b)).foldl max 0

/-- End of the active part of a scan that starts with an edge at time t (R231, R240, R288). -/
def State.activeEnd (s : State) (i ppl t : Nat) : Nat :=
  let p := s.bdlyMax i + 8 * ppl
  let q : Int := 256 * (s.solAt i + p : Nat) + s.zonePhase i p
  t + q.toNat * 2 ^ 25 / max (s.fget F.CLK_S_PFREQ_FREQ i) 1

/-- Station i still has scans of the page IMAGING to write. -/
def State.scansLeft (s : State) (i : Nat) : Bool :=
  s.stnImaging i && !(s.stn i).finished && (s.stn i).endAt.isNone && decide ((s.stn i).page = s.imagingHandle)

/-- Stations whose last scan has ended by time t are finished, and the page completes with the last of them (R168,
R231). -/
def State.finishScans (s : State) (t : Nat) : State :=
  let h := s.imagingHandle
  let s := s.mapStn (fun _ x => match x.endAt with
    | some a => if a ≤ t then { x with endAt := none, finished := true, endTime := a, holes := x.holes.filter (fun p => p.handle != h) } else x
    | none => x)
  match s.envOf h with
  | some e =>
    if h ≠ 0 && e.state == .imaging &&
        (List.range 6).all (fun i => !e.has i || s.variant.stn ≤ i || (s.stn i).finished) then
      s.completePage h (((List.range s.variant.stn).filter e.has).foldl (fun m i => max m (s.stn i).endTime) 0)
    else s
  | none => s

/-- The banks are latched at the edge that starts scan 0 of a page on the first station to reach it (R233). -/
def State.latchFor (s : State) (h j : Nat) : State :=
  if j = 0 && s.img.latched ≠ h && s.fbit F.BST_UPDSTAT_ARMED then s.latchBanks else s

/-- KIND of the calibration run: ladder. -/
def Cal.ladder (c : Cal) : Bool := c.cfg.testBit 31

/-- The banks active now differ from those that the pattern generator used (R308). -/
def State.genDiffers (s : State) : Bool :=
  s.cal.gen.any (fun g =>
    g.2.1 != (List.range 64).map (fun z => signed 8 (s.fget F.BST_S_ZOFF_ACT g.1 z)) ||
    g.2.2 != (List.range (s.nb g.1)).map (fun b => s.fget F.BST_S_REMAP_ACT g.1 b))

/-- The run of page h is a ladder whose banks, latched at the page's scan 0, are not those of the generator (R308).
[DEDUCED, log entry 156] -/
def State.calLatch (s : State) (h : Nat) : State :=
  if (s.fget F.CAL_STAT_STATE = 1 || s.fget F.CAL_STAT_STATE = 2) && h = s.rget R.CAL_HANDLE && s.cal.ladder && s.genDiffers then
    { s with cal := { s.cal with isStale := true } }
  else s

/-- Scan 0 of a calibration page on the reference station: the values then active are kept for the run (R308, R314). -/
def State.calCapture (s : State) (i h : Nat) : State :=
  let st := s.fget F.CAL_STAT_STATE
  if (st = 1 || st = 2) && h = s.rget R.CAL_HANDLE && bits s.cal.cfg 26 24 = i && s.cal.old.isNone then
    { s with cal := { s.cal with old := some s.regs } }
  else s

/-- Scan j of station i, written in the facet of the edge at time t, is the page's last: its end is known (R220, R231). -/
def State.scanEnds (s : State) (i j t : Nat) : State :=
  match s.envOf s.imagingHandle with
  | some e =>
    if s.scanNo i = j + 1 && (j : Int) = s.lastScan i e.lines then
      s.setStn i { s.stn i with endAt := some (s.activeEnd i e.ppl t) }
    else s
  | none => s

/-- The facet decision of R227 for station i, with the drum at pcap. -/
def State.decideFacet (s : State) (i : Nat) (pcap : Int) : State :=
  match s.envOf s.imagingHandle with
  | none => s
  | some e =>
    if !s.scansLeft i then s
    else
      let j := s.scanNo i
      let l := s.latchFor e.handle j
      let d := l.rOf i j + (l.stn i).delta
      let n := l.travel i pcap
      if 2 * n < (2 * d - l.nb i) * l.lpc i then s
      else
        let s := if j = 0 then
            let l := if l.img.latched = e.handle then l else l.calLatch e.handle
            ({ l with img := { l.img with latched := e.handle } }.calCapture i e.handle).rset R.BST_S_PGDROP 0 i
          else l
        let x := n - d * s.lpc i
        let lag := satS 16 (x * 256 / s.lpc i)
        let s := s.rset R.BST_S_LAG (unsign 16 lag) i
        let s := s.releaseFor i e.handle j
        let s := s.countBlank i e j
        let masks := s.scanMasks i e j
        let s := s.setStn i { s.stn i with
          facet := { (s.stn i).facet with masks := masks }
          caps := (pcap :: (s.stn i).caps).take 17 }
        let s := s.rset R.BST_S_SCAN (j + 1) i
        if s.lpc i < 2 * x then
          let n := ((2 * x - s.lpc i + 2 * s.lpc i - 1) / (2 * s.lpc i)).toNat
          (s.dropLines i e.handle j n lag).pullBack i j
        else s

/-- Station i holds the lead of a page: every line of its first block is valid (R19, R225). -/
def State.lead (s : State) (i : Nat) (e : Env) : Bool :=
  (List.range (e.blkLines 0)).all (fun l => ((s.stn i).linePix e.handle l).isSome)

/-- BST_S_STAT of a station (R225). [DEDUCED, log entry 60] -/
def State.bstStat (s : State) (i : Nat) : Nat :=
  let x := s.stn i
  let adm := match s.envOf s.admittedHandle with | some e => s.admittedHandle ≠ 0 && e.has i | none => false
  let st := if s.stnImaging i then (if s.scanNo i = 0 then 2 else 3) else if adm then 1 else 0
  let ld := match s.envOf s.headHandle with | some e => s.headHandle ≠ 0 && e.has i && s.lead i e | none => false
  st * 2 ^ 30 + bit ld * 2 ^ 29 + min 256 x.holes.length * 2 ^ 9 + (s.window false i).toNat % 256

end Sys2Proof.Machine
end

