-- ==== Sys2Proof/Machine/Dram.lean ====
section
/-! DEFINITION. The DRAM controller: the address map, ports and deadlines, the choice of the next burst, refresh, training,
error handling, scrubbing and low-power states (R459 to R485). -/

namespace Sys2Proof.Machine

/-! ### Address map (R461) -/

/-- Where a usable byte lies in the device: bank, rank, data row, check row, check byte. -/
structure DramAddr where
  bank : Nat
  rank : Nat
  row  : Nat
  crow : Nat
  cbyte : Nat
  deriving DecidableEq, Repr

/-- The map of R461, for kr data rows per bank in rank 0. -/
def dramMap (kr a : Nat) : DramAddr :=
  let s := a / 2048
  let o := a % 2048
  let k := s / 16
  let rank := if kr ≤ k then 1 else 0
  let k := k - rank * kr
  { bank := s % 16, rank := rank, row := 8 * (k / 7) + k % 7, crow := 8 * (k / 7) + 7, cbyte := 256 * (k % 7) + o / 8 }

/-- Data rows per bank of rank 0 on a channel. -/
def State.dramKr (s : State) (c : Nat) : Nat := s.fget F.DRC_C_STAT_DENS c * 14336 * 65536 / (2048 * 16)

/-- Map of a burst address on a channel. -/
def State.burstMap (s : State) (c b : Nat) : DramAddr := dramMap (s.dramKr c) (b * 64)

/-! ### Channels -/

/-- The state with DRAM channel c replaced. -/
def State.setChan (s : State) (c : Nat) (x : DramChan) : State := { s with dramCh := s.dramCh.set c x }

/-- DRC_STAT from the channels' states. -/
def State.drcSync (s : State) : State :=
  let m (p : Nat → Bool) : Nat := ((List.range 4).map (fun c => bit (p (s.fget F.DRC_C_STAT_STATE c)) * 2 ^ c)).foldl (· + ·) 0
  s.rset R.DRC_STAT (m (· == 7) * 256 + m (fun t => 4 ≤ t && t ≤ 6) * 16 + m (· == 3))

/-- A channel enters a state. -/
def State.drcState (s : State) (c st : Nat) : State := (s.fset F.DRC_C_STAT_STATE st c).drcSync

/-- The controller's time T, `sub` tick-PLL cycles after the last phase event (R470). -/
def State.drcNow (s : State) (sub : Nat) : Nat := (s.tick * 8000 + s.phase * 500 + sub) % 2 ^ 32

/-- A port may make such a request: the decoder ports, the host window and the DMA read engine read, the encoders, the Inbox and the
DMA write engine write, ports 7 to 9 do both (Table 16-3). -/
def portDir (p : Nat) (wr : Bool) : Bool :=
  if p = 2 || p = 3 || p = 6 then wr else if p < 7 then !wr else p < 10

/-- Latency target of a port; 0 is treated as 1. -/
def State.drcLat (s : State) (p : Nat) : Nat := max (s.fget F.DRC_P_CFG_LAT p) 1

/-- The bursts a request of n bytes at a covers. -/
def burstsOf (a n : Nat) : List Nat := (List.range ((a % 64 + n + 63) / 64)).map (a / 64 + ·)

/-- DRAM_REQUEST: port `port` accepts a read or a write of 1 to 64 consecutive bursts on channel c and tags them with the
deadline (R469, R470). -/
def execDramRequest (c port : Nat) (wr : Bool) (addr : Nat) (data : List Nat) (sub : Nat) (s : State) :
    Host.Outcome State Fault Refusal :=
  .next (
    let bs := burstsOf addr data.length
    if s.variant.drch ≤ c || s.bivouac || !portDir port wr || data.isEmpty || 64 < bs.length || s.dramCap c * 65536 < addr + data.length then s
    else
      let t := s.drcNow sub
      let r : DramReq := { port := port, wr := wr, addr := addr, data := if wr then data else data.map (fun _ => 0), left := bs, bad := [], issue := t,
                           dl := (t + s.drcLat port) % 2 ^ 32 }
      s.setChan c { s.chan c with reqs := (s.chan c).reqs ++ [r] })

/-- Slack of a deadline: D − T as a signed 32-bit value (R471). -/
def slack (dl now : Nat) : Int := signed 32 (dl + 2 ^ 32 - now % 2 ^ 32)

/-- Urgency of a burst (R471). -/
def urgency (sl : Int) (lat : Nat) : Nat :=
  if sl < 0 then 3 else if 4 * sl < lat then 2 else if 2 * sl < lat then 1 else 0

/-- A port is owed on a channel: a burst pending and fewer than SHARE of the last 63 grants (R472). -/
def State.owed (s : State) (c p : Nat) : Bool :=
  ((s.chan c).grants.filter (· == p)).length < s.fget F.DRC_P_CFG_SHARE p

/-- Index of a bank of a rank in the open-row list. -/
def DramAddr.slot (a : DramAddr) : Nat := a.rank * 16 + a.bank

/-- Urgency of a request's bursts at a time. -/
def State.reqUrg (s : State) (r : DramReq) (now : Nat) : Nat := urgency (slack r.dl now) (s.drcLat r.port)

/-- A burst of urgency 1 or more is pending for a rank. -/
def State.rankUrgent (s : State) (c rank now : Nat) : Bool :=
  (s.chan c).reqs.any (fun r => 1 ≤ s.reqUrg r now && r.left.any (fun b => (s.burstMap c b).rank == rank))

/-- A rank takes no burst: a refresh stalls it, or one is due that nothing postpones (R476). -/
def State.rankHeld (s : State) (c rank sub : Nat) : Bool :=
  let x := s.chan c
  let o := x.owedOf rank (s.cycNow sub)
  s.cycNow sub < nth x.stall rank 0 || nth x.forced rank false || 8 ≤ o || (0 < o && !s.rankUrgent c rank (s.drcNow sub))

/-- The pending bursts of a channel that the order constraints let through, as (request, burst): of one port and bank in
order of acceptance, and of different ports to one burst in order of acceptance when one of them writes; where `hold`, only those of
a rank that takes bursts (R474, R476). -/
def State.candidates (s : State) (c sub : Nat) (hold : Bool) : List (Nat × Nat) :=
  let all := ((s.chan c).reqs.zipIdx.map (fun ri => ri.1.left.map (fun b => (ri.2, b)))).flatten
  let req (i : Nat) : Option DramReq := (s.chan c).reqs[i]?
  all.zipIdx.filterMap (fun cb =>
    let (i, b) := cb.1
    let blocked := (all.take cb.2).any (fun p =>
      match req p.1, req i with
      | some q, some r =>
        (q.port == r.port && (s.burstMap c p.2).slot == (s.burstMap c b).slot) ||
        (q.port != r.port && p.2 == b && (q.wr || r.wr))
      | _, _ => false)
    if blocked || (hold && s.rankHeld c (s.burstMap c b).rank sub) then none else some (i, b))

/-- The key of R473 as one number, smaller first: owed, urgency, row hit, deadline, port number. -/
def State.burstKey (s : State) (c now i b : Nat) : Nat :=
  match (s.chan c).reqs[i]? with
  | none => 0
  | some r =>
    let m := s.burstMap c b
    let miss := nth (s.chan c).rows m.slot none != some m.row
    (((bit (!s.owed c r.port) * 4 + (3 - s.reqUrg r now)) * 2 + bit miss) * 2 ^ 33 +
      (slack r.dl now + 2 ^ 31).toNat) * 16 + r.port

/-- The burst that the common key chooses (R473). [DEDUCED, log entry 95] -/
def State.chooseBurst (s : State) (c sub : Nat) (hold : Bool) : Option (Nat × Nat) :=
  ((s.candidates c sub hold).foldl (fun (m : Option (Nat × Nat × Nat)) ib =>
    let k := s.burstKey c (s.drcNow sub) ib.1 ib.2
    match m with
    | none => some (k, ib)
    | some (k', _) => if k < k' then some (k, ib) else m) none).map (·.2)

/-- A corrected or failed burst is counted and its address shown; a failed one raises flag 847 and vector 18 and is
recorded (R478). [DEDUCED, log entry 125] -/
def State.eccEvent (s : State) (c b : Nat) (uncor : Bool) : State :=
  let s := s.rset R.DRC_C_ERRADDR (bit uncor * 2 ^ 31 + b % 2 ^ 27) c
  if uncor then (((s.finc F.DRC_C_ECC_UE 1 c).setFlag 847).raise 18).recRule 478
  else (s.finc F.DRC_C_ECC_CE 1 c).absorb F.SYS_ABS0_DRAMCE

/-- The outcomes of the reads a burst takes, at most n re-reads: a read that meets an uncorrectable word is repeated. An
outcome is 0 good, 1 single-bit, 2 uncorrectable, plus 4 with a link error corrected; one not listed is good (R464, R478). -/
def readsTaken : Nat → List Nat → List Nat
  | _, [] => [0]
  | 0, e :: _ => [e]
  | n + 1, e :: es => if 2 ≤ e % 4 then e :: readsTaken n es else [e]

/-- What the reads taken give: 0 good, 1 corrected (a re-read that succeeds counts so), 2 failed (R478). -/
def readResult (es : List Nat) : Nat :=
  let l := es.getLast?.getD 0 % 4
  if 2 ≤ l then 2 else if 1 < es.length then 1 else l

/-- A write of a burst that covers part of an 8-byte word reads the burst first (R463). -/
def partialWrite (a n : Nat) : Bool := a % 8 != 0 || (a + n) % 8 != 0

/-- The check line of a burst is used: it becomes the latest of the cache's 1,024 lines, dirty where the burst is written. A line
not in the cache is fetched, and a dirty one that leaves is written back: the pairs are (line, written back) (R462).
[DESIGN CHOICE, log entry 127] -/
def DramChan.useLine (x : DramChan) (line : Nat) (wr : Bool) : DramChan × List (Nat × Bool) :=
  let dirty := wr || x.check.any (fun l => l.1 == line && l.2)
  let rest := x.check.filter (fun l => l.1 != line)
  let full := (line, dirty) :: rest
  let out := (full.drop 1024).filterMap (fun l => if l.2 then some (l.1, true) else none)
  ({ x with check := full.take 1024 }, out ++ (if x.check.any (fun l => l.1 == line) then [] else [(line, false)]))

/-- A burst is issued to the device for a port: it counts as a grant, opens its row, and uses its check line (R461, R462, R472). -/
def State.burstIssued (s : State) (c port b : Nat) (wr : Bool) : State :=
  let m := s.burstMap c b
  let xl := (s.chan c).useLine (b / 8) wr
  let s := s.setChan c { xl.1 with grants := (port :: xl.1.grants).take 63, rows := xl.1.rows.set m.slot (some m.row) }
  xl.2.foldl (fun s l => s.emit (.dramCheck c l.1 l.2)) s

/-- The next burst by the common key is issued on channel c, to a rank that takes bursts where `hold`; errs are the outcomes of the
reads it takes. A read takes the burst's bytes, a failed one zeros (R462 to R464, R471 to R474, R478, R479).
[DESIGN CHOICE, log entry 96] -/
def State.grantBurst (s : State) (c sub : Nat) (hold : Bool) (errs : List Nat) : State :=
  let now := s.drcNow sub
  match s.chooseBurst c sub hold with
  | none => s
  | some (i, b) =>
    let x := s.chan c
    match x.reqs[i]? with
    | none => s
    | some r =>
      let m := s.burstMap c b
      let hit := nth x.rows m.slot none == some m.row
      let u := s.reqUrg r now
      let passes := hit && x.reqs.any (fun q => s.reqUrg q now == u && q.left.any (fun b' =>
        (s.burstMap c b').slot == m.slot && (s.burstMap c b').row != m.row))
      let n := if passes then nth x.passes m.slot 0 + 1 else 0
      let lo := max r.addr (b * 64)
      let hi := min (r.addr + r.data.length) (b * 64 + 64)
      let reads := if !r.wr || partialWrite lo (hi - lo) then readsTaken (s.fget F.DRC_CFG_RETRY) errs else []
      let out := readResult reads
      let got := if r.wr || out = 2 then r.data
                 else r.data.take (lo - r.addr) ++ s.dramGet c lo (hi - lo) ++ r.data.drop (hi - r.addr)
      let r' := { r with left := r.left.filter (· != b), bad := if out = 2 then r.bad ++ [b] else r.bad, data := got }
      let s := s.burstIssued c r.port b (r.wr && out ≠ 2)
      let y := s.chan c
      let s := s.setChan c { y with
        reqs := y.reqs.set i r'
        rows := if 16 ≤ n then y.rows.set m.slot none else y.rows
        passes := y.passes.set m.slot (if 16 ≤ n then 0 else n) }
      let s := if u = 3 then s.finc F.DRC_P_STAT_LATE 1 r.port else s
      let wait := (now + 2 ^ 32 - r.issue) % 2 ^ 32 / 16
      let s := if s.fget F.DRC_P_STAT_MAXWAIT r.port < wait then s.fset F.DRC_P_STAT_MAXWAIT (min wait 65535) r.port else s
      let s := if x.link then s.finc F.DRC_C_LINKCE_COUNT (reads.filter (4 ≤ ·)).length c else s
      let s := if out = 0 then s else s.eccEvent c b (out == 2)
      if r.wr && out ≠ 2 then s.dramPut c lo ((r.data.drop (lo - r.addr)).take (hi - lo)) else s

/-- BURST_GRANT on channel c, ready: its scheduler issues the next burst (R473). -/
def execBurstGrant (c sub : Nat) (errs : List Nat) (s : State) : Host.Outcome State Fault Refusal :=
  .next (if s.fget F.DRC_C_STAT_STATE c = 3 then s.grantBurst c sub true errs else s)

/-- The oldest request of a channel of a direction with no burst left. -/
def State.doneReq (s : State) (c : Nat) (wr : Bool) : Option (Nat × DramReq) :=
  ((s.chan c).reqs.zipIdx.find? (fun ri => ri.1.wr == wr && ri.1.left.isEmpty)).map (fun ri => (ri.2, ri.1))

/-- The oldest read of a channel with no burst left is answered GOOD, or PARTIAL with its failed bursts (R479). -/
def State.readDone (s : State) (c : Nat) : State :=
  match s.doneReq c false with
  | none => s
  | some (i, r) =>
    (s.setChan c { s.chan c with reqs := (s.chan c).reqs.eraseIdx i }).emit (.dramDone c r.port false r.bad r.data)

/-- DRAM_READ_COMPLETE (R479). -/
def execDramReadComplete (c : Nat) (s : State) : Host.Outcome State Fault Refusal := .next (s.readDone c)

/-- The oldest write of a channel with no burst left is answered, FAILED if a part failed; a channel FAILED, or retraining
beyond 1 ms, fails the oldest write that waits. A failed Inbox write makes its block invalid (R480). -/
def State.writeDone (s : State) (c : Nat) : State :=
  let st := s.fget F.DRC_C_STAT_STATE c
  let late := match (s.chan c).retrainAt with | some t => decide (t + 50 < s.elapsed) | none => false
  let wait := if st = 7 || (st = 2 && late) then ((s.chan c).reqs.zipIdx.find? (fun ri => ri.1.wr)).map (fun ri => (ri.2, ri.1)) else none
  match (s.doneReq c true).or wait with
  | none => s
  | some (i, r) =>
    let bad := r.bad ++ r.left
    let s := (s.setChan c { s.chan c with reqs := (s.chan c).reqs.eraseIdx i }).emit (.dramDone c r.port true bad [])
    if r.port = 3 && !bad.isEmpty then s.inboxWriteFailed c r.addr else s

/-- DRAM_WRITE_COMPLETE (R480). -/
def execDramWriteComplete (c : Nat) (s : State) : Host.Outcome State Fault Refusal := .next (s.writeDone c)

/-- Every accepted request of a ready channel completes, its bursts in the order of the common key (step 1 of R482).
[DEDUCED, log entry 97] -/
def State.drainChan (s : State) (c : Nat) : State :=
  if s.fget F.DRC_C_STAT_STATE c ≠ 3 then s
  else
    let rq := (s.chan c).reqs
    let n := (rq.map (fun r => r.left.length)).foldl (· + ·) 0
    let s := (List.range n).foldl (fun s _ => s.grantBurst c 0 false []) s
    rq.foldl (fun s r => if r.wr then s.writeDone c else s.readDone c) s

/-! ### Refresh (R476, R477) -/

/-- The refresh interval at REFX in fifths of a tick-PLL cycle: 3.906 µs, 7,812 fifths, by the multiplier (R476, Table 16-6). -/
def refInterval (refx : Nat) : Nat := nth [31248, 15624, 7812, 3906, 1953] refx 1953

/-- The stall of an all-bank refresh in tick-PLL cycles, by the rank's GiB (Table 16-4). -/
def refStall (dens : Nat) : Nat := if dens = 1 then 116 else if dens = 2 then 144 else 184

/-- REFRESH of a rank: the intervals that have passed are added to the refreshes owed. One is issued unless a burst of urgency 1 or
more waits; early by at most 8 while nothing waits; and from 8 owed ahead of every burst until 4 remain. A refresh issued precharges
every bank of its rank and stalls it, and the interval follows REFX from it on (R476, R477, Table 16-4). -/
def execRefresh (c rank sub : Nat) (s : State) : Host.Outcome State Fault Refusal :=
  .next (
    if s.fget F.DRC_C_STAT_STATE c ≠ 3 || s.fget F.DRC_C_STAT_RANKS c ≤ rank then s
    else
      let x := s.chan c
      let cyc := s.cycNow sub
      let o := x.owedOf rank cyc
      let due := nth x.refDue rank 0 + x.fallen rank cyc * nth x.refInt rank 0
      let forced := nth x.forced rank false || 8 ≤ o
      let pend := x.reqs.any (fun r => r.left.any (fun b => (s.burstMap c b).rank == rank))
      let issue := nth x.stall rank 0 ≤ cyc && (forced || (0 < o && !s.rankUrgent c rank (s.drcNow sub)) || (!pend && -8 < o))
      let o' := if issue then o - 1 else o
      let x := { x with owed := x.owed.set rank o', refDue := x.refDue.set rank due, forced := x.forced.set rank (forced && decide (4 < o')) }
      let x := if issue then
          { x with
            rows := x.rows.zipIdx.map (fun (ri : Option Nat × Nat) => if ri.2 / 16 = rank then none else ri.1)
            refInt := x.refInt.set rank (refInterval (s.fget F.DRC_C_STAT_REFX c))
            stall := x.stall.set rank (cyc + refStall (s.fget F.DRC_C_STAT_DENS c)) }
        else x
      let s := s.setChan c x
      if issue then s.emit (.dramCmd c 1) else s)

/-- MR4_READ, due every 1 ms: REFX takes the highest rate the ranks report; above the devices' range it is 5, with flag 848, vector
18 and a record (R477). -/
def execMr4Read (c : Nat) (rates : List Nat) (s : State) : Host.Outcome State Fault Refusal :=
  .next (
    if s.fget F.DRC_C_STAT_STATE c ≠ 3 || s.elapsed < (s.chan c).mr4Due then s
    else
      let rate := (rates.take (s.fget F.DRC_C_STAT_RANKS c)).foldl max 0
      let s := (s.setChan c { s.chan c with mr4Due := s.elapsed + 50 }).fset F.DRC_C_STAT_REFX (min rate 5) c
      if 5 ≤ rate then ((s.setFlag 848).raise 18).recRule 477 else s)

/-- WCK_OSCILLATOR_READ, due every 100 ms and at the exit from self-refresh: the write deskew of every bit moves by the drift
measured since the last reading, in 1/64 UI; beyond 8 from the baseline DRIFT and flag 848 are set (R467, R482).
[DESIGN CHOICE, log entry 175] -/
def execWckOscillatorRead (c : Nat) (drift : Int) (s : State) : Host.Outcome State Fault Refusal :=
  .next (
    if s.fget F.DRC_C_STAT_STATE c ≠ 3 || s.elapsed < (s.chan c).oscDue then s
    else
      let tot := (s.chan c).drift + drift
      let s := s.setChan c { s.chan c with drift := tot, oscDue := s.elapsed + 5000 }
      let s := (List.range 16).foldl (fun s i =>
        s.fset F.DRC_C_BIT_WDSK (unsign 8 (s.fget F.DRC_C_BIT_WDSK c i + drift)) c i) s
      if 8 < tot || tot < -8 then (((s.fset F.DRC_C_STAT_DRIFT 1 c).setFlag 848).raise 18).recRule 467 else s)

/-! ### Training -/

/-- A channel begins its training: every open row is closed (R465). -/
def State.trainStart (s : State) (c : Nat) : State :=
  if s.variant.drch ≤ c then s
  else (s.setChan c { s.chan c with rows := List.replicate 32 none, passes := List.replicate 32 0, drift := 0, retrainAt := none }).drcState c 2

/-- RETRAIN, only while no page is ADMITTED or IMAGING; in Bivouac mode no channel is trained (R468, R484). -/
def State.retrain (s : State) (c : Nat) : State :=
  if s.variant.drch ≤ c || s.bivouac then s
  else if s.pageBusy then s.recRule 468
  else
    let s := s.trainStart c
    s.setChan c { s.chan c with retrainAt := some s.elapsed }

/-- RETRAIN (R468). -/
def execRetrain (c : Nat) (s : State) : Host.Outcome State Fault Refusal := .next (s.retrain c)

/-- A channel becomes ready: its refreshes, the MR4 readings, and an oscillator reading at `osc` are due from now on (R467, R476,
R477). [DEDUCED, log entry 128] -/
def State.chanReady (s : State) (c osc : Nat) : State :=
  let i := refInterval (s.fget F.DRC_C_STAT_REFX c)
  let d := 5 * s.cycNow 0 + i
  (s.setChan c { s.chan c with owed := [0, 0], forced := [false, false], refDue := [d, d], refInt := [i, i], stall := [0, 0],
                               oscDue := osc, mr4Due := s.elapsed + 50, retrainAt := none }).drcState c 3

/-- The devices of a channel are among Table 16-1 (R460). -/
def deviceOk (ranks dens : Nat) : Bool :=
  (ranks = 1 || ranks = 2) && (dens = 1 || dens = 2 || dens = 4) && !(ranks = 1 && dens = 1)

/-- The failing step of one try, from the narrowest eye of each of the steps 2 to 5 in 1/64 UI and whether step 6 aligned the lanes; 0
where none fails. An eye narrower than 0.25 UI fails its step (R466). -/
def trainStep (t : TrainTry) : Nat :=
  match (List.range 4).find? (fun k => nth t.eyes k 0 < 16) with
  | some k => k + 2
  | none => if t.aligned then 0 else 6

/-- The rate at which a training begins: the channel's RATE; reserved codes count as 6,400 MT/s.
[DESIGN CHOICE, log entry 129] -/
def State.trainRate (s : State) (c : Nat) : Nat := min (s.fget F.DRC_C_CFG_RATE c) 3

/-- What a channel's tries at RATE and at each lower rate in turn give: the rate of the first that succeeds, or the failing step of the
one at 3,200 MT/s; nothing where the tries do not end the training (R466). -/
def State.trainEnd (s : State) (c : Nat) (tries : List TrainTry) : Option (Nat × Nat) :=
  let top := s.trainRate c
  let steps := (tries.take (top + 1)).map trainStep
  match steps.findIdx? (· == 0) with
  | some k => some (top - k, 0)
  | none => if steps.length = top + 1 then steps.getLast?.map (fun e => (0, e)) else none

/-- A channel's training ends ready at a RATE code, with the deskew of its bits and the Vref and phase of its bytes as found (R464,
R465, R466). -/
def State.trainedAt (s : State) (c rate : Nat) (bits bytes : List Nat) : State :=
  let s := (List.range 16).foldl (fun s i => s.rset R.DRC_C_BIT (nth bits i 0 % 2 ^ 24 / 256 * 256) c i) s
  let s := (List.range 2).foldl (fun s i => s.rset R.DRC_C_BYTE (nth bytes i 0 &&& 0xFFFF00FF) c i) s
  let s := s.setChan c { s.chan c with link := s.fbit F.DRC_C_CFG_LINKECC c && rate != 0 && s.fget F.DRC_C_CFG_RATE c != 0 }
  let s := s.chanReady c (s.elapsed + 5000)
  if rate < s.trainRate c then (((s.fset F.DRC_C_STAT_DOWNRATE 1 c).setFlag 848).raise 18).recRule 466 else s

/-- DRAM_TRAINING: the controller has read the ranks and their density and made its tries. Devices outside Table 16-1 fail in step 1;
otherwise the first try that succeeds makes the channel ready, and the failure of the last one, at 3,200 MT/s, FAILED (R460, R465,
R466). -/
def State.trained (s : State) (c : Nat) (tries : List TrainTry) (ranks dens : Nat) (bits bytes : List Nat) : State :=
  if s.fget F.DRC_C_STAT_STATE c ≠ 2 || s.variant.drch ≤ c then s
  else
    match if deviceOk ranks dens then s.trainEnd c tries else some (0, 1) with
    | none => s
    | some (rate, step) =>
      let s := (s.fset F.DRC_C_STAT_RANKS ranks c).fset F.DRC_C_STAT_DENS dens c
      let s := (s.fset F.DRC_C_STAT_TRERR step c).fset F.DRC_C_STAT_DOWNRATE 0 c
      if step ≠ 0 then s.drcState c 7 else s.trainedAt c rate bits bytes

/-! ### Scrubbing (R481) -/

/-- The period of the patrol scrubber in ticks. -/
def State.scrubPeriod (s : State) : Nat := max (s.fget F.DRC_SCRUB_HOURS) 1 * 180000000

/-- The scrubber's next burst is due: each pass takes one period, in ascending address order, evenly.
[DESIGN CHOICE, log entry 130] -/
def State.scrubDue (s : State) (c : Nat) : Bool :=
  (s.chan c).scrub * s.scrubPeriod ≤ (s.elapsed - (s.chan c).scrubFrom) * (s.dramCap c * 1024)

/-- SCRUB: the patrol scrubber reads the next burst once it is due; a single-bit error is written back corrected, an uncorrectable
burst is left as it is. After the last burst the next pass begins a period after the last one (R478, R481). -/
def execScrub (c : Nat) (errs : List Nat) (s : State) : Host.Outcome State Fault Refusal :=
  .next (
    let x := s.chan c
    let b := x.scrub
    if s.fget F.DRC_C_STAT_STATE c ≠ 3 || !s.fbit F.DRC_SCRUB_EN || !s.scrubDue c || s.rankHeld c (s.burstMap c b).rank 0 then s
    else
      let reads := readsTaken (s.fget F.DRC_CFG_RETRY) errs
      let out := readResult reads
      let s := s.burstIssued c 8 b (out == 1)
      let s := if x.link then s.finc F.DRC_C_LINKCE_COUNT (reads.filter (4 ≤ ·)).length c else s
      let s := if out = 0 then s else s.eccEvent c b (out == 2)
      let last := s.dramCap c * 1024 ≤ b + 1
      s.setChan c { s.chan c with scrub := if last then 0 else b + 1
                                  scrubFrom := if last then x.scrubFrom + s.scrubPeriod else x.scrubFrom })

/-- A write of DRC_P{p}_CFG: one that takes the sum of the shares above 64 is ignored and recorded (R475). -/
def State.drcPortWrite (s : State) (p v : Nat) : State :=
  let sum := ((List.range 10).map (fun q => if q = p then bits v 13 8 else s.fget F.DRC_P_CFG_SHARE q)).foldl (· + ·) 0
  if 64 < sum then s.recRule 475 else s.rset R.DRC_P_CFG (bits v 31 16 * 65536 + bits v 13 8 * 256) p

/-- A ready channel enters a self-refresh state: every accepted request completes, dirty check lines are written back, then it enters
(R482). -/
def State.selfRefresh (s : State) (c st : Nat) : State :=
  let s := s.drainChan c
  let s := ((s.chan c).check.filter (·.2)).foldl (fun s l => s.emit (.dramCheck c l.1 true)) s
  (s.setChan c { s.chan c with check := (s.chan c).check.map (fun l => (l.1, false)), rows := List.replicate 32 none,
                               srAt := s.elapsed }).drcState c st

/-- Entry of STANDBY (R482). -/
def State.drcStandby (s : State) : State :=
  (List.range 4).foldl (fun s c => if s.fget F.DRC_C_STAT_STATE c = 3 then s.selfRefresh c 4 else s) s

/-- Exit from self-refresh: the oscillator reading is due, and the scrubber resumes where it stopped (R481, R482). -/
def State.drcWake (s : State) : State :=
  (List.range 4).foldl (fun s c =>
    if s.fget F.DRC_C_STAT_STATE c = 4 then
      (s.setChan c { s.chan c with scrubFrom := (s.chan c).scrubFrom + (s.elapsed - (s.chan c).srAt) }).chanReady c s.elapsed
    else s) s

/-- Entry of SLEEP: channel 0 into partial-array self-refresh with the retained region kept, the others into deep sleep;
everything outside the retained region is lost (R483). -/
def State.drcSleep (s : State) : State :=
  let s := (List.range 4).foldl (fun s c =>
    let st := s.fget F.DRC_C_STAT_STATE c
    let dst := if c = 0 then 5 else 6
    let s := if st = 3 then s.selfRefresh c dst else if st = 4 then s.drcState c dst else s
    s.setChan c { s.chan c with check := [] }) s
  { s with dram := s.dram.filter (fun x => x.1 < s.fget F.PLC_RETAIN_GRAN * 65536) }

end Sys2Proof.Machine
end

