-- ==== Sys2Proof/Machine/Dma.lean ====
section
/-! DEFINITION. The DMA engine: slots, starts, channel programs, MOVE and its chunks, errors, abort and disable (R486 to
R507). -/

namespace Sys2Proof.Machine

/-! ### Channels and slots -/

/-- DMA channel c. -/
def State.dmaCh (s : State) (c : Nat) : DmaChan := nth s.dma c DmaChan.blank

/-- The state with DMA channel c replaced. -/
def State.setDma (s : State) (c : Nat) (x : DmaChan) : State := { s with dma := s.dma.set c x }

/-- STATE of a channel (Table 17-2). -/
def State.dmaSt (s : State) (c : Nat) : Nat := s.fget F.DMA_C_STAT_STATE c

/-- A channel is RUNNING, WAITING or ABORTING: neither OFF nor idle. -/
def State.dmaBusy (s : State) (c : Nat) : Bool := 2 ≤ s.dmaSt c && s.dmaSt c ≤ 4

/-- A channel is sequencer-owned (R486). -/
def State.dmaSeq (s : State) (c : Nat) : Bool := s.fbit F.DMA_C_CFG_SEQ c

/-- Slots of a channel. -/
def State.dmaSlots (s : State) (c : Nat) : Nat := s.fget F.DMA_C_CFG_SLOTS c

/-- DMA_STAT and PLC_DMASLOT brought up to date. -/
def State.dmaSync (s : State) : State :=
  let used := ((List.range 64).map s.dmaSlots).foldl (· + ·) 0
  let act := ((List.range 64).filter s.dmaBusy).length
  ((s.fset F.DMA_STAT_ACTIVE act).fset F.DMA_STAT_FREE (256 - used)).fset F.PLC_DMASLOT_USED used

/-- A channel enters a state. -/
def State.dmaState (s : State) (c st : Nat) : State := (s.fset F.DMA_C_STAT_STATE st c).dmaSync

/-- Slot i is held by a channel. -/
def State.slotHeld (s : State) (i : Nat) : Bool :=
  (List.range 64).any (fun c => s.fget F.DMA_C_SLOT_BASE c ≤ i && i < s.fget F.DMA_C_SLOT_BASE c + s.dmaSlots c)

/-- n slots from b on are free. -/
def State.runFree (s : State) (n b : Nat) : Bool :=
  b + n ≤ 256 && (List.range 64).all (fun c =>
    s.dmaSlots c == 0 || b + n ≤ s.fget F.DMA_C_SLOT_BASE c || s.fget F.DMA_C_SLOT_BASE c + s.dmaSlots c ≤ b)

/-- The base of a run of n free slots: the lowest for a declared channel, the highest for a host-owned one (R51). -/
def State.slotRun (s : State) (n : Nat) (low : Bool) : Option Nat :=
  if low then findBelow 256 (s.runFree n)
  else ((List.range 256).reverse).find? (s.runFree n)

/-- A channel's slots are freed. -/
def State.freeSlots (s : State) (c : Nat) : State :=
  ((s.fset F.DMA_C_CFG_SLOTS 0 c).fset F.DMA_C_SLOT_BASE 0 c).dmaSync

/-- A SLOTS request of a host-owned channel (R51, R489). -/
def State.slotsRequest (s : State) (c n : Nat) : State :=
  let s := s.freeSlots c
  if n = 0 then s.fset F.DMA_C_CFG_CFGERR 0 c
  else if n = 1 || 64 < n then s.fset F.DMA_C_CFG_CFGERR 1 c
  else match s.slotRun n false with
    | none => s.fset F.DMA_C_CFG_CFGERR 1 c
    | some b => (((s.fset F.DMA_C_CFG_CFGERR 0 c).fset F.DMA_C_CFG_SLOTS n c).fset F.DMA_C_SLOT_BASE b c).dmaSync

/-- A write of DMA_C_CFG (R489). -/
def State.dmaCfgWrite (s : State) (c v : Nat) : State :=
  if s.dmaSeq c then s.recRule 489
  else if s.dmaBusy c then s.recRwi R.DMA_C_CFG v c
  else ((s.fset F.DMA_C_CFG_PRIO (bits v 29 28) c).fset F.DMA_C_CFG_CLAT (bits v 15 0) c).slotsRequest c (bits v 26 20)

/-- SLOTS_WRITE (R489). -/
def execSlotsWrite (c n : Nat) (s : State) : Host.Outcome State Fault Refusal :=
  .next (if 64 ≤ c then s
    else s.dmaCfgWrite c (putBits (s.rget R.DMA_C_CFG c) 26 20 n))

/-! ### Programs (R492) -/

/-- Instruction i of a channel's program buffer. -/
def State.dmaProg (s : State) (c i : Nat) : Nat := s.rget R.DMA_C_PROG_LO c i + 2 ^ 32 * s.rget R.DMA_C_PROG_HI c i

/-- Opcode of an instruction. -/
def dmaOp (w : Nat) : Nat := bits w 63 60

/-- Instruction w at index i is legal (R492, Table 17-3). -/
def dmaLegal (i w : Nat) : Bool :=
  match dmaOp w with
  | 1 =>
    let ssp := bits w 59 58
    let dsp := bits w 57 56
    let len := bits w 47 24
    bits w 48 48 == 0 && bits w 23 0 == 0 && !(ssp == 3 && dsp == 3) && !(ssp == 3 && len != 0) && !(ssp != 3 && len == 0) &&
      !(ssp != 3 && bitAt w 49) && !(dsp == 3 && (len % 8 != 0 || len < 8 || 32 - 8 * bits w 53 52 < len))
  | 2 => bits w 58 48 == 0 && bits w 31 6 == 0 && bits w 5 0 != 0 && bits w 5 0 ≤ i
  | 3 =>
    let kind := bits w 59 58
    bits w 55 34 == 0 &&
      (match kind with
        | 0 => !bitAt w 56 && bits w 23 0 == 0
        | 1 => !bitAt w 57 && !bitAt w 56 && bits w 33 24 == 0 && bits w 23 0 != 0
        | 2 => !bitAt w 57 && bits w 33 24 == 0 && bits w 23 0 == 0
        | _ => false)
  | 4 =>
    let flag := bits w 41 32
    let vec := bits w 5 0
    bits w 56 42 == 0 && bits w 31 6 == 0 && (bitAt w 59 || bitAt w 58 || bitAt w 57) &&
      !(bitAt w 59 && 767 < flag) && !(bitAt w 57 && vec < 32) && (bitAt w 59 || flag == 0) && (bitAt w 57 || vec == 0)
  | 5 => bits w 59 0 == 0
  | _ => false

/-- A program up to and including its first END, of at most 64 instructions; none without an END. -/
def upToEnd (ws : List Nat) : Option (List Nat) :=
  let p := (ws.take 64).takeWhile (fun w => dmaOp w != 5)
  if p.length < min 64 ws.length then some (p ++ [nth ws p.length 0]) else none

/-- The encoders that a program names in a ring MOVE or a WAIT for a descriptor. -/
def dmaEncs (p : List Nat) : List Nat :=
  p.filterMap (fun w =>
    if dmaOp w = 1 && bits w 59 58 = 3 then some (bits w 49 49)
    else if dmaOp w = 3 && bits w 59 58 = 2 then some (bits w 56 56) else none)

/-- The program in channel c's buffer. -/
def State.dmaBuffer (s : State) (c : Nat) : List Nat := (List.range 64).map (s.dmaProg c)

/-- An encoder is absent, or named by another channel that is not idle. -/
def State.encTaken (s : State) (c e : Nat) : Bool :=
  s.variant.encl ≤ e || (List.range 64).any (fun d => d != c && s.dmaBusy d &&
    (match upToEnd (s.dmaBuffer d) with | some p => (dmaEncs p).contains e | none => false))

/-- Why a start is refused: a host GO on a sequencer-owned channel always with 7, else the lowest code that applies; 0 when it is made
(Table 17-2, R486, R491). [DEDUCED, log entry 100] -/
def State.dmaRefuse (s : State) (c : Nat) (k : DmaStart) : Nat :=
  let ws := match k with | .host => s.dmaBuffer c | .prog p => p | .badAddr => []
  if k = .host && s.dmaSeq c then 7
  else if s.dmaBusy c then 1
  else if !s.fbit F.DMA_C_CTRL_EN c || s.dmaSlots c = 0 then 2
  else if k = .badAddr then 3
  else match upToEnd ws with
    | none => 4
    | some p =>
      if p.zipIdx.any (fun wi => !dmaLegal wi.2 wi.1) then 5
      else if (dmaEncs p).any (s.encTaken c) then 6
      else 0

/-- A start is made or refused (R491). -/
def State.dmaStart (s : State) (c : Nat) (k : DmaStart) : State :=
  match s.dmaRefuse c k with
  | 0 =>
    let s := match k with
      | .prog p => (p.zipIdx).foldl (fun (s : State) (wi : Nat × Nat) =>
          (s.rset R.DMA_C_PROG_LO (wi.1 % 2 ^ 32) c wi.2).rset R.DMA_C_PROG_HI (wi.1 / 2 ^ 32) c wi.2) s
      | _ => s
    let s := ((s.rset R.DMA_C_LC 0 c).rset R.DMA_C_REM 0 c).fset F.DMA_C_STAT_PC 0 c
    let s := (s.fset F.DMA_C_STAT_ERRCODE 0 c).fset F.DMA_C_STAT_ABORT_LATE 0 c
    (s.setDma c { s.dmaCh c with move := none }).dmaState c 2
  | r => ((s.fset F.DMA_C_STAT_REFUSED 1 c).fset F.DMA_C_STAT_REFCODE r c).recRule 491

/-- The starts due on channel c are made or refused in order: they belong to one moment, so at most one of them is made (R140,
R490). -/
def State.dmaStarts (s : State) (c : Nat) : State :=
  (s.dmaCh c).starts.foldl (fun s k => s.dmaStart c k) (s.setDma c { s.dmaCh c with starts := [] })

/-- DMA_START: the starts due on channel c since phase 0 are made or refused (R140, R490, R491). -/
def execDmaStart (c : Nat) (s : State) : Host.Outcome State Fault Refusal :=
  .next (if s.phase = 0 then s.dmaStarts c else s)

/-- Every start still due is made or refused, channel by channel: they belong to phase 0 (R490). -/
def State.dmaStartsDue (s : State) : State := (List.range 64).foldl State.dmaStarts s

/-- The program at a byte address of shared data as a released DMAGO copies it (R490, Table 17-2). -/
def State.dmaCopy (s : State) (a : Nat) : DmaStart :=
  if a % 8 ≠ 0 || 0x400000 ≤ a then .badAddr
  else
    let n := min 64 ((0x400000 - a) / 8)
    let ws := (List.range n).map (fun i => memRead s.data (a + 8 * i) 8)
    match upToEnd ws with
    | some p => .prog p
    | none => .prog ws

/-- DMA_GO: a host GO waits for the next phase 0 (R490). -/
def execDmaGo (c : Nat) (s : State) : Host.Outcome State Fault Refusal :=
  .next (if c < 64 then s.setDma c { s.dmaCh c with go := true } else s)

/-! ### Ends and errors -/

/-- Address register k of a channel. -/
def State.dmaA (s : State) (c k : Nat) : Nat := s.rget R.DMA_C_A_LO c k + 2 ^ 32 * s.rget R.DMA_C_A_HI c k

/-- Address register k of a channel set. -/
def State.dmaPutA (s : State) (c k v : Nat) : State :=
  (s.rset R.DMA_C_A_LO (v % 2 ^ 32) c k).rset R.DMA_C_A_HI (v / 2 ^ 32 % 2 ^ 32) c k

/-- The descriptor of encoder e's ring that a MOVE has taken is free to be taken again (R497). -/
def State.untake (s : State) (m : DmaMove) : State :=
  if m.ssp = 3 then
    s.setEnc m.enc { s.enc m.enc with desc := (s.enc m.enc).desc.map (fun d => { d with taken := false }) }
  else s

/-- The channel halts in ERROR: address, space, code; flag 913, vector 19 and a record (R503, R504). -/
def State.dmaHalt (s : State) (c code space addr : Nat) : State :=
  let s := match (s.dmaCh c).move with | some m => s.untake m | none => s
  let s := (s.setDma c { s.dmaCh c with move := none }).fset F.DMA_C_STAT_ERRCODE code c
  let s := (s.rset R.DMA_ERRADDR_LO (addr % 2 ^ 32)).rset R.DMA_ERRADDR_HI (addr / 2 ^ 32 % 2 ^ 32)
  let s := s.rset R.DMA_ERRINFO (code * 2 ^ 28 + space * 2 ^ 26 + c)
  (((s.dmaState c 7).setFlag 913).raise 19).recRule 503

/-- The channel goes on with its next instruction. -/
def State.dmaNext (s : State) (c : Nat) : State :=
  (s.fset F.DMA_C_STAT_PC (s.fget F.DMA_C_STAT_PC c + 1) c).dmaState c 2

/-- The instruction at a channel's PC. -/
def State.dmaInstr (s : State) (c : Nat) : Nat := s.dmaProg c (s.fget F.DMA_C_STAT_PC c)

/-- A channel executes instructions: RUNNING, with no MOVE in progress. -/
def State.dmaRuns (s : State) (c op : Nat) : Bool :=
  c < 64 && s.dmaSt c == 2 && (s.dmaCh c).move.isNone && dmaOp (s.dmaInstr c) == op

/-! ### MOVE -/

/-- Granules of the resume area RG (R538). -/
def State.resumeGran (s : State) : Nat := if s.variant.isX0 then 960 else 192

/-- End of what DMA may write on channel 0: the retained region without its resume area (R493, R538). -/
def State.dmaTop (s : State) : Nat :=
  let g := s.fget F.PLC_RETAIN_GRAN
  (if s.resumeGran ≤ g then g - s.resumeGran else g) * 65536

/-- n bytes at an address lie in a space (Table 17-4). -/
def State.inSpace (s : State) (sp a n : Nat) : Bool :=
  match sp with
  | 0 => bits a 39 33 == 0 && a / 2 ^ 42 == 0 && bits a 32 0 + n ≤ s.dramCap (bits a 41 40) * 65536
  | 1 => a + n ≤ 2 ^ 64
  | 2 => a < 2 ^ 26 && inData s.variant.isX0 a n
  | _ => true

/-- ERRCODE of a destination: ADDR, PROT or none (R493). -/
def State.dstErr (s : State) (sp a n : Nat) : Nat :=
  if !s.inSpace sp a n then 1
  else if sp = 0 && (bits a 41 40 ≠ 0 || s.dmaTop < bits a 32 0 + n) then 2 else 0

/-- Where offset o of a ring MOVE lies: channel and address (R497). -/
def State.ringAddr (s : State) (m : DmaMove) (o : Nat) : Nat :=
  let r := max (s.encRing m.enc) 1
  s.fget F.CDC_E_RINGLOC_CH m.enc * 2 ^ 40 + s.fget F.CDC_E_RINGLOC_GRAN m.enc * 65536 + (m.src + (o - 8)) % r

/-- Source address of offset o of a MOVE. -/
def State.srcAddr (s : State) (m : DmaMove) (o : Nat) : Nat := if m.ssp = 3 then s.ringAddr m o else m.src + o

/-- Slots that the chunks in flight hold. -/
def DmaMove.inFlight (m : DmaMove) : Nat := (m.chunks.filter (·.slot)).length

/-- Bytes of the current MOVE not yet handed to the write engine (R495). -/
def State.dmaRem (s : State) (c : Nat) : State :=
  match (s.dmaCh c).move with
  | some m => s.rset R.DMA_C_REM ((m.len - m.given) % 2 ^ 24) c
  | none => s

/-- The next chunk of a MOVE is issued when a slot is free, up to the next 4 KiB boundary of the source (R494). -/
def State.dmaIssue1 (s : State) (c : Nat) : State :=
  match (s.dmaCh c).move with
  | none => s
  | some m =>
    if s.dmaSt c ≠ 2 || m.len ≤ m.issued || s.dmaSlots c ≤ m.inFlight then s
    else
      let a := s.srcAddr m m.issued
      let n := min (m.len - m.issued) (4096 - a % 4096)
      let sp := if m.ssp = 3 then 0 else m.ssp
      if !s.inSpace sp a n then s.dmaHalt c 1 sp a
      else
        let k : DmaChunk := { off := m.issued, len := n, data := none, tries := 0, slot := true, ready := s.drcNow 0 }
        let s := s.setDma c { s.dmaCh c with move := some { m with issued := m.issued + n, chunks := m.chunks ++ [k] } }
        if m.ssp = 1 then s.emit (.hostRead a n) else s

/-- The oldest chunk, once its data is there, goes to the write engine: its destination is checked; a host chunk is posted
and a gathered one kept, and both leave their slot (R493 to R496). -/
def State.dmaHand1 (s : State) (c : Nat) : State :=
  match (s.dmaCh c).move with
  | none => s
  | some m =>
    match m.chunks with
    | [] => s
    | k :: ks =>
      match k.data with
      | none => s
      | some d =>
        if k.off < m.given then s
        else
          let a := m.dst + k.off
          let e := if m.dsp = 3 then 0 else s.dstErr m.dsp a k.len
          if e ≠ 0 then s.dmaHalt c e m.dsp a
          else
            let m := { m with given := k.off + k.len }
            let put (m : DmaMove) : State := (s.setDma c { s.dmaCh c with move := some m }).dmaRem c
            match m.dsp with
            | 1 => (put { m with chunks := ks, lastWr := (k.off, d) }).emit (.hostWrite a d)
            | 3 => put { m with chunks := ks, gather := m.gather ++ d }
            | _ => put m

/-- x rounded up as a ring MOVE advances its destination (R497). -/
def ringAdvance (len : Nat) : Nat := pad64 len

/-- A MOVE is complete: registers are loaded or advanced, a ring MOVE frees its block (R494, R496, R497). -/
def State.dmaMoveDone (s : State) (c : Nat) (m : DmaMove) : State :=
  let s := s.setDma c { s.dmaCh c with move := none }
  let s := if m.ssp = 3 then
      let n := max (s.encUnits m.enc) 1
      let s := s.fset F.CDC_E_RDPTR_PTR64 ((m.src / 64 + pad64 (m.len - 8) / 64) % n) m.enc
      s.dpop m.enc
    else s
  let s := if m.dsp = 3 then
      (List.range (m.len / 8)).foldl (fun s i => s.dmaPutA c (m.da + i) (leAt m.gather (8 * i) 8)) s
    else s
  let s := if m.sinc && m.ssp ≠ 3 then s.dmaPutA c m.sa (s.dmaA c m.sa + m.len) else s
  let s := if m.dinc && m.dsp ≠ 3 then
      s.dmaPutA c m.da (s.dmaA c m.da + (if m.ssp = 3 then ringAdvance m.len else m.len))
    else s
  s.dmaNext c

/-- The flush read to the last written doubleword is issued (R495). [DEDUCED, log entry 102] -/
def State.dmaFlush (s : State) (c : Nat) (m : DmaMove) (n : Nat) : State :=
  (s.setDma c { s.dmaCh c with move := some { m with flush := some n } }).emit
    (.hostRead ((m.dst + m.given - 1) / 4 * 4) 0)

/-- The channel has finished what an ABORT left in flight: ABORTED, with REM the bytes never read (R505). -/
def State.dmaAborted (s : State) (c : Nat) : State :=
  match (s.dmaCh c).move with
  | some m =>
    let s := s.rset R.DMA_C_REM ((m.len - m.issued) % 2 ^ 24) c
    ((s.untake m).setDma c { s.dmaCh c with move := none }).dmaState c 6
  | none => s.dmaState c 6

/-- The end of a MOVE, or of an abort, once nothing of it is in flight; `flushed` tells that the host part is answered. -/
def State.dmaFinish (s : State) (c : Nat) (flushed : Bool) : State :=
  match (s.dmaCh c).move with
  | none => if s.dmaSt c = 4 then s.dmaAborted c else s
  | some m =>
    if !m.chunks.isEmpty || (s.dmaSt c = 2 && m.issued < m.len) then s
    else if m.dsp = 1 && 0 < m.given && !flushed then (if m.flush.isNone then s.dmaFlush c m 0 else s)
    else if s.dmaSt c = 4 then s.dmaAborted c
    else s.dmaMoveDone c m

/-- A channel's MOVE goes as far as it can: chunks are handed over in order, and freed slots take new ones. -/
def State.dmaPump (s : State) (c : Nat) : State :=
  let round (s : State) : State := (List.range 64).foldl (fun s _ => (s.dmaIssue1 c).dmaHand1 c) s
  (round (s.dmaRem c)).dmaFinish c false

/-- The record word of a descriptor (R497). -/
def Desc.word (d : Desc) : Nat := d.len % 2 ^ 32 + bit d.ovf * 2 ^ 32 + bit d.flush * 2 ^ 33

/-- DMA_MOVE: the MOVE at PC begins; a ring MOVE without a descriptor makes the channel WAITING (R494, R497). -/
def State.dmaMove (s : State) (c : Nat) : State :=
  let w := s.dmaInstr c
  let e := bits w 49 49
  let m : DmaMove :=
    { ssp := bits w 59 58, dsp := bits w 57 56, sa := bits w 55 54, da := bits w 53 52, sinc := bitAt w 51,
      dinc := bitAt w 50, enc := e, len := bits w 47 24, src := s.dmaA c (bits w 55 54), dst := s.dmaA c (bits w 53 52),
      issued := 0, given := 0, chunks := [], lastWr := (0, []), flush := none, gather := [] }
  if m.ssp = 3 then
    match (s.enc e).desc.zipIdx.find? (fun d => !d.1.taken) with
    | none => s.dmaState c 3
    | some (d, i) =>
      let s := s.setEnc e { s.enc e with desc := (s.enc e).desc.set i { d with taken := true } }
      let k : DmaChunk := { off := 0, len := 8, data := some (leBytes 8 d.word), tries := 0, slot := false, ready := s.drcNow 0 }
      (s.setDma c { s.dmaCh c with
        move := some { m with len := 8 + d.len, src := d.off64 * 64, issued := 8, chunks := [k] } }).dmaPump c
  else (s.setDma c { s.dmaCh c with move := some m }).dmaPump c

/-- DMA_MOVE (R494, R497). -/
def execDmaMove (c : Nat) (s : State) : Host.Outcome State Fault Refusal :=
  .next (if s.dmaRuns c 1 then s.dmaMove c else s)

/-- The chunk of channel c that its engine serves next: the oldest without data (reads), the oldest with data (writes). -/
def DmaMove.chunkFor (m : DmaMove) (wr : Bool) : Option DmaChunk :=
  if wr then m.chunks.head?.bind (fun k => if k.data.isSome then some k else none)
  else m.chunks.find? (fun k => k.data.isNone)

/-- Channel c has a chunk whose turn of an engine is at shared or bulk data. -/
def State.sharedChunk (s : State) (wr : Bool) (c : Nat) : Option DmaChunk :=
  match (s.dmaCh c).move with
  | some m => if (if wr then m.dsp else m.ssp) = 2 then m.chunkFor wr else none
  | none => none

/-- R501's key of a chunk, smaller first: priority, deadline, channel number. -/
def State.dmaKey (s : State) (c : Nat) (k : DmaChunk) : Nat :=
  let d := (k.ready + max (s.fget F.DMA_C_CFG_CLAT c) 1) % 2 ^ 32
  ((3 - s.fget F.DMA_C_CFG_PRIO c) * 2 ^ 33 + (slack d (s.drcNow 0) + 2 ^ 31).toNat) * 64 + c

/-- Channel c is the one that an engine serves next at shared data (R501), in phase 15 and within the tick's 64 KiB
(R498). -/
def State.sharedTurn (s : State) (wr : Bool) (c n : Nat) : Bool :=
  s.boundary && s.dmaShare + n ≤ 65536 &&
    (List.range 64).all (fun d => match s.sharedChunk wr d, s.sharedChunk wr c with
      | some k, some k' => decide (s.dmaKey c k' ≤ s.dmaKey d k)
      | _, _ => true)

/-- The chunk at offset o of a MOVE changed. -/
def DmaMove.setChunk (m : DmaMove) (k : DmaChunk) : DmaMove :=
  { m with chunks := m.chunks.map (fun x => if x.off = k.off then k else x) }

/-- The read of a chunk of channel c has failed: it is made again up to DMA_RETRY times, then the channel halts (R504). -/
def State.chunkFail (s : State) (c : Nat) (k : DmaChunk) : State :=
  match (s.dmaCh c).move with
  | none => s
  | some m =>
    let a := s.srcAddr m k.off
    let sp := if m.ssp = 3 then 0 else m.ssp
    if s.fget F.DMA_RETRY_RETRY ≤ k.tries then s.dmaHalt c 3 sp a
    else
      let s := s.setDma c { s.dmaCh c with move := some (m.setChunk { k with data := none, tries := k.tries + 1 }) }
      if sp = 1 then s.emit (.hostRead a k.len) else s

/-- A read of channel c returns; ok false is a PARTIAL or failed read, retried up to DMA_RETRY times. The bytes of a host
read are given; those of DRAM and of shared data are read (R494, R498, R504). -/
def State.chunkRead (s : State) (c : Nat) (ok : Bool) (data : List Nat) : State :=
  match (s.dmaCh c).move with
  | none => s
  | some m =>
    match m.chunkFor false with
    | none => s
    | some k =>
      let a := s.srcAddr m k.off
      let sp := if m.ssp = 3 then 0 else m.ssp
      let put (s : State) (k : DmaChunk) : State := s.setDma c { s.dmaCh c with move := some (m.setChunk k) }
      if !ok then s.chunkFail c k
      else if sp = 2 then
        if s.sharedTurn false c k.len then
          let s := { s with dmaShare := s.dmaShare + k.len }
          (put s { k with data := some (memBytes s.data a k.len), tries := 0, ready := s.drcNow 0 }).dmaPump c
        else s
      else
        let d := if sp = 0 then s.dramGet (bits a 41 40) (bits a 32 0) k.len else slice (data.map (· % 256)) 0 k.len
        (put s { k with data := some d, tries := 0, ready := s.drcNow 0 }).dmaPump c

/-- The oldest chunk that channel c keeps in the shared buffer is lost to an SRAM error: its read fails (R609, Table 22-5).
[DEDUCED, log entry 103] -/
def State.chunkSram (s : State) (c : Nat) : State :=
  match (s.dmaCh c).move.bind (fun m => m.chunks.find? (·.slot)) with
  | some k => s.chunkFail c k
  | none => s

/-- DMA_CHUNK_READ (R494, R498, R504). -/
def execDmaChunkRead (c : Nat) (ok : Bool) (data : List Nat) (s : State) : Host.Outcome State Fault Refusal :=
  .next (s.chunkRead c ok data)

/-- DMA_WRITE_RESPONSE: a write of channel c is answered. A good response frees the chunk's slot; a failed one is retried
up to DMA_RETRY times; a host destination is answered by the flush read (R495, R498, R502, R503). -/
def execDmaWriteResponse (c : Nat) (ok : Bool) (s : State) : Host.Outcome State Fault Refusal :=
  .next (
    match (s.dmaCh c).move with
    | none => s
    | some m =>
      let retry := s.fget F.DMA_RETRY_RETRY
      let put (s : State) (m : DmaMove) : State := s.setDma c { s.dmaCh c with move := some m }
      if m.dsp = 1 then
        match m.flush with
        | none => s
        | some n =>
          if ok then s.dmaFinish c true
          else if retry ≤ n then s.dmaHalt c 4 1 ((m.dst + m.given - 1) / 4 * 4)
          else (s.emit (.hostWrite (m.dst + m.lastWr.1) m.lastWr.2)).dmaFlush c m (n + 1)
      else
        match m.chunkFor true with
        | none => s
        | some k =>
          let a := m.dst + k.off
          let d := k.data.getD []
          if m.dsp = 2 then
            if s.sharedTurn true c k.len then
              let s := { s with dmaShare := s.dmaShare + k.len, data := memPutBytes s.data a d }
              (put s { m with chunks := m.chunks.drop 1 }).dmaPump c
            else s
          else if ok then
            let s := s.dramPut (bits a 41 40) (bits a 32 0) d
            (put s { m with chunks := m.chunks.drop 1 }).dmaPump c
          else if retry ≤ k.tries then s.dmaHalt c 4 m.dsp a
          else put s (m.setChunk { k with tries := k.tries + 1 }))

/-! ### LOOP, WAIT, SIGNAL, END -/

/-- DMA_LOOP. -/
def execDmaLoop (c : Nat) (s : State) : Host.Outcome State Fault Refusal :=
  .next (if !s.dmaRuns c 2 then s
    else
      let w := s.dmaInstr c
      let pc := s.fget F.DMA_C_STAT_PC c
      let back (s : State) : State := s.fset F.DMA_C_STAT_PC (pc - bits w 5 0) c
      let count := bits w 47 32
      let f := if bitAt w 59 then F.DMA_C_LC_LC1 else F.DMA_C_LC_LC0
      if count = 0 then back s
      else
        let lc := if s.fget f c = 0 then count else s.fget f c
        let s := s.fset f (lc - 1) c
        if lc - 1 ≠ 0 then back s else s.dmaNext c)

/-- DMA_WAIT: the channel waits; a timed wait counts from this tick (R499). -/
def execDmaWait (c : Nat) (s : State) : Host.Outcome State Fault Refusal :=
  .next (if !s.dmaRuns c 3 then s
    else (s.setDma c { s.dmaCh c with waitTick := s.elapsed + bits (s.dmaInstr c) 23 0 }).dmaState c 3)

/-- The instruction that a WAITING channel waits in. -/
def State.dmaWaits (s : State) (c : Nat) : Option Nat := if s.dmaSt c = 3 then some (s.dmaInstr c) else none

/-- A channel waits on flag f. -/
def State.dmaOnFlag (s : State) (f : Nat) (consume : Bool) (c : Nat) : Bool :=
  match s.dmaWaits c with
  | some w => dmaOp w == 3 && bits w 59 58 == 0 && bits w 33 24 == f && bitAt w 57 == consume
  | none => false

/-- Flag f is sampled for the channels that wait on it: those that do not consume it go on, and of those that do the
lowest-numbered one does and clears it (R499). -/
def State.dmaFlagWake (s : State) (f : Nat) : State :=
  if !s.flag f then s
  else
    let s := ((List.range 64).filter (s.dmaOnFlag f false)).foldl (fun s d => s.dmaNext d) s
    match findBelow 64 (s.dmaOnFlag f true) with
    | some d => (s.clearFlag f).dmaNext d
    | none => s

/-- DMA_WAIT_END: a flag is sampled at phase 1, a timed wait ends at its phase 0, and a descriptor is posted (R499). -/
def execDmaWaitEnd (c : Nat) (s : State) : Host.Outcome State Fault Refusal :=
  .next (
    match s.dmaWaits c with
    | none => s
    | some w =>
      let posted (e : Nat) : Bool := (s.enc e).desc.any (fun d => !d.taken)
      if dmaOp w = 1 then (if posted (bits w 49 49) then s.dmaState c 2 else s)
      else match bits w 59 58 with
        | 0 => if s.phase = 0 then s.dmaFlagWake (bits w 33 24) else s
        | 1 => if (s.dmaCh c).waitTick ≤ s.elapsed then s.dmaNext c else s
        | _ => if posted (bits w 56 56) then s.dmaNext c else s)

/-- DMA_SIGNAL (R499, Table 17-5). -/
def execDmaSignal (c : Nat) (s : State) : Host.Outcome State Fault Refusal :=
  .next (if !s.dmaRuns c 4 then s
    else
      let w := s.dmaInstr c
      let s := if bitAt w 59 then s.setFlag (bits w 41 32) else s
      let s := if bitAt w 58 then s.setFlag (849 + c) else s
      let s := if bitAt w 57 then s.raise (bits w 5 0) else s
      s.dmaNext c)

/-- DMA_END: the completion point (R500). -/
def execDmaEnd (c : Nat) (s : State) : Host.Outcome State Fault Refusal :=
  .next (if s.dmaRuns c 5 then s.dmaState c 5 else s)

/-! ### Abort, disable and enable -/

/-- DMA_ABORT: sampled at the next phase 0 (R505). -/
def execDmaAbort (c : Nat) (s : State) : Host.Outcome State Fault Refusal :=
  .next (if c < 64 then s.setDma c { s.dmaCh c with abort := true } else s)

/-- An ABORT sampled at phase 0 (R505): a channel DONE since the write stays so with ABORT_LATE; an idle one ignores it; any
other enters ABORTING. -/
def State.dmaAbortAt (s : State) (c : Nat) : State :=
  let s := s.setDma c { s.dmaCh c with abort := false }
  if s.dmaSt c = 5 then s.fset F.DMA_C_STAT_ABORT_LATE 1 c
  else if s.dmaSt c = 2 || s.dmaSt c = 3 then (s.dmaState c 4).dmaFinish c false
  else s

/-- Phase 0 of the DMA engine: aborts, then the GOs written since the last one, and a fresh budget for phase 15 (R498, R505,
R507). -/
def State.dmaPhase0 (s : State) : State :=
  { (List.range 64).foldl (fun s c =>
      let s := if (s.dmaCh c).abort then s.dmaAbortAt c else s
      if (s.dmaCh c).go then s.setDma c { s.dmaCh c with go := false, starts := (s.dmaCh c).starts ++ [.host] } else s) s with
    dmaShare := 0 }

/-- EN = 0: the channel goes OFF; PC, REM, LC0, LC1 and its address registers are undefined (R506). [DEDUCED, log entry 101] -/
def State.dmaDisable (s : State) (c : Nat) : State :=
  if !s.fbit F.DMA_C_CTRL_EN c then s
  else
    let s := match (s.dmaCh c).move with | some m => s.untake m | none => s
    let s := (s.setDma c { s.dmaCh c with move := none }).fset F.DMA_C_CTRL_EN 0 c
    let d (i : Nat) : Nat := Config.freeWord (s.free + i) % 2 ^ 32
    let s' := ((s.fset F.DMA_C_STAT_PC (d 0) c).rset R.DMA_C_REM (d 1 % 2 ^ 24) c).rset R.DMA_C_LC (d 2) c
    let s' := (List.range 4).foldl (fun t k => (t.rset R.DMA_C_A_LO (d (3 + 2 * k)) c k).rset R.DMA_C_A_HI (d (4 + 2 * k)) c k) s'
    { s' with free := s.free + 11 }.dmaState c 0

/-- EN = 1: OFF becomes IDLE (R506, Table 17-2). -/
def State.dmaEnable (s : State) (c : Nat) : State :=
  if s.fbit F.DMA_C_CTRL_EN c then s else (s.fset F.DMA_C_CTRL_EN 1 c).dmaState c 1

/-- DMA_DISABLE (R506). -/
def execDmaDisable (c : Nat) (s : State) : Host.Outcome State Fault Refusal := .next (if c < 64 then s.dmaDisable c else s)

/-- DMA_ENABLE (R506). -/
def execDmaEnable (c : Nat) (s : State) : Host.Outcome State Fault Refusal := .next (if c < 64 then s.dmaEnable c else s)

/-- A write of DMA_C_CTRL: EN at once, ABORT and GO at the next phase 0 (R505 to R507). -/
def State.dmaCtrlWrite (s : State) (c v : Nat) : State :=
  let s := if bitAt v 0 then s.dmaEnable c else s.dmaDisable c
  s.setDma c { s.dmaCh c with abort := (s.dmaCh c).abort || bitAt v 2, go := (s.dmaCh c).go || bitAt v 1 }

/-! ### Declarations (R487, R488) -/

/-- At an admission: the channels of the previous program are disabled and their slots freed (R488). -/
def State.dmaUndeclare (s : State) : State :=
  (List.range 64).foldl (fun s c =>
    if s.dmaSeq c then ((s.dmaDisable c).freeSlots c).fset F.DMA_C_CFG_SEQ 0 c else s) s

/-- A declared channel takes its slots from the bottom and its configuration from its declaration (R51, R487). -/
def State.dmaDeclare (s : State) (c slots prio : Nat) (initEn : Bool) (clat : Nat) : Option State :=
  match s.slotRun slots true with
  | none => none
  | some b =>
    let s := s.dmaDisable c
    let s := (s.rset R.DMA_C_CFG (2 ^ 31 + prio * 2 ^ 28 + slots * 2 ^ 20 + clat) c).fset F.DMA_C_SLOT_BASE b c
    some ((if initEn then s.dmaEnable c else s).dmaSync)

end Sys2Proof.Machine
end

