-- ==== Sys2Proof/Machine/Expose.lean ====
section
/-! DEFINITION. Exposure: duty windows, laser enables and the interlock, the laser driver SPI and APC (R236 to R269). -/

namespace Sys2Proof.Machine

/-! ### Duty windows (R253 to R258) -/

/-- Lit sub-slots of a mask. -/
def popc (m : Nat) : Nat := ((List.range 8).filter (fun i => m.testBit i)).length

/-- Sub-slot p (from SOL) of a beam with a start delay and pixel masks is lit by the image (R240). -/
def litAt (masks : List Nat) (dly p : Nat) : Bool := dly ≤ p && (nth masks ((p - dly) / 8) 0).testBit ((p - dly) % 8)

/-- Lit image sub-slots of a beam before place lim. -/
def litBefore (masks : List Nat) (dly lim : Nat) : Nat :=
  (masks.zipIdx.map (fun mx =>
    let st := dly + 8 * mx.2
    if st + 8 ≤ lim then popc mx.1 else if lim ≤ st then 0 else popc (mx.1 % 2 ^ (lim - st)))).foldl (· + ·) 0

/-- Place from which beam b of a facet is dark, if any. -/
def Facet.limit (f : Facet) (b : Nat) : Option Nat :=
  let d := (f.dark.find? (fun x => x.1 == b)).map (·.2)
  match d, f.cut with
  | some a, some c => some (min a c)
  | some a, none => some a
  | none, c => c

/-- Active start delay of beam b. -/
def State.bdly (s : State) (i b : Nat) : Nat := s.fget F.EXP_S_BDLY_ACT i b

/-- Sub-slots that beam b has lit in the present facet, up to a place when one is given. -/
def State.beamLit (s : State) (i b : Nat) (upTo : Option Nat) : Nat :=
  let f := (s.stn i).facet
  let m := nth f.masks b []
  let all := s.bdly i b + 8 * m.length
  let lim := min ((f.limit b).getD all) (upTo.getD all)
  litBefore m (s.bdly i b) lim + nth f.extra b 0

/-- EWIN and SWIN in facets (EXP_S_DCFG). -/
def State.ewin (s : State) (i : Nat) : Nat := if s.fget F.EXP_S_DCFG_EWIN i = 0 then 1024 else s.fget F.EXP_S_DCFG_EWIN i

/-- SWIN in facets. -/
def State.swin (s : State) (i : Nat) : Nat := if s.fget F.EXP_S_DCFG_SWIN i = 0 then 256 else s.fget F.EXP_S_DCFG_SWIN i

/-- Counts of emitter b over the completed facets of its window. -/
def State.pastBeam (s : State) (i b : Nat) : Nat :=
  (((s.stn i).hist.take (s.ewin i - 1)).map (fun h => nth h b 0)).foldl (· + ·) 0

/-- Counts of the station over the completed facets of its window. -/
def State.pastStn (s : State) (i : Nat) : Nat :=
  (((s.stn i).hist.take (s.swin i - 1)).map (fun h => h.foldl (· + ·) 0)).foldl (· + ·) 0

/-- Window sum of emitter b, the present facet counted up to a place (R254). -/
def State.beamSum (s : State) (i b : Nat) (upTo : Option Nat) : Nat := s.pastBeam i b + s.beamLit i b upTo

/-- Window sum of the station (R254). -/
def State.stnSum (s : State) (i : Nat) (upTo : Option Nat) : Nat :=
  s.pastStn i + ((List.range 32).map (fun b => s.beamLit i b upTo)).foldl (· + ·) 0

/-- Ceilings in sub-slots. -/
def State.emax (s : State) (i : Nat) : Nat := 16 * s.rget R.EXP_S_EMAX i

/-- The station's ceiling in sub-slots. -/
def State.smax (s : State) (i : Nat) : Nat := 16 * s.rget R.EXP_S_SMAX i

/-- The check of R255 sub-slot by sub-slot: rooms left per emitter and for the station, emitters dark with their place,
the place of a station cut, and the first sub-slot refused. -/
structure DutyScan where
  room  : List Nat
  roomS : Nat
  dark  : List (Nat × Nat)
  cut   : Option Nat
  hit   : Option (Nat × Nat)

/-- One sub-slot of the check: emitters at their ceiling go dark, then the station (R255). -/
def DutyScan.step (d : DutyScan) (lit : Nat → Bool) (p : Nat) : DutyScan :=
  if d.cut.isSome then d
  else
    let on := (List.range 32).filter (fun b => lit b && !d.dark.any (·.1 == b))
    let noRoom := on.filter (fun b => nth d.room b 0 == 0)
    let rest := on.filter (fun b => nth d.room b 0 != 0)
    let hit := match d.hit, noRoom with | none, b :: _ => some (b, p) | h, _ => h
    let d := { d with dark := d.dark ++ noRoom.map (fun b => (b, p)), hit := hit }
    if d.roomS < rest.length then
      { d with cut := some p, hit := match d.hit with | none => some (32, p) | h => h }
    else
      { d with roomS := d.roomS - rest.length,
               room := d.room.zipIdx.map (fun rb => if rest.contains rb.2 then rb.1 - 1 else rb.1) }

/-- The image of the present facet is held to the ceilings (R255). -/
def State.checkDuty (s : State) (i : Nat) : State :=
  let x := s.stn i
  let f := x.facet
  if (List.range 32).all (fun b => decide (s.beamSum i b none ≤ s.emax i)) && s.stnSum i none ≤ s.smax i then s
  else
    let base (b : Nat) : Nat := s.pastBeam i b + nth f.extra b 0
    let d : DutyScan :=
      { room := (List.range 32).map (fun b => s.emax i - base b), roomS := s.smax i - (s.pastStn i + f.extra.foldl (· + ·) 0),
        dark := f.dark, cut := f.cut, hit := none }
    let last := ((List.range 32).map (fun b => s.bdly i b + 8 * (nth f.masks b []).length)).foldl max 0
    let d := (List.range last).foldl (fun d p => d.step (fun b => litAt (nth f.masks b []) (s.bdly i b) p) p) d
    s.setStn i { x with facet := { f with dark := d.dark, cut := d.cut, hit := d.hit } }

/-- A refused sub-slot of scan j: while imaging the page is abandoned with cause 8, ECEIL or SCEIL is set with flag 781, vector 9
and a record of station, beam for an emitter ceiling, scan and sub-slot; otherwise the facet counts once as held dark (R256,
R257). -/
def State.dutyHit (s : State) (i b j p : Nat) : State :=
  if s.stnImaging i then
    let s := if b < 32 then (s.fset F.EXP_S_DSTAT_ECEIL 1 i).fset F.EXP_S_DSTAT_PBEAM b i else s.fset F.EXP_S_DSTAT_SCEIL 1 i
    (((s.setFlag 781).raise 9).recRule 256 ([i] ++ (if b < 32 then [b] else []) ++ [j, p])).abandon 8
  else if (s.stn i).facet.held then s
  else (s.setStn i { s.stn i with facet := { (s.stn i).facet with held := true } }).finc F.EXP_S_DSTAT_HOLDCNT 1 i

/-- A refusal found in the facet's image is told once, when the facet has come past its place; none given, it is over.
[DEDUCED, log entry 153] -/
def State.dutyTell (s : State) (i : Nat) (upTo : Option Nat) : State :=
  match (s.stn i).facet.hit with
  | some (b, p) =>
    if (s.stn i).facet.told || (match upTo with | some u => decide (u ≤ p) | none => false) then s
    else (s.setStn i { s.stn i with facet := { (s.stn i).facet with told := true } }).dutyHit i b (s.scanNo i - 1) p
  | none => s

/-- The warnings of a page on station i, each once, for the light up to a place of the facet (R258). -/
def State.dutyWarn (s : State) (i : Nat) (upTo : Option Nat) : State :=
  let w := s.fget F.EXP_S_DCFG_WARN i
  if w = 0 || !s.stnImaging i then s
  else
    let e := (List.range 32).any (fun b => decide (w * s.emax i ≤ 100 * s.beamSum i b upTo))
    let t := decide (w * s.smax i ≤ 100 * s.stnSum i upTo)
    let x := s.stn i
    let newE := e && !x.warned.contains 0
    let newS := t && !x.warned.contains 1
    let s := s.setStn i { x with warned := x.warned ++ (if newE then [0] else []) ++ (if newS then [1] else []) }
    let s := if newE then s.fset F.EXP_S_DSTAT_EWARN 1 i else s
    let s := if newS then s.fset F.EXP_S_DSTAT_SWARN 1 i else s
    if newE || newS then s.setFlag 780 else s

/-- n more sub-slots lit on beam b outside the image, as far as the ceilings allow. At a ceiling the emitter, or the station, stays
dark for the rest of the facet, and place `at0` of scan j is told as the first refused (R253, R255). -/
def State.litExtra (s : State) (i b n j at0 : Nat) : State :=
  let roomE := s.emax i - s.beamSum i b none
  let roomS := s.smax i - s.stnSum i none
  let room := min roomE roomS
  let x := s.stn i
  let ex := (List.range 32).map (fun k => nth x.facet.extra k 0 + (if k = b then min n room else 0))
  let f := { x.facet with extra := ex }
  if n ≤ room then s.setStn i { x with facet := f }
  else if roomE ≤ roomS then (s.setStn i { x with facet := { f with dark := f.dark ++ [(b, 0)] } }).dutyHit i b j (at0 + room)
  else (s.setStn i { x with facet := { f with cut := some 0 } }).dutyHit i 32 j (at0 + room)

/-- The emitter of station i may be lit: LD_EN high and settled. -/
def State.ldReady (s : State) (i : Nat) : Bool := s.fbit F.EXP_S_STAT_LDOUT i && !s.fbit F.EXP_S_STAT_SETTLE i

/-- The light of BDBEAM up to time t is counted, in the facet that follows the window; an absent beam has none, and one at its
ceiling no more (R241, R246, R253 to R255). [DEDUCED, log entry 63] -/
def State.bdCount (s : State) (i t : Nat) : State :=
  let x := s.stn i
  let b := s.fget F.EXP_S_APCSTB_BDBEAM i
  match x.bdLight with
  | none => s
  | some l =>
    let n := s.subSlots i (min t (l.stop.getD t) - l.since)
    let s := s.setStn i { x with bdLight := some { l with done := n } }
    if s.variant.beams ≤ b || n ≤ l.done || x.facet.dark.any (·.1 == b) || x.facet.cut = some 0 then s
    else s.litExtra i b (n - l.done) (s.scanNo i) l.done

/-- The light of BDBEAM ends at time t. -/
def State.bdEnd (s : State) (i t : Nat) : State :=
  let s := s.bdCount i t
  s.setStn i { s.stn i with bdLight := none }

/-- BDBEAM is lit from time t on, where the laser is ready (R241). -/
def State.bdStart (s : State) (i t : Nat) : State :=
  if s.ldReady i then s.setStn i { s.stn i with bdLight := some ⟨t, none, 0⟩ } else s

/-- The light of station i up to this moment is counted, warned of and held to its ceilings (R255 to R258). -/
def State.dutyNow (s : State) (i : Nat) : State :=
  let p := some (s.subPos i s.time16)
  ((s.bdCount i s.time16).dutyWarn i p).dutyTell i p

/-- DUTY_CEILING at station i: the first sub-slot of the facet that a ceiling has made dark by now takes effect (R255 to R257). -/
def execDutyCeiling (i : Nat) (s : State) : Host.Outcome State Fault Refusal := .next (s.dutyNow i)

/-- DUTY_WARNING at station i (R258). -/
def execDutyWarning (i : Nat) (s : State) : Host.Outcome State Fault Refusal :=
  .next ((s.bdCount i s.time16).dutyWarn i (some (s.subPos i s.time16)))

/-- The present facet is over: its counts enter the history, and a new facet begins, dark when the laser is not enabled or
still settles (R253, R266). -/
def State.nextFacet (s : State) (i : Nat) : State :=
  let s := (s.dutyWarn i none).dutyTell i none
  let x := s.stn i
  let counts := (List.range 32).map (fun b => s.beamLit i b none)
  s.setStn i { x with
    hist := (counts :: x.hist).take 1023, apcDone := 0,
    facet := { Facet.blank with cut := if s.ldReady i then none else some 0 } }

/-- The end of the 100 µs after LD_EN of station i has risen: its beams and APC are released, and an open window lights BDBEAM
(R241, R266). -/
def State.settleEnd (s : State) (i : Nat) : State :=
  if s.fbit F.EXP_S_STAT_SETTLE i && (s.stn i).ldUp + 5 * 128000 ≤ s.time16 then
    let s := s.fset F.EXP_S_STAT_SETTLE 0 i
    if (s.stn i).winOpen.isSome then (s.bdEnd i s.time16).bdStart i s.time16 else s
  else s

/-- LDEN_SETTLE_END: 100 µs after the rise of LD_EN (R266). -/
def execLdenSettleEnd (i : Nat) (s : State) : Host.Outcome State Fault Refusal := .next (s.settleEnd i)

/-- The duty windows at phase 0: what the tick has lit, and the window sums shown (EXP_S_SSUM, EXP_S_EPEAK). -/
def State.dutyPhase0 (s : State) (i : Nat) : State :=
  let s := (s.settleEnd i).dutyNow i
  let p := some (s.subPos i s.time16)
  let peak := (List.range 32).foldl (fun (m : Nat × Nat) b => if m.1 < s.beamSum i b p then (s.beamSum i b p, b) else m) (0, 0)
  let s' := (s.rset R.EXP_S_SSUM (min (s.stnSum i p / 16) (2 ^ 32 - 1)) i).rset R.EXP_S_EPEAK (min (peak.1 / 16) (2 ^ 32 - 1)) i
  if s.fbit F.EXP_S_DSTAT_ECEIL i then s' else s'.fset F.EXP_S_DSTAT_PBEAM peak.2 i

/-! ### Laser enable (R261 to R268) -/

/-- The interlock is closed and ESTOP_N is high. -/
def State.ilkGood (s : State) : Bool := s.pins.ilkClosed && s.pins.estopN

/-- Why LD_EN of station i is low: EXP_S_STAT.REFUSE, 0 when it may be high (R261). [DEDUCED, log entry 53] -/
def State.ldRefuse (s : State) (i : Nat) : Nat :=
  if !s.fbit F.EXP_S_CTRL_LDEN i then 1
  else if s.fbit F.EXP_ILK_TRIPPED || !s.ilkGood then 2
  else if (s.stn i).hot ≠ 0 then (s.stn i).hot
  else if s.bivouac then 5 else 0

/-- LD_EN of station i follows its conditions; a rise starts the settling interval (R261, R266). -/
def State.ldSync (s : State) (i : Nat) : State :=
  if s.variant.stn ≤ i then s
  else
    let r := s.ldRefuse i
    let s' := s.fset F.EXP_S_STAT_REFUSE r i
    let out := s.fbit F.EXP_S_STAT_LDOUT i
    if r = 0 && !out then
      let s' := (s'.fset F.EXP_S_STAT_LDOUT 1 i).fset F.EXP_S_STAT_SETTLE 1 i
      s'.setStn i { s'.stn i with ldUp := s'.time16 }
    else if r ≠ 0 && out then ((s'.fset F.EXP_S_STAT_LDOUT 0 i).fset F.EXP_S_STAT_SETTLE 0 i).darkFrom i s.time16
    else s'

/-- Every station's LD_EN. -/
def State.ldSyncAll (s : State) : State := (List.range 6).foldl State.ldSync s

/-- A write of LDEN; cleared while the station images, it abandons the page with cause 8 (R261, R267). -/
def State.ldenWrite (s : State) (i v : Nat) : State :=
  if s.variant.stn ≤ i then s
  else
    let was := s.fbit F.EXP_S_CTRL_LDEN i
    let s := (s.fset F.EXP_S_CTRL_LDEN v i).ldSync i
    if was && v % 2 = 0 && s.stnImaging i then (s.abandon 8).ldSyncAll else s

/-- LDEN_WRITE (R267). -/
def execLdenWrite (i v : Nat) (s : State) : Host.Outcome State Fault Refusal := .next (s.ldenWrite i v)

/-- The interlock trip: TRIPPED with flag 782 and vector 9, every LD_EN low, the beams dark, and the page abandoned with
cause 5 (R263, R268). -/
def State.laserTrip (s : State) : State :=
  let was := s.fbit F.EXP_ILK_TRIPPED
  let s := s.fset F.EXP_ILK_TRIPPED 1
  let s := if was then s else (s.setFlag 782).raise 9
  s.abandonIlk.ldSyncAll

/-- LASER_INTERLOCK_OPEN (R263). -/
def execLaserInterlockOpen (s : State) : Host.Outcome State Fault Refusal :=
  .next (({ s with pins := { s.pins with ilkClosed := false } }.fset F.EXP_ILK_ILKOPEN 1).laserTrip)

/-- LASER_INTERLOCK_CLOSE: the 100 ms of R264 start when ESTOP_N is high too. -/
def execLaserInterlockClose (s : State) : Host.Outcome State Fault Refusal :=
  .next (
    if s.pins.ilkClosed then s
    else
      let s := { s with pins := { s.pins with ilkClosed := true }, img := { s.img with ilkSince := s.time16 } }
      (s.fset F.EXP_ILK_ILKOPEN 0).ldSyncAll)

/-- A write of EXP_ILK.REARM (R264). [DEDUCED, log entry 123] -/
def State.rearm (s : State) : State :=
  if s.ilkGood && s.img.ilkSince + 5000 * 128000 ≤ s.time16 then (s.fset F.EXP_ILK_TRIPPED 0).ldSyncAll
  else s.recRule 264

/-- REARM (R264). -/
def execRearm (s : State) : Host.Outcome State Fault Refusal := .next s.rearm

/-- The printhead temperature of station i, in units of 1/16 °C: outside 5 to 70 °C emission is refused, and allowed again
from 7 to 68 °C (R265). [DEDUCED, log entry 65] -/
def State.headTemp (s : State) (i : Nat) (t : Int) : State :=
  let x := s.stn i
  let hot := if t < 80 then 3 else if 1120 < t then 4 else if x.hot ≠ 0 && (t < 112 || 1088 < t) then x.hot else 0
  let s := s.setStn i { x with hot := hot }
  let new := x.hot = 0 && hot ≠ 0
  let s := if new then (s.setFlag 783).raise 9 else s
  let s := if new && s.stnImaging i then s.abandon 8 else s
  s.ldSyncAll

/-! ### Laser driver SPI (R247 to R251) -/

/-- A frame of station i: CMD, address byte and 16 data bits, without CMD when LEN32 is 0 (Table 8-3). -/
def State.laserFrame (s : State) (i addr data : Nat) : Nat :=
  (if s.fbit F.EXP_S_SPICFG_LEN32 i then s.fget F.EXP_S_SPICFG_CMD i * 2 ^ 24 else 0) + addr % 256 * 2 ^ 16 + data % 2 ^ 16

/-- The next queued frame starts: scale, then trims, then raw (R251). -/
def State.spiNext (s : State) (i : Nat) : State :=
  let x := s.stn i
  let s :=
    if x.spiRun.isSome then s
    else match x.spiScale, x.spiTrims, x.spiRaw with
      | some v, _, _ =>
        (s.setStn i { x with spiScale := none, spiRun := some false }).emit
          (.laserSpi i (s.laserFrame i (s.fget F.EXP_S_SPICFG_SCALEADDR i) v))
      | none, b :: bs, _ =>
        (s.setStn i { x with spiTrims := bs, spiRun := some false }).emit
          (.laserSpi i (s.laserFrame i (s.fget F.EXP_S_SPICFG_TRIMBASE i + b) (s.fget F.EXP_S_TRIM_TRIM i b)))
      | none, [], n + 1 =>
        let f := s.rget R.EXP_S_SPIRAW i
        (s.setStn i { x with spiRaw := n, spiRun := some true }).emit
          (.laserSpi i (if s.fbit F.EXP_S_SPICFG_LEN32 i then f else f % 2 ^ 24))
      | none, [], 0 => s
  s.fset F.EXP_S_STAT_SPIBUSY (bit (s.stn i).spiRun.isSome) i

/-- A write of EXP_S_PWR queues a scale frame (R249). -/
def State.pwrWrite (s : State) (i v : Nat) : State :=
  if s.variant.stn ≤ i then s
  else
    let s := s.rset R.EXP_S_PWR (v % 2 ^ 16) i
    (s.setStn i { s.stn i with spiScale := some (v % 2 ^ 16) }).spiNext i

/-- PWR_WRITE (R249). -/
def execPwrWrite (i v : Nat) (s : State) : Host.Outcome State Fault Refusal := .next (s.pwrWrite i v)

/-- SENDTRIM queues the trims of emitters 0 to NB − 1, unless the station is imaging (R250). -/
def State.sendTrim (s : State) (i : Nat) : State :=
  if s.variant.stn ≤ i then s
  else if s.stnImaging i then s.recRule 250
  else (s.setStn i { s.stn i with spiTrims := (s.stn i).spiTrims ++ List.range (s.nb i) }).spiNext i

/-- SENDTRIM (R250). -/
def execSendtrim (i : Nat) (s : State) : Host.Outcome State Fault Refusal := .next (s.sendTrim i)

/-- RAW queues one raw frame more (R250). -/
def State.sendRaw (s : State) (i : Nat) : State :=
  if s.variant.stn ≤ i then s else (s.setStn i { s.stn i with spiRaw := (s.stn i).spiRaw + 1 }).spiNext i

/-- RAW (R250). -/
def execRaw (i : Nat) (s : State) : Host.Outcome State Fault Refusal := .next (s.sendRaw i)

/-- LASER_SPI_FRAME_DONE: the running frame of station i ends; a raw one stores its MISO bits; the next starts (R250,
R251). -/
def execLaserSpiFrameDone (i miso : Nat) (s : State) : Host.Outcome State Fault Refusal :=
  .next (match (s.stn i).spiRun with
    | none => s
    | some raw =>
      let w := if s.fbit F.EXP_S_SPICFG_LEN32 i then 32 else 24
      let s := if raw then s.rset R.EXP_S_SPIRD (miso % 2 ^ w) i else s
      (s.setStn i { s.stn i with spiRun := none }).spiNext i)

/-! ### APC (R241 to R244) -/

/-- The interval that predicts station i's next edge: one revolution earlier, or in the first revolution the last one
(R275). -/
def State.nextIval (s : State) (i : Nat) : Nat :=
  let x := s.stn i
  let nf := s.fget F.SCN_S_CFG_NFM1 i + 1
  if nf < x.trk then nth x.ivals (nf - 1) 0 else nth x.ivals 0 0

/-- Predicted time of station i's next edge (R275). -/
def State.predicted (s : State) (i : Nat) : Nat := (s.stn i).lastEdge.getD 0 + s.nextIval i

/-- A window length in sixteenths of a tick-PLL cycle: PRE or POST, 0 treated as 1. -/
def State.winLen (s : State) (f : FldDesc) (i : Nat) : Nat := max (s.fget f i) 1 * 16

/-- A slot of APCSLOT pixel clocks may start at time t: the slots run back to back from APCSTART, or 64 sub-slots after the last image
sub-slot where that is later, and it ends 1 µs before the next window (R242, R243). [DEDUCED, log entry 64] -/
def State.apcFits (s : State) (i t : Nat) : Bool :=
  let x := s.stn i
  let ends := ((List.range 32).filter (fun b => !(nth x.facet.masks b []).isEmpty)).map
    (fun b => s.bdly i b + 8 * (nth x.facet.masks b []).length + 63)
  let start := max (8 * s.fget F.EXP_S_APCCFG_APCSTART i) (ends.foldl max 0)
  let n := 8 * s.fget F.EXP_S_APCCFG_APCSLOT i
  s.subPos i t == start + n * x.apcDone && x.winOpen.isNone &&
    decide (t + s.slotTime i n + 6400 + s.winLen F.SCN_S_BDWIN_PRE i ≤ s.predicted i)

/-- APC_SLOT of station i at time t: the next emitter in cyclic order is lit for the slot and its monitor reading stored;
a full round's mean follows its last. An order that NB has cut short begins anew. A slot that would exceed a ceiling is skipped
whole (R242, R243, R255, R257). -/
def execApcSlot (i t mon : Nat) (s : State) : Host.Outcome State Fault Refusal :=
  .next (
    let x := s.stn i
    let b := if x.apcNext < s.nb i then x.apcNext else 0
    let n := 8 * s.fget F.EXP_S_APCCFG_APCSLOT i
    if s.variant.stn ≤ i || !s.ldReady i || s.fget F.EXP_S_APCCFG_APCN i ≤ x.apcDone || !s.apcFits i t then s
    else
      let s := s.setStn i { x with apcDone := x.apcDone + 1, apcNext := (b + 1) % max (s.nb i) 1 }
      let p := s.subPos i t
      let dark := x.facet.cut.isSome || x.facet.dark.any (·.1 == b)
      let s :=
        if dark then s
        else if s.emax i < s.beamSum i b none + n then s.dutyHit i b (s.scanNo i - 1) p
        else if s.smax i < s.stnSum i none + n then s.dutyHit i 32 (s.scanNo i - 1) p
        else (s.litExtra i b n (s.scanNo i - 1) p).rset R.EXP_S_MON (mon % 4096) i b
      let round := (if b = 0 then [] else x.apcRound) ++ [s.rget R.EXP_S_MON i b]
      let s := s.setStn i { s.stn i with apcRound := round }
      if b + 1 < s.nb i || round.length ≠ s.nb i then s
      else s.rset R.EXP_S_MONAVG ((2 * round.foldl (· + ·) 0 + s.nb i) / (2 * max (s.nb i) 1)) i)

/-- A write of EXP_S_APCCFG (strobe false) or EXP_S_APCSTB (strobe true) is checked (R244). -/
def State.apcWrite (s : State) (i v : Nat) (strobe : Bool) : State :=
  let slot := if strobe then s.fget F.EXP_S_APCCFG_APCSLOT i else bits v 15 8
  let setl := if strobe then bits v 7 0 else s.fget F.EXP_S_APCSTB_SETL i
  if s.variant.stn ≤ i then s
  else if slot < 8 || slot ≤ setl then s.recRule 244
  else if strobe then s.rset R.EXP_S_APCSTB (bits v 20 16 * 2 ^ 16 + bits v 7 0) i
  else s.rset R.EXP_S_APCCFG (bits v 31 16 * 2 ^ 16 + bits v 15 8 * 2 ^ 8 + bits v 5 0) i

end Sys2Proof.Machine
end

