-- ==== Sys2Proof/Machine/Scan.lean ====
section
/-! DEFINITION. Scanner synchronisation: beam detect, the pixel clock, the scan reference and its lock, scan capacity, the
page's commit and the clock reference (R270 to R303, R172). -/

namespace Sys2Proof.Machine

/-! ### Pixel clock (R272, R281, R282) -/

/-- NF of a station. -/
def State.nf (s : State) (i : Nat) : Nat := s.fget F.SCN_S_CFG_NFM1 i + 1

/-- Beam-detect state of a station (Table 9-4). -/
def State.scnState (s : State) (i : Nat) : Nat := s.fget F.SCN_S_STAT_STATE i

/-- The pixel clock takes a word; in range, its PLL locks to it. [DEDUCED, log entry 68] -/
def State.putFreq (s : State) (i v : Nat) : State :=
  let s := s.rset R.CLK_S_PFREQ v i
  if 53687092 ≤ v && v ≤ 1610612736 then s.fset F.SCN_S_STAT_PLLLOCK 1 i else s

/-- The tracked frequency word PXF × (1 + MAG × 10^-6) / T̄, rounded to nearest, with T̄ the mean of the last NF intervals
(R280, R281). -/
def State.trackFreq (s : State) (i : Nat) : Nat :=
  let l := (s.stn i).ivals.take (s.nf i)
  let sum := l.foldl (· + ·) 0
  let num := (s.rget R.SCN_S_PXF i : Int) * (1000000 + s.fsigned F.SCN_S_MAG_ACT i) * l.length * 2 ^ 20
  (divRound num (max (1000000 * sum) 1)).toNat

/-- The pixel clock at an edge: tracked and limited, or the value written since (R281, R282). [DEDUCED, log entry 66] -/
def State.edgeFreq (s : State) (i : Nat) : State :=
  if s.fbit F.SCN_S_CFG_TRACK i then
    if s.scnState i ≠ 2 then s
    else
      let v := s.trackFreq i
      let c := max 53687092 (min 1610612736 v)
      let s := if c = v then s else s.fset F.SCN_S_STAT_FCLAMP 1 i
      s.putFreq i c
  else match (s.stn i).pfreqPend with
    | some v => (s.setStn i { s.stn i with pfreqPend := none }).putFreq i v
    | none => s

/-- A write of CLK_S_PFREQ (R282). -/
def State.pfreqWrite (s : State) (i v : Nat) : State :=
  if s.variant.stn ≤ i then s
  else if s.fbit F.SCN_S_CFG_TRACK i then s.recRule 282
  else if s.scnState i = 2 then s.setStn i { s.stn i with pfreqPend := some (v % 2 ^ 32) }
  else (s.setStn i { s.stn i with pfreqPend := none }).putFreq i (v % 2 ^ 32)

/-- PFREQ_WRITE (R282). -/
def execPfreqWrite (i v : Nat) (s : State) : Host.Outcome State Fault Refusal := .next (s.pfreqWrite i v)

/-! ### Scan reference (R289 to R293) -/

/-- Distance of a value from the nearest multiple of m, in −m/2 to m/2. -/
def nearMod (v m : Int) : Int := (v + m / 2) % m - m / 2

/-- NB lines in the unit of the reference. [DEDUCED, log entry 69] -/
def State.nbRef (s : State) (i : Nat) : Int := max (s.nb i : Int) 1 * 65536

/-- A position over LPC, in 1/65536 line. -/
def State.lines16 (s : State) (i : Nat) (p : Int) : Int := p * 65536 / s.lpc i

/-- The reference between pages at a position and a time: where the station is and a place at which a facet is due; none
with REFMODE 0 (Table 9-6). -/
def State.idleRef (s : State) (i : Nat) (pcap : Int) (t : Nat) : Option (Int × Int) :=
  let off := s.fsigned F.SCN_S_PHOFF_PHOFF i * 256
  match s.fget F.SCN_S_CFG_REFMODE i with
  | 1 => some (((t * 2 ^ 28 / max (s.rget R.SCN_LPER) 1 : Nat) : Int), off)
  | 2 => some (s.lines16 i pcap, if (s.stn i).refPage then (s.stn i).refBase else off)
  | _ => none

/-- A place at which the page grid has a facet due, with δ as given (R290). -/
def State.pageRef (s : State) (i : Nat) (delta : Int) : Int :=
  (s.rOf i 0 + delta) * 65536 + (s.stn i).phoffPg * 256

/-- The phase error at an edge, in 1/65536 line, from the due position nearest to u; none without a reference (R291). -/
def State.phaseErr (s : State) (i : Nat) (pcap : Int) (t : Nat) (delta : Int) : Option Int :=
  let r := if s.stnImaging i then some (s.lines16 i (s.travel i pcap), s.pageRef i delta) else s.idleRef i pcap t
  r.map (fun ua => nearMod (ua.1 - ua.2 - (s.stn i).refLeft) (s.nbRef i))

/-- The reference moves one facet further towards its grid (R290). -/
def State.rephase (s : State) (i : Nat) : State :=
  let x := s.stn i
  let st : Int := (max (s.fget F.SCN_S_LOCK_PHSLEW i) 1 * 256 : Nat)
  let l := if 0 ≤ x.refLeft then max 0 (x.refLeft - st) else min 0 (x.refLeft + st)
  (s.setStn i { x with refLeft := l }).fset F.SCN_S_STAT_RPHASE (bit (l ≠ 0)) i

/-- LOCK follows the phase errors of consecutive facets; a loss sets flag 784 + s and raises vector 10 (R293). -/
def State.lockTrack (s : State) (i : Nat) (e : Int) : State :=
  let tol : Int := (max (s.fget F.SCN_S_LOCK_LOCKTOL i) 1 * 256 : Nat)
  let x := s.stn i
  let ok := if -tol ≤ e && e ≤ tol then min 64 (x.okRun + 1) else 0
  let bad := if 2 * tol < e || e < -2 * tol then min 4 (x.badRun + 1) else 0
  let s := s.setStn i { x with okRun := ok, badRun := bad, perr := e }
  if s.fbit F.SCN_S_STAT_LOCK i then
    if bad = 4 then
      let s := ((s.fset F.SCN_S_STAT_LOCK 0 i).setFlag (784 + i)).raise 10
      if s.stnImaging i then s.recRule 293 else s
    else s
  else if ok = 64 then s.fset F.SCN_S_STAT_LOCK 1 i else s

/-- The reference at an edge: phase error, lock and re-phase (R290 to R293). -/
def State.refEdge (s : State) (i : Nat) (pcap : Int) (t : Nat) (delta : Int) : State :=
  match s.phaseErr i pcap t delta with
  | none => (s.setStn i { s.stn i with perr := 0, okRun := 0, badRun := 0 }).fset F.SCN_S_STAT_LOCK 0 i
  | some e =>
    let s := (s.lockTrack i e).rephase i
    if s.stnImaging i then
      let base := s.lines16 i (s.stn i).pcommit + s.fget F.BST_S_START_START i * 65536 + s.pageRef i (s.stn i).delta
      s.setStn i { s.stn i with refBase := base, refPage := true }
    else s

/-! ### Edges (R273 to R281) -/

/-- The beam-detect state after an edge with its interval measured: SEARCH becomes TRACK at the third of three edges whose
intervals differ by less than 1 %, and TRACK counts its facets (R274). [DEDUCED, log entry 67] -/
def State.edgeState (s : State) (i : Nat) : State :=
  let x := s.stn i
  if s.scnState i = 2 then
    (s.setStn i { x with trk := x.trk + 1 }).fset F.SCN_S_STAT_FACET ((s.fget F.SCN_S_STAT_FACET i + 1) % s.nf i) i
  else match x.ivals with
    | a :: b :: _ =>
      if 100 * (max a b - min a b) < max a b then
        ((s.setStn i { x with trk := 1, miss := 0 }).fset F.SCN_S_STAT_STATE 2 i).fset F.SCN_S_STAT_FACET 0 i
      else s
    | _ => s

/-- The beam-detect window of station i opens at time w: the facet before is over, and BDBEAM is lit (R241, R274, Table 8-1). -/
def State.windowOpen (s : State) (i w : Nat) : State :=
  let s := (s.finishScans w).nextFacet i
  (s.setStn i { s.stn i with winOpen := some w }).bdStart i w

/-- The window that an edge at time t or a close ends: in SEARCH it has been open throughout, in TRACK since PRE before the predicted
edge (R274). -/
def State.windowFor (s : State) (i t : Nat) : State :=
  if (s.stn i).winOpen.isSome then s
  else s.windowOpen i (if s.scnState i = 2 then s.predicted i - s.winLen F.SCN_S_BDWIN_PRE i else t)

/-- Phase of a time in station i's pixel clock, in 1/256 pixel: since the last edge, an edge of the clock falls a whole number of
pixels and the phase of the zones after it (R284, R288). -/
def State.phiAt (s : State) (i t : Nat) : Nat :=
  match (s.stn i).lastEdge with
  | some e =>
    (((((t - e) * s.fget F.CLK_S_PFREQ_FREQ i / 2 ^ 25 : Nat) : Int) - s.zonePhase i (s.subPos i t)) / 8 % 256).toNat
  | none => 0

/-- An edge at time t is taken: its window closes, with BDBEAM dark from time dark, and its interval is measured. SOL is late by
`late` sub-slots (Table 9-5, R277, R280). -/
def State.edgeTake (s : State) (i t dark late : Nat) : State :=
  let s := ((s.finishScans t).windowFor i t).bdEnd i dark
  let x := s.stn i
  let iv := match x.lastEdge with | some e => [t - e] | none => []
  let cut := if !s.ldReady i || x.facet.cut = some 0 then some 0 else none
  let s := s.setStn i { x with
    lastEdge := some t, ivals := (iv ++ x.ivals).take 32, winOpen := none, facet := { x.facet with cut := cut, late := late } }
  let s := match iv with | v :: _ => s.fset F.SCN_S_PERIOD_PERIOD (min v (2 ^ 24 - 1)) i | [] => s
  s.edgeState i

/-- A station of the page's mask has LD_EN low or settling (R267). -/
def State.laserDark (s : State) : Bool :=
  match s.envOf s.imagingHandle with
  | some e => (List.range 6).any (fun k => e.has k && k < s.variant.stn && !s.ldReady k)
  | none => false

/-- What an edge at time t, actual or synthesised, starts: the facet is decided, the pixel clock set, and the reference followed. In
SEARCH the next window opens at once (Table 9-5, R267, R274). -/
def State.edge (s : State) (i t dark phi late : Nat) (pcap : Int) : State :=
  let s := s.edgeTake i t dark late
  let delta := (s.stn i).delta
  let j := s.scanNo i
  let h := s.imagingHandle
  let s := ((s.decideFacet i pcap).edgeFreq i).scanEnds i j t
  let s := if h ≠ 0 && j = 0 && s.scanNo i = 1 && (s.stn i).page = h && s.laserDark then (s.abandon 8).ldSyncAll else s
  let s := ((s.checkDuty i).fset F.SCN_S_ALIGN_N (phi % 256) i).refEdge i pcap t delta
  if s.scnState i = 1 then s.windowOpen i dark else s

/-- The window of TRACK around the predicted edge holds time t (R275). -/
def State.inWindow (s : State) (i t : Nat) (off : Int) : Bool :=
  let p : Int := s.predicted i + off
  decide (p - s.winLen F.SCN_S_BDWIN_PRE i ≤ t) && decide ((t : Int) ≤ p + s.winLen F.SCN_S_BDWIN_POST i)

/-- Mean of the B − A offsets kept (R278). -/
def Stn.meanOff (x : Stn) : Int :=
  if x.abOff.isEmpty then 0 else (x.abOff.foldl (· + ·) 0) / (x.abOff.length : Int)

/-- A detector failure of BDMODE 2: the fourth miss in a row while the other arrives (R278). -/
def State.detFail (s : State) (i : Nat) (b : Bool) : State :=
  ((s.fset (if b then F.SCN_S_STAT_BFAIL else F.SCN_S_STAT_AFAIL) 1 i).recRule 278 [1 + bit b]).absorb F.SYS_ABS1_SENSOR

/-- B of BDMODE 2 has not come in the present facet by time t, when its window is past: the fourth such facet in a row, with A there,
is a failure of B (R278). -/
def State.bCheck (s : State) (i t : Nat) : State :=
  let x := s.stn i
  match x.lastA with
  | none => s
  | some a =>
    if x.bDone || s.fget F.SCN_S_CFG_BDMODE i ≠ 2 || s.scnState i ≠ 2 ||
        decide ((t : Int) ≤ a + x.meanOff + s.winLen F.SCN_S_BDWIN_POST i) then s
    else
      let s := s.setStn i { x with bDone := true, bMiss := x.bMiss + 1 }
      if x.bMiss + 1 = 4 && !s.fbit F.SCN_S_STAT_BFAIL i then s.detFail i true else s

/-- The bookkeeping of BDMODE 2 at an A edge: B's miss of the facet before, and the offset of a B edge that came first (R278).
[DEDUCED, log entry 154] -/
def State.dualA (s : State) (i t : Nat) : State :=
  if s.fget F.SCN_S_CFG_BDMODE i ≠ 2 then s.setStn i { s.stn i with lastB := none, bDone := true, aWait := false }
  else
    let s := s.bCheck i t
    let x := s.stn i
    match x.lastB with
    | some b => s.setStn i { x with aMiss := 0, bMiss := 0, lastB := none, bDone := true, aWait := false, abOff := (((b : Int) - t) :: x.abOff).take 256 }
    | none => s.setStn i { x with aMiss := 0, bDone := false, aWait := false }

/-- An input's edge is accepted: it is the active one, and the pulse lasts 2 ns or more (R273). -/
def State.edgeActive (s : State) (i w : Nat) (rising : Bool) : Bool := rising != s.fbit F.SCN_S_CFG_BDPOL i && 128 ≤ 10 * w

/-- BEAM_DETECT_EDGE: an edge of input A of station i at time t, rising or falling, phi in 1/256 pixel after the last pixel clock, of
a pulse of w sixteenths of a tick-PLL cycle. An edge of a station that is OFF or has its laser off, or outside the window in
TRACK, is ignored (R273 to R275). -/
def execBeamDetectEdge (i t phi w : Nat) (rising : Bool) (s : State) : Host.Outcome State Fault Refusal :=
  .next (
    if s.variant.stn ≤ i || s.scnState i = 0 || !s.ldReady i || s.fbit F.SCN_S_STAT_AFAIL i || !s.edgeActive i w rising then s
    else if s.scnState i = 2 && !s.inWindow i t 0 then s
    else
      let s := s.dualA i t
      let s := s.edge i t t phi 0 (s.drumPos i)
      s.setStn i { s.stn i with miss := 0, lastA := some t })

/-- What a station's tracking keeps, blank: in OFF, and on the return to SEARCH. -/
def Stn.untracked (x : Stn) : Stn :=
  { x with trk := 0, miss := 0, ivals := [], lastEdge := none, winOpen := none, okRun := 0, badRun := 0, lastA := none, lastB := none,
           bDone := true, aWait := false, aMiss := 0, bMiss := 0 }

/-- The station returns to SEARCH at time t: LOCK clears, flag 784 + s, vector 10, a record, and the page is abandoned if it images
(R276). -/
def State.toSearch (s : State) (i t : Nat) : State :=
  let s := (s.fset F.SCN_S_STAT_STATE 1 i).fset F.SCN_S_STAT_LOCK 0 i
  let s := s.setStn i (s.stn i).untracked
  let s := ((s.setFlag (784 + i)).raise 10).recRule 276
  let s := if s.stnImaging i then (s.abandon 8).ldSyncAll else s
  s.windowOpen i t

/-- pcap of an edge known only some cycles later, at its window's close: the drum there, less its travel meanwhile at the speed last
latched (R276). -/
def State.pcapClose (s : State) (i : Nat) (cycles : Int) : Int :=
  s.drumPos i - signed 32 (s.rget R.AXS_A_VEL (s.fget F.BST_S_CFG_POSAX i)) * cycles / 8000

/-- An edge of B stands in for the A edge that missed: at B less the mean offset. The fourth in a row is a failure of A (R278). -/
def State.edgeByB (s : State) (i b dark : Nat) (pcap : Int) : State :=
  let x := s.stn i
  let am := x.aMiss + 1
  let s := s.setStn i { x with aMiss := am, bMiss := 0, lastB := none, lastA := none, miss := 0, bDone := true, aWait := false }
  let s := if am = 4 && !s.fbit F.SCN_S_STAT_AFAIL i then s.detFail i false else s
  let t := ((b : Int) - x.meanOff).toNat
  s.edge i t dark (s.phiAt i t) 0 pcap

/-- BEAM_DETECT_MISS: a TRACK window of station i closes without an A edge. In BDMODE 2 a B edge stands in for it, one that is still
to come in its own window too; otherwise an edge is synthesised at the predicted time, and the second in a row returns the
station to SEARCH. It is known POST after its time, so that SOL is late by what SOLDLY does not cover (R276 to R278). -/
def execBeamDetectMiss (i : Nat) (s : State) : Host.Outcome State Fault Refusal :=
  .next (
    if s.variant.stn ≤ i || s.scnState i ≠ 2 then s
    else
      let t := s.predicted i
      let close := t + s.winLen F.SCN_S_BDWIN_POST i
      let s := s.bCheck i close
      let x := s.stn i
      let dual := s.fget F.SCN_S_CFG_BDMODE i = 2 && !s.fbit F.SCN_S_STAT_AFAIL i && !s.fbit F.SCN_S_STAT_BFAIL i
      match (if dual then x.lastB else none) with
      | some b => s.edgeByB i b close (s.pcapClose i (max (s.fget F.SCN_S_BDWIN_POST i) 1))
      | none =>
        if dual && 0 < x.meanOff && !x.aWait then s.setStn i { x with aWait := true }
        else
          let late := s.subSlots i (s.winLen F.SCN_S_BDWIN_POST i) + 1088 - s.fget F.SCN_S_SOLDLY_SOLDLY i
          let s := s.setStn i { x with miss := x.miss + 1, lastA := none, lastB := none, bDone := true, aWait := false, aMiss := 0, bMiss := 0 }
          let wait : Int := max (s.fget F.SCN_S_BDWIN_POST i) 1 + (if x.aWait then x.meanOff / 16 else 0)
          let s := (s.finc F.SCN_S_MISSCNT_COUNT 1 i).edge i t close (s.phiAt i t) late (s.pcapClose i wait)
          if 2 ≤ (s.stn i).miss then s.toSearch i close else s)

/-- BEAM_DETECT_B_EDGE at time t, of a pulse of w sixteenths of a tick-PLL cycle: in BDMODE 1 the A-to-B time, from SOL until the
next window opens; in BDMODE 2 the second start detector, whose edge belongs to the facet of the A edge near it, stands in for one
that missed, and is the only one once AFAIL is set (R273, R278, R279). -/
def execBeamDetectBEdge (i t w : Nat) (rising : Bool) (s : State) : Host.Outcome State Fault Refusal :=
  .next (
    let x := s.stn i
    if s.variant.stn ≤ i || s.scnState i = 0 || !s.ldReady i || !s.edgeActive i w rising then s
    else match s.fget F.SCN_S_CFG_BDMODE i with
      | 1 =>
        (match x.lastA with
          | some a =>
            if x.winOpen.isNone && a + s.slotTime i (s.solAt i) ≤ t then
              s.fset F.SCN_S_ABTIME_AB (min (t - a) (2 ^ 24 - 1)) i
            else s
          | none => s)
      | 2 =>
        if s.fbit F.SCN_S_STAT_BFAIL i then s
        else
          let here := s.scnState i ≠ 2 || s.inWindow i t x.meanOff
          if s.fbit F.SCN_S_STAT_AFAIL i then
            if here then
              let e := ((t : Int) - x.meanOff).toNat
              let s := s.edge i e t (s.phiAt i e) 0 (s.drumPos i)
              s.setStn i { s.stn i with miss := 0 }
            else s
          else
            let e := x.lastA.getD 0
            let d : Int := (t : Int) - e - x.meanOff
            let after := x.lastA.isSome && !x.bDone && decide (e ≤ t) &&
              (if s.scnState i = 2 then decide (-(s.winLen F.SCN_S_BDWIN_PRE i : Int) ≤ d) && decide (d ≤ s.winLen F.SCN_S_BDWIN_POST i)
               else decide (2 * (t - e) < nth x.ivals 0 0))
            if after then s.setStn i { x with bDone := true, bMiss := 0, abOff := (((t : Int) - e) :: x.abOff).take 256 }
            else if x.aWait && here then s.edgeByB i t t (s.drumPos i)
            else if here && !x.aWait then s.setStn i { x with lastB := some t }
            else s
      | _ => s)

/-- BEAM_DETECT_WINDOW_OPEN: the window of station i opens, PRE before the predicted edge in TRACK; in SEARCH it is open throughout
(R241, R274). -/
def execBeamDetectWindowOpen (i : Nat) (s : State) : Host.Outcome State Fault Refusal :=
  .next (
    if s.variant.stn ≤ i || s.scnState i = 0 || (s.stn i).winOpen.isSome then s
    else s.windowFor i s.time16)

/-! ### Configuration -/

/-- EN of station i: OFF becomes SEARCH, and EN 0 makes any state OFF (Table 9-4). -/
def State.scnEnable (s : State) (i : Nat) (en : Bool) : State :=
  let was := s.fbit F.SCN_S_CFG_EN i
  let s := s.fset F.SCN_S_CFG_EN (bit en) i
  if en && !was then (s.fset F.SCN_S_STAT_STATE 1 i).windowOpen i s.time16
  else if !en && was then
    let s := ((s.bdEnd i s.time16).fset F.SCN_S_STAT_STATE 0 i).fset F.SCN_S_STAT_LOCK 0 i
    let x := s.stn i
    let s := s.setStn i { x.untracked with pfreqPend := none }
    match x.pfreqPend with
    | some v => s.putFreq i v
    | none => s
  else s

/-- Without a reference PERR reads 0 and LOCK is 0 (R289). -/
def State.refOff (s : State) (i : Nat) : State :=
  if s.fget F.SCN_S_CFG_REFMODE i = 0 && !s.stnImaging i then
    ((s.setStn i { s.stn i with perr := 0, okRun := 0, badRun := 0 }).fset F.SCN_S_STAT_LOCK 0 i).rset R.SCN_S_PERR 0 i
  else s

/-- A write of SCN_S_CFG: RWI; BDMODE 3 and REFMODE 3 are ignored and recorded (Tables 9-3 and 9-6, R303). -/
def State.scnCfgWrite (s : State) (i v : Nat) : State :=
  if s.variant.stn ≤ i then s
  else if s.stnImaging i then s.recRwi R.SCN_S_CFG v i
  else if bits v 28 27 = 3 || bits v 30 29 = 3 then s.recRule (if bits v 28 27 = 3 then 273 else 289)
  else
    let s' := s.rset R.SCN_S_CFG (bit (s.fbit F.SCN_S_CFG_EN i) * 2 ^ 31 + bits v 30 25 * 2 ^ 25 + bits v 23 20 * 2 ^ 20) i
    let s' := if bits v 28 27 = s.fget F.SCN_S_CFG_BDMODE i then s'
      else s'.setStn i { s'.stn i with lastB := none, bDone := true, aWait := false, aMiss := 0, bMiss := 0 }
    let s' := if s'.fbit F.SCN_S_CFG_TRACK i then s'.setStn i { s'.stn i with pfreqPend := none } else s'
    (s'.refOff i).scnEnable i (bitAt v 31)

/-- SCN_ENABLE (R274, R303). -/
def execScnEnable (i : Nat) (en : Bool) (s : State) : Host.Outcome State Fault Refusal :=
  .next (s.scnCfgWrite i (putBits (s.rget R.SCN_S_CFG i) 31 31 (bit en)))

/-- A write of SCN_S_SOLDLY: RWI, and below 1,280 ignored and recorded (R286). -/
def State.soldlyWrite (s : State) (i v : Nat) : State :=
  if s.variant.stn ≤ i then s
  else if s.stnImaging i then s.recRwi R.SCN_S_SOLDLY v i
  else if v % 2 ^ 16 < 1280 then s.recRule 286 else s.rset R.SCN_S_SOLDLY (v % 2 ^ 16) i

/-- A write of CLK_CTRL.SSC, taking effect at the next phase 0 (R271, R303). -/
def State.sscWrite (s : State) (v : Nat) : State :=
  if s.pageBusy then s.recRwi R.CLK_CTRL v
  else { s.fset F.CLK_CTRL_SSC v with img := { s.img with sscPend := some (v % 4) } }

/-- SSC_WRITE (R271). -/
def execSscWrite (v : Nat) (s : State) : Host.Outcome State Fault Refusal := .next (s.sscWrite v)

/-! ### Capacity and clamp (R294 to R296) -/

/-- MAG in ppm for the capacity: the armed value while ARMED (R294). [DEDUCED, log entry 70] -/
def State.capMag (s : State) (i : Nat) : Int :=
  match (if s.fbit F.BST_UPDSTAT_ARMED then s.armedVal F.SCN_S_MAG_PEND i 0 else none) with
  | some v => signed 16 v
  | none => s.fsigned F.SCN_S_MAG_ACT i

/-- Numerator and denominator of a facet rate of r rpm as a process speed in mm/s, and of a pixel clock of f Hz (R294). -/
def State.rpmSpeed (s : State) (i r : Nat) : Nat × Nat := (r * s.nf i * s.nb i * 127, 60 * 12000)

/-- A pixel clock as a process speed in mm/s: f / M × NB × p (R294). -/
def State.clkSpeed (s : State) (i f : Nat) : Nat × Nat :=
  (f * 65536 * 1000000 * s.nb i * 127, (s.rget R.SCN_S_PXF i * (1000000 + s.capMag i)).toNat * 12000)

/-- VMIN and VMAX of a station (R294). -/
def State.capacity (s : State) (i : Nat) : Nat × Nat :=
  if s.variant.stn ≤ i || !s.fbit F.SCN_S_CFG_EN i || !s.fbit F.SCN_S_CFG_TRACK i || s.rget R.SCN_S_PXF i = 0 ||
      s.fbit F.CLK_STAT_COASTEXP then (0, 0)
  else
    let fl (x : Nat × Nat) : Nat := x.1 / max x.2 1
    let ce (x : Nat × Nat) : Nat := (x.1 + max x.2 1 - 1) / max x.2 1
    let hi := min (fl (s.rpmSpeed i (min 60000 (s.fget F.SCN_S_RPM_RPMMAX i)))) (fl (s.clkSpeed i 150000000))
    let lo := max (ce (s.rpmSpeed i (s.fget F.SCN_S_RPM_RPMMIN i))) (ce (s.clkSpeed i 5000000))
    (min lo 65535, min hi 65535)

/-- CLAMPV: the least VMAX of the enabled stations and the variant's maximum speed (R296). -/
def State.clampV (s : State) : Nat :=
  (List.range s.variant.stn).foldl (fun m i =>
    if s.fbit F.SCN_S_CFG_EN i then min m (s.fget F.SCN_S_CAP_VMAX i) else m) s.variant.maxSpeed

/-- Phase 0 of scanner synchronisation: capacities, CLAMPV, the latched phase errors, the spread in effect (R271, R291,
R294). -/
def State.scanPhase0 (s : State) : State :=
  let s := (List.range s.variant.stn).foldl (fun s i =>
    let s := (s.bCheck i s.time16).refOff i
    let c := s.capacity i
    (s.rset R.SCN_S_CAP (c.1 * 65536 + c.2) i).rset R.SCN_S_PERR (unsign 16 (satS 16 ((s.stn i).perr / 256))) i) s
  let s := s.fset F.SCN_STAT_CLAMPV s.clampV
  match s.img.sscPend with
  | some v => { s.fset F.CLK_STAT_SSCNOW v with img := { s.img with sscPend := none } }
  | none => s

/-- Largest start delay of a station's beams, armed while ARMED, else active (R295). -/
def State.checkBdly (s : State) (i : Nat) : Nat :=
  ((List.range (s.nb i)).map (fun b =>
    match (if s.fbit F.BST_UPDSTAT_ARMED then s.armedVal F.EXP_S_BDLY_PEND i b else none) with
    | some v => v
    | none => s.bdly i b)).foldl max 0

/-- Check 0x5 of Table 5-9 for a page at a speed (R295). -/
def State.scanCheck (s : State) (e : Env) (speed : Nat) : Bool :=
  (List.range 6).all (fun i => !e.has i ||
    (s.scnState i == 2 && s.fbit F.SCN_S_STAT_PLLLOCK i && decide (s.fget F.SCN_S_CAP_VMIN i ≤ speed) &&
      decide (speed ≤ s.fget F.SCN_S_CAP_VMAX i) &&
      decide (s.fget F.SCN_S_SOLDLY_SOLDLY i + 8 * ((s.checkBdly i + 7) / 8 + e.ppl) ≤ 8 * s.fget F.SCN_S_SCANMAX_SCANMAX i)))

/-! ### Commit (R172, R226, R290) -/

/-- Station i joins a page at its commit: its position is captured and its reference begins to move from its old phase to
the page grid, the shorter way round (R226, R290). -/
def State.commitStn (s : State) (i h : Nat) : State :=
  let x := s.stn i
  let pc := s.drumPos i
  let old := s.idleRef i pc s.time16
  let x' := { x with page := h, endAt := none, finished := false, pcommit := pc, phoffPg := s.fsigned F.SCN_S_PHOFF_PHOFF i,
                     drops := [], caps := [], lastPull := none, dropTold := false, missed := [], warned := [] }
  let s := (s.setStn i x').rset R.BST_S_SCAN 0 i
  let new := s.lines16 i (s.travel i pc) - s.pageRef i 0
  let left := match old with
    | some (u, a) => nearMod (new - (u - a - x.refLeft)) (s.nbRef i)
    | none => 0
  (s.setStn i { s.stn i with refLeft := left }).fset F.SCN_S_STAT_RPHASE (bit (left ≠ 0)) i

/-- A write of the head's handle to FMT_PGSTART at its output phase: with READY the page becomes IMAGING; any other write
is ignored and recorded (R172). -/
def State.pgStart (s : State) (h : Nat) : State :=
  if s.fbit F.FMT_HEADSTAT_READY && h ≠ 0 && s.headHandle = h && s.pageState h = some .admitted then
    match s.envOf h with
    | none => s
    | some e =>
      let s := ((s.modEnv h (fun e => { e with state := .imaging, dropped := 0, blank := 0 })).fset F.FMT_HEADSTAT_READY 0)
      let s := { s with fmt := { s.fmt with queue := s.fmt.queue.filter (· != h) } }
      ((List.range 6).filter (fun i => e.has i && i < s.variant.stn)).foldl (fun s i => s.commitStn i h) s
  else s.recRule 172

/-- PGSTART (R172). -/
def execPgstart (h : Nat) (s : State) : Host.Outcome State Fault Refusal := .next (s.pgStart h)

/-! ### Reference loss (R297 to R301) -/

/-- PIXEL_PLL_UNLOCK of station i; while it images, the page is abandoned with cause 8 and the event recorded (R297). -/
def execPixelPllUnlock (i : Nat) (s : State) : Host.Outcome State Fault Refusal :=
  .next (
    if s.variant.stn ≤ i then s
    else
      let s := s.fset F.SCN_S_STAT_PLLLOCK 0 i
      if s.stnImaging i then ((s.recRule 297).abandon 8).ldSyncAll else s)

/-- REFERENCE_LOST: the PLLs coast; flag 790, vector 11, a record, and the absorbed-fault count (R298). -/
def execReferenceLost (s : State) : Host.Outcome State Fault Refusal :=
  .next (
    if s.fbit F.CLK_STAT_COAST then s
    else
      let s := (((s.fset F.CLK_STAT_COAST 1).fset F.CLK_STAT_REFLOST 1).fset F.CLK_STAT_REFOK 0).fset F.TCK_STAT_COAST 1
      let s := { (s.fset F.CLK_COAST_ELAPSED 0).absorb F.SYS_ABS1_REFLOSS with img := { s.img with coast := 0 } }
      ((s.setFlag 790).raise 11).recRule 298)

/-- The coast limit is reached: COASTEXP (R300). -/
def State.coastLimit (s : State) : State :=
  if s.fbit F.CLK_STAT_COAST && max (s.fget F.CLK_COAST_LIM) 1 ≤ s.fget F.CLK_COAST_ELAPSED then s.fset F.CLK_STAT_COASTEXP 1
  else s

/-- COAST_LIMIT (R300). -/
def execCoastLimit (s : State) : Host.Outcome State Fault Refusal := .next s.coastLimit

/-- A tick of the coast: ELAPSED counts milliseconds of 50 ticks (R300). -/
def State.coastPhase0 (s : State) : State :=
  if !s.fbit F.CLK_STAT_COAST then s
  else
    let c := s.img.coast + 1
    let s := { s with img := { s.img with coast := c } }
    (s.fset F.CLK_COAST_ELAPSED (min (c / 50) 2047)).coastLimit

/-- REFERENCE_RESTORED: every PLL has relocked, a pixel PLL only while its station is not imaging; flag 791, vector 11 and a record
(R301). -/
def execReferenceRestored (s : State) : Host.Outcome State Fault Refusal :=
  .next (
    if !s.fbit F.CLK_STAT_COAST || s.anyImaging then s
    else
      let s := (((s.fset F.CLK_STAT_COAST 0).fset F.CLK_STAT_COASTEXP 0).fset F.CLK_STAT_REFOK 1).fset F.TCK_STAT_COAST 0
      ((s.setFlag 791).raise 11).recRule 301)

end Sys2Proof.Machine
end

