-- ==== Sys2Proof/Machine/Lpe.lean ====
section
/-! DEFINITION. The loop engines: evaluation of a law (R335 to R341), parameter writes at phase 0 (R344 to R346) and law
parameter access by the host. -/

namespace Sys2Proof.Machine

/-! ### One evaluation (R335) -/

/-- The values a law reads at phase 0: its sources, and the present values of its targets, as field values (R326, R341). -/
structure LawIn where
  meas : Int
  aux  : Int
  sp   : Int
  tgt  : Int
  tgt2 : Int
  deriving DecidableEq, Repr

/-- A source field value entered into a stage (R334). -/
def enter (v x e : Int) : Int := s16 (cv v x e)

/-- Sign of an integer as −1, 0 or 1. -/
def sgn (i : Int) : Int := if 0 < i then 1 else if i < 0 then -1 else 0

/-- One output of a law: its integrator, its mantissa and what held it. -/
structure LoopOut where
  iw    : Int
  out   : Int
  slewl : Bool
  limhi : Bool
  limlo : Bool
  deriving DecidableEq, Repr

/-- The integrator and output part of R335: preload in a hand-over tick, slew, limits, anti-windup. `pre` is the sum of the
proportional, feedforward and derivative terms, `di` the integral increment. [DEDUCED, log entry 45] -/
def loopOut (ho : Bool) (iw oprev pre di slew lo hi eout : Int) : LoopOut :=
  let w := eout - 16
  let lo := cv lo eout w
  let hi := cv hi eout w
  let iw := if ho then cv oprev eout w - pre else iw
  let di := if ho then 0 else di
  let u := iw + di + pre
  let y := if slew = 0 then u else min (max u (cv (oprev - slew) eout w)) (cv (oprev + slew) eout w)
  let z := min (max y lo) hi
  let di := if (z < u && 0 < di) || (u < z && di < 0) then 0 else di
  { iw := min (max (iw + di) lo) hi, out := s16 (cv z w eout), slewl := decide (y ≠ u), limhi := decide (hi < max y lo),
    limlo := decide (y < lo ∧ lo ≤ hi) }

/-- The ramped set-point after this tick (R335, R337). [DEDUCED, log entry 46] -/
def rampStep (r setpt ramp : Int) : Int :=
  let m := max ramp (-ramp)
  if ramp = 0 || max (setpt - r) (r - setpt) ≤ m then setpt else r + m * sgn (setpt - r)

/-- The automatic mode change of Table 11-3: the mode that the latched inputs call for (R339). -/
def Law.autoMode (l : Law) (t : LawType) (meas aux setpt : Int) : Nat :=
  let abs (x : Int) : Int := max x (-x)
  match t with
  | .cvcc =>
    if l.mode = 0 then (if l.setpt2 + l.hyst ≤ abs aux then 1 else 0)
    else (if abs l.r ≤ abs meas then 0 else 1)
  | .fuser =>
    if l.mode = 0 then (if setpt - l.setpt2 ≤ meas then 1 else 0)
    else (if meas < setpt - l.setpt2 - l.hyst then 0 else 1)
  | _ => l.mode

/-- The sticky bits of STATUS with those of this evaluation. -/
def stickyOr (old : Nat) (sat limhi limlo slewl ho : Bool) : Nat :=
  bits old 4 0 ||| (bit sat * 16 + bit limhi * 8 + bit limlo * 4 + bit slewl * 2 + bit ho)

/-- One evaluation of a law (R335 to R341), and whether its mode changed by itself. The set-point has been limited already.
[DEDUCED, log entry 48] -/
def Law.eval (l : Law) (d : LawDecl) (inp : LawIn) : Law × Bool :=
  let meas := enter inp.meas d.meas.exp d.ein
  let aux := match d.aux with | some f => enter inp.aux f.exp d.eaux | none => 0
  let setpt := l.setpt
  let multi := d.type == .cvcc || d.type == .fuser
  let mode := if !multi then l.mode else if l.modeCtl = 0 then l.autoMode d.type meas aux setpt else l.modeCtl - 1
  let auto := decide (l.modeCtl = 0 ∧ mode ≠ l.mode)
  let ho := decide (mode ≠ l.mode) || l.actPend
  let oprev := if l.actPend then enter inp.tgt d.tgt.exp d.eout else l.out
  let oprev2 := if l.actPend then (match d.tgt2 with | some f => enter inp.tgt2 f.exp d.eout | none => 0) else l.out2
  let warm := d.type == .fuser && mode = 0
  let r0 := if ho || setpt ≠ l.spApplied then meas else l.r
  let r := if warm then meas else rampStep r0 setpt l.ramp
  let w := d.eout - 16
  let cc := d.type == .cvcc && mode = 1
  let e := satS 24 (match d.type with
    | .pllspd => r - meas + cv (l.kph * aux) (d.egain + d.eaux) d.ein
    | .cvcc => if mode = 1 then (if setpt < 0 then -1 else 1) * (l.setpt2 - max aux (-aux)) else r - meas
    | _ => r - meas)
  let ee := if cc then d.eaux else d.ein
  let kp := if cc then l.kp2 else l.kp
  let ki := if cc then l.ki2 else l.ki
  let ff := if d.type == .dqcur then 0 else cv (l.kff * r) (d.egain + d.ein) w
  let dinc := cv (l.dflt * (l.measPrev - meas - l.d)) (d.egain + d.ein) d.ein
  let dst := if d.type == .pid then l.d + s16 dinc else l.d
  let dw := if d.type == .pid then cv (l.kd * dst) (d.egain + d.ein) w else 0
  let pre := cv (kp * e) (d.egain + ee) w + ff + dw
  let di := cv (ki * e) (d.egain + ee) w
  let isDq := d.type == .dqcur
  let e2 := satS 24 (l.setpt2 - aux)
  let o2 := loopOut ho l.i2w oprev2 (cv (l.kp2 * e2) (d.egain + d.eaux) w) (cv (l.ki2 * e2) (d.egain + d.eaux) w) l.slew
    (-l.outMax) l.outMax d.eout
  let qlim : Int := isqrt (l.outMax * l.outMax - o2.out * o2.out).toNat
  let o := if isDq then loopOut ho l.iw oprev pre di l.slew (-qlim) qlim d.eout
    else loopOut ho l.iw oprev pre di l.slew l.outMin l.outMax d.eout
  let o := if warm then { iw := l.iw, out := l.outMax, slewl := false, limhi := false, limlo := false } else o
  let sat := s16Sat (cv inp.meas d.meas.exp d.ein) ||
    (match d.aux with | some f => s16Sat (cv inp.aux f.exp d.eaux) | none => false) ||
    (match d.sp with | some f => s16Sat (cv inp.sp f.exp d.ein) | none => false) ||
    (d.type == .pid && s16Sat dinc) ||
    (l.actPend && (s16Sat (cv inp.tgt d.tgt.exp d.eout) ||
      (match d.tgt2 with | some f => s16Sat (cv inp.tgt2 f.exp d.eout) | none => false)))
  let limhi := o.limhi || (isDq && o2.limhi)
  let limlo := o.limlo || (isDq && o2.limlo)
  let slewl := o.slewl || (isDq && o2.slewl)
  ({ l with meas := meas, aux := aux, mode := mode, r := r, d := dst, measPrev := meas, spApplied := setpt, iw := o.iw,
            i2w := if isDq then o2.iw else l.i2w, out := o.out, out2 := if isDq then o2.out else l.out2, actPend := false,
            sticky := stickyOr l.sticky sat limhi limlo slewl ho }, auto)

/-! ### Parameter writes (R342, R344 to R346) -/

/-- The largest mantissa of SETPT that R296 allows for law n: CLAMPV × CLAMPK at its EIN, rounded down. -/
def State.setptLimit (s : State) (n : Nat) (d : LawDecl) : Option Int :=
  if s.fbit F.SCN_CLAMP_EN && s.fget F.SCN_CLAMP_LAW == n then
    some (scaleFloor ((s.fget F.SCN_STAT_CLAMPV * s.rget R.SCN_CLAMPK : Nat) : Int) (-16 - d.ein))
  else none

/-- SETPT of law n applied: limited under R296, which is told once per page. -/
def State.applySetpt (s : State) (n : Nat) (d : LawDecl) (m : Int) : State :=
  match s.setptLimit n d with
  | some lim =>
    if lim < m then
      let s := (s.setLaw n { s.law n with setpt := lim }).fset F.SCN_STAT_CLAMPED 1
      let s := s.setFlag 792
      let h := s.imagingHandle
      if s.img.clampPg = some h then s
      else { s.recRule 296 with img := { s.img with clampPg := some h } }
    else s.setLaw n { s.law n with setpt := m }
  | none => s.setLaw n { s.law n with setpt := m }

/-- ACTIVE of law n applied: an activation makes every other member of its alternates group inactive (R340 to R342). -/
def State.setActive (s : State) (n : Nat) (on : Bool) : State :=
  let l := s.law n
  if !on then s.setLaw n { l with active := false, actPend := false }
  else if l.active then s
  else
    let g := match l.decl with | some d => d.altGrp | none => 0
    let s := if g = 0 then s
      else { s with lpe := { s.lpe with law := s.lpe.law.map (fun k => match k.decl with
        | some d => if d.altGrp = g then { k with active := false, actPend := false } else k
        | none => k) } }
    s.setLaw n { s.law n with active := true, actPend := true }

/-- A parameter of law n written with val × 2^exp, and whether it was saturated (R334). -/
def State.applyParam (s : State) (n p : Nat) (val exp : Int) : State × Bool :=
  let l := s.law n
  match l.decl with
  | none => (s, false)
  | some d =>
    let (m, sat) := paramEnter d p val exp
    let s := if sat && p < 60 then s.setLaw n { l with sticky := l.sticky ||| 16 } else s
    (match p with
      | 0 => s.applySetpt n d m
      | 60 => s.setActive n (m == 1)
      | 61 => s.setLaw n { s.law n with modeCtl := m.toNat }
      | _ => s.setLaw n ((s.law n).setParam p m), sat)

/-- A parameter write applied at phase 0; a host write gives its result in LPE_PSTAT. -/
def State.applyWriteP (s : State) : ParamWrite → State
  | .lawset l p v e => if (s.law l).writable p then (s.applyParam l p v e).1 else s
  | .host l p v e =>
    let s := s.fset F.LPE_PSTAT_BUSY 0
    if (s.law l).writable p then
      let r := s.applyParam l p v e
      r.1.fset F.LPE_PSTAT_RESULT (if r.2 then 3 else 1)
    else s.fset F.LPE_PSTAT_RESULT 2
  | .pull _ _ _ => s

/-- Of the values SETPT × NB / a, truncated toward zero, the one nearest zero (R344). -/
def pullValue (base : Int) (ps : List (Nat × Nat)) : Option Int :=
  (ps.map (fun p => Int.tdiv (base * p.1) (max p.2 1))).foldl (fun b v => match b with
    | none => some v
    | some b => if max v (-v) < max b (-b) then some v else some b) none

/-- The pull-backs of a law among the writes. -/
def pullsOf (n : Nat) (ws : List ParamWrite) : List (Nat × Nat) :=
  ws.filterMap (fun w => match w with | .pull l nb a => if l = n then some (nb, a) else none | _ => none)

/-- Law-parameter writes released by the last commit. -/
def State.lawsets (s : State) : List ParamWrite :=
  s.seq.rel.filterMap (fun d => match d with | .lawset _ l p v e => some (.lawset l p v e) | _ => none)

/-- The sequence of R344, with the writes of a tick that was rolled back before the new ones of each kind (R346). -/
def State.lpeWrites (s : State) : State :=
  let ws := s.lpe.again ++ s.lawsets ++ s.lpe.host ++ s.lpe.pulls
  let ls := ws.filter (fun w => match w with | .lawset .. => true | _ => false)
  let hs := ws.filter (fun w => match w with | .host .. => true | _ => false)
  let ps := ws.filter (fun w => match w with | .pull .. => true | _ => false)
  let s := (ls ++ hs).foldl State.applyWriteP s
  let s := (List.range 128).foldl (fun s n =>
    match (s.law n).decl, pullValue (s.law n).setpt (pullsOf n ps) with
    | some d, some v =>
      let s := if s16Sat v then s.setLaw n { s.law n with sticky := (s.law n).sticky ||| 16 } else s
      s.applySetpt n d (s16 v)
    | _, _ => s) s
  { s with
    lpe := { s.lpe with again := [], host := [], pulls := [], applied := s.lpe.applied ++ ls ++ hs ++ ps }
    seq := { s.seq with rel := s.seq.rel.filter (fun d => match d with | .lawset .. => false | _ => true) } }

/-! ### Evaluation at phase 0 (R325 to R327) -/

/-- What law d reads, through a read of the registers (R326). -/
def LawDecl.inputs (d : LawDecl) (rd : Nat → Nat) : LawIn :=
  let of (f : Option LawField) : Int := match f with | some f => f.value (rd f.addr) | none => 0
  { meas := d.meas.value (rd d.meas.addr), aux := of d.aux, sp := of d.sp, tgt := d.tgt.value (rd d.tgt.addr), tgt2 := of d.tgt2 }

/-- Output phase of a law's outputs: 0 for DQCUR; for FUSER 15, whose command leaves in the Guyline frame of the commit, or 0 on an L
variant, where it goes to FUS_CMD; else as placed (R327). -/
def LawDecl.outPhase (d : LawDecl) (mains : Bool) : Nat := if d.type == .fuser then (if mains then 15 else 0) else d.oph

/-- Law n evaluated: state, status, flag 794 and its record, and its outputs queued (R325, R327, R339). -/
def State.evalLaw (s : State) (rd : Nat → Nat) (n : Nat) : State :=
  let l := s.law n
  match l.decl with
  | none => s
  | some d =>
    if !l.active then s
    else
      let inp := d.inputs rd
      let s := match d.sp with
        | some f => s.applySetpt n d (enter inp.sp f.exp d.ein)
        | none => s
      let (l', auto) := (s.law n).eval d inp
      let ph := d.outPhase s.variant.mains
      let outs := { phase := ph, addr := d.tgt.addr, val := d.tgt.word l'.out d.eout : LawOut } ::
        (match d.tgt2 with | some f => [{ phase := ph, addr := f.addr, val := f.word l'.out2 d.eout : LawOut }] | none => [])
      let s := s.setLaw n l'
      let s := { s with lpe := { s.lpe with outq := s.lpe.outq ++ outs } }
      if auto then
        let s := s.setFlag 794
        let key := (n, s.imagingHandle)
        if key ∈ s.lpe.hoSeen then s
        else { s.recRule 339 with
               lpe := { s.lpe with hoSeen := key :: s.lpe.hoSeen.filter (fun k => k.1 != n) } }
      else s

/-- The declared laws in the order of their engines and slots. -/
def State.lawOrder (s : State) : List Nat :=
  (List.range 128).filterMap (fun k => findBelow 128 (fun n => match (s.law n).decl with
    | some d => d.engine * 32 + d.slot == k
    | none => false))

/-- The loop engines evaluate each active law once, each engine in ascending slot order (R325). -/
def State.lpeEvaluate (s : State) (rd : Nat → Nat) : State := s.lawOrder.foldl (fun s n => s.evalLaw rd n) s

/-! ### Host access -/

/-- LPE_L_STAT of law n. -/
def State.lawStat (s : State) (n : Nat) : Nat :=
  let l := s.law n
  match l.decl with
  | none => 0
  | some d =>
    let ty := match d.type with | .pi => 1 | .pid => 2 | .pllspd => 3 | .dqcur => 4 | .cvcc => 5 | .fuser => 6
    2 ^ 31 + bit l.active * 2 ^ 30 + d.engine * 2 ^ 28 + d.slot * 2 ^ 23 + (if d.oph ≤ 10 then d.oph / 2 else 0) * 2 ^ 20 +
      ty * 2 ^ 16 + l.status * 2 ^ 8 + d.altGrp % 64

/-- The sticky status bits of law n without those of a mask. -/
def State.clearSticky (s : State) (nm : Nat × Nat) : State :=
  s.setLaw nm.1 { s.law nm.1 with sticky := (s.law nm.1).sticky - ((s.law nm.1).sticky &&& nm.2) }

/-- A write of ones clears the sticky status bits of law n; the committed value stays as it is until the commit (R142), and a
rollback clears them again. [DESIGN CHOICE, log entry 150] -/
def State.lawStatClear (s : State) (n v : Nat) : State :=
  let s := s.clearSticky (n, bits v 12 8)
  { s with lpe := { s.lpe with clears := s.lpe.clears ++ [(n, bits v 12 8)] } }

/-- LPE_PCMD.READ: the committed value into LPE_PRD at once, as LAWGET does (R142, R344). -/
def State.pcmdRead (s : State) : State :=
  let n := s.fget F.LPE_PACC_LAW
  let p := s.fget F.LPE_PACC_PARAM
  let l := s.lawCommitted n
  if l.readable p then
    let (v, sat) := l.get p (s.fsigned F.LPE_PACC_EXP)
    (s.rset R.LPE_PRD v).fset F.LPE_PSTAT_RESULT (if sat then 3 else 1)
  else s.fset F.LPE_PSTAT_RESULT 2

/-- LPE_PCMD.WRITE: the value waits for the next phase 0; ignored and recorded while one waits (R344). -/
def State.pcmdWrite (s : State) : State :=
  if s.fbit F.LPE_PSTAT_BUSY then s.recRule 344
  else
    let w := ParamWrite.host (s.fget F.LPE_PACC_LAW) (s.fget F.LPE_PACC_PARAM) (signed 32 (s.rget R.LPE_PDATA))
      (s.fsigned F.LPE_PACC_EXP)
    { s.fset F.LPE_PSTAT_BUSY 1 with lpe := { s.lpe with host := s.lpe.host ++ [w] } }

/-- PCMD_WRITE (R344). -/
def execPcmdWrite (s : State) : Host.Outcome State Fault Refusal := .next s.pcmdWrite

/-- PCMD_READ (R142). -/
def execPcmdRead (s : State) : Host.Outcome State Fault Refusal := .next s.pcmdRead

end Sys2Proof.Machine
end

