-- ==== Sys2Proof/Machine/Motion.lean ====
section
/-! DEFINITION. Motion: the profile generator, commands, virtual limits, the jitter band, switches, homing and stall
detection (R432 to R458). -/

namespace Sys2Proof.Machine

/-! ### Plans (R439 to R444), in units of 2^-64 -/

/-- One in plan units. -/
def one64 : Int := 18446744073709551616

/-- Product of two numbers in plan units. [DESIGN CHOICE, log entry 92] -/
def mul64 (x y : Int) : Int := x * y / one64

/-- Quotient of two numbers in plan units; 0 over 0. -/
def div64 (x y : Int) : Int := if y = 0 then 0 else x * one64 / y

/-- Square root of a product of two numbers in plan units, given as that product. -/
def sqrt64 (x : Int) : Int := isqrtFuel 96 x.toNat 0

/-- The state (p, v, a) after a time tau with jerk j (R440). -/
def advance (st : Int × Int × Int) (tau j : Int) : Int × Int × Int :=
  let (p, v, a) := st
  (p + v * tau / one64 + a * tau * tau / (2 * one64 ^ 2) + j * tau * tau * tau / (6 * one64 ^ 3),
   v + a * tau / one64 + j * tau * tau / (2 * one64 ^ 2),
   a + j * tau / one64)

/-- The state after a list of segments. -/
def runSegs (st : Int × Int × Int) (segs : List (Int × Int)) : Int × Int × Int :=
  segs.foldl (fun st g => advance st g.1 g.2) st

/-- Length of a plan. -/
def planTime (segs : List (Int × Int)) : Int := (segs.map (·.1)).foldl (· + ·) 0

/-- Segments of jerk that take the acceleration a to b, with jerk j > 0. -/
def rampTo (a b j : Int) : List (Int × Int) := if a = b then [] else [(div64 (max (b - a) (a - b)) j, if a < b then j else -j)]

/-- The time-optimal plan from velocity v and acceleration a to rest under limits A and J (R444). -/
def stopPlan (v a lim j : Int) : List (Int × Int) :=
  let vs := v + (if 0 ≤ a then 1 else -1) * (a * a / (2 * j))
  if vs = 0 then rampTo a 0 j
  else
    let s : Int := if 0 < vs then 1 else -1
    let pre := if s * a < -lim then rampTo a (-s * lim) j else []
    let (_, v, a) := runSegs (0, v, a) pre
    let v := s * v
    let a := s * a
    let ap := sqrt64 (max 0 (j * v + a * a / 2))
    if ap ≤ lim then
      pre ++ [(div64 (max 0 (a + ap)) j, -s * j), (div64 ap j, s * j)]
    else
      let dwell := max 0 (div64 (v + (a * a - 2 * lim * lim) / (2 * j)) lim)
      pre ++ [(div64 (max 0 (a + lim)) j, -s * j), (dwell, 0), (div64 lim j, s * j)]

/-- Travel of the stop plan. -/
def stopTravel (v a lim j : Int) : Int := (runSegs (0, v, a) (stopPlan v a lim j)).1

/-- Acceleration towards s × A for a time u: the first part of a MOVE. -/
def accelFor (a lim j s u : Int) : List (Int × Int) :=
  let r := rampTo a (s * lim) j
  let tr := planTime r
  if u ≤ tr then r.map (fun g => (min g.1 u, g.2)) else r ++ [(u - tr, 0)]

/-- The least value from lo to hi at which a monotone test holds, to the last unit; hi when it holds nowhere below. -/
def bisect : Nat → Int → Int → (Int → Bool) → Int
  | 0, _, hi, _ => hi
  | k + 1, lo, hi, f =>
    let m := (lo + hi) / 2
    if f m then bisect k lo m f else bisect k (m + 1) hi f

/-- The time-optimal plan from (v, a) over a distance to rest, subject to |v| ≤ V, |a| ≤ A and |j| ≤ J: full jerk towards
the target for a time u, a cruise at V where it is reached, then the stop (R441). -/
def movePlan (dist v a vmax amax j : Int) : List (Int × Int) :=
  let s : Int := if stopTravel v a amax j ≤ dist then 1 else -1
  let after (u : Int) : Int × Int × Int := runSegs (0, v, a) (accelFor a amax j s u)
  let peak (u : Int) : Int :=
    let (_, v', a') := after u
    s * v' + (if 0 ≤ s * a' then 1 else -1) * (a' * a' / (2 * j))
  let travel (u : Int) : Int :=
    let (p', v', a') := after u
    s * (p' + stopTravel v' a' amax j)
  let top := div64 (vmax + max v (-v)) amax + 4 * div64 (amax + max a (-a)) j + one64
  let um := bisect 160 0 top (fun u => decide (vmax ≤ peak u))
  if travel um ≤ s * dist && vmax ≤ peak um then
    let acc := accelFor a amax j s um
    let (_, _, a') := after um
    let acc := acc ++ rampTo a' 0 j
    let (p1, v1, _) := runSegs (0, v, a) acc
    let tail := stopPlan v1 0 amax j
    let d := dist - p1 - (runSegs (0, v1, 0) tail).1
    acc ++ (if v1 = 0 then [] else [(max 0 (div64 d v1), 0)]) ++ tail
  else
    let u := bisect 160 0 (if vmax ≤ peak um then um else 2 * top + 2 * sqrt64 ((max dist (-dist)) * one64) + div64 (max dist (-dist)) (max amax 1)) (fun u => decide (s * dist ≤ travel u))
    let acc := accelFor a amax j s u
    let (_, v', a') := after u
    acc ++ stopPlan v' a' amax j

/-- The time-optimal plan to a velocity (R443). -/
def velPlan (vt v a amax j : Int) : List (Int × Int) := stopPlan (v - vt) a amax j

/-- State of a plan at a whole tick. -/
def Axis.at (x : Axis) (t : Nat) : Int × Int × Int :=
  let tau := (t : Int) * one64
  let (st, left) := x.segs.foldl (fun (acc : (Int × Int × Int) × Int) g =>
    let d := min g.1 acc.2
    (advance acc.1 d g.2, acc.2 - d)) ((x.p0, x.v0, x.a0), tau)
  if x.hold then advance (st.1, st.2.1, 0) left 0 else st

/-- The plan is over at a whole tick. -/
def Axis.ended (x : Axis) (t : Nat) : Bool := !x.hold && decide (planTime x.segs ≤ (t : Int) * one64)

/-- Rounding of a plan value to 2^-k, ties up. -/
def round64 (v : Int) (k : Nat) : Int := (v + 2 ^ (63 - k)) / 2 ^ (64 - k)

/-! ### Axes -/

/-- The state with axis n replaced. -/
def State.setAxis (s : State) (n : Nat) (x : Axis) : State := { s with motion := { s.motion with axis := s.motion.axis.set n x } }

/-- STATE of an axis. -/
def State.axState (s : State) (n : Nat) : Nat := s.fget F.AXS_A_STAT_STATE n

/-- MODE of an axis. -/
def State.axMode (s : State) (n : Nat) : Nat := s.fget F.AXS_A_CFG_MODE n

/-- A 48-bit register pair, signed. -/
def State.pair48 (s : State) (lo hi : RegDesc) (n : Nat) : Int := signed 48 (s.rget lo n + 2 ^ 32 * (s.rget hi n % 2 ^ 16))

/-- A 48-bit register pair written. -/
def State.putPair48 (s : State) (lo hi : RegDesc) (n : Nat) (v : Int) : State :=
  (s.rset lo (unsign 48 v % 2 ^ 32) n).rset hi (unsign 48 v / 2 ^ 32) n

/-- Limits of an axis in plan units: VMAX 16.16, AMAX and DSTOP 4.28, JMAX and JSTOP 0.32 (R439). -/
def State.axV (s : State) (n : Nat) : Int := (s.rget R.AXS_A_VMAX n : Int) * 2 ^ 48

/-- AMAX in plan units. -/
def State.axA (s : State) (n : Nat) : Int := (s.rget R.AXS_A_AMAX n : Int) * 2 ^ 36

/-- JMAX in plan units. -/
def State.axJ (s : State) (n : Nat) : Int := (s.rget R.AXS_A_JMAX n : Int) * 2 ^ 32

/-- DSTOP in plan units. -/
def State.axD (s : State) (n : Nat) : Int := (s.rget R.AXS_A_DSTOP n : Int) * 2 ^ 36

/-- JSTOP in plan units. -/
def State.axJS (s : State) (n : Nat) : Int := (s.rget R.AXS_A_JSTOP n : Int) * 2 ^ 32

/-- The sampled position in plan units. -/
def Axis.p64 (x : Axis) : Int := x.p * 2 ^ 48

/-- The sampled velocity in plan units. -/
def Axis.v64 (x : Axis) : Int := x.v * 2 ^ 48

/-- The sampled acceleration in plan units. -/
def Axis.a64 (x : Axis) : Int := x.a * 2 ^ 32

/-- A new plan from the sampled state. -/
def Axis.begin (x : Axis) (segs : List (Int × Int)) (hold : Bool) (endP : Option Int) (goal : Goal) : Axis :=
  { x with segs := segs, p0 := x.p64, v0 := x.v64, a0 := x.a64, t := 0, hold := hold, endP := endP, goal := goal }

/-- A plan to a target in counts. -/
def State.axPlanMove (s : State) (n : Nat) (tgt : Int) (goal : Goal) : State :=
  let x := s.axis n
  s.setAxis n (x.begin (movePlan (tgt * one64 - x.p64) x.v64 x.a64 (s.axV n) (s.axA n) (s.axJ n)) false (some tgt) goal)

/-- A plan to a velocity, in 1/65536 count per tick, then held. -/
def State.axPlanVel (s : State) (n : Nat) (vt : Int) (goal : Goal) : State :=
  let x := s.axis n
  s.setAxis n (x.begin (velPlan (vt * 2 ^ 48) x.v64 x.a64 (s.axA n) (s.axJ n)) true none goal)

/-- A stop under limits in plan units. -/
def State.axPlanStop (s : State) (n : Nat) (lim j : Int) (goal : Goal) : State :=
  let x := s.axis n
  s.setAxis n (x.begin (stopPlan x.v64 x.a64 (max lim 1) (max j 1)) false none goal)

/-- A stop under DSTOP and JSTOP. -/
def State.axHardStop (s : State) (n : Nat) (goal : Goal) : State := s.axPlanStop n (s.axD n) (s.axJS n) goal

/-- An axis enters a state; DONE, ABORTED and FAULT set its flag (Table 15-5). -/
def State.axEnter (s : State) (n st : Nat) : State :=
  let s := s.fset F.AXS_A_STAT_STATE st n
  if 5 ≤ st then s.setFlag (809 + n) else s

/-- An axis enters FAULT with a code: flags, vector 17 and the fault bit (R435, R447, R451, R456). -/
def State.axFault (s : State) (n code : Nat) : State :=
  let s := (s.fset F.AXS_A_STAT_FLT code n).axEnter n 7
  let s := if n < 32 then s.rset R.AXS_FLT0 (s.rget R.AXS_FLT0 ||| 2 ^ n) else s.rset R.AXS_FLT1 (s.rget R.AXS_FLT1 ||| 2 ^ (n - 32))
  (s.setFlag 845).raise 17

/-- A fault of a CRIT axis abandons the page IMAGING with cause 8 (R451, R456). -/
def State.axCrit (s : State) (n : Nat) : State := if s.fbit F.AXS_A_CFG_CRIT n then (s.abandon 8).ldSyncAll else s

/-- Homing fails: HFAIL, at rest ABORTED, HOMED 0, flag 845 and vector 17 (R455). [DEDUCED, log entry 91] -/
def State.homeFail (s : State) (n code : Nat) : State :=
  ((((s.fset F.AXS_A_STAT_HFAIL code n).fset F.AXS_A_STAT_HOMED 0 n).fset F.AXS_A_STAT_STATE 3 n).setFlag 845).raise 17

/-! ### Virtual limits (R446 to R448) -/

/-- The limits apply: LIMEN is 1 and the axis does not home. -/
def State.axLimited (s : State) (n : Nat) : Bool := s.fbit F.AXS_A_CFG_LIMEN n && s.axState n != 4

/-- The limit in the direction of motion and the distance to it, in plan units; none at rest. -/
def Axis.ahead (x : Axis) (p v : Int) : Option Int :=
  if 0 < v then some (x.limHi * one64 - p) else if v < 0 then some (x.limLo * one64 - p) else none

/-- A stop under AMAX and JMAX from a state would end beyond the limit ahead. -/
def State.axBeyond (s : State) (n : Nat) (p v a : Int) : Bool :=
  match (s.axis n).ahead p v with
  | some d => let t := stopTravel v a (max (s.axA n) 1) (max (s.axJ n) 1); if 0 < v then decide (d < t) else decide (t < d)
  | none => false

/-- The axis stops exactly at the limit ahead, under the least multiple of AMAX and JMAX that does, or under DSTOP and JSTOP
with fault LIMOVER when that exceeds them (R447). -/
def State.axLimStop (s : State) (n : Nat) (goal : Goal) : State :=
  let x := s.axis n
  match x.ahead x.p64 x.v64 with
  | none => s
  | some d =>
    let A := max (s.axA n) 1
    let J := max (s.axJ n) 1
    let kmax := min (div64 (s.axD n) A) (div64 (s.axJS n) J)
    let fits (k : Int) : Bool :=
      let t := stopTravel x.v64 x.a64 (mul64 k A) (max 1 (mul64 k J))
      if 0 < x.v then decide (t ≤ d) else decide (d ≤ t)
    let s := ((s.fset F.AXS_A_STAT_LIMSTOP 1 n).setFlag 846).recRule 447
    if !fits kmax then (s.axHardStop n .rest).axFault n 3
    else
      let k := bisect 96 one64 kmax fits
      let lim := if 0 < x.v then x.limHi else x.limLo
      s.setAxis n (x.begin (stopPlan x.v64 x.a64 (mul64 k A) (max 1 (mul64 k J))) false (some lim) goal)

/-- The check of R447 on a planned command or a changed pair: `goal` is what follows a stop at the limit. -/
def State.axLimCheck (s : State) (n : Nat) (goal : Goal) : State :=
  let x := s.axis n
  if s.axLimited n && s.axBeyond n x.p64 x.v64 x.a64 then s.axLimStop n goal else s

/-! ### Commands (R437, R438) -/

/-- A refused command: CMDERR and a record (R438). -/
def State.cmdRefuse (s : State) (n : Nat) : State := (s.fset F.AXS_A_STAT_CMDERR 1 n).recRule 438

/-- MOVE, VEL and HOME are possible with the axis's limits (R438). -/
def State.axPlannable (s : State) (n : Nat) : Bool :=
  s.axV n != 0 && s.axA n != 0 && s.axJ n != 0 && decide (s.axA n ≤ s.axD n) && decide (s.axJ n ≤ s.axJS n) &&
    !(s.fbit F.AXS_A_CFG_LIMEN n && decide ((s.axis n).limHi ≤ (s.axis n).limLo))

/-- A limit switch that is qualified active lies on the side of a motion (R451). -/
def State.axBlocked (s : State) (n : Nat) (dir : Int) : Bool :=
  (dir < 0 && s.fbit F.AXS_A_STAT_SWLO n) || (0 < dir && s.fbit F.AXS_A_STAT_SWHI n)

/-- The positions latched in an axis and followed by the stepper and step/direction channels on it, shifted with its coordinates: a
shift is no motion. [DESIGN CHOICE, log entry 170] -/
def State.axShiftLatches (s : State) (n : Nat) (d : Int) : State :=
  let x := s.axis n
  let s := s.setAxis n { x with
    sw := x.sw.map (fun w => { w with edge := w.edge + d, cap := w.cap + d })
    idx := x.idx.map (· + d) }
  { s with motion := { s.motion with
    stp := s.motion.stp.zipIdx.map (fun ck => if s.fget F.FOC_ST_CFG_AXIS ck.2 = n then { ck.1 with pos := ck.1.pos + d } else ck.1)
    sd := s.motion.sd.zipIdx.map (fun ck => if s.fget F.FOC_SD_CFG_AXIS ck.2 = n then { ck.1 with pos := ck.1.pos + d } else ck.1) } }

/-- The position of an axis shifted: RAW, FILT and CMDPOS together, and FILT restarts at RAW (R438, R449). -/
def State.axShift (s : State) (n : Nat) (d : Int) : State :=
  let s := s.axShiftLatches n d
  let x := s.axis n
  let s := s.setAxis n { x with off := x.off + d, p := x.p + d * 65536, p0 := x.p0 + d * one64, endP := x.endP.map (· + d) }
  let raw := s.axRaw n
  let s := s.setAxis n { s.axis n with pk := raw }
  (((s.putPair48 R.AXS_A_RAW_LO R.AXS_A_RAW_HI n raw).putPair48 R.AXS_A_FILT_LO R.AXS_A_FILT_HI n raw).putPair48
    R.AXS_A_CMDPOS_LO R.AXS_A_CMDPOS_HI n (s.axis n).cmdPos).fset F.AXS_A_STAT_DIR 0 n

/-- The search direction of homing: HDIR, reversed after a limit switch (R452, R454). -/
def State.homeDir (s : State) (n : Nat) : Int :=
  (if s.fbit F.AXS_A_HOME_HDIR n then -1 else 1) * (if (s.axis n).rev then -1 else 1)

/-- The homing search begins, or resumes after a turn. -/
def State.homeSearch (s : State) (n : Nat) : State :=
  s.axPlanVel n (s.homeDir n * min (s.rget R.AXS_A_HVEL n) (s.rget R.AXS_A_VMAX n)) .search

/-- METHOD is one of Table 15-4 and its switch and encoder are configured (R452). -/
def State.homeConfigured (s : State) (n : Nat) : Bool :=
  let enc := decide (s.fget F.AXS_A_CFG_ENC n < 24)
  let side := if s.fbit F.AXS_A_HOME_HDIR n then s.fget F.AXS_A_SW_GPLO n else s.fget F.AXS_A_SW_GPHI n
  match s.fget F.AXS_A_HOME_METHOD n with
  | 1 => s.fget F.AXS_A_SW_GPHOME n != 0x7F
  | 2 => s.fget F.AXS_A_SW_GPHOME n != 0x7F && enc
  | 3 => side != 0x7F
  | 4 => enc
  | _ => false

/-- The command written since the last phase 0 takes effect (R433, R438, R446, R457). -/
def State.axCommand (s : State) (n code : Nat) : State :=
  let x := s.axis n
  let st := s.axState n
  let tgt := s.pair48 R.AXS_A_TGT_LO R.AXS_A_TGT_HI n
  let mode := s.axMode n
  let planOk := 2 ≤ mode && s.axPlannable n
  let moveOk := planOk && (st ≤ 3 || st = 5 || st = 6)
  match code with
  | 1 =>
    let dir := tgt - x.cmdPos
    if !moveOk || s.axBlocked n dir then s.cmdRefuse n
    else
      let c := if s.fbit F.AXS_A_CFG_LIMEN n then clampI x.limLo x.limHi tgt else tgt
      let s := if c ≠ tgt then s.fset F.AXS_A_STAT_TCLIP 1 n else s
      let s := (s.axEnter n 1).axPlanMove n c .move
      s.axLimCheck n (.limit (some c))
  | 2 =>
    let vt := s.fsigned ⟨R.AXS_A_VTGT, 31, 0⟩ n
    if !moveOk || s.axBlocked n vt then s.cmdRefuse n
    else
      let m : Int := s.rget R.AXS_A_VMAX n
      let c := clampI (-m) m vt
      let s := if c ≠ vt then s.fset F.AXS_A_STAT_TCLIP 1 n else s
      let s := (s.axEnter n 2).axPlanVel n c .vel
      s.axLimCheck n (.limit none)
  | 3 | 4 =>
    if mode < 2 then s.cmdRefuse n
    else if st = 5 then s.fset F.AXS_A_STAT_ABORT_LATE 1 n
    else if st = 0 || 5 ≤ st then s.cmdRefuse n
    else
      let homing := st = 4
      let s := if code = 3 then s.axPlanStop n (s.axA n) (s.axJ n) .stop else s.axHardStop n .stop
      if homing then s.homeFail n 4
      else (s.axEnter n 3).axLimCheck n .stop
  | 5 =>
    if !(planOk && (st = 0 || st = 5 || st = 6)) || !s.homeConfigured n then s.cmdRefuse n
    else
      let s := s.setAxis n { x with idx := [], rev := false, found := false, trips := 0, ticks := 0 }
      let s := ((s.fset F.AXS_A_STAT_HOMED 0 n).fset F.AXS_A_STAT_HFAIL 0 n).fset F.AXS_A_STAT_HSIDE 0 n
      (s.axEnter n 4).homeSearch n
  | 6 => if mode = 0 || !(st = 0 || st = 5 || st = 6) then s.cmdRefuse n else s.axShift n (tgt - x.cmdPos)
  | 7 => if mode < 2 || st ≠ 7 then s.cmdRefuse n else (s.fset F.AXS_A_STAT_FLT 0 n).axEnter n 0
  | _ => s.cmdRefuse n

/-- A command written to AXS_A_CMD waits for phase 0; the last one stands (R437). -/
def State.axCmdWrite (s : State) (n code : Nat) : State :=
  if n < 36 then s.setAxis n { s.axis n with cmd := some (code % 8) } else s

/-- AXS_MOVE: TGT and the command written (R441). -/
def execAxsMove (n : Nat) (tgt : Int) (s : State) : Host.Outcome State Fault Refusal :=
  .next (if n < 36 then (s.putPair48 R.AXS_A_TGT_LO R.AXS_A_TGT_HI n tgt).axCmdWrite n 1 else s)

/-- AXS_VEL: VTGT and the command written (R443). -/
def execAxsVel (n : Nat) (v : Int) (s : State) : Host.Outcome State Fault Refusal :=
  .next (if n < 36 then (s.rset R.AXS_A_VTGT (unsign 32 v) n).axCmdWrite n 2 else s)

/-- AXS_ABORT (R457). -/
def execAxsAbort (n : Nat) (s : State) : Host.Outcome State Fault Refusal := .next (s.axCmdWrite n 3)

/-- AXS_QSTOP (R457). -/
def execAxsQstop (n : Nat) (s : State) : Host.Outcome State Fault Refusal := .next (s.axCmdWrite n 4)

/-- AXS_HOME (R452). -/
def execAxsHome (n : Nat) (s : State) : Host.Outcome State Fault Refusal := .next (s.axCmdWrite n 5)

/-- AXS_SETPOS: TGT and the command written (R438). -/
def execAxsSetpos (n : Nat) (tgt : Int) (s : State) : Host.Outcome State Fault Refusal :=
  .next (if n < 36 then (s.putPair48 R.AXS_A_TGT_LO R.AXS_A_TGT_HI n tgt).axCmdWrite n 6 else s)

/-- AXS_CLRFLT (R438). -/
def execAxsClrflt (n : Nat) (s : State) : Host.Outcome State Fault Refusal := .next (s.axCmdWrite n 7)

/-! ### Phase 0 (R433) -/

/-- The end of a plan: what follows it (R442, R447, R453, R454, R457). -/
def State.axEnd (s : State) (n : Nat) : State :=
  let x := s.axis n
  match x.goal with
  | .move => (s.setAxis n { x with goal := .rest }).axEnter n 5
  | .stop => (s.setAxis n { x with goal := .rest }).axEnter n 6
  | .limit (some t) =>
    if x.limLo ≤ t && t ≤ x.limHi && t ≠ x.cmdPos then (s.axPlanMove n t .move) else (s.setAxis n { x with goal := .rest }).axEnter n 5
  | .limit none => (s.setAxis n { x with goal := .rest }).axEnter n 5
  | .turn => (s.setAxis n { x with rev := !x.rev }).homeSearch n
  | .homing => ((s.setAxis n { x with goal := .rest }).fset F.AXS_A_STAT_HOMED 1 n).axEnter n 5
  | _ => s

/-- Step 1 of phase 0: the plan in force is sampled; at or after its end the sample is exact and at rest (R433, R442). -/
def State.axSample (s : State) (n : Nat) : State :=
  let x := s.axis n
  if s.axMode n < 2 then s
  else if x.segs.isEmpty && !x.hold then s
  else
    let t := x.t + 1
    let (p, v, a) := x.at t
    if x.ended t then
      let e := match x.endP with | some e => e * 65536 | none => round64 p 16
      (s.setAxis n { x with p := e, v := 0, a := 0, t := t, segs := [] }).axEnd n
    else s.setAxis n { x with p := round64 p 16, v := round64 v 16, a := round64 a 32, t := t }

/-- FILT, DIR and the peak follow RAW through the jitter band (R449). -/
def State.axFilter (s : State) (n : Nat) (raw : Int) : State :=
  let x := s.axis n
  let jb : Int := s.fget F.AXS_A_CFG_JITB n
  let set (s : State) : State := (s.setAxis n { x with pk := raw }).putPair48 R.AXS_A_FILT_LO R.AXS_A_FILT_HI n raw
  if s.fbit F.AXS_A_STAT_DIR n then
    if raw ≤ x.pk then set s else if jb < raw - x.pk then set (s.fset F.AXS_A_STAT_DIR 0 n) else s
  else if x.pk ≤ raw then set s
  else if jb < x.pk - raw then set (s.fset F.AXS_A_STAT_DIR 1 n) else s

/-- Step 2 of phase 0: CMDPOS, VEL, RAW and DEV are latched (R433). -/
def State.axLatch (s : State) (n : Nat) : State :=
  let mode := s.axMode n
  let raw := s.axRaw n
  let s := if mode = 1 then s.setAxis n { s.axis n with p := raw * 65536, v := 0, a := 0 } else s
  let s := s.putPair48 R.AXS_A_RAW_LO R.AXS_A_RAW_HI n raw
  let s := if mode = 0 then s else s.axFilter n raw
  let x := s.axis n
  let s := (s.putPair48 R.AXS_A_CMDPOS_LO R.AXS_A_CMDPOS_HI n x.cmdPos).rset R.AXS_A_VEL (unsign 32 (satS 32 x.v)) n
  let dev := if mode = 3 then s.pair48 R.AXS_A_FILT_LO R.AXS_A_FILT_HI n - x.cmdPos else 0
  s.rset R.AXS_A_DEV (unsign 32 (satS 32 dev)) n

/-- Step 3 of phase 0: the pairs whose _HI half has been written take effect, and a changed limit is checked (R433, R447);
a held velocity is watched one tick ahead (R448). -/
def State.axPairs (s : State) (n : Nat) : State :=
  let x := s.axis n
  let x' := { x with
    pairs := []
    limLo := if x.pairs.contains 0 then s.pair48 R.AXS_A_LIMLO_LO R.AXS_A_LIMLO_HI n else x.limLo
    limHi := if x.pairs.contains 1 then s.pair48 R.AXS_A_LIMHI_LO R.AXS_A_LIMHI_HI n else x.limHi
    homePos := if x.pairs.contains 2 then s.pair48 R.AXS_A_HOMEPOS_LO R.AXS_A_HOMEPOS_HI n else x.homePos }
  let s := s.setAxis n x'
  let goal : Goal := match x'.goal with
    | .move => .limit x'.endP
    | .limit t => .limit t
    | .stop => .stop
    | _ => .limit none
  let moving := 1 ≤ s.axState n && s.axState n ≤ 3
  let s := if moving && (x.pairs.contains 0 || x.pairs.contains 1) then s.axLimCheck n goal else s
  let x := s.axis n
  let (p, v, a) := x.at (x.t + 1)
  if s.axState n = 2 && x.goal == .vel && s.axLimited n && s.axBeyond n p v a then s.axLimStop n (.limit none) else s

/-- Step 4 of phase 0: the command written since the last one (R433). -/
def State.axPending (s : State) (n : Nat) : State :=
  match (s.axis n).cmd with
  | some c => (s.setAxis n { s.axis n with cmd := none }).axCommand n c
  | none => s

/-- A write of a virtual-limit pair (which 0 low, 1 high) waits for phase 0 (Table 15-6). -/
def execLimitPairWrite (n which : Nat) (v : Int) (s : State) : Host.Outcome State Fault Refusal :=
  .next (
    if 36 ≤ n then s
    else
      let s := if which = 0 then s.putPair48 R.AXS_A_LIMLO_LO R.AXS_A_LIMLO_HI n v else s.putPair48 R.AXS_A_LIMHI_LO R.AXS_A_LIMHI_HI n v
      s.setAxis n { s.axis n with pairs := (if which = 0 then 0 else 1) :: (s.axis n).pairs })

/-! ### Switches, homing and stall (R450 to R456) -/

/-- GPIO of switch k of an axis (0 low, 1 high, 2 home). -/
def State.swPin (s : State) (n k : Nat) : Nat :=
  s.fget (match k with | 0 => F.AXS_A_SW_GPLO | 1 => F.AXS_A_SW_GPHI | _ => F.AXS_A_SW_GPHOME) n

/-- Switch k of an axis is active at GPIO levels (R450). -/
def State.swActive (s : State) (n k gpio : Nat) : Bool :=
  let p := s.swPin n k
  p < 64 && (gpio.testBit p != (s.fget F.AXS_A_SW_POL n).testBit (2 - k))

/-- The qualified bit of switch k. -/
def swBit (k : Nat) : FldDesc := match k with | 0 => F.AXS_A_STAT_SWLO | 1 => F.AXS_A_STAT_SWHI | _ => F.AXS_A_STAT_SWHOME

/-- Switch k of an axis. -/
def Axis.swOf (x : Axis) (k : Nat) : AxisSw := nth x.sw k ⟨0, false, 0, 0⟩

/-- A switch sampled at phase 0 counts its run; the first active sample takes the last active-going edge as its capture
(R450). [DESIGN CHOICE, log entry 172] -/
def State.swSample (s : State) (n k gpio : Nat) : State :=
  let x := s.axis n
  let w := x.swOf k
  let act := s.swActive n k gpio
  let w' : AxisSw := if act = w.active then { w with run := min 31 (w.run + 1) }
    else { w with run := 1, active := act, cap := if act then w.edge else w.cap }
  s.setAxis n { x with sw := x.sw.set k w' }

/-- The axis ends its homing search at a capture (R453, R454). -/
def State.homeEvent (s : State) (n : Nat) (cap : Int) : State :=
  let x := s.axis n
  let s := s.putPair48 R.AXS_A_HCAP_LO R.AXS_A_HCAP_HI n cap
  let c := cap + (if x.rev then s.fsigned F.AXS_A_HOME_HREVOFF n else 0)
  let s := if x.rev then s.fset F.AXS_A_STAT_HSIDE 1 n else s
  let s := s.axShift n (x.homePos - c)
  s.axPlanMove n x.homePos .homing

/-- The home capture of METHOD, once its event has occurred (Table 15-4). -/
def State.homeCapture (s : State) (n : Nat) : Option Int :=
  let x := s.axis n
  let side := if s.fbit F.AXS_A_HOME_HDIR n then 0 else 1
  match s.fget F.AXS_A_HOME_METHOD n with
  | 1 => if s.fbit F.AXS_A_STAT_SWHOME n then some (x.swOf 2).cap else none
  | 2 => if s.fbit F.AXS_A_STAT_SWHOME n then
      x.idx.find? (fun i => decide (0 ≤ (i - (x.swOf 2).cap) * s.homeDir n)) else none
  | 3 => if s.fbit (swBit side) n then some (x.swOf side).cap else none
  | 4 => x.idx.head?
  | _ => none

/-- The axis searches, and its home event has occurred: it is taken (R453). -/
def State.homeCheck (s : State) (n : Nat) : State :=
  if s.axState n = 4 && (s.axis n).goal == .search then
    match s.homeCapture n with
    | some c => s.homeEvent n c
    | none => s
  else s

/-- A limit switch becomes qualified active: outside homing the axis stops and faults; in homing the search turns round, and
the second time it fails (R451, R454). [DEDUCED, log entry 173] -/
def State.limitTrip (s : State) (n k : Nat) : State :=
  if s.axMode n < 2 then s
  else if s.axState n = 4 then
    let x := s.axis n
    let side := if s.fbit F.AXS_A_HOME_HDIR n then 0 else 1
    if s.fget F.AXS_A_HOME_METHOD n = 3 && k = side then s
    else if 1 ≤ x.trips then (s.axHardStop n .stop).homeFail n 1
    else (s.setAxis n { x with trips := 1 }).axHardStop n .turn
  else if s.axState n = 7 then s
  else (((s.axHardStop n .rest).axFault n 1).recRule 451).axCrit n

/-- Switch k is the home switch of the homing in progress: the home switch, or under METHOD 3 the limit switch on the HDIR
side (Table 15-4). -/
def State.isHomeSw (s : State) (n k : Nat) : Bool :=
  s.axState n = 4 &&
    (match s.fget F.AXS_A_HOME_METHOD n with
      | 1 | 2 => k = 2
      | 3 => k = (if s.fbit F.AXS_A_HOME_HDIR n then 0 else 1)
      | _ => false)

/-- Switch k of axis n is qualified when QUAL samples in a row agree; from its first qualification in a homing the home
switch is left alone until the sequence ends (R450, R453). -/
def State.swQualify (s : State) (n k : Nat) : State :=
  let w := (s.axis n).swOf k
  let q := max (s.fget F.AXS_A_CFG_QUAL n) 1
  let was := s.fbit (swBit k) n
  if w.run < q || w.active == was || s.swPin n k = 0x7F || (s.isHomeSw n k && (s.axis n).found) then s
  else
    let s := if s.isHomeSw n k && w.active then s.setAxis n { s.axis n with found := true } else s
    let s := s.fset (swBit k) (bit w.active) n
    let s := if w.active && k < 2 then s.limitTrip n k else s
    s.homeCheck n

/-- Homing has run for HTMO seconds (R455). -/
def State.homeTimeout (s : State) (n : Nat) : State :=
  let x := s.axis n
  if s.axState n = 4 && x.goal != .homing && max (s.fget F.AXS_A_HOME_HTMO n) 1 * 50000 ≤ x.ticks then
    (s.axPlanStop n (s.axA n) (s.axJ n) .stop).homeFail n 2
  else s

/-- The load angle of the lowest enabled stepper channel of axis n (R456). -/
def State.axLoad (s : State) (n : Nat) : Option Int :=
  ((List.range s.variant.stpch).find? (fun k => s.fbit F.FOC_ST_CTRL_EN k && s.fget F.FOC_ST_CFG_AXIS k == n)).map
    (fun k => s.fsigned F.FOC_ST_STAT_LOAD k)

/-- A latch of the stall condition (R456). -/
def State.stallNow (s : State) (n : Nat) : Bool :=
  match s.axMode n with
  | 3 =>
    let d := signed 32 (s.rget R.AXS_A_DEV n)
    let m : Int := s.fget F.AXS_A_STALL_DEVMAX n
    m ≠ 0 && (m < d || d < -m)
  | 2 =>
    let m : Int := s.fget F.AXS_A_STALL_LAMAX n
    let v := (s.axis n).v
    let fast := decide ((s.rget R.AXS_A_VMAX n : Int) ≤ 16 * max v (-v))
    m ≠ 0 && fast && (match s.axLoad n with | some l => decide (m ≤ max l (-l)) | none => false)
  | _ => false

/-- The stall counter of an axis at phase 0. -/
def State.stallCount (s : State) (n : Nat) : State :=
  let x := s.axis n
  s.setAxis n { x with stall := if s.stallNow n && s.axState n ≠ 7 then min 255 (x.stall + 1) else 0 }

/-- STALLN latches in a row stall the axis: it stops and faults; a homing fails (R455, R456). -/
def State.stallCheck (s : State) (n : Nat) : State :=
  if (s.axis n).stall < max (s.fget F.AXS_A_STALL_STALLN n) 1 || s.axState n = 7 then s
  else
    let s := s.setAxis n { s.axis n with stall := 0 }
    if s.axState n = 4 then (((s.axHardStop n .stop).homeFail n 3).recRule 456).axCrit n
    else (((s.axHardStop n .rest).axFault n 2).recRule 456).axCrit n

/-- Place of the levels of A (bit 0) and B (bit 1) in the quadrature cycle, in which A leads B when the count rises.
[PRESUMED, log entry 171] -/
def quadPlace (ab : Nat) : Nat := match ab with | 0 => 0 | 1 => 1 | 3 => 2 | _ => 3

/-- ENCODER_COUNT: the pins A and B of input e have had these levels for w units of 2.5 ns. A level held for less than FILT is ignored;
a change of one pin counts one step, ×4, and a change of both is an error. FILT and DIR of the axes that use it follow (R436, R449). -/
def execEncoderCount (e : Nat) (a b : Bool) (w : Nat) (s : State) : Host.Outcome State Fault Refusal :=
  .next (
    if 24 ≤ e || w < s.fget F.AXS_E_CFG_FILT e then s
    else
      let was := quadPlace (nth s.motion.encAB e 0)
      let now := quadPlace (bit a + 2 * bit b)
      let s := { s with motion := { s.motion with encAB := s.motion.encAB.set e (bit a + 2 * bit b) } }
      if !s.fbit F.AXS_E_CFG_EN e || now = was then s
      else if (now + 2) % 4 = was then s.finc F.AXS_E_ERR_COUNT 1 e
      else
      let d : Int := if now = (was + 1) % 4 then 1 else -1
      let s := { s with motion := { s.motion with enc := s.motion.enc.set e (nth s.motion.enc e 0 + d) } }
      (List.range 36).foldl (fun s n =>
        if (s.axMode n = 1 || s.axMode n = 3) && s.fget F.AXS_A_CFG_ENC n = e then s.axFilter n (s.axRaw n) else s) s)

/-- INDEX_EDGE: an edge of pin Z of input e; the active one, rising or, with ZPOL, falling, latches the position of the axes that use
it (R436). -/
def execIndexEdge (e : Nat) (rising : Bool) (s : State) : Host.Outcome State Fault Refusal :=
  .next (
    if 24 ≤ e || !s.fbit F.AXS_E_CFG_EN e || rising == s.fbit F.AXS_E_CFG_ZPOL e then s
    else (List.range 36).foldl (fun s n =>
      if s.fget F.AXS_A_CFG_ENC n = e && s.axState n = 4 then
        s.setAxis n { s.axis n with idx := (s.axis n).idx ++ [s.axRaw n] }
      else s) s)

/-- SWITCH_EDGE: GPIO k changes its level; an active-going edge of a switch latches RAW (R450). -/
def execSwitchEdge (k : Nat) (level : Bool) (s : State) : Host.Outcome State Fault Refusal :=
  .next (
    if 64 ≤ k then s
    else
      let g := putBits s.pins.gpio k k (bit level)
      let s := (List.range 36).foldl (fun s n => (List.range 3).foldl (fun s w =>
        if s.swPin n w = k && !s.swActive n w s.pins.gpio && s.swActive n w g then
          let x := s.axis n
          s.setAxis n { x with sw := x.sw.set w { x.swOf w with edge := s.axRaw n } }
        else s) s) s
      { s with pins := { s.pins with gpio := g } })

/-- ESTOP_N low or Bivouac mode at a phase 0: every driven axis comes to rest at once and faults (R435). -/
def State.axEstop (s : State) (n : Nat) : State :=
  if s.axMode n < 2 then s
  else
    let x := s.axis n
    let s := s.setAxis n { x with segs := [], hold := false, v := 0, a := 0, goal := .rest }
    if s.axState n = 7 then s else s.axFault n 4

/-- Phase 0 of one axis (R433), with its switches, homing and stall checks. -/
def State.axPhase0 (s : State) (gpio n : Nat) : State :=
  let s := (s.axSample n).axLatch n
  let s := (List.range 3).foldl (fun s k => (s.swSample n k gpio).swQualify n k) s
  let s := (((s.homeCheck n).stallCount n).stallCheck n).homeTimeout n
  let x := s.axis n
  let s := if s.axState n = 4 then s.setAxis n { x with ticks := x.ticks + 1 } else s
  (s.axPairs n).axPending n

/-- Phase 0 of motion. -/
def State.motionPhase0 (s : State) (gpio : Nat) : State :=
  let low := !s.pins.estopN || s.bivouac
  let s := if low && !s.motion.estopAx then (List.range 36).foldl State.axEstop s else s
  let s := { s with motion := { s.motion with estopAx := low } }
  let s := (List.range 36).foldl (fun s n => s.axPhase0 gpio n) s
  (List.range 24).foldl (fun s e => s.rset R.AXS_E_CNT (unsign 32 (nth s.motion.enc e 0)) e) s

end Sys2Proof.Machine
end

