-- ==== Sys2Proof/Machine/Motor.lean ====
section
/-! DEFINITION. Motor commutation and field control: FOC channel states, hand-over, the voltage limit and phase advance,
protection, the brake chopper, stepper, step/direction and speed-command channels (R400 to R431). -/

namespace Sys2Proof.Machine

/-- FOC channel n. -/
def State.foc (s : State) (n : Nat) : FocCh := nth s.motion.foc n FocCh.blank

/-- The state with FOC channel n replaced. -/
def State.setFoc (s : State) (n : Nat) (x : FocCh) : State := { s with motion := { s.motion with foc := s.motion.foc.set n x } }

/-- STATE of a FOC channel (Table 14-3). -/
def State.focState (s : State) (n : Nat) : Nat := s.fget F.FOC_C_STAT_STATE n

/-- The channel is in a running state: HFI or OBS. [DEDUCED, log entry 86] -/
def State.focRunning (s : State) (n : Nat) : Bool := s.focState n = 4 || s.focState n = 5

/-- The channel's bridge is driven: BRAKE, ALIGN, HFI or OBS (R400, Table 14-3). -/
def State.focDriven (s : State) (n : Nat) : Bool := 2 ≤ s.focState n && s.focState n ≤ 5

/-- FOC channel n is present. -/
def State.focPresent (s : State) (n : Nat) : Bool := n < 12 && n < s.variant.focch

/-- Bridge outputs are gated low: ESTOP_N low or Bivouac mode (R400, R420). -/
def State.motGated (s : State) : Bool := !s.pins.estopN || s.bivouac

/-- The bridge of FOC channel n switches; otherwise its six gate outputs are low (R400, R420, Table 14-3). -/
def State.focGates (s : State) (n : Nat) : Bool := s.focPresent n && s.focDriven n && !s.motGated

/-- The d and q voltages on the bridge of FOC channel n, or none while its outputs are low. -/
def State.focVolts (s : State) (n : Nat) : Option (Int × Int) :=
  if s.focGates n then some ((s.foc n).out.vd, (s.foc n).out.vq) else none

/-- Delay of the turning-on side of each switching edge, in tick-PLL cycles: DEADT, from 8 to 255 (R401).
[DESIGN CHOICE, log entry 163] -/
def State.focDead (s : State) (n : Nat) : Nat := max 8 (s.fget F.FOC_C_CFG_DEADT n)

/-- PWM period in tick-PLL cycles (R401). [DEDUCED, log entry 79] -/
def State.focT (s : State) (n : Nat) : Nat := 8000 / 2 ^ s.fget F.FOC_C_CFG_PWMK n

/-- VLIM of a channel (R403): floor(32767 × min(1, (1 − 2 SAMPW / T) × 2 / √3)), by the integer square root of its square. -/
def State.focVlim (s : State) (n : Nat) : Nat :=
  let t := s.focT n
  let w := t - 2 * 4 * s.fget F.FOC_C_CFG_SAMPW n
  min 32767 (isqrt (32767 * 32767 * 4 * w * w / (3 * t * t)))

/-- A channel enters a state; entering a running state from ALIGN or OBSERVE also activates its laws at this phase 0 and sets
flag 804 (R408, Table 14-7). -/
def State.focEnter (s : State) (n st : Nat) : State :=
  let old := s.focState n
  let run := st = 4 || st = 5
  let was := old = 4 || old = 5
  let x := s.foc n
  let s := s.setFoc n { x with
    ticks := 0
    off := if old = 4 && st = 5 then x.err else 0
    offN := if old = 4 && st = 5 then 32 else 0
    hoRun := 0
    retRun := 0
    enter := run && !was
    fw := if run && !was then 0 else x.fw
    clear := if run && !was then 0 else x.clear }
  let s := s.fset F.FOC_C_STAT_STATE st n
  if run && !was then s.setFlag 804 else s

/-- A channel enters FAULT with a code: flag 805 and vector 16 (Table 14-7). -/
def State.focFault (s : State) (n code : Nat) : State := (((s.fset F.FOC_C_STAT_FAULT code n).focEnter n 6).setFlag 805).raise 16

/-- A stepper channel faults: EN is cleared (FOC_ST_CTRL), flag 805 and vector 16. -/
def State.stpFault (s : State) (n : Nat) : State :=
  if s.fbit F.FOC_ST_CTRL_EN n then (((s.fset F.FOC_ST_CTRL_EN 0 n).fset F.FOC_ST_STAT_STATE 3 n).setFlag 805).raise 16 else s

/-- Abandon the page IMAGING and drop the lasers' enables that it held (R23). -/
def State.abandonPage (s : State) (cause : Nat) : State := if s.anyImaging then (s.abandon cause).ldSyncAll else s

/-! ### Commands (R407) -/

/-- START, STOP and FLTCLR of a FOC_C_CTRL write wait for phase 0 (R407). [DEDUCED, log entry 32] -/
def State.focCtrlWrite (s : State) (n v : Nat) : State :=
  if !s.focPresent n then s
  else
    let x := s.foc n
    s.setFoc n { x with start := x.start || v.testBit 0, stop := x.stop || v.testBit 1, fltclr := x.fltclr || v.testBit 2 }

/-- FOC_START (R407). -/
def execFocStart (n : Nat) (s : State) : Host.Outcome State Fault Refusal := .next (s.focCtrlWrite n 1)

/-- FOC_STOP (R407). -/
def execFocStop (n : Nat) (s : State) : Host.Outcome State Fault Refusal := .next (s.focCtrlWrite n 2)

/-- FLTCLR (R407). -/
def execFltclr (n : Nat) (s : State) : Host.Outcome State Fault Refusal := .next (s.focCtrlWrite n 4)

/-- START is possible in OFF with RATED, KE, IMAX and ISCALE not 0 (R407). -/
def State.focStartable (s : State) (n : Nat) : Bool :=
  s.focState n = 0 && s.fget F.FOC_C_MOTOR_RATED n != 0 && s.fget F.FOC_C_MOTOR_KE n != 0 &&
    s.fget F.FOC_C_LIMIT_IMAX n != 0 && s.fget F.FOC_C_LIMIT_ISCALE n != 0

/-- The commands written since the last phase 0 take effect; STOP wins over a change of state (R407). [DEDUCED, log entry 88] -/
def State.focCommands (s : State) (n : Nat) : State :=
  let x := s.foc n
  let s := s.setFoc n { x with start := false, stop := false, fltclr := false }
  let s := if x.fltclr then
      (if s.focState n = 6 then (s.fset F.FOC_C_STAT_FAULT 0 n).focEnter n 0 else s.recRule 407)
    else s
  let s := if x.stop && s.focState n ≠ 6 && s.focState n ≠ 0 then s.focEnter n 0 else s
  if x.start && !x.stop then
    (if s.focStartable n then (s.fset F.FOC_C_STAT_REV 0 n).focEnter n 1 else s.recRule 407)
  else s

/-! ### Start while turning (R409 to R411) -/

/-- Speed at or above HOSPD, forward. -/
def State.focFast (s : State) (n : Nat) (speed : Int) : Bool := decide ((16 * s.fget F.FOC_C_HO_HOSPD n : Nat) ≤ speed)

/-- The outcome of OBSERVE (Table 14-4): back-EMF amplitude in mV and signed speed in 1/16 rpm. Two electrical periods fit in 40 ms
from 50 Hz on (R409). [DESIGN CHOICE, log entry 89] -/
def State.focObserved (s : State) (n amp : Nat) (speed : Int) : State :=
  let pp := max 1 (s.fget F.FOC_C_CFG_PP n)
  if amp * 20000 < s.fget F.FOC_C_MOTOR_KE n * s.fget F.FOC_C_MOTOR_RATED n || speed.natAbs * pp < 48000 then s.focEnter n 3
  else
    let s := s.rset R.FOC_C_SPEED (unsign 32 speed) n
    if speed < 0 then (s.fset F.FOC_C_STAT_REV 1 n).focEnter n 2
    else s.focEnter n (if s.focFast n speed then 5 else 4)

/-- BRAKE has lasted BRKTMO ms (R410). -/
def State.focBrakeDue (s : State) (n ticks : Nat) : Bool :=
  s.focState n = 2 && s.fget F.FOC_C_START_BRKTMO n * 50 ≤ ticks

/-! ### Voltage limit and phase advance (R404, R416 to R418) -/

/-- The vector of the tick that ends exceeded VLIM (R404). -/
def State.focLimited (s : State) (n : Nat) : Bool := (s.foc n).out.lim

/-- A(|SPEED|): the advance table interpolated (R416). -/
def State.focTable (s : State) (n : Nat) : Nat :=
  let entry (k : Nat) : Nat := memRead s.table (64 * s.fget F.FOC_C_ADV_TBL64 n + 2 * k) 2
  let sp := (signed 32 (s.rget R.FOC_C_SPEED n)).natAbs
  let step := s.fget F.FOC_C_ADV_SPDSTEP n * 64 * 16
  if step = 0 || 15 * step ≤ sp then entry 15
  else
    let k := sp / step
    let r : Int := (sp % step : Nat)
    ((entry k : Int) + ((entry (k + 1) : Int) - entry k) * r / step).toNat

/-- ADV is at its limit (R416, R418). -/
def State.focAtLimit (s : State) (n : Nat) : Bool :=
  s.fbit F.FOC_C_ADV_ADVEN n && s.fget F.FOC_C_ADV_ADVMAX n * 256 ≤ s.focTable n + (s.foc n).fw

/-- VSAT and flag 807, with a record once per page (R418). -/
def State.focVsat (s : State) (n : Nat) : State :=
  let s := (s.fset F.FOC_C_STAT_VSAT 1 n).setFlag 807
  let h := s.imagingHandle
  if (s.foc n).satPage = some h then s
  else (s.recRule 418).setFoc n { s.foc n with satPage := some h }

/-- LIMMOD, FW and the run towards VSAT at phase 0 (R404, R417, R418). -/
def State.focAdvance (s : State) (n : Nat) : State :=
  let lim := s.focLimited n
  let atl := s.focAtLimit n
  let x := s.foc n
  let v := s.fget F.FOC_C_STAT_VLIM n
  let low := decide (x.out.mag2 * 400 < 361 * v * v)
  let clear := if lim then 0 else min 255 (x.clear + 1)
  let fw := if s.focRunning n && s.fbit F.FOC_C_ADV_ADVEN n then
      (if lim then x.fw + 64 else if 16 ≤ clear && low then x.fw - 64 else x.fw)
    else x.fw
  let run := if lim && atl then min 255 (x.satRun + 1) else 0
  let s := s.setFoc n { x with clear := clear, fw := fw, satRun := run }
  let s := s.fset F.FOC_C_STAT_LIMMOD (bit lim) n
  if 64 ≤ run then s.focVsat n else s

/-! ### Phase 0 of the FOC channels -/

/-- Current of a shunt sample in mA: 0 at half scale, ISCALE at full scale (Table 14-1). [DEDUCED, log entry 164] -/
def State.focShunt (s : State) (n c : Nat) : Int := divRound (((c % 4096 : Nat) - 2048) * (s.fget F.FOC_C_LIMIT_ISCALE n : Int)) 2047

/-- The phase currents of the last period's samples: a phase whose low-side on-time is shorter than SAMPW is not used, and its current is
minus the sum of the other two (R402). None when fewer than two can be used. A bridge that is off rejects none.
[DESIGN CHOICE, log entry 165] -/
def State.focPhases (s : State) (ph : List (Nat × Nat)) (n : Nat) : Option (Int × Int × Int) :=
  let ok (k : Nat) : Bool := !s.focDriven n || decide (4 * s.fget F.FOC_C_CFG_SAMPW n ≤ (nth ph k (2048, 8000)).2)
  let i (k : Nat) : Int := s.focShunt n (nth ph k (2048, 8000)).1
  match ok 0, ok 1, ok 2 with
  | true, true, true => some (i 0, i 1, i 2)
  | false, true, true => some (-(i 1 + i 2), i 1, i 2)
  | true, false, true => some (i 0, -(i 0 + i 2), i 2)
  | true, true, false => some (i 0, i 1, -(i 0 + i 1))
  | _, _, _ => none

/-- The d and q currents in mA, phase peak, at the angle of the sample (R405). [DESIGN CHOICE, log entry 166] -/
def focPark (i : Int × Int × Int) (cos sin : Int) : Int × Int :=
  let a := (2 * i.1 - i.2.1 - i.2.2) * 65536
  let b := (i.2.1 - i.2.2) * 113512
  (divRound (a * cos + b * sin) 6442450944, divRound (b * cos - a * sin) 6442450944)

/-- IDQ: the currents of the last period, without the response to the injection (R402, R405, R412). What two rejected phases leave open
is a free value. -/
def State.focCurrents (s : State) (inp : FocIn) (n : Nat) : State :=
  match s.focPhases inp.ph n with
  | some i =>
    let dq := focPark i inp.cos inp.sin
    let h := s.focState n = 3 || s.focState n = 4
    let id := if h then dq.1 - inp.hd else dq.1
    let iq := if h then dq.2 - inp.hq else dq.2
    s.rset R.FOC_C_IDQ (unsign 16 (satS 16 id) * 65536 + unsign 16 (satS 16 iq)) n
  | none => (s.rset R.FOC_C_IDQ (Config.freeWord s.free) n).nextFree

/-- Latches of a channel: currents, speed, VLIM, and the runs of R414 and R415 (R403, R405). -/
def State.focLatch (s : State) (inp : FocIn) (n : Nat) : State :=
  let s := s.focCurrents inp n
  let v := if s.focState n = 5 then inp.ospeed else inp.speed
  let s := s.rset R.FOC_C_SPEED (unsign 32 (satS 32 v)) n
  let s := s.fset F.FOC_C_STAT_VLIM (s.focVlim n) n
  let x := s.foc n
  let ho := s.focState n = 4 && s.focFast n v && inp.err.natAbs ≤ 910
  let ret := s.focState n = 5 &&
    decide (v * 100 < 16 * (s.fget F.FOC_C_HO_HOSPD n : Int) * (100 - (s.fget F.FOC_C_HO_HOHYS n : Int)))
  s.setFoc n { x with
    err := inp.err
    hoRun := if ho then min 255 (x.hoRun + 1) else 0
    retRun := if ret then min 255 (x.retRun + 1) else 0 }

/-- Timed changes of state at phase 0: hand-over and return due from earlier latches, 40 ms of OBSERVE, and the braking
timeout (R409, R410, R414, R415). -/
def State.focTimed (s : State) (n : Nat) : State :=
  let x := s.foc n
  let s := s.setFoc n { x with ticks := if x.fresh then 0 else x.ticks + 1, fresh := false }
  let x := s.foc n
  if s.focState n = 4 && 16 ≤ x.hoRun then s.focEnter n 5
  else if s.focState n = 5 && 16 ≤ x.retRun then s.focEnter n 4
  else if s.focState n = 1 && 2000 ≤ x.ticks then s.focEnter n 3
  else if s.focBrakeDue n x.ticks then s.focFault n 6
  else s

/-- BRAKE ends when the latched speed is below 5 % of RATED (R410). -/
def State.focBraked (s : State) (n : Nat) : State :=
  if s.focState n = 2 && (signed 32 (s.rget R.FOC_C_SPEED n)).natAbs * 20 < 16 * s.fget F.FOC_C_MOTOR_RATED n then s.focEnter n 3 else s

/-- Phase 0 of one FOC channel: the limit of the tick that ended, commands, timed changes, latches. -/
def State.focPhase0 (s : State) (inp : FocIn) (n : Nat) : State :=
  let s := s.focAdvance n
  let s := if (s.foc n).stop then s else s.focTimed n
  ((s.focCommands n).focLatch inp n).focBraked n

/-! ### The channel's laws (R408, R423) -/

/-- LAWEN is 1. -/
def State.focLaws (s : State) (n : Nat) : Bool := s.fbit F.FOC_C_LAWS_LAWEN n

/-- The parameter p of law l was written by someone else at this phase 0. -/
def State.writtenNow (s : State) (l p : Nat) : Bool :=
  s.lpe.applied.any (fun w => match w with
    | .lawset l' p' _ _ => l' = l && p' = p
    | .host l' p' _ _ => l' = l && p' = p
    | .pull .. => false)

/-- A parameter of a law that others may write: their last value, kept while loss braking replaces it. -/
def othersValue (kept : Option Int) (written : Bool) (now : Int) : Int := if written then now else kept.getD now

/-- Writes of R408: inactive outside the running states, active on entry into one; what an inactive law leaves to the channel
goes into VD, VQ and IQSET. -/
def State.focLawWrites (s : State) (n : Nat) : State :=
  if !s.focLaws n then s
  else
    let cur := s.fget F.FOC_C_LAWS_CURLAW n
    let spd := s.fget F.FOC_C_LAWS_SPDLAW n
    let x := s.foc n
    let s := if !s.focRunning n then (s.setActive cur false).setActive spd false
      else if x.enter then (s.setActive cur true).setActive spd true
      else s
    let s := if (s.law cur).active then s
      else match s.focState n with
        | 0 | 1 | 6 => (s.rset R.FOC_C_VD 0 n).rset R.FOC_C_VQ 0 n
        | 2 | 3 =>
          let s := (s.rset R.FOC_C_VD (Config.freeWord s.free % 65536) n).nextFree
          (s.rset R.FOC_C_VQ (Config.freeWord s.free % 65536) n).nextFree
        | _ => s
    if (s.law spd).active && !x.enter then s else s.rset R.FOC_C_IQSET (s.rget R.FOC_C_IDQ n % 65536) n

/-- Bus of a FOC channel. -/
def State.focBus (s : State) (n : Nat) : Nat := s.fget F.FOC_C_CFG_BUS n

/-- Latched IQ × SPEED is negative (R423). -/
def State.focRegen (s : State) (n : Nat) : Bool :=
  decide (s.fsigned F.FOC_C_IDQ_IQ n * signed 32 (s.rget R.FOC_C_SPEED n) < 0)

/-- Loss braking of a channel while CHFLT is set, and the return to what others last wrote after CHFCLR (R423). -/
def State.focLoss (s : State) (n : Nat) : State :=
  let cur := s.fget F.FOC_C_LAWS_CURLAW n
  let spd := s.fget F.FOC_C_LAWS_SPDLAW n
  let x := s.foc n
  let others2 := othersValue x.setpt2 (s.writtenNow cur 25) (s.law cur).setpt2
  let othersR := othersValue x.ramp (s.writtenNow spd 3) (s.law spd).ramp
  if s.fbit F.FOC_BRKSTAT_CHFLT then
    let keep := { x with ramp := some othersR, setpt2 := some others2 }
    if s.focRunning n && s.focBus n = s.fget F.FOC_BRKCFG_BUS && s.focRegen n then
      let s := (s.fset F.FOC_C_STAT_LOSSBRK 1 n).setFoc n keep
      if s.focLaws n then
        let s := (s.applyParam cur 25 (-(s.fget F.FOC_C_LAWS_LOSSID n : Int)) 0).1
        if (s.law spd).decl.isSome then s.setLaw spd { s.law spd with ramp := othersR / 2 } else s
      else s
    else if s.fbit F.FOC_C_STAT_LOSSBRK n then s.setFoc n keep
    else s
  else if s.fbit F.FOC_C_STAT_LOSSBRK n then
    let s := (s.fset F.FOC_C_STAT_LOSSBRK 0 n).setFoc n { x with ramp := none, setpt2 := none }
    if s.focLaws n then
      let s := if (s.law cur).decl.isSome then s.setLaw cur { s.law cur with setpt2 := others2 } else s
      if (s.law spd).decl.isSome then s.setLaw spd { s.law spd with ramp := othersR } else s
    else s
  else s

/-- The channels' writes to their laws at phase 0, after the sequence of R344 and before evaluation (R408, R423). -/
def State.focLawPhase0 (s : State) : State :=
  let s := (List.range s.variant.focch).foldl State.focLawWrites s
  (List.range s.variant.focch).foldl State.focLoss s

/-! ### The drive of a tick (R401, R404, R405, R410 to R416) -/

/-- Nominal voltage of a bus in 10 mV. -/
def busNominal (b : Nat) : Nat := if b = 0 then 2400 else 3600

/-- Latched voltage of a bus in 10 mV. -/
def State.vbus (s : State) (b : Nat) : Nat := if b = 0 then s.fget F.FOC_VBUS_VA else s.fget F.FOC_VBUS_VB

/-- The d and q currents that the channel regulates itself: the braking current in BRAKE, and the two pulses of ALIGN (R410, R411).
[DEDUCED, log entry 167] -/
def State.focOwn (s : State) (n : Nat) : Int × Int :=
  let imax := s.fget F.FOC_C_LIMIT_IMAX n
  let t := (s.foc n).ticks
  match s.focState n with
  | 2 =>
    let i : Int := (s.fget F.FOC_C_START_BRKI n * imax / 100 : Nat)
    if s.fbit F.FOC_BRKSTAT_CHFLT then (i, 0)
    else
      let i := if 12 * busNominal (s.focBus n) ≤ 10 * s.vbus (s.focBus n) then i / 2 else i
      (0, -(signed 32 (s.rget R.FOC_C_SPEED n)).sign * i)
  | 3 => (if 1000 ≤ t && t < 1050 then (imax / 2 : Nat) else if 1050 ≤ t && t < 1100 then -(imax / 2 : Nat) else 0, 0)
  | _ => (0, 0)

/-- ADV, with the sign of SPEED (R416). -/
def State.focAdv (s : State) (n : Nat) : Int :=
  if s.fbit F.FOC_C_ADV_ADVEN n then
    (signed 32 (s.rget R.FOC_C_SPEED n)).sign * (min (s.focTable n + (s.foc n).fw) (s.fget F.FOC_C_ADV_ADVMAX n * 256) : Nat)
  else 0

/-- The d and q voltages before the limit: VD and VQ, where the channel puts the voltages of its own regulator too. Those of a channel
that does not manage its laws are free values (R408, R410). [DESIGN CHOICE, log entry 168] -/
def State.focWanted (s : State) (n : Nat) : Int × Int :=
  if (s.focState n = 2 || s.focState n = 3) && !s.focLaws n then
    (signed 16 (Config.freeWord s.free % 65536), signed 16 (Config.freeWord (s.free + 1) % 65536))
  else (s.fsigned F.FOC_C_VD_VD n, s.fsigned F.FOC_C_VQ_VQ n)

/-- The drive of FOC channel n in the tick that begins, with the voltage limit of R404. -/
def State.focDrive (s : State) (n : Nat) : FocOut :=
  if !s.focDriven n then FocOut.blank
  else
    let (d, q) := s.focWanted n
    let v := s.fget F.FOC_C_STAT_VLIM n
    let h := if s.focState n = 3 || s.focState n = 4 then s.fget F.FOC_C_HO_HFIAMP n * 32767 / 256 else 0
    let m := (d.natAbs + h) * (d.natAbs + h) + q.natAbs * q.natAbs
    let lim := decide (v * v < m)
    let dl := clampI (-(v : Int)) v d
    let ql : Int := isqrt (v * v - dl.natAbs * dl.natAbs)
    let x := s.foc n
    { vd := if lim then dl else d
      vq := if lim then clampI (-ql) ql q else q
      inj := h
      adv := s.focAdv n
      off := x.off * x.offN / 32
      id := (s.focOwn n).1
      iq := (s.focOwn n).2
      mag2 := m
      lim := lim }

/-- FOC channel n begins a tick with its drive; the offset of a hand-over goes to 0 over 32 PWM periods (R405, R414). -/
def State.focApply (s : State) (n : Nat) : State :=
  let x := s.foc n
  let t := s.setFoc n { x with out := s.focDrive n, offN := x.offN - 2 ^ s.fget F.FOC_C_CFG_PWMK n }
  if (s.focState n = 2 || s.focState n = 3) && !s.focLaws n then t.nextFree.nextFree else t

/-! ### Protection (R419 to R425) -/

/-- Any channel of a bus that is faulted has CRIT set. -/
def State.focCritOn (s : State) (p : Nat → Bool) : Bool :=
  (List.range s.variant.focch).any (fun n => p n && s.fbit F.FOC_C_CFG_CRIT n)

/-- MOTOR_TRIP: the driver's fault pin is low (code 2), or a phase sample of 12-bit code c has a magnitude of IMAX or more (code 1)
(R419). -/
def execMotorTrip (n c : Nat) (driver : Bool) (s : State) : Host.Outcome State Fault Refusal :=
  .next (
    if !s.focPresent n || s.focState n = 6 || (!driver && decide ((s.focShunt n c).natAbs < s.fget F.FOC_C_LIMIT_IMAX n)) then s
    else
      let code := if driver then 2 else 1
      let s := (s.focFault n code).recRule 419
      if s.fbit F.FOC_C_CFG_CRIT n then s.abandonPage 8 else s)

/-- The running channels that satisfy p enter FAULT with a code. -/
def State.focFaultAll (s : State) (p : Nat → Bool) (code : Nat) : State :=
  (List.range s.variant.focch).foldl (fun s n => if p n && s.focRunning n then s.focFault n code else s) s

/-- The enabled stepper channels that satisfy p fault. -/
def State.stpFaultAll (s : State) (p : Nat → Bool) : State :=
  (List.range s.variant.stpch).foldl (fun s n => if p n then s.stpFault n else s) s

/-- ESTOP_N low or Bivouac mode: every bridge is off (R420). -/
def State.motorEstop (s : State) : State :=
  let s := (s.focFaultAll (fun _ => true) 5).stpFaultAll (fun _ => true)
  if s.bivouac then s.fset F.FOC_BRKSTAT_GATE 0 else s

/-- BRAKE_CHOPPER_GATE: a sample v of the chopper's bus, in 10 mV (R421). -/
def execBrakeChopperGate (v : Nat) (s : State) : Host.Outcome State Fault Refusal :=
  .next (
    let nom := busNominal (s.fget F.FOC_BRKCFG_BUS)
    if s.fbit F.FOC_BRKSTAT_CHFLT || s.bivouac then s.fset F.FOC_BRKSTAT_GATE 0
    else if s.fget F.FOC_BRKCFG_CHON * nom ≤ 100 * v then s.fset F.FOC_BRKSTAT_GATE 1
    else if 100 * v < s.fget F.FOC_BRKCFG_CHOFF * nom then s.fset F.FOC_BRKSTAT_GATE 0
    else s)

/-- CHOPPER_FAULT: four consecutive samples of BRK_ISNS, in 10 mA, which fault the chopper when each contradicts BRK_GATE (R422). -/
def execChopperFault (isns : List Nat) (s : State) : Host.Outcome State Fault Refusal :=
  .next (
    let s := { s with motion := { s.motion with brkIsns := isns.getLastD s.motion.brkIsns } }
    let gate := s.fbit F.FOC_BRKSTAT_GATE
    if s.fbit F.FOC_BRKSTAT_CHFLT || isns.length ≠ 4 || isns.any (fun i => decide (i < s.fget F.FOC_BRKCFG_IMIN) != gate) then s
    else
      let s := ((s.fset F.FOC_BRKSTAT_GATE 0).fset F.FOC_BRKSTAT_CHFLT 1).fset F.FOC_BRKSTAT_FTYPE (if gate then 1 else 2)
      ((s.setFlag 806).raise 16).recRule 422)

/-- CHFCLR: clears CHFLT unless current still flows without command (R422). -/
def State.chfclr (s : State) : State :=
  if s.fget F.FOC_BRKCFG_IMIN ≤ s.motion.brkIsns then s
  else (s.fset F.FOC_BRKSTAT_CHFLT 0).fset F.FOC_BRKSTAT_FTYPE 0

/-- CHFCLR (R422). -/
def execChfclr (s : State) : Host.Outcome State Fault Refusal := .next s.chfclr

/-- Overvoltage and undervoltage flags of a bus. -/
def ovFld (b : Nat) : FldDesc := if b = 0 then F.FOC_BRKSTAT_OVA else F.FOC_BRKSTAT_OVB

/-- Undervoltage flag of a bus. -/
def uvFld (b : Nat) : FldDesc := if b = 0 then F.FOC_BRKSTAT_UVA else F.FOC_BRKSTAT_UVB

/-- BUS_OVERVOLTAGE: two consecutive samples of bus b, in 10 mV, which trip it at 125 % of nominal (R424). -/
def execBusOvervoltage (b v w : Nat) (s : State) : Host.Outcome State Fault Refusal :=
  .next (
    if 2 ≤ b || 4 * min v w < 5 * busNominal b then s
    else
      let s := (((s.fset (ovFld b) 1).setFlag 806).raise 16).recRule 424
      let s := s.focFaultAll (fun n => s.focBus n = b) 3
      let s := s.stpFaultAll (fun n => s.fget F.FOC_ST_CFG_BUS n = b)
      s.abandonPage 6)

/-- OVCLR: clears the overvoltage flag of each bus that is below 110 % (R424). [DEDUCED, log entry 87] -/
def State.ovclr (s : State) : State :=
  [0, 1].foldl (fun s b => if 10 * s.vbus b < 11 * busNominal b then s.fset (ovFld b) 0 else s) s

/-- OVCLR (R424). -/
def execOvclr (s : State) : Host.Outcome State Fault Refusal := .next s.ovclr

/-- BUS_UNDERVOLTAGE: the highest sample of bus b in 1 ms is v, in 10 mV: below 70 % of nominal (R425). -/
def execBusUndervoltage (b v : Nat) (s : State) : Host.Outcome State Fault Refusal :=
  .next (
    if 2 ≤ b || 7 * busNominal b ≤ 10 * v then s
    else
      let on (n : Nat) : Bool := s.focBus n = b
      let crit := s.focCritOn (fun n => on n && s.focRunning n)
      let s := (((s.fset (uvFld b) 1).setFlag 806).raise 16).recRule 425
      let s := s.focFaultAll on 4
      let s := s.stpFaultAll (fun n => s.fget F.FOC_ST_CFG_BUS n = b)
      if crit then s.abandonPage 8 else s)

/-- BUS_UNDERVOLTAGE_CLEAR: a sample of bus b, in 10 mV, above 80 % of nominal clears its flag (R425). -/
def execBusUndervoltageClear (b v : Nat) (s : State) : Host.Outcome State Fault Refusal :=
  .next (if b < 2 && decide (8 * busNominal b < 10 * v) then s.fset (uvFld b) 0 else s)

/-! ### Stepper, step/direction and speed-command channels (R426 to R430) -/

/-- Position of an axis in counts; an axis that is not there stands at 0. -/
def State.axPos (s : State) (n : Nat) : Int := if n < 36 then (s.axis n).cmdPos else 0

/-- An axis whose CMDPOS drives stepper and step/direction channels: MODE 2 (Table 15-1). -/
def State.axDrives (s : State) (n : Nat) : Bool := n < 36 && s.axMode n = 2

/-- Phase 0 of a stepper channel: microstep, current and load angle (R426, R427). -/
def State.stpPhase0 (s : State) (load : Int) (n : Nat) : State :=
  let p := s.axPos (s.fget F.FOC_ST_CFG_AXIS n)
  let c := nth s.motion.stp n ⟨0, 50, 0⟩
  let d := if s.axDrives (s.fget F.FOC_ST_CFG_AXIS n) then p - c.pos else 0
  let t := if d = 0 then min 50 (c.idle + 1) else 0
  let m := (c.mstep + d) % 1024
  let s := { s with motion := { s.motion with stp := s.motion.stp.set n ⟨p, t, m⟩ } }
  let en := s.fbit F.FOC_ST_CTRL_EN n
  let st := if en then (if t < 50 then 1 else 2) else if s.fget F.FOC_ST_STAT_STATE n = 3 then 3 else 0
  ((s.fset F.FOC_ST_STAT_STATE st n).fset F.FOC_ST_STAT_MSTEP m.toNat n).fset F.FOC_ST_STAT_LOAD
    (unsign 8 (satS 8 load)) n

/-- The winding current amplitude in mA and the microstep that stepper channel n drives in the tick, or none while its bridges are low
(R400, R420, R426, R427). -/
def State.stpDrive (s : State) (n : Nat) : Option (Nat × Nat) :=
  let on (i : Nat) := if n < s.variant.stpch && !s.motGated then some (i, s.fget F.FOC_ST_STAT_MSTEP n) else none
  match s.fget F.FOC_ST_STAT_STATE n with
  | 1 => on (s.fget F.FOC_ST_CFG_IRUN n)
  | 2 => on (s.fget F.FOC_ST_CFG_IHOLD n)
  | _ => none

/-- SD_DIR of step/direction channel n: its direction, inverted by DIRPOL (R428, R429). -/
def State.sdDir (s : State) (n : Nat) : Bool := (nth s.motion.sd n ⟨0, false, 0, 0⟩).neg != s.fbit F.FOC_SD_CFG_DIRPOL n

/-- The square wave over one tick: periods completed, and the wave after it. A new frequency is in force from the next period boundary,
or at once where the wave stands still (R429). [DESIGN CHOICE, log entry 169] -/
def SdCh.wave (c : SdCh) (f : Int) : Nat × SdCh :=
  let one := 2 ^ 32
  let g := c.freq.natAbs
  let a := c.frac + g * one / 50000
  if g = 0 then
    let b := f.natAbs * one / 50000
    (b / one, { c with freq := f, neg := decide (f < 0), frac := b % one })
  else if a < one || f = c.freq then (a / one, { c with frac := a % one })
  else
    let b := (a - one) * f.natAbs / g
    (1 + b / one, { c with freq := f, neg := decide (f < 0), frac := b % one })

/-- Phase 0 of a step/direction channel: the steps of the coming tick (R428, R429). [DEDUCED, log entry 90] -/
def State.sdPhase0 (s : State) (n : Nat) : State :=
  let c := nth s.motion.sd n ⟨0, false, 0, 0⟩
  let put (s : State) (c : SdCh) : State := { s with motion := { s.motion with sd := s.motion.sd.set n c } }
  let pos := s.axPos (s.fget F.FOC_SD_CFG_AXIS n)
  let pw := max 6 (s.fget F.FOC_SD_CFG_PW n)
  if !s.fbit F.FOC_SD_CFG_EN n || !s.fbit F.FOC_SD_CFG_MODE n && !s.axDrives (s.fget F.FOC_SD_CFG_AXIS n) then
    put s { c with pos := pos, freq := 0, frac := 0 }
  else
    let count (s : State) (k : Int) : State :=
      if s.motGated then s else s.rset R.FOC_SD_CNT (unsign 32 (signed 32 (s.rget R.FOC_SD_CNT n) + k)) n
    if s.fbit F.FOC_SD_CFG_MODE n then
      let m : Int := (25000000 / pw : Nat)
      let (k, d) := c.wave (clampI (-m) m (signed 32 (s.rget R.FOC_SD_FREQ n)))
      count (put s { d with pos := pos }) (if d.neg then -(k : Int) else k)
    else
      let turn := pos ≠ c.pos && decide (pos < c.pos) != c.neg
      let m : Int := ((if turn then 1000 - s.fget F.FOC_SD_CFG_DSET n else 1000) / (2 * pw) : Nat)
      let k := clampI (-m) m (pos - c.pos)
      let s := if k ≠ pos - c.pos then s.fset F.FOC_SD_CFG_OVR 1 n else s
      count (put s { c with pos := c.pos + k, neg := if turn then !c.neg else c.neg, freq := 0, frac := 0 }) k

/-- LOST of a SPDIN pin set or cleared; a change sets flag 808 (Table 14-7). -/
def State.spdLost (s : State) (p : Nat) (b : Bool) : State :=
  if s.fbit F.FOC_SPD_VAL_LOST p == b then s else (s.fset F.FOC_SPD_VAL_LOST (bit b) p).setFlag 808

/-- No edge for TMO ticks: VALUE 0 and LOST (R430). -/
def State.spdTimeout (s : State) (p : Nat) : State := (s.fset F.FOC_SPD_VAL_VALUE 0 p).spdLost p true

/-- Ticks since the last edge of a SPDIN pin. -/
def State.spdAge (s : State) (p : Nat) : Nat := nth s.motion.spdTmo p 0

/-- VALUE of a complete period: its duty in 1/65536, of the low time if POL, or its frequency in 1/16 Hz, by falling edges if POL
(Table 14-6). -/
def State.spdValue (s : State) (inp : SpdIn) (p : Nat) : Nat :=
  let pol := s.fbit F.FOC_SPD_CFG_POL p
  min 0xFFFFFF (if s.fget F.FOC_SPD_CFG_MODE p = 2 then (if pol then inp.per - inp.high else inp.high) * 65536 / max inp.per 1
    else 6400000000 / max (if pol then inp.perF else inp.per) 1)

/-- Phase 0 of a SPDIN pin (R430, Table 14-6). -/
def State.spdPhase0 (s : State) (inp : SpdIn) (p : Nat) : State :=
  let put (s : State) (t : Nat) : State := { s with motion := { s.motion with spdTmo := s.motion.spdTmo.set p t } }
  match s.fget F.FOC_SPD_CFG_MODE p with
  | 0 => (put (s.fset F.FOC_SPD_VAL_VALUE 0 p) 0).spdLost p false
  | 1 => (put (s.fset F.FOC_SPD_VAL_VALUE (inp.mean % 4096 * 16) p) 0).spdLost p false
  | _ =>
    let t := if inp.edge || inp.period then 0 else min 65535 (s.spdAge p + 1)
    let s := put s t
    if max 1 (s.fget F.FOC_SPD_CFG_TMO p) ≤ t then s.spdTimeout p
    else if inp.period then (s.fset F.FOC_SPD_VAL_VALUE (s.spdValue inp p) p).spdLost p false
    else s

/-- Phase 0 of motor drive, before the laws' parameter writes. -/
def State.motorPhase0 (s : State) (inp : TickInputs) : State :=
  let s := s.rset R.FOC_VBUS (min inp.vbusA 65535 * 65536 + min inp.vbusB 65535)
  let s := { s with motion := { s.motion with brkIsns := inp.brkIsns } }
  let s := (List.range s.variant.focch).foldl (fun s n => s.focPhase0 (nth inp.foc n {}) n) s
  let s := (List.range s.variant.stpch).foldl (fun s n => s.stpPhase0 (nth inp.stpLoad n 0) n) s
  let s := (List.range 8).foldl State.sdPhase0 s
  (List.range 4).foldl (fun s p => s.spdPhase0 (nth inp.spd p {}) p) s

end Sys2Proof.Machine
end

