-- ==== Sys2Proof/Machine/Ratio.lean ====
section
/-! DEFINITION. Exact fractions and least squares, for the calibration's means and fits (R312, R313, R319). -/

namespace Sys2Proof.Machine

/-- A fraction n / d; d is positive. -/
structure Q where
  n : Int
  d : Nat
  deriving DecidableEq, Repr

/-- A fraction in lowest terms. -/
def Q.norm (n : Int) (d : Nat) : Q :=
  let g := max (Nat.gcd n.natAbs d) 1
  ⟨n / g, d / g⟩

/-- An integer. -/
def Q.int (n : Int) : Q := ⟨n, 1⟩

/-- Sum. -/
def Q.add (a b : Q) : Q := Q.norm (a.n * b.d + b.n * a.d) (a.d * b.d)

/-- Negative. -/
def Q.neg (a : Q) : Q := ⟨-a.n, a.d⟩

/-- Difference. -/
def Q.sub (a b : Q) : Q := a.add b.neg

/-- Product. -/
def Q.mul (a b : Q) : Q := Q.norm (a.n * b.n) (a.d * b.d)

/-- Quotient; by 0 it is 0. -/
def Q.div (a b : Q) : Q :=
  if b.n = 0 then ⟨0, 1⟩ else Q.norm (a.n * b.d * (if b.n < 0 then -1 else 1)) (a.d * b.n.natAbs)

/-- The nearest integer, ties up. [DEDUCED, log entry 75] -/
def Q.round (a : Q) : Int := (2 * a.n + a.d) / (2 * a.d : Nat)

/-- Sum of a list. -/
def Q.sum (l : List Q) : Q := l.foldl Q.add ⟨0, 1⟩

/-- Mean of a list; 0 for none. -/
def Q.mean (l : List Q) : Q := (Q.sum l).div (Q.int l.length)

/-- Sum over points of x^i × y. -/
def momY (pts : List (Q × Q)) (i : Nat) : Q :=
  Q.sum (pts.map (fun p => (List.range i).foldl (fun (acc : Q) _ => acc.mul p.1) p.2))

/-- Sum over points of x^i. -/
def momX (pts : List (Q × Q)) (i : Nat) : Q := momY (pts.map (fun p => (p.1, Q.int 1))) i

/-- The least-squares line y ≈ a + b x; none where the points do not fix it. [DEDUCED, log entry 72] -/
def fitLine (pts : List (Q × Q)) : Option (Q × Q) :=
  let s0 := momX pts 0
  let s1 := momX pts 1
  let s2 := momX pts 2
  let t0 := momY pts 0
  let t1 := momY pts 1
  let det := (s0.mul s2).sub (s1.mul s1)
  if det.n = 0 then none
  else some ((((t0.mul s2).sub (s1.mul t1)).div det), (((s0.mul t1).sub (s1.mul t0)).div det))

/-- The least-squares parabola y ≈ a + b x + c x²; none where the points do not fix it. -/
def fitQuad (pts : List (Q × Q)) : Option (Q × Q × Q) :=
  let s0 := momX pts 0
  let s1 := momX pts 1
  let s2 := momX pts 2
  let s3 := momX pts 3
  let s4 := momX pts 4
  let t0 := momY pts 0
  let t1 := momY pts 1
  let t2 := momY pts 2
  let det3 (a b c d e f g h i : Q) : Q :=
    ((a.mul ((e.mul i).sub (f.mul h))).sub (b.mul ((d.mul i).sub (f.mul g)))).add (c.mul ((d.mul h).sub (e.mul g)))
  let det := det3 s0 s1 s2 s1 s2 s3 s2 s3 s4
  if det.n = 0 then none
  else some ((det3 t0 s1 s2 t1 s2 s3 t2 s3 s4).div det, (det3 s0 t0 s2 s1 t1 s3 s2 t2 s4).div det,
    (det3 s0 s1 t0 s1 s2 t1 s2 s3 t2).div det)

end Sys2Proof.Machine
end

