-- ==== Sys2Proof/Machine/Cal.lean ====
section
/-! DEFINITION. Alignment calibration and inline sensing: runs, the pattern generator, mark and ladder measurement, results,
APPLY and STORE, and the CSI-2 ports (R304 to R323). -/

namespace Sys2Proof.Machine

/-! ### The run's sampled configuration -/

/-- REF of the run. -/
def Cal.ref (c : Cal) : Nat := bits c.cfg 26 24
/-- RUNMASK of the run. -/
def Cal.mask (c : Cal) : Nat := bits c.cfg 23 18
/-- NREP of the run. -/
def Cal.nrep (c : Cal) : Nat := bits c.cfg 14 12 + 1
/-- POSAX of the run. -/
def Cal.posax (c : Cal) : Nat := bits c.cfg 11 6
/-- Stations of the run in ascending order. -/
def Cal.stns (c : Cal) : List Nat := (List.range 6).filter (fun i => c.mask.testBit i)
/-- NS of the run. -/
def Cal.ns (c : Cal) : Nat := c.stns.length
/-- The order q of a station of the run. -/
def Cal.order (c : Cal) (i : Nat) : Nat := (c.stns.filter (· < i)).length
/-- Lane k is enabled in the run. -/
def Cal.laneOn (c : Cal) (k : Nat) : Bool := (nth c.lane k 0).testBit 31
/-- XK of lane k in the run. -/
def Cal.xk (c : Cal) (k : Nat) : Nat := bits (nth c.lane k 0) 14 0
/-- The lanes enabled in the run. -/
def Cal.lanes (c : Cal) : List Nat := (List.range 4).filter c.laneOn
/-- LPC of the run, nonzero. -/
def Cal.lpcOf (c : Cal) : Nat := max c.lpc 1

/-- Lane k's comparator at an input code, from its side before: towards the mark beyond THR, and back once THR is passed by the
hysteresis (R309). [DESIGN CHOICE, log entry 157] -/
def Cal.compare (c : Cal) (k v : Nat) (was : Bool) : Bool :=
  let w := nth c.lane k 0
  let thr := bits w 26 15
  let hyst := if was then 16 * bits w 29 27 else 0
  if w.testBit 30 then decide (thr < v + hyst) else decide (v < thr + hyst)
/-- Lane k's comparator at an input code, from off the mark. -/
def Cal.seesMark (c : Cal) (k v : Nat) : Bool := c.compare k v false

/-- STATE of the calibration block. -/
def State.calState (s : State) : Nat := s.fget F.CAL_STAT_STATE

/-- A refusal or a failure code in CAL_STAT.ERR. -/
def State.calErr (s : State) (e : Nat) : State := s.fset F.CAL_STAT_ERR e

/-- The run ends FAILED: flag 793 and vector 12 (R320). -/
def State.calFail (s : State) (e : Nat) : State := ((((s.calErr e).fset F.CAL_STAT_STATE 5).setFlag 793).raise 12)

/-! ### RUN (R304, R305) -/

/-- LINES of the pattern page (Table 10-1). -/
def State.calLines (s : State) (c : Cal) : Nat :=
  if c.ladder then 512 + c.ns * s.nb c.ref * 320 else 512 + 1280 * c.nrep * c.ns

/-- The code under which R305 refuses a RUN; 0 when it is accepted. -/
def State.calRefusal (s : State) (c : Cal) : Nat :=
  let st := s.calState
  let port := bits c.cfg 17 17
  if 1 ≤ st && st ≤ 3 then 1
  else if c.mask = 0 || 2 ^ s.variant.stn ≤ c.mask || !c.mask.testBit c.ref then 2
  else if !c.ladder && c.lanes.isEmpty || c.ladder && (s.variant.csi ≤ port || !s.fbit F.CAL_P_CFG_EN port) then 3
  else if 131072 < s.calLines c then 4
  else if (findBelow 64 (fun i => (s.slotEnv i).isNone)).isNone then 5
  else 0

/-- A RUN takes effect at phase 0: the configuration is sampled, the run checked, and its pattern page created (R304).
[DEDUCED, log entry 51] -/
def State.calRunPhase0 (s : State) : State :=
  if !s.cal.runPend then s
  else
    let c : Cal := { s.cal with
      runPend := false
      cfg := s.rget R.CAL_CFG
      geom := s.rget R.CAL_GEOM
      lpc := s.rget R.CAL_LPC
      lane := (List.range 4).map (fun k => s.rget R.CAL_M_CFG k) }
    match s.calRefusal c, findBelow 64 (fun i => (s.slotEnv i).isNone) with
    | 0, some i =>
      let n := (s.fget F.CAL_STAT_RUN + 1) % 256
      let hd := s.fmt.seqNo * 64 + i
      let e : Env :=
        { handle := hd, state := .resident, pageid := 0xCA1B0000 + n, stnmask := c.mask, spdclass := bits c.cfg 30 27,
          side := 0, flags := 0, lines := s.calLines c, ppl := bits c.geom 31 16, media := 0, sheetlen := 0, pairid := 0,
          blklines := 64, envlen := 0, blks := [], dropped := 0, blank := 0, pattern := true }
      let s := { s with
        fmt := { s.fmt with seqNo := if s.fmt.seqNo = 0x3FFFFFF then 1 else s.fmt.seqNo + 1 }
        cal := { c with ended := none, old := none, gen := [], isStale := false,
                        onMark := (List.range 4).map (fun k => c.seesMark k (s.fget F.CAL_M_LAST_LEVEL k)), edges := [[], [], [], []], laneDone := [], rows := [],
                        inRow := false, ticks := 0 } }
      (((s.putEnv i (some e)).rset R.CAL_HANDLE hd).fset F.CAL_STAT_RUN n).fset F.CAL_STAT_STATE 1
    | k, _ =>
      let s := { s with cal := { s.cal with runPend := false } }
      (s.calErr k).recRule 305

/-- CAL_CTRL.RUN waits for phase 0 (R304). -/
def State.calRun (s : State) : State := { s with cal := { s.cal with runPend := true } }

/-- CAL_RUN: a write of CAL_CTRL.RUN (R304). -/
def execCalRun (s : State) : Host.Outcome State Fault Refusal := .next s.calRun

/-! ### The pattern generator (R306, R307, Table 10-1) -/

/-- The zone offsets and remap that the generator uses for a station: of the armed banks while ARMED, else the active
ones. -/
def State.genBanks (s : State) (stn : Nat) : List Int × List Nat :=
  let armed := s.fbit F.BST_UPDSTAT_ARMED
  let get (p a : FldDesc) (j : Nat) : Nat := match (if armed then s.armedVal p stn j else none) with
    | some v => v
    | none => s.fget a stn j
  ((List.range 64).map (fun z => signed 8 (get F.BST_S_ZOFF_PEND F.BST_S_ZOFF_ACT z)),
   (List.range (s.nb stn)).map (get F.BST_S_REMAP_PEND F.BST_S_REMAP_ACT))

/-- The generator's offsets and remap for a station, fixed at its first use in the page (R308). -/
def State.genOf (s : State) (stn : Nat) : List Int × List Nat :=
  match s.cal.gen.find? (fun g => g.1 == stn) with
  | some g => (g.2.1, g.2.2)
  | none => s.genBanks stn

/-- Output line y carries a tick of beam b, for order q (Table 10-1). -/
def tickLine (zoff : List Int) (d : List Nat) (q b : Nat) (y : Int) : Bool :=
  let nb : Int := max d.length 1
  let base := minI zoff - maxI (d.map Int.ofNat) + nth d b 0
  let lb : Int := 256 + 320 * (q * d.length + b)
  let j0 := max 0 ((lb - base + nb - 1) / nb)
  let k := y - (base + nb * j0)
  0 ≤ k && k % nb = 0 && k / nb < 8

/-- Pixel x of image line l of station stn's pattern is lit (R307, Table 10-1). -/
def State.patLit (s : State) (stn ppl l x : Nat) (g : List Int × List Nat) : Bool :=
  let c := s.cal
  let q := c.order stn
  if c.ladder then
    let z := x / 512
    x % 512 < 8 && 512 * z + 8 ≤ ppl &&
      (List.range g.2.length).any (fun b => tickLine g.1 g.2 q b ((l : Int) + nth g.1 z 0))
  else
    let barl := bits c.geom 7 0
    (List.range c.nrep).any (fun r =>
      let lg := 256 + 1280 * (r * c.ns + q)
      c.lanes.any (fun k =>
        let xk := c.xk k
        xk ≤ x + 256 && x < xk + 256 &&
          ((lg ≤ l && l < lg + barl) || (lg + 384 + (x + 256 - xk) ≤ l && l < lg + 384 + (x + 256 - xk) + barl))))

/-- Image line `line` of station stn of a pattern page of PPL. -/
def State.genLine (s : State) (stn ppl line : Nat) : List Nat :=
  let g := s.genOf stn
  (List.range ppl).map (fun x => if s.patLit stn ppl line x g then 255 else 0)

/-- The lines of block k of station stn of a pattern page. [DEDUCED, log entry 56] -/
def State.genBlock (s : State) (h stn k : Nat) : List (List Nat) :=
  match s.envOf h with
  | none => []
  | some e => (List.range (e.blkLines k)).map (fun i => s.genLine stn e.ppl (e.blklines * k + i))

/-- The generator's offsets and remap for a station are fixed at their first use in the page (R308). -/
def State.genFix (s : State) (stn : Nat) : State :=
  if s.cal.gen.any (fun g => g.1 == stn) then s
  else { s with cal := { s.cal with gen := (stn, (s.genBanks stn).1, (s.genBanks stn).2) :: s.cal.gen } }

/-- The generated lines that lane l has written, the first n of its block, are valid (R306). -/
def State.patternLines (s : State) (l n : Nat) : State :=
  let x := s.lane l
  match s.envOf x.handle with
  | none => s
  | some e =>
    if !x.busy || !e.pattern then s
    else
      let s := s.genFix x.stn
      let done (p : Hole) : Bool :=
        p.handle == x.handle && p.blk == x.blk && !p.valid && !p.lost && decide (p.line < x.blk * e.blklines + n)
      s.setStn x.stn { s.stn x.stn with holes := (s.stn x.stn).holes.map (fun p =>
        if done p then { p with pix := s.genLine x.stn e.ppl p.line, valid := true } else p) }

/-- Lane l at phase 0: it has gone on with its block, at 4 pixels in each of 20,000 core clocks, and an idle lane starts what it can
(R178, R193, R194, R306). -/
def State.lanePhase0 (s : State) (l : Nat) : State :=
  let s := s.laneRun l 80000
  let x := s.lane l
  let s := match s.envOf x.handle with
    | some e => s.patternLines l (x.px / max e.ppl 1)
    | none => s
  s.startLane l

/-- The decoder lanes at phase 0. -/
def State.startLanes (s : State) : State := (List.range 7).foldl State.lanePhase0 s

/-- BLOCK_DECODE_COMPLETE, with the lane's own error if it has one: the stored bytes as they decode, or the generated lines
(R195, R306). -/
def execBlockDecodeComplete (l err : Nat) (s : State) : Host.Outcome State Fault Refusal :=
  .next (
    let x := s.lane l
    if x.busy && s.pageKind x.handle then
      let s := s.genFix x.stn
      s.blockDone l (.ok (s.genBlock x.handle x.stn x.blk), s.linesOf x.handle x.blk)
    else s.blockDone l (s.decodeOf x.handle x.stn x.blk err))

/-! ### Marks (R309 to R314) -/

/-- Position of the medium axis at an edge at time t, in 1/256 count: the position latched at phase 0 is carried on at the velocity
latched there, and lies within the count that the encoder shows at the edge (R309, R436). -/
def State.markPos (s : State) (t : Nat) : Int :=
  let n := s.cal.posax
  let est := s.pair48 R.AXS_A_RAW_LO R.AXS_A_RAW_HI n * 256 +
    signed 32 (s.rget R.AXS_A_VEL n) * (t - s.elapsed * 128000 : Nat) / (128000 * 256)
  if s.axMode n = 2 then est else max (s.axRaw n * 256) (min (s.axRaw n * 256 + 255) est)

/-- MARK_EDGE: the input of lane k's comparator reaches code v at time t; when the comparator turns over, the position is captured
(R309, R310). -/
def execMarkEdge (k t v : Nat) (s : State) : Host.Outcome State Fault Refusal :=
  .next (
    let c := s.cal
    let es := nth c.edges k []
    let was := nth c.onMark k false
    let now := c.compare k v was
    if c.laneOn k && k < 4 && !c.ladder && (s.calState = 1 || s.calState = 2) && now != was then
      let c := { c with onMark := c.onMark.set k now }
      if c.old.isSome && !(c.laneDone.contains k) && (now || !es.isEmpty) then
        { s with cal := { c with edges := c.edges.set k (es ++ [(now, s.markPos t)]) } }
      else { s with cal := c }
    else s)

/-- The marks in a lane's edges: a leading edge and the trailing edge that follows it, in 1/256 count. -/
def marksOf : List (Bool × Int) → List (Int × Int)
  | (true, a) :: (false, b) :: rest => (a, b) :: marksOf rest
  | _ :: rest => marksOf rest
  | [] => []

/-- The mark of a lane at a nominal distance, in lines, from the bar of order 0: the sum of its edge positions when both lie
within WIN lines of the expected place (R310). [DEDUCED, log entry 71] -/
def Cal.mark (c : Cal) (k : Nat) (dist : Nat) : Option Int :=
  match marksOf (nth c.edges k []) with
  | [] => none
  | (a0, b0) :: ms =>
    let l : Int := c.lpcOf
    let near (e : Int) : Bool := (256 * e - 128 * (a0 + b0) - dist * l).natAbs ≤ bits c.geom 15 8 * c.lpcOf
    (((a0, b0) :: ms).find? (fun m => near m.1 && near m.2)).map (fun m => m.1 + m.2)

/-- The sum of two edge positions in lines: a centre is half of it. -/
def Cal.toLines (c : Cal) (sum : Int) : Q := Q.norm (sum * 128) c.lpcOf

/-- Lane k, station i, repetition r: B_s − B_ref and D_s − D_ref in lines, when all four marks are found (R312). -/
def Cal.rep (c : Cal) (k i r : Nat) : Option (Q × Q) :=
  let at_ (st : Nat) : Nat := 1280 * (r * c.ns + c.order st)
  match c.mark k (at_ i), c.mark k (at_ i + 640), c.mark k (at_ c.ref), c.mark k (at_ c.ref + 640) with
  | some b, some d, some rb, some rd => some (c.toLines (b - rb), c.toLines ((d - b) - (rd - rb)))
  | _, _, _, _ => none

/-- dy and dx of a lane for a station, when at least half of the repetitions count (R312). -/
def Cal.laneVal (c : Cal) (k i : Nat) : Option (Q × Q) :=
  let rs := (List.range c.nrep).filterMap (c.rep k i)
  if 2 * rs.length < c.nrep || rs.isEmpty then none
  else some ((Q.mean (rs.map (·.1))).sub (Q.int (1280 * ((c.order i : Int) - c.order c.ref))), (Q.mean (rs.map (·.2))).neg)

/-- Repetitions counted for a lane in at least one station (CAL_M_LAST.REPS). -/
def Cal.reps (c : Cal) (k : Nat) : Nat :=
  ((List.range c.nrep).filter (fun r => c.stns.any (fun i => i != c.ref && (c.rep k i r).isSome))).length

/-- The fit of a station (R313). -/
structure MarkFit where
  n  : Nat
  xc : Q
  a  : Q
  b  : Q
  c  : Q
  e  : Q
  m  : Q
  deriving DecidableEq, Repr

/-- R313. Where the lanes' positions do not fix the fit, the terms are free values, the k-th of `fr`. -/
def Cal.fit (c : Cal) (i : Nat) (fr : Nat → Q) : MarkFit :=
  let vs := c.lanes.filterMap (fun k => (c.laneVal k i).map (fun v => (Q.int (c.xk k), v.1, v.2)))
  let xc := Q.mean (vs.map (·.1))
  let z := Q.int 0
  let ys := vs.map (fun v => (v.1.sub xc, v.2.1))
  let xs := vs.map (fun v => (v.1, v.2.2))
  let (e, m) := if vs.length ≤ 1 then (Q.mean (xs.map (·.2)), z) else (fitLine xs).getD (fr 0, fr 1)
  let (a, b, q) :=
    if vs.length ≤ 1 then (Q.mean (ys.map (·.2)), z, z)
    else if vs.length = 2 then (match fitLine ys with | some (a, b) => (a, b, z) | none => (fr 2, fr 3, z))
    else (fitQuad ys).getD (fr 2, fr 3, fr 4)
  { n := vs.length, xc := xc, a := a, b := b, c := q, e := e, m := m }

/-! ### Values of a station (R314, R315, R319) -/

/-- A field of the registers that were active at scan 0. -/
def oldField (m : List (Nat × Word)) (f : FldDesc) (i j : Nat) : Nat :=
  bits (tabGet (BitVec.ofNat 32 f.reg.reset) m (f.reg.addr i j)).toNat f.hi f.lo

/-- The values of a station that a set holds, its flags and fit terms (Table 10-4). -/
structure StnCal where
  zoff  : List Int
  lin   : List Int
  bdly  : List Int
  mag   : Int
  phoff : Int
  flags : Nat
  terms : List Int
  nlane : Nat
  deriving DecidableEq, Repr

/-- The values active at scan 0. -/
def oldCal (m : List (Nat × Word)) (i : Nat) : StnCal :=
  { zoff := (List.range 64).map (fun z => signed 8 (oldField m F.BST_S_ZOFF_ACT i z))
    lin := (List.range 64).map (fun z => signed 8 (oldField m F.SCN_S_LIN_ACT i z))
    bdly := (List.range 32).map (fun b => (oldField m F.EXP_S_BDLY_ACT i b : Int))
    mag := signed 16 (oldField m F.SCN_S_MAG_ACT i 0)
    phoff := signed 8 (oldField m F.SCN_S_PHOFF_PHOFF i 0)
    flags := 0, terms := [0, 0, 0, 0, 0], nlane := 0 }

/-- Every value lies in its register's range (R315). -/
def StnCal.inRange (v : StnCal) : Bool :=
  v.zoff.all (fun z => -80 ≤ z && z ≤ 80) && v.lin.all (fun z => -128 ≤ z && z ≤ 127) &&
    v.bdly.all (fun b => 0 ≤ b && b ≤ 4095) && decide (-32768 ≤ v.mag) && decide (v.mag ≤ 32767) &&
    decide (-128 ≤ v.phoff) && decide (v.phoff ≤ 127)

/-- A new set of values, or the old ones flagged RANGE with the new fit terms (R315). -/
def StnCal.checked (old new : StnCal) : StnCal :=
  if new.inRange then new else { old with flags := new.flags ||| 2, terms := new.terms, nlane := new.nlane }

/-- A fraction as a signed 16.16 field. -/
def q1616 (a : Q) (k : Int) : Int := satS 32 ((a.mul (Q.int (k * 65536))).round)

/-- R314: the new values of a station from its fit. -/
def markCal (old : StnCal) (f : MarkFit) : StnCal :=
  let t := f.a.round
  let fr := f.a.sub (Q.int t)
  let p := old.phoff - (fr.mul (Q.int 256)).round
  let (p, t) := if p < -128 then (p + 256, t + 1) else if 127 < p then (p - 256, t - 1) else (p, t)
  let zo (z : Nat) (o : Int) : Int :=
    let u := (Q.int (512 * z + 256 : Nat)).sub f.xc
    o - t - ((f.b.mul u).add (f.c.mul (u.mul u))).round
  old.checked { old with
    zoff := old.zoff.zipIdx.map (fun oz => zo oz.2 oz.1)
    phoff := p
    bdly := old.bdly.map (fun b => b - (f.e.mul (Q.int 8)).round)
    mag := old.mag + (f.m.mul (Q.int 1000000)).round
    terms := [q1616 f.a 1, q1616 f.b 32768, q1616 f.c (16384 * 16384), q1616 f.e 1, q1616 f.m 1000000]
    nlane := f.n }

/-! ### Ladder (R317 to R319) -/

/-- Ticks of a sensor line: for each zone with a tick, its centroid's weighted sum, in 1/4096 print pixel, and weight (R318). -/
def rowTicks (org : Int) (pitch ppl : Nat) (px : List Nat) : RowLine :=
  (List.range 64).filterMap (fun z =>
    if ppl < 512 * z + 8 then none
    else
      let c : Int := (512 * z : Nat) * 4096 + 14336
      let (n, w) := px.zipIdx.foldl (fun (acc : Int × Nat) (vi : Nat × Nat) =>
        let x := org * 4096 + pitch * vi.2
        let k := 239 - vi.1
        if (x - c).natAbs ≤ 49152 then (acc.1 + x * k, acc.2 + k) else acc) (0, 0)
      if w = 0 then none else some (z, n, w))

/-- A sensor line of the measured stream joins the ladder rows (R318). -/
def State.ladderLine (s : State) (p : Nat) (px : List Nat) : State :=
  let c := s.cal
  let t := rowTicks (s.fsigned F.CAL_P_MAP_ORG p) (s.fget F.CAL_P_MAP_PITCH p) (bits c.geom 31 16) px
  if t.isEmpty then { s with cal := { c with inRow := false } }
  else if c.inRow then
    { s with cal := { c with rows := match c.rows.reverse with | r :: rs => (((r ++ [t]) :: rs).reverse) | [] => [[t]] } }
  else { s with cal := { c with rows := c.rows ++ [[t]], inRow := true } }

/-- ε_b(z) of a row: the mean centroid less 512z + 3.5 (R318, R319). -/
def rowEps (row : List RowLine) (z : Nat) : Option Q :=
  let cs := row.filterMap (fun l => (l.find? (fun e => e.1 == z)).map (fun e => Q.norm e.2.1 (e.2.2 * 4096)))
  if cs.isEmpty then none else some ((Q.mean cs).sub (Q.norm (1024 * z + 7 : Nat) 2))

/-- R319: the new values of a station from its rows, one per beam. -/
def ladderCal (old : StnCal) (rows : List (List RowLine)) : StnCal :=
  let eps (b z : Nat) : Option Q := rowEps (nth rows b []) z
  let nb := rows.length
  let ebar (z : Nat) : Option Q :=
    let l := (List.range nb).filterMap (fun b => eps b z)
    if l.isEmpty then none else some (Q.mean l)
  let bars := (List.range 64).map ebar
  let pts := bars.zipIdx.filterMap (fun bz => bz.1.map (fun v => (Q.int (512 * bz.2 : Nat), v)))
  let (al, be) := (fitLine pts).getD (Q.mean (pts.map (·.2)), Q.int 0)
  let res (z : Nat) : Option Q := (nth bars z none).map (fun v => (v.sub al).sub (be.mul (Q.int (512 * z : Nat))))
  let o (b : Nat) : Q := Q.mean ((List.range 64).filterMap (fun z =>
    match eps b z, nth bars z none with | some e, some m => some (e.sub m) | _, _ => none))
  old.checked { old with
    flags := 4
    bdly := old.bdly.zipIdx.map (fun vb => if vb.2 < nb then vb.1 - ((o vb.2).mul (Q.int 8)).round else vb.1)
    lin := old.lin.zipIdx.map (fun vz => match res vz.2, res (vz.2 + 1) with
      | some r0, some r1 => vz.1 - ((r1.sub r0).mul (Q.int 256)).round
      | _, _ => vz.1) }

/-! ### The result set (R320, Tables 10-3 and 10-4) -/

/-- A station block (Table 10-4). -/
def StnCal.bytes (v : StnCal) : List Nat :=
  let b8 (l : List Int) : List Nat := l.map (unsign 8)
  b8 v.zoff ++ b8 v.lin ++ (v.bdly.flatMap (fun b => leBytes 2 (unsign 16 b))) ++ leBytes 2 (unsign 16 v.mag) ++
    [unsign 8 v.phoff, v.flags] ++ (v.terms.flatMap (fun t => leBytes 4 (unsign 32 t))) ++ [v.nlane] ++ List.replicate 39 0

/-- A set record with its CRC (Table 10-3). -/
def setBytes (setno kind mask ref : Nat) (pm : List Nat) (seq : Nat) (blocks : List Nat) : List Nat :=
  let h := leBytes 4 0x4C414359 ++ leBytes 2 1 ++ [setno, kind, mask, ref] ++ List.replicate 6 0 ++ slice pm 0 16 ++
    leBytes 4 seq ++ List.replicate 24 0
  h ++ leBytes 4 (crc32 (h ++ blocks)) ++ blocks

/-- The k-th free value as a fraction: what a fit leaves open (R313). -/
def State.freeQ (s : State) (k : Nat) : Q := Q.norm (signed 32 (Config.freeWord (s.free + k))) 65536

/-- Values, and whether they stand in the set, of station i. -/
def State.stnResult (s : State) (m : List (Nat × Word)) (i : Nat) : StnCal × Bool :=
  let c := s.cal
  let old := oldCal m i
  if !c.mask.testBit i then ({ old with zoff := List.replicate 64 0, lin := List.replicate 64 0, bdly := List.replicate 32 0,
                                        mag := 0, phoff := 0 }, false)
  else if c.ladder then
    let nb := s.nb c.ref
    (ladderCal old (slice' c.rows (c.order i * nb) nb), true)
  else if i = c.ref then (old, true)
  else
    let f := c.fit i (fun k => s.freeQ (5 * i + k))
    if f.n = 0 then ({ old with flags := 1 }, false) else (markCal old f, true)
where
  slice' (l : List (List RowLine)) (o n : Nat) : List (List RowLine) := (l.drop o).take n

/-- COMPUTING ends: the result set is written and the run is DONE, or the run is FAILED (R318, R320). [DEDUCED, log entry 73] -/
def State.calResult (s : State) : State :=
  let c := s.cal
  match c.old with
  | none => s.calFail 0x10
  | some m =>
    if c.ladder && c.rows.length ≠ c.ns * s.nb c.ref then s.calFail 0x11
    else
      let rs := (List.range 6).map (s.stnResult m)
      let mask := rs.zipIdx.foldl (fun (a : Nat) (ri : (StnCal × Bool) × Nat) => if ri.1.2 then a + 2 ^ ri.2 else a) 0
      let bad := rs.zipIdx.foldl (fun (a : Nat) (ri : (StnCal × Bool) × Nat) => if ri.1.1.flags % 4 ≠ 0 then a + 2 ^ ri.2 else a) 0
      let bs := setBytes 4 (if c.ladder then 2 else 1) mask c.ref [] 0 (rs.flatMap (fun r => r.1.bytes))
      let s := if c.ladder then s
        else (List.range 4).foldl (fun s k => s.fset F.CAL_M_LAST_REPS (if c.laneOn k then c.reps k else 0) k) s
      let s := { s with free := s.free + 30, cal := { c with result := bs } }
      (((s.fset F.CAL_STAT_STNERR bad).fset F.CAL_STAT_STATE 4).setFlag 793).raise 12

/-- CAL_RESULT: the values of a run in COMPUTING are written (R320). -/
def execCalResult (s : State) : Host.Outcome State Fault Refusal := .next (if s.calState = 3 then s.calResult else s)

/-- The measurement is over: COMPUTING, or FAILED when the generator's banks were stale or the pattern page is not DONE (R308, R311).
[DEDUCED, log entry 74] -/
def State.calMeasured (s : State) : State :=
  if s.cal.isStale then s.calFail 0x13
  else if s.cal.ended = some true then { s.fset F.CAL_STAT_STATE 3 with cal := { s.cal with ticks := 0 } } else s.calFail 0x10

/-- The measurement of every enabled lane has ended. -/
def Cal.allDone (c : Cal) : Bool := c.lanes.all (fun l => c.laneDone.contains l)

/-- Lane k's last window, of the last group's diagonal, has closed at a position of the medium axis in 1/256 count: it is past by more
than WIN lines. A lane that has found no first bar has no windows, and its measurement ends with the page (R310, R311).
[DEDUCED, log entry 158] -/
def Cal.laneOver (c : Cal) (k : Nat) (pos : Int) : Bool :=
  match marksOf (nth c.edges k []) with
  | [] => c.ended.isSome
  | (a0, b0) :: _ =>
    decide (((1280 * (c.nrep * c.ns - 1) + 640 + bits c.geom 15 8 : Nat) : Int) * c.lpcOf < 256 * pos - 128 * (a0 + b0))

/-- MARK_MEASURE_END: the last window of lane k has closed (R311). -/
def execMarkMeasureEnd (k : Nat) (s : State) : Host.Outcome State Fault Refusal :=
  .next (
    let c := s.cal
    if c.ladder || !c.laneOn k || 4 ≤ k || !(s.calState = 1 || s.calState = 2) || c.old.isNone ||
        !c.laneOver k (s.axRaw c.posax * 256) then s
    else
      let s := { s with cal := { c with laneDone := k :: c.laneDone.filter (· != k) } }
      if s.cal.allDone && s.cal.ended.isSome then s.calMeasured else s)

/-! ### APPLY and STORE (R321 to R323) -/

/-- A copy is valid: its MAGIC and CRC match (R323). -/
def setValid (b : List Nat) : Bool :=
  b.length == 1600 && leAt b 0 4 == 0x4C414359 && leAt b 0x3C 4 == crc32 (b.take 0x3C ++ b.drop 0x40)

/-- The copy a read of stored set n uses: the valid one with the higher SEQ. -/
def Nvm.calSet (n : Nvm) (k : Nat) : Option (List Nat) :=
  let c := nth n.cal k ⟨[], []⟩
  match setValid c.copyA, setValid c.copyB with
  | true, true => some (if leAt c.copyA 0x20 4 < leAt c.copyB 0x20 4 then c.copyB else c.copyA)
  | true, false => some c.copyA
  | false, true => some c.copyB
  | false, false => none

/-- CAL_SETSTAT.VALID (R323). -/
def Nvm.calValid (n : Nvm) : Nat :=
  (List.range 4).foldl (fun a k =>
    let c := nth n.cal k ⟨[], []⟩
    a + (bit (setValid c.copyA) + 2 * bit (setValid c.copyB)) * 4 ^ k) 0

/-- The set an APPLY takes from a source: 0 to 3 stored, 4 the result of a DONE run (R321). -/
def State.calSource (s : State) (src : Nat) : Option (List Nat) :=
  if src < 4 then s.nvm.calSet src else if src = 4 && s.calState = 4 then some s.cal.result else none

/-- An APPLY from a source is accepted or refused (R321). [DEDUCED, log entry 76] -/
def State.calApply (s : State) (src : Nat) : State :=
  match s.calSource src with
  | some b => { s.fset F.CAL_STAT_APPLYPEND 1 with cal := { s.cal with applySet := some b } }
  | none => s.calErr 0x12

/-- APPLY: a write of CAL_CTRL.APPLY (R321). -/
def execApply (s : State) : Host.Outcome State Fault Refusal := .next (s.calApply (s.fget F.CAL_SET_SRC))

/-- Value j of a list in a station block of a set. -/
def setVal (b : List Nat) (i off n : Nat) : Nat := leAt b (0x40 + 256 * i + off) n

/-- The set takes effect: pending banks, ARM, then PHOFF (R321). -/
def State.calTake (s : State) (b : List Nat) : State :=
  let stns := (List.range s.variant.stn).filter (fun i => (leAt b 8 1).testBit i)
  let s := stns.foldl (fun s i =>
    let s := (List.range 64).foldl (fun s z =>
      (s.fset F.BST_S_ZOFF_PEND (setVal b i z 1) i z).fset F.SCN_S_LIN_PEND (setVal b i (0x40 + z) 1) i z) s
    let s := (List.range 32).foldl (fun s k => s.fset F.EXP_S_BDLY_PEND (setVal b i (0x80 + 2 * k) 2) i k) s
    s.fset F.SCN_S_MAG_PEND (setVal b i 0xC0 2) i) s
  let (s, ok) := s.arm
  if ok then stns.foldl (fun s i => s.fset F.SCN_S_PHOFF_PHOFF (setVal b i 0xC2 1) i) s else s.calErr 0x14

/-- A pending APPLY takes effect while no page is IMAGING (R321). -/
def State.calApplyDue (s : State) : State :=
  match s.cal.applySet with
  | some b =>
    if s.anyImaging then s
    else ({ s.fset F.CAL_STAT_APPLYPEND 0 with cal := { s.cal with applySet := none } }).calTake b
  | none => s

/-- STORE of the result set to set DST; outside presence it is an RWP write that is refused (R322, R558). -/
def State.calStore (s : State) : State :=
  if !s.presence then s.recRwp (R.CAL_CTRL.addr 0 0) 4
  else if s.fbit F.CAL_STAT_STBUSY then s.calErr 0x01
  else if s.calState ≠ 4 then s.calErr 0x12
  else if s.pwr.holdTemp then s.calErr 0x15
  else
    let d := s.fget F.CAL_SET_DST
    let c := nth s.nvm.cal d ⟨[], []⟩
    let seq (b : List Nat) : Nat := if setValid b then leAt b 0x20 4 else 0
    let r := s.cal.result
    let b := setBytes d (leAt r 7 1) (leAt r 8 1) (leAt r 9 1) s.postmarkNow
      (max (seq c.copyA) (seq c.copyB) + 1) (r.drop 0x40)
    { (s.fset F.CAL_STAT_STBUSY 1).recRule 322 [2] with cal := { s.cal with store := some (d, b) } }

/-- STORE (R322). -/
def execStore (s : State) : Host.Outcome State Fault Refusal := .next s.calStore

/-- STORE_DONE: both copies have been written and verified, or a verify has failed; not while a logic supply is at warning
level (R322). -/
def execStoreDone (okA okB : Bool) (s : State) : Host.Outcome State Fault Refusal :=
  .next (
    match s.cal.store with
    | none => s
    | some (d, b) =>
      if s.pwr.holdSup then s
      else
        let c : CalStore := ⟨if okA then b else [], if okB then b else []⟩
        let s := { s with nvm := { s.nvm with cal := s.nvm.cal.set d c }, cal := { s.cal with store := none } }
        let s := (s.fset F.CAL_STAT_STBUSY 0).fset F.CAL_SETSTAT_VALID s.nvm.calValid
        if okA && okB then s else s.recRule 322 [1])

/-- Phase 0 of calibration: RUN, the pattern page's progress, the end of COMPUTING after 10 ms, the sensor levels and a
pending APPLY. -/
def State.calPhase0 (s : State) (msns : List Nat) : State :=
  let s := (List.range 4).foldl (fun s k => s.fset F.CAL_M_LAST_LEVEL (nth msns k 0) k) s
  let s : State := (s.cal.frames.filter (fun f => !s.fbit F.CAL_P_CFG_EN f.1)).foldl (fun s f => s.csiFrame f.1 f.2 false) s
  let s := s.calRunPhase0
  let st := s.calState
  let h := s.rget R.CAL_HANDLE
  let s :=
    if st = 1 && s.pageState h = some .imaging then s.fset F.CAL_STAT_STATE 2
    else if (st = 1 || st = 2) && s.cal.ended.isSome && s.cal.isStale then s.calFail 0x13
    else if (st = 1 || st = 2) && s.cal.ended = some false then s.calFail 0x10
    else if st = 2 && s.cal.ended = some true && !s.cal.ladder && s.cal.allDone then s.calMeasured
    else if st = 3 then
      let s : State := { s with cal := { s.cal with ticks := s.cal.ticks + 1 } }
      if 500 ≤ s.cal.ticks then s.calResult else s
    else s
  s.calApplyDue

/-! ### CSI-2 ports (R316, R317) -/

/-- Code of a long packet's data type in CDC_E_CFG.DT: RAW8, RAW10, RAW12, RGB888 (Table 10-2). -/
def csiType (dt : Nat) : Option Nat :=
  match dt with | 0x2A => some 0 | 0x2B => some 1 | 0x2C => some 2 | 0x24 => some 3 | _ => none

/-- Data type of a line start or line end short packet. [PRESUMED, log entry 159] -/
def csiLineMark (dt : Nat) : Bool := dt = 2 || dt = 3

/-- SENSOR_LINE: a packet within a frame on port p, virtual channel vc; header 0 good, 1 corrected, 2 not correctable. A long packet
is a line of samples; a line start or line end is accepted and ignored (R316, R317). -/
def execSensorLine (p vc dt hdr : Nat) (crc : Bool) (samples : List Nat) (s : State) : Host.Outcome State Fault Refusal :=
  .next (
    if !s.csiTakes p hdr then s
    else if csiLineMark dt then s.csiHeader p hdr
    else
      let s := s.csiHeader p hdr
      match csiType dt with
      | none => s.finc F.CAL_P_STAT_DTDROP 1 p
      | some t =>
        if !crc then s.finc F.CAL_P_STAT_CRCERR 1 p
        else
          let s := (s.encsOf p vc).foldl (fun s e => if s.fget F.CDC_E_CFG_DT e = t then s.encLine e samples else s) s
          let c := s.cal
          if c.ladder && c.old.isSome && s.calState = 2 && bits c.cfg 17 17 = p && bits c.cfg 16 15 = vc then
            let ls := senseLines t samples
            s.ladderLine p (if t = 3 then nth ls 1 [] else ls.headD [])
          else s)

/-- FRAME_END: a frame end on port p, virtual channel vc, ends the block in progress of each encoder that codes it (R208);
after a ladder page is DONE it ends the run's measurement. -/
def execFrameEnd (p vc hdr : Nat) (s : State) : Host.Outcome State Fault Refusal :=
  .next (
    if !s.csiTakes p hdr then s
    else
      let s := (s.csiHeader p hdr).csiFrame p vc false
      let s := (s.encsOf p vc).foldl (fun s e =>
        let s := if s.encTaking e then s.encFrameEnd e else s
        let s := s.setEnc e { s.enc e with inFrame := false }
        if s.fget F.CDC_E_STAT_STATE e = 2 then s.fset F.CDC_E_STAT_STATE 1 e else s) s
      let c := s.cal
      if c.ladder && s.calState = 2 && bits c.cfg 17 17 = p && bits c.cfg 16 15 = vc && c.ended = some true then
        { s with cal := { c with inRow := false } }.calMeasured
      else s)

end Sys2Proof.Machine
end

