-- ==== Sys2Proof/Machine/Hv.lean ====
section
/-! DEFINITION. High-voltage channels and fuser regulation: drive and polarity, trips, charging windows, temperature inputs,
zones and the fuser power command (R349 to R370). -/

namespace Sys2Proof.Machine

/-! ### HV channels (R349 to R359) -/

/-- HV channel n beyond its registers. -/
def State.hv (s : State) (n : Nat) : HvCh := nth s.power.hv n HvCh.blank

/-- The state with HV channel n replaced. -/
def State.setHv (s : State) (n : Nat) (x : HvCh) : State := { s with power := { s.power with hv := s.power.hv.set n x } }

/-- HV channel n is present. -/
def State.hvPresent (s : State) (n : Nat) : Bool := n < 24 && n < s.variant.hvch

/-- TYPE of a channel (Table 12-2). -/
def State.hvType (s : State) (n : Nat) : Nat := s.fget F.HVS_C_CFG_TYPE n

/-- The gating of R353 and R354: ESTOP_N low or Bivouac mode. -/
def State.hvGated (s : State) : Bool := !s.pins.estopN || s.bivouac

/-- STATE of a channel follows its trip, enable, gating, window and polarity hold (HVS_C_STAT). -/
def State.hvUpdate (s : State) (n : Nat) : State :=
  let x := s.hv n
  let st :=
    if s.fget F.HVS_C_STAT_STATE n = 3 then 3
    else if !s.fbit F.HVS_C_CTRL_EN n || s.hvType n = 0 then 0
    else if s.hvGated then 5
    else if x.refused then 4
    else if x.hold.isSome then 2
    else 1
  s.fset F.HVS_C_STAT_STATE st n

/-- A BIPOLAR channel that is driving begins a polarity change when the DUTY in force is nonzero against POLNOW: its drive is held low
(R352). A DC or AC BIAS channel has the polarity NEG, and an OFF channel HV_POL_C low (Table 12-2). -/
def State.hvPolarity (s : State) (n : Nat) : State :=
  let d := (s.hv n).duty
  match s.hvType n with
  | 0 => s.fset F.HVS_C_STAT_POLNOW 0 n
  | 2 =>
    if s.fget F.HVS_C_STAT_STATE n = 1 && d ≠ 0 && decide (d < 0) != s.fbit F.HVS_C_STAT_POLNOW n then
      (s.setHv n { s.hv n with hold := some 0, high := 0 }).hvUpdate n
    else s
  | 1 | 3 => s.fset F.HVS_C_STAT_POLNOW (s.fget F.HVS_C_CFG_NEG n) n
  | _ => s

/-- STATE of a channel, and the polarity change that a channel which drives now may need (R352, R353). -/
def State.hvSettle (s : State) (n : Nat) : State := (s.hvUpdate n).hvPolarity n

/-- The magnitude that a channel drives for a DUTY: |DUTY|, or 0 on the side that a DC or AC BIAS channel's NEG does not allow
(Table 12-2, R356). -/
def State.hvMag (s : State) (n : Nat) (d : Int) : Nat :=
  match s.hvType n with
  | 0 => 0
  | 1 | 3 => if decide (d < 0) == s.fbit F.HVS_C_CFG_NEG n then d.natAbs else 0
  | _ => d.natAbs

/-- The PWM period of a channel: DRVP tick-PLL cycles, from 400 to 20,000 (R349). [DESIGN CHOICE, log entry 160] -/
def State.hvPeriod (s : State) (n : Nat) : Nat := min 20000 (max 400 (s.fget F.HVS_C_CFG_DRVP n))

/-- A time in tick-PLL cycles. -/
def State.hvNow (s : State) : Nat := s.elapsed * 8000 + s.phase * 500

/-- The PWM period boundaries of channel n up to a time: the DUTY written before them is in force from the first of them on, and sets
the high time while the channel drives (R349). -/
def State.hvStep (s : State) (n t : Nat) : State :=
  let x := s.hv n
  if t < x.next then s
  else
    let p := s.hvPeriod n
    let d := s.fsigned F.HVS_C_OUT_DUTY n
    let high := if s.fget F.HVS_C_STAT_STATE n = 1 then (divRound ((s.hvMag n d * p : Nat) : Int) 32768).toNat else 0
    (s.setHv n { x with duty := d, high := high, next := x.next + p * ((t - x.next) / p + 1) }).hvPolarity n

/-- High time of HV_DRV_C in the present PWM period: 0 while the channel does not drive (R349, R353). -/
def State.hvDrive (s : State) (n : Nat) : Nat := if s.fget F.HVS_C_STAT_STATE n = 1 then (s.hv n).high else 0

/-- Level of HV_POL_C (Table 12-2). -/
def State.hvPol (s : State) (n : Nat) : Bool :=
  match s.hvType n with
  | 0 => false
  | 4 => (s.hv n).pol
  | _ => s.fbit F.HVS_C_STAT_POLNOW n

/-- A write of HVS_C_CFG: TYPE 3 on even channels, TYPE 4 on the odd channel above a TYPE 3; a breach is ignored and
recorded, as is a write while EN is 1 (R11, R351). -/
def State.hvCfgWrite (s : State) (n v : Nat) : State :=
  let t := bits v 18 16
  let odd := n % 2 = 1
  if !s.hvPresent n then s
  else if s.fbit F.HVS_C_CTRL_EN n then s.recRwi R.HVS_C_CFG v n
  else if 5 ≤ t || (t = 3 && odd) || (t = 4 && !(odd && s.hvType (n - 1) = 3)) ||
      (!odd && t ≠ 3 && s.hvPresent (n + 1) && s.hvType (n + 1) = 4) then s.recRule 351
  else ((s.hvStep n s.hvNow).rset R.HVS_C_CFG (v &&& 0x1F07FFFF) n).hvSettle n

/-- HV_CFG_WRITE (R351). -/
def execHvCfgWrite (n v : Nat) (s : State) : Host.Outcome State Fault Refusal := .next (s.hvCfgWrite n v)

/-- TRIPCLR clears the trip (R355). -/
def State.hvTripClr (s : State) (n : Nat) : State :=
  if s.hvPresent n && s.fget F.HVS_C_STAT_STATE n = 3 then (s.fset F.HVS_C_STAT_STATE 0 n).hvSettle n else s

/-- HV_TRIPCLR (R355). -/
def execHvTripclr (n : Nat) (s : State) : Host.Outcome State Fault Refusal := .next (s.hvTripClr n)

/-- A write of HVS_C_CTRL: TRIPCLR, then EN, which is refused with ACFREQ out of range on a TYPE 4 channel. -/
def State.hvCtrlWrite (s : State) (n v : Nat) : State :=
  if !s.hvPresent n then s
  else
    let s := if v.testBit 1 then s.hvTripClr n else s
    let f := s.fget F.HVS_C_POL_ACFREQ n
    if v.testBit 0 && s.hvType n = 4 && (f < 50 || 20000 < f) then s.recRule 351
    else
      let s := s.fset F.HVS_C_CTRL_EN (bit (v.testBit 0)) n
      let s := if v.testBit 0 then s else s.setHv n { s.hv n with hold := none }
      s.hvSettle n

/-- A write of HVS_C_OUT, from a law, a timed write or the host: it takes effect at the next period boundary (R349). -/
def State.hvOutWrite (s : State) (n v : Nat) : State :=
  if s.hvPresent n then (s.hvStep n s.hvNow).rset R.HVS_C_OUT (v % 65536) n else s

/-- A write of HVS_S_WIN: TLO below THI, both at most 60, else it is ignored and recorded (R358). -/
def State.hvWinWrite (s : State) (i v : Nat) : State :=
  if s.variant.stn ≤ i then s
  else if bits v 15 8 ≤ bits v 7 0 || 60 < bits v 15 8 then s.recRule 358
  else s.rset R.HVS_S_WIN (v &&& 0x1F00FFFF) i

/-- A mean or a sample of a sense input by the channel's type: bipolar or unipolar, negated where NEG is 1 (R350). The peak-to-peak
code of an AC AMPLITUDE channel has no sign. -/
def State.hvConvert (s : State) (n c fs : Nat) (pp : Bool) : Int :=
  if s.hvType n = 2 then divRound (((c : Int) - 2048) * fs) 2047
  else
    let u := divRound ((c * fs : Nat) : Int) 4095
    if s.fbit F.HVS_C_CFG_NEG n && !pp then -u else u

/-- A current sample has a magnitude of ITRIP or more (R355). -/
def State.hvOver (s : State) (n c : Nat) : Bool :=
  decide (s.fget F.HVS_C_PROT_ITRIP n ≤ (s.hvConvert n (c % 4096) (s.fget F.HVS_C_SCALE_IFS n) false).natAbs)

/-- HV_TRIP: two consecutive current samples of channel n, which trip it when both reach ITRIP (R355). -/
def execHvTrip (n a b : Nat) (s : State) : Host.Outcome State Fault Refusal :=
  .next (
    if !s.hvPresent n || s.fget F.HVS_C_STAT_STATE n = 3 || !s.hvOver n a || !s.hvOver n b then s
    else
      let s := (s.fset F.HVS_C_CTRL_EN 0 n).fset F.HVS_C_STAT_STATE 3 n
      let s := (s.setHv n { s.hv n with hold := none }).rset R.HVS_TRIP (s.rget R.HVS_TRIP ||| 2 ^ n)
      let s := ((s.setFlag 795).raise 13).recRule 355
      if s.fbit F.HVS_C_CFG_CRIT n then s.abandonPage 8 else s)

/-- A sense reading of a 12-bit code c (R350) as its 16-bit field holds it. A result beyond the field is a free value. -/
def State.hvSense (s : State) (n c fs k : Nat) (pp : Bool) : Nat :=
  let v := s.hvConvert n c fs pp
  if v < -32768 || 32767 < v then Config.freeWord (s.free + k) % 65536 else unsign 16 v

/-- The window of station i admits a reading, with the hysteresis after a refusal (R357). [DEDUCED, log entry 78] -/
def State.hvWindow (s : State) (i : Nat) (refused : Bool) : Bool :=
  let t := signed 16 (s.fget F.PWR_HK_VAL_VALUE (s.fget F.HVS_S_WIN_HKCH i))
  let m : Int := if refused then 2 else 0
  decide (((s.fget F.HVS_S_WIN_TLO i : Int) + m) * 16 ≤ t) && decide (t ≤ ((s.fget F.HVS_S_WIN_THI i : Int) - m) * 16)

/-- The charging window of channel n at phase 0: the first refusal of an episode is told, and any refusal abandons a page IMAGING
that uses the station (R357, R359). -/
def State.hvCharge (s : State) (n : Nat) : State :=
  let i := s.fget F.HVS_C_CFG_STN n
  let x := s.hv n
  let refused := s.fbit F.HVS_C_CFG_CHARGE n && i < 6 && !s.hvWindow i x.refused
  let tell := refused && !x.told && s.fbit F.HVS_C_CTRL_EN n && s.hvType n ≠ 0
  let s := s.setHv n { x with refused := refused, told := refused && (x.told || tell) }
  let s := if tell then ((s.setFlag 796).raise 13).recRule 357 else s
  if refused && s.fbit F.HVS_C_CTRL_EN n && s.hvType n ≠ 0 && s.stnImaging i then s.abandonPage 8 else s

/-- The polarity hold of channel n at phase 0: it ends near zero output or after POLTMO ticks, and not while the channel is kept from
driving (R352, R353). [DESIGN CHOICE, log entry 161] -/
def State.hvHold (s : State) (n : Nat) : State :=
  let x := s.hv n
  match x.hold with
  | none => s
  | some t =>
    let v := s.fsigned F.HVS_C_VMEAS_V n
    if (v.natAbs ≤ 10 * s.fget F.HVS_C_POL_ZEROV n || max 1 (s.fget F.HVS_C_POL_POLTMO n) ≤ t + 1) && !s.hvGated && !x.refused then
      (s.setHv n { x with hold := none }).fset F.HVS_C_STAT_POLNOW (1 - s.fget F.HVS_C_STAT_POLNOW n) n
    else s.setHv n { x with hold := some (t + 1) }

/-- Samples of a tick join the extremes of an AC period, once one has begun. -/
def HvCh.sampled (x : HvCh) (l : List Nat) : HvCh := if x.lo = 4096 then x else { x with lo := l.foldl min x.lo, hi := l.foldl max x.hi }

/-- Half a period of the square wave, in tick-PLL cycles to the nearest: ACFREQ from 50 Hz to 20 kHz (R351). -/
def State.hvHalf (s : State) (n : Nat) : Nat :=
  let f := min 20000 (max 50 (s.fget F.HVS_C_POL_ACFREQ n))
  (200000000 + f / 2) / f

/-- The square wave of an AC AMPLITUDE channel over the tick that has ended at phase 0, with the tick's voltage samples: it turns over
at a half-period boundary, from which a new ACFREQ counts; a period that is complete gives its peak-to-peak code. A channel that does
not drive keeps its level, and its wave begins anew (R351, R353). [DESIGN CHOICE, log entry 162] -/
def State.hvWave (s : State) (vs : List Nat) (n : Nat) : State :=
  let x := s.hv n
  let now := s.hvNow
  if s.hvType n ≠ 4 then s
  else if s.fget F.HVS_C_STAT_STATE n ≠ 1 then s.setHv n { x with half := now + s.hvHalf n, lo := 4096, hi := 0 }
  else if now < x.half then s.setHv n (x.sampled vs)
  else
    let k := (x.half + 8000 - now + 399) / 400
    let y := x.sampled (vs.take k)
    let y := if x.pol then y else { y with pp := if y.lo = 4096 then y.pp else y.hi - y.lo, lo := 4095, hi := 0 }
    s.setHv n { y.sampled (vs.drop k) with pol := !x.pol, half := max (x.half + s.hvHalf n) (now + 1) }

/-- Phase 0 of HV channel n with its sense inputs (R349 to R359). -/
def State.hvPhase0 (s : State) (inp : HvIn) (n : Nat) : State :=
  let s := (s.hvStep n (s.hvNow - 1)).hvWave (inp.vs.map (· % 4096)) n
  let pp := s.hvType n = 4
  let v := s.hvSense n (if pp then (s.hv n).pp else inp.v % 4096) (s.fget F.HVS_C_SCALE_VFS n) 0 pp
  let i := s.hvSense n (inp.i % 4096) (s.fget F.HVS_C_SCALE_IFS n) 1 false
  let s := { (s.rset R.HVS_C_VMEAS v n).rset R.HVS_C_IMEAS i n with free := s.free + 2 }
  (((s.hvCharge n).hvHold n).hvSettle n).hvStep n s.hvNow

/-! ### Fuser temperature inputs (R360, R361) -/

/-- Entry k of the table of input i. -/
def State.fusT (s : State) (i k : Nat) : Int := signed 16 (memRead s.table (64 * s.fget F.FUS_T_CFG_TBL64 i + 2 * k) 2)

/-- The temperature of a mean code (R360). -/
def State.fusTemp (s : State) (i c : Nat) : Int :=
  let k := c / 128
  s.fusT i k + ((s.fusT i (k + 1) - s.fusT i k) * ((c : Int) - 128 * k) + 64) / 128

/-- The cause for which a reading is faulty: below TMIN, above TMAX, or too far from the previous one; 0 for none (R361). -/
def State.fusCause (s : State) (i : Nat) (t prev : Int) : Nat :=
  let r := s.fget F.FUS_T_CFG_RATEMAX i
  if t < s.fsigned F.FUS_T_RANGE_TMIN i then 1
  else if s.fsigned F.FUS_T_RANGE_TMAX i < t then 2
  else if r ≠ 0 && r < (t - prev).natAbs then 3
  else 0

/-- Phase 0 of temperature input i (R360, R361). -/
def State.fusInput (s : State) (c i : Nat) : State :=
  let clr := nth s.power.fus.clr i false
  let s := { s with power := { s.power with fus := { s.power.fus with clr := s.power.fus.clr.set i false } } }
  if !s.fbit F.FUS_T_CFG_EN i then s
  else
    let c := c % 4096
    let t := satS 16 (s.fusTemp i c)
    let cause := s.fusCause i t (s.fsigned F.FUS_T_VAL_TEMP i)
    let was := s.fbit F.FUS_T_VAL_FAULT i
    let s := (s.fset F.FUS_T_VAL_TEMP (unsign 16 t) i).fset F.FUS_T_VAL_CODE c i
    let s :=
      if was then
        (if clr && cause = 0 then (s.fset F.FUS_T_VAL_FAULT 0 i).fset F.FUS_T_VAL_CAUSE 0 i else s)
      else if cause = 0 then s
      else
        let s := (s.fset F.FUS_T_VAL_FAULT 1 i).fset F.FUS_T_VAL_CAUSE cause i
        ((s.setFlag 797).raise 14).recRule 361
    s.fset ⟨R.FUS_STAT, i, i⟩ (s.fget F.FUS_T_VAL_FAULT i)

/-- FUSER_INPUT_CLR: a CLR waits for the next phase 0 (R361). -/
def execFuserInputClr (i : Nat) (s : State) : Host.Outcome State Fault Refusal :=
  .next { s with power := { s.power with fus := { s.power.fus with clr := s.power.fus.clr.set i true } } }

/-! ### Zones (R362 to R365) -/

/-- Input i is enabled and not faulty. -/
def State.fusHealthy (s : State) (i : Nat) : Bool := i < 8 && s.fbit F.FUS_T_CFG_EN i && !s.fbit F.FUS_T_VAL_FAULT i

/-- TEMP of input i. -/
def State.fusVal (s : State) (i : Nat) : Int := s.fsigned F.FUS_T_VAL_TEMP i

/-- SRC and TEMP of zone z (Table 12-4); none healthy gives SRC 0 and no value. -/
def State.zoneTemp (s : State) (z : Nat) : Nat × Option Int :=
  let p := s.fget F.FUS_Z_CFG_PRI z
  let q := s.fget F.FUS_Z_CFG_SEC z
  let a := s.fusVal p
  let b := s.fusVal q
  match s.fusHealthy p, q != 15 && s.fusHealthy q with
  | true, true =>
    if (a - b).natAbs ≤ s.fget F.FUS_Z_CFG_DIFF z then (1, some ((a + b + 1) / 2)) else (4, some (max a b))
  | true, false => (2, some a)
  | false, true => (3, some b)
  | false, false => (0, none)

/-- OVT or FAULT newly set: flag 798, vector 14, a record, and a page IMAGING is abandoned (R364, R365). -/
def State.zoneAlarm (s : State) (what : Nat) : State := (((s.setFlag 798).raise 14).recRule 364 [what]).abandonPage 8

/-- The command of zone z is 0 for this tick (R366). -/
def State.zeroZone (s : State) (z : Nat) : State :=
  { s with power := { s.power with fus := { s.power.fus with zeroed := s.power.fus.zeroed.set z true } } }

/-- A condition of R366 that forces SENT of zone z to 0 holds now. -/
def State.zoneForced (s : State) (z : Nat) : Bool :=
  !s.fbit F.FUS_Z_CFG_EN z || s.fbit F.FUS_Z_STAT_OVT z || s.fbit F.FUS_Z_STAT_FAULT z || !s.pins.estopN || s.bivouac

/-- DISAGREE of zone z, with its record (R363). -/
def State.zoneDisagree (s : State) (z : Nat) : State :=
  { (s.fset F.FUS_Z_STAT_DISAGREE 1 z).recRule 363 with
    power := { s.power with fus := { s.power.fus with disTold := s.power.fus.disTold.set z true } } }

/-- Zone z has been at SRC 4 for 50 ticks of an episode not yet told (R363). [DEDUCED, log entry 80] -/
def State.zoneDisDue (s : State) (z : Nat) : Bool := 50 ≤ nth s.power.fus.dis z 0 && !nth s.power.fus.disTold z false

/-- FALLBACK of zone z follows SRC 2 or 3 with SEC configured; a newly set one is an absorbed fault (R363, Table 22-6). -/
def State.zoneFallback (s : State) (z src : Nat) : State :=
  let fb := (src = 2 || src = 3) && s.fget F.FUS_Z_CFG_SEC z ≠ 15
  let was := s.fbit F.FUS_Z_STAT_FALLBACK z
  let s := if fb then s.fset F.FUS_Z_STAT_FALLBACK 1 z else if src = 1 || src = 4 then s.fset F.FUS_Z_STAT_FALLBACK 0 z else s
  if fb && !was then s.absorb F.SYS_ABS1_SENSOR else s

/-- Phase 0 of zone z (R362 to R365). -/
def State.zonePhase0 (s : State) (z : Nat) : State :=
  let s := if s.zoneDisDue z then s.zoneDisagree z else s
  if !s.fbit F.FUS_Z_CFG_EN z then s
  else
    let (src, t) := s.zoneTemp z
    let n := if src = 4 then min 50 (nth s.power.fus.dis z 0 + 1) else 0
    let f := s.power.fus
    let s := { s with power := { s.power with fus :=
      { f with dis := f.dis.set z n, disTold := f.disTold.set z (src = 4 && nth f.disTold z false) } } }
    let s := s.fset F.FUS_Z_TEMP_SRC src z
    let s := match t with | some t => s.fset F.FUS_Z_TEMP_TEMP (unsign 16 t) z | none => s
    let s := s.zoneFallback z src
    let was := s.fbit F.FUS_Z_STAT_FAULT z
    let s := s.fset F.FUS_Z_STAT_FAULT (bit (src = 0)) z
    let s := if src = 0 && !was then s.zoneAlarm 3 else s
    let trip := s.fsigned F.FUS_Z_TRIP_TRIP z
    let hot (i : Nat) : Bool := s.fusHealthy i && decide (trip ≤ s.fusVal i)
    let q := s.fget F.FUS_Z_CFG_SEC z
    let tooHot := decide (trip ≤ s.fsigned F.FUS_Z_TEMP_TEMP z) || hot (s.fget F.FUS_Z_CFG_PRI z) || (q != 15 && hot q)
    let s := if tooHot && !s.fbit F.FUS_Z_STAT_OVT z then (s.fset F.FUS_Z_STAT_OVT 1 z).zoneAlarm 2 else s
    (s.fset ⟨R.FUS_STAT, 12 + z, 12 + z⟩ (s.fget F.FUS_Z_STAT_FAULT z)).fset ⟨R.FUS_STAT, 8 + z, 8 + z⟩ (s.fget F.FUS_Z_STAT_OVT z)

/-- TRIPCLR of zone z: clears OVT 10 °C below TRIP without a FAULT; otherwise it is ignored and recorded (R364). -/
def State.zoneTripClr (s : State) (z : Nat) : State :=
  if 4 ≤ z then s
  else if s.fsigned F.FUS_Z_TEMP_TEMP z < s.fsigned F.FUS_Z_TRIP_TRIP z - 160 && !s.fbit F.FUS_Z_STAT_FAULT z then
    (s.fset F.FUS_Z_STAT_OVT 0 z).fset ⟨R.FUS_STAT, 8 + z, 8 + z⟩ 0
  else s.recRule 364 [1]

/-- ZONE_TRIPCLR (R364). -/
def execZoneTripclr (z : Nat) (s : State) : Host.Outcome State Fault Refusal := .next (s.zoneTripClr z)

/-! ### The fuser power command (R366 to R370) -/

/-- SENT of zone z as the frame of the tick is assembled (R366). -/
def State.zoneSent (s : State) (z : Nat) : Nat :=
  if s.zoneForced z || nth s.power.fus.zeroed z false then 0 else min (s.fget F.FUS_Z_CMD_DEMAND z) (s.fget F.FUS_Z_MAX_MAXD z)

/-- The commands of the tick stand in SENT at its commit, where an M variant's frame takes them (R367). -/
def State.fusSend (s : State) : State :=
  if s.variant.mains then (List.range 4).foldl (fun s z => s.fset F.FUS_Z_STAT_SENT (s.zoneSent z) z) s else s

/-- The start of FUS_CMD's period on an L variant, after the fuser laws' outputs of the last tick: SENT, where a zone forced since phase 0
of that tick is 0, and the high time of zone LZONE (R327, R366, R369). -/
def State.fusCmdPhase0 (s : State) : State :=
  if s.variant.mains then s
  else
    let z := s.fget F.FUS_CFG_LZONE
    let s := (List.range 4).foldl (fun s k =>
      s.fset F.FUS_Z_STAT_SENT (if nth s.power.fus.forced k false then 0 else s.zoneSent k) k) s
    let h := (2 * s.fget F.FUS_Z_STAT_SENT z * 8000 + 65535) / 131070
    { s with power := { s.power with fus := { s.power.fus with high := h } } }

/-- Phase 0 of HV channels and the fuser. The forcing conditions of the tick begin anew (R366). -/
def State.hvFusPhase0 (s : State) (hv : List HvIn) (fth : List Nat) : State :=
  let forced := (List.range 4).map (fun z => s.zoneForced z || nth s.power.fus.zeroed z false)
  let s := { s with power := { s.power with fus := { s.power.fus with forced := forced, zeroed := List.replicate 4 false } } }
  let s := (List.range s.variant.hvch).foldl (fun s n => s.hvPhase0 (nth hv n ⟨0, 0, []⟩) n) s
  let s := (List.range 8).foldl (fun s i => s.fusInput (nth fth i 0) i) s
  let s := (List.range 4).foldl State.zonePhase0 s
  (List.range 4).foldl (fun s z => if s.zoneForced z then s.zeroZone z else s) s

/-- ESTOP_N low or Bivouac mode: every HV drive is low, the fuser commands are 0 and FUS_CMD is low (R354, R366, R370). -/
def State.hvFusGate (s : State) : State :=
  let s := (List.range s.variant.hvch).foldl State.hvUpdate s
  let s := (List.range 4).foldl State.zeroZone s
  { s with power := { s.power with fus := { s.power.fus with high := 0 } } }

end Sys2Proof.Machine
end

