-- ==== Sys2Proof/Machine/Outputs.lean ====
section
/-! DEFINITION. Returning every power output to its reset state (R108, R553, R605, R610, Tables 22-4 and 24-2 to 24-4). -/

namespace Sys2Proof.Machine

/-- A FOC channel's bridge is low: OFF, unless it shows a fault. -/
def State.focLow (s : State) (n : Nat) : State := if s.focDriven n || s.focState n = 1 then s.focEnter n 0 else s

/-- A stepper channel's outputs are low. -/
def State.stpLow (s : State) (n : Nat) : State := (s.fset F.FOC_ST_CTRL_EN 0 n).fset F.FOC_ST_STAT_STATE 0 n

/-- A fuser zone is disabled and its command of the tick 0. -/
def State.zoneLow (s : State) (z : Nat) : State := (s.fset F.FUS_Z_CFG_EN 0 z).zeroZone z

/-- Every power output in its reset state: laser enables, HV drives, fuser commands, motor bridges, steppers, step outputs
and the brake chopper. -/
def State.resetOutputs (s : State) : State :=
  let s := s.clearLden.ldSyncAll
  let s := (List.range 24).foldl (fun s n => s.hvCtrlWrite n 0) s
  let s := (List.range 4).foldl State.zoneLow s
  let s := (List.range 12).foldl State.focLow s
  let s := (List.range 16).foldl State.stpLow s
  let s := (List.range 8).foldl (fun s n => s.fset F.FOC_SD_CFG_EN 0 n) s
  let s := s.fset F.FOC_BRKSTAT_GATE 0
  { s with power := { s.power with fus := { s.power.fus with high := 0 } } }

end Sys2Proof.Machine
end

