-- ==== Sys2Proof/Machine/View.lean ====
section
/-! DEFINITION. Reading a register without side effects: registers whose value is a view of other state, absent instances,
reserved bits and offsets, windows, and Bivouac mode (R2, R9, R10, R73, R607, R617, R618). -/

namespace Sys2Proof.Machine

/-! ### The recorder's areas (R583, R584, R593) -/

/-- The slot's MARK matches. -/
def slotMarked (bs : List Nat) : Bool := leAt bs 0x7C 4 == 0x43455259

/-- The slot's CRC matches. -/
def slotCrcOk (bs : List Nat) : Bool := leAt bs 0x78 4 == crc32 (slice bs 0 0x78)

/-- The write pointer of an area, whose slots stand latest first: one above the highest marked slot (R584). -/
def areaPtr (l : List (Nat × List Nat)) : Nat :=
  match l.find? (fun kb => slotMarked kb.2) with | some kb => kb.1 + 1 | none => 0

/-- The bytes at a record index (R593). -/
def State.recAt (s : State) (i : Nat) : List Nat :=
  let get (l : List (Nat × List Nat)) (k : Nat) : List Nat := match l.find? (fun kb => kb.1 == k) with | some kb => kb.2 | none => []
  if i < 12032 then get s.rcd.gen i
  else if i < 12288 then get s.rcd.sec (i - 12032)
  else nth s.rcd.bank (i - 12288) []

/-- Status of an index: 0 empty, 1 valid, 2 damaged, 3 end (R593). -/
def State.recStatus (s : State) (i : Nat) : Nat :=
  let bs := s.recAt i
  if 12296 ≤ i then 3 else if !slotMarked bs then 0 else if slotCrcOk bs then 1 else 2

/-- The index a cursor register names; values above 12,296 count as 12,296. -/
def State.cursor (s : State) (u : Nat) : Nat := min (s.rget R.REC_C_IDX u) 12296

/-! ### Security views -/

/-- DEVID: the SHA-384 hash of the identity public key (R566). -/
def State.devid (s : State) : List Nat := match s.nvm.idPub with | some k => Config.sha384 k | none => []

/-- The vendor public key matches the fused hash (R564). -/
def State.vkOk (s : State) : Bool := decide (Config.sha384 s.nvm.vendor = Config.vendorHash)

/-- SEC_KEYSTAT code of a slot's state. -/
def KeyState.code : KeyState → Nat
  | .empty => 0 | .set => 1 | .revoked => 2

/-- Customer slot i. -/
def State.custSlot (s : State) (i : Nat) : KeySlot := nth s.nvm.cust i ⟨.empty, []⟩

/-- Franking counter k. -/
def State.frank (s : State) (k : Nat) : Frank := nth s.nvm.frank k ⟨0, 0, 0, [], [], false⟩

/-- Committed plus pending amount of counter k, the amounts of a batch that is being written among them (R570). -/
def State.frankVal (s : State) (k : Nat) : Nat :=
  (s.frank k).committed + (s.frank k).pend + ((s.sec.batch.filter (fun b => b.1 == k)).map (·.2)).foldl (· + ·) 0

/-- The latest committed record of a counter: of the two copies the one with the higher RSEQ (R575). -/
def Frank.latest (f : Frank) : List Nat := if leAt f.copyA 0x18 4 < leAt f.copyB 0x18 4 then f.copyB else f.copyA

/-! ### DRAM view -/

/-- DRC_C{c}_STAT as read: POSTP shows the refreshes owed by now (R476). -/
def State.drcStat (s : State) (c : Nat) : Nat :=
  let x := s.chan c
  let o := if s.fget F.DRC_C_STAT_STATE c = 3 then
      max (x.owedOf 0 (s.cycNow 0)) (if s.fget F.DRC_C_STAT_RANKS c = 2 then x.owedOf 1 (s.cycNow 0) else 0) else 0
  putBits (s.rget R.DRC_C_STAT c) 19 16 (min 8 o.toNat)

/-! ### Views -/

/-- SYS_FEAT or SYS_IDENT and the other registers that show state kept elsewhere: for each, its value from the state and its
instance numbers. -/
def viewsHost : List (RegDesc × (State → Nat → Nat → Nat)) :=
  [(R.SYS_IDENT, fun s _ _ => 0x56590000 + s.variant.code * 2 ^ 8 + s.stepping * 2 ^ 4 + s.fuseRev),
   (R.SYS_FEAT, fun s _ _ => s.variant.feat),
   (R.SYS_RSTC, fun s _ _ => s.boot.src * 2 ^ 28 + s.boot.fscnt * 2 ^ 21),
   (R.TCK_COUNT_LO, fun s _ _ => s.now32),
   (R.TCK_PHASE, fun s _ _ => Config.subCycle s.free % 500 * 16 + s.livePhase),
   (R.PLC_C_FREE, fun s c _ => s.freeCount c),
   (R.SEQ_CTXSTAT, fun s _ _ => s.ctxStat (s.rget R.SEQ_CTXSEL)),
   (R.SEQ_CTXPC, fun s _ _ => (nth s.seq.ckpt (s.rget R.SEQ_CTXSEL) Ctx.blank).pc),
   (R.SEQ_IMGINFO, fun s _ _ => leAt s.boot.image 0x18 2 * 2 ^ 16 + bit s.nvm.pendOk * 2 + s.nvm.active),
   (R.FMT_STAT, fun s _ _ => bit (s.fmt.wins.any (·.full)) * 2 ^ 15 + s.rget R.FMT_STAT + s.held),
   (R.FMT_W_STAT, fun s w _ => putBits (s.rget R.FMT_W_STAT w) 23 22 (nth s.fmt.wins w Win.blank).state.code),
   (R.FMT_W_ACK, fun s w _ => (nth s.fmt.wins w Win.blank).ack / 64),
   (R.FMT_W_LIMIT, fun s w _ => (nth s.fmt.wins w Win.blank).limit / 64),
   (R.FMT_QSTAT, fun s _ _ => s.fget F.FMT_QSTAT_QERR * 2 ^ 23 + s.fmt.done.length * 2 ^ 16 + s.fmt.queue.length),
   (R.FMT_HEAD, fun s _ _ => s.headHandle),
   (R.FMT_HEADSTAT, fun s _ _ => s.rget R.FMT_HEADSTAT + (match s.envOf s.headHandle with
     | some e => if s.headHandle = 0 then 0 else
        e.state.code * 2 ^ 24 + e.side * 2 ^ 16 + e.spdclass * 2 ^ 12 + e.stnmask * 2 ^ 4
     | none => 0)),
   (R.FMT_HEADINFO, fun s _ _ => match s.envOf s.headHandle with
     | some e => if s.headHandle = 0 then 0 else e.pageid
     | none => 0),
   (R.FMT_IMAGING, fun s _ _ => s.imagingHandle),
   (R.FMT_DONE_HDL, fun s _ _ => match s.fmt.done with | d :: _ => d.handle | [] => 0),
   (R.FMT_DONE_STAT, fun s _ _ => match s.fmt.done with
     | d :: _ => d.state * 2 ^ 28 + bit d.late * 2 ^ 27 + d.cause * 2 ^ 16 + d.lines
     | [] => 0)]

/-- The views of the image path and the loop engines. -/
def viewsImage : List (RegDesc × (State → Nat → Nat → Nat)) :=
  [(R.CDC_STAT, fun s _ _ => (match s.laneWith 14 with | some l => l | none => 15) * 2 ^ 8 + s.cdc.redq.length % 8 * 2 ^ 4 +
      bit s.cdc.redec.isSome * 2 ^ 3),
   (R.CDC_D_STAT, fun s l _ => let x := s.lane l
      x.st * 2 ^ 28 + x.stn % 8 * 2 ^ 25 + x.line % 64 * 2 ^ 17 + x.blk % 2 ^ 17),
   (R.BST_S_STAT, fun s i _ => s.bstStat i),
   (R.LPE_L_STAT, fun s n _ => s.lawStat n)]

/-- The views of the ring, power, security, the recorder and general I/O. -/
def viewsSys : List (RegDesc × (State → Nat → Nat → Nat)) :=
  [(R.EUN_STAT, fun s _ _ => if s.fbit F.EUN_CFG_ROOT then putBits (putBits (s.rget R.EUN_STAT) 31 31 1) 9 0 0 else s.rget R.EUN_STAT),
   (R.EUN_RXHDR, fun s _ _ => match s.ring.fifo with
     | m :: _ => 2 ^ 31 + bit m.auth * 2 ^ 30 + bit m.bcast * 2 ^ 29 + s.ring.fifo.length * 2 ^ 23 + (m.body.length - 1) * 2 ^ 19 +
        m.type * 2 ^ 10 + m.src
     | [] => 0),
   (R.EUN_RXW, fun s i _ => match s.ring.fifo with | m :: _ => nth m.body i 0 | [] => 0),
   (R.EUN_ACK, fun s _ _ => match s.ring.acks with
     | a :: _ => 2 ^ 31 + s.ring.acks.length * 2 ^ 25 + a.1 * 2 ^ 16 + a.2.1 * 2 ^ 8 + a.2.2
     | [] => 0),
   (R.DRC_C_STAT, fun s c _ => s.drcStat c),
   (R.PWR_STAT, fun s _ _ => putBits (s.rget R.PWR_STAT) 21 21 (bit s.nvmHold)),
   (R.SEC_STAT, fun s _ _ => s.rget R.SEC_STAT + bit s.nvm.idPub.isSome * 2 ^ 27 + bit s.vkOk * 2 ^ 26 +
      bit s.nvm.ringKey.isSome * 2 ^ 25),
   (R.SEC_PRES, fun s _ _ => bit s.presence * 2 ^ 31 + bit (decide (0 < s.sec.remBtn)) * 2 ^ 30 + bit s.sec.strap * 2 ^ 29 +
      bit (decide (0 < s.sec.remRing)) * 2 ^ 28 + s.presRemain),
   (R.SEC_MINVER, fun s _ _ => s.nvm.minver),
   (R.SEC_CTRL, fun s _ _ => s.nvm.rollwin * 2 ^ 8),
   (R.SEC_KEYSTAT, fun s _ _ => (s.custSlot 1).state.code * 4 + (s.custSlot 0).state.code),
   (R.SEC_FRKSTAT, fun s _ _ => s.rget R.SEC_FRKSTAT + bit (!s.sec.batch.isEmpty) * 2 ^ 31 +
      ((List.range 16).filter (fun k => (s.frank k).bad)).foldl (fun a k => a + 2 ^ k) 0),
   (R.SEC_FRK_VAL_LO, fun s k _ => s.frankVal k % 2 ^ 32),
   (R.SEC_FRK_VAL_HI, fun s k _ => s.frankVal k / 2 ^ 32),
   (R.REC_STAT, fun s _ _ => s.rget R.REC_STAT + bit s.nvmHold * 2 ^ 26 + s.rcd.bank.length * 2 ^ 22 + s.rcd.queue.length),
   (R.REC_USED, fun s _ _ => areaPtr s.rcd.gen * 2 ^ 16 + areaPtr s.rcd.sec),
   (R.REC_C_STAT, fun s u _ => let i := s.cursor u
      s.recStatus i * 2 ^ 30 + (if i < 12032 then 0 else if i < 12288 then 1 else if i < 12296 then 2 else 0) * 2 ^ 28),
   (R.IOX_SPI_STAT, fun s k _ => let n := (nth s.iox.spi k []).length
      bit (decide (0 < n)) * 2 ^ 31 + n),
   (R.IOX_U_RX, fun s k _ => match nth s.iox.rx k [] with | b :: _ => 2 ^ 31 + b | [] => 0),
   (R.IOX_U_STAT, fun s k _ => s.rget R.IOX_U_STAT k + (nth s.iox.tx k []).length * 2 ^ 8 + (nth s.iox.rx k []).length)]

/-- All views. -/
def views : List (RegDesc × (State → Nat → Nat → Nat)) := viewsHost ++ viewsImage ++ viewsSys

/-- What access codes leave of a register's value to a reader: WO and W1P fields read 0 (Table 0-5). -/
def RegDesc.readMask (r : RegDesc) (v : Nat) : Nat :=
  r.fields.foldl (fun a f => if f.acc = .wo || f.acc = .w1p then a else a + bits v f.hi f.lo * 2 ^ f.lo) 0

/-! ### Windows -/

/-- The words of BAR0 windows below 0x0018_0000: MSI-X table and pending bits, calibration result set, SEC windows, recorder
cursors (R320, R593, Tables 5-1 and 20-8). -/
def State.windowRead (s : State) (a : Nat) : Nat :=
  let at4 (l : List Nat) (base : Nat) : Nat := leAt l (a - base) 4
  if 0x48000 ≤ a && a < 0x48400 then memRead s.msixTab (a - 0x48000) 4
  else if 0x49000 ≤ a && a < 0x49008 then
    ((List.range 32).filter (fun i => s.msixPend.contains ((a - 0x49000) / 4 * 32 + i))).foldl (fun x i => x + 2 ^ i) 0
  else if 0x91000 ≤ a && a < 0x91640 then at4 s.cal.result 0x91000
  else if 0x141200 ≤ a && a < 0x141260 then at4 (s.nvm.idPub.getD []) 0x141200
  else if 0x141260 ≤ a && a < 0x141290 then at4 s.devid 0x141260
  else if 0x141300 ≤ a && a < 0x141330 then at4 s.sec.challenge 0x141300
  else if 0x142000 ≤ a && a < 0x142C00 then at4 (s.frank ((a - 0x142000) / 0xC0)).latest (0x142000 + (a - 0x142000) / 0xC0 * 0xC0)
  else if 0x151000 ≤ a && a < 0x151100 then
    at4 (s.recAt (s.cursor ((a - 0x151000) / 0x80))) (0x151000 + (a - 0x151000) / 0x80 * 0x80)
  else 0

/-! ### Bivouac mode -/

/-- BAR0 offsets that keep their function in Bivouac mode: SYS, the tick timer, SEQ_STAT and the loader, MSI-X, the
security registers of Table 22-4, the recorder, and DRC_C{c}_STAT, whose STATE reads 1 (R484, R607). [DEDUCED, log entry 117] -/
def bivouacReg (a : Nat) : Bool :=
  a < 0x20000 || a == 0x30000 || (0x30040 ≤ a && a < 0x30058) || (0x48000 ≤ a && a < 0x49008) ||
  (0x101008 ≤ a && a < 0x101408 && a % 0x100 == 8) || (0x140000 ≤ a && a < 0x140010) || (0x150000 ≤ a && a < 0x160000)

/-- The value of the register at an aligned BAR0 offset below 0x0018_0000, without read side effects (R73): 0 where the
instance is absent (R2) or nothing lies (R617). [DESIGN CHOICE, log entry 11; DEDUCED, log entry 94] -/
def State.readReg (s : State) (a : Nat) : Nat :=
  match findReg a with
  | some (r, i, j) =>
    if r.res.absent s.variant i j then 0
    else if s.bivouac && !bivouacReg a then r.readMask (resetOf s.variant a r.reset)
    else r.readMask ((match views.find? (fun v => v.1.base == r.base && v.1.i0 == r.i0) with
      | some v => v.2 s i j
      | none => s.rget r i j) % 2 ^ 32)
  | none => if s.bivouac && !bivouacReg a then 0 else s.windowRead a

/-- The aligned word of BAR0 that holds an offset: a register or a window below 0x0018_0000, the program store window, whose word k
is instruction k, or the table RAM window; 0 elsewhere, and from the image windows in Bivouac mode (R9, R109, R617, R618). -/
def State.barWord (s : State) (a : Nat) : Nat :=
  let w := a / 4 * 4
  if w < 0x180000 then s.readReg w
  else if s.bivouac then 0
  else if 0x1000000 ≤ w && w < 0x1400000 then memRead s.prog (w - 0x1000000) 4
  else if 0x1800000 ≤ w && w < 0x1A00000 then memRead s.table (w - 0x1800000) 4
  else 0

/-- What a host read of n bytes at BAR0 offset a returns: in each byte position the byte at that address within the aligned word
that holds the read's first byte, and 0 beyond the end of that word (R9). -/
def State.hostRead (s : State) (a n : Nat) : List Nat :=
  (List.range n).map (fun j => if a % 4 + j < 4 then s.barWord a / 256 ^ (a % 4 + j) % 256 else 0)

end Sys2Proof.Machine
end

