-- ==== Sys2Proof/Machine/Eun.lean ====
section
/-! DEFINITION. The Eunov ring: links, wrapping, frames, enumeration, the shared tick, delivery with retry and duplicates,
authentication, remote register access and sheet hand-over (R508 to R532). -/

namespace Sys2Proof

open Machine

/-! ### Frames -/

/-- The eight header bytes of a frame (Table 18-1). -/
def RingFrame.header (f : RingFrame) : List Nat :=
  leBytes 8 (f.ft % 256 + bit f.bcast * 2 ^ 8 + bit f.auth * 2 ^ 9 + bit f.wrap * 2 ^ 10 + f.dst % 1024 * 2 ^ 16 +
    f.src % 1024 * 2 ^ 32 + f.seq % 256 * 2 ^ 48 + f.payload.length % 256 * 2 ^ 56)

/-- The bytes of a frame between K27.7 and K29.7: header, payload and CRC (R513). -/
def RingFrame.bytes (f : RingFrame) : List Nat :=
  let b := f.header ++ (f.payload.map (leBytes 4)).flatten
  b ++ leBytes 4 (crc32 b)

/-- Payload words before AUTHCTR. -/
def RingFrame.plain (f : RingFrame) : Nat :=
  if f.ft = 2 then 2 + bits (nth f.payload 0 0) 11 8 else 2

/-- The payload has the length that the frame type gives (Table 18-2, R513). -/
def RingFrame.lenOk (f : RingFrame) : Bool :=
  let n := f.payload.length
  match f.ft with
  | 1 => n == 1
  | 2 => n == f.plain + (if f.auth then 9 else 0)
  | 3 => n == 1
  | 4 => n == 2 + (if f.auth then 9 else 0)
  | 5 => n == 2
  | 6 => n == 1
  | 7 => n == 3
  | 8 => n == 3
  | _ => false

/-- The tag of an AUTH frame: HMAC-SHA-256 over the header with WRAP 0, the payload words before AUTHCTR and AUTHCTR (R528).
[PRESUMED, log entry 10] -/
def RingFrame.tag (f : RingFrame) (key : List Nat) : List Nat :=
  let t := Config.hmac256 key ({ f with wrap := false }.header ++ ((f.payload.take (f.plain + 1)).map (leBytes 4)).flatten)
  (List.range 8).map (fun i => leAt t (4 * i) 4)

/-- A frame made AUTH: AUTHCTR and the tag appended (R528). -/
def RingFrame.sign (f : RingFrame) (key : List Nat) (ctr : Nat) : RingFrame :=
  let g := { f with auth := true, payload := f.payload ++ [ctr % 2 ^ 32] ++ List.replicate 8 0 }
  { g with payload := f.payload ++ [ctr % 2 ^ 32] ++ g.tag key }

end Sys2Proof

namespace Sys2Proof.Machine

/-! ### State access -/

/-- The state with the ring replaced. -/
def State.setRing (s : State) (r : Ring) : State := { s with ring := r }

/-- Port p: 0 A, 1 B. -/
def State.port (s : State) (p : Nat) : RingPort := nth s.ring.ports p ⟨false, false, none, 0, 0⟩

/-- The state with port p replaced. -/
def State.setPort (s : State) (p : Nat) (x : RingPort) : State := s.setRing { s.ring with ports := s.ring.ports.set p x }

/-- Port p is up. -/
def State.portUp (s : State) (p : Nat) : Bool := s.fbit F.EUN_P_STAT_UP p

/-- EUN_STAT fields of port p. -/
def linkFld (p : Nat) : FldDesc := if p = 0 then F.EUN_STAT_LINKA else F.EUN_STAT_LINKB

/-- EUN_STAT.WRAPA or WRAPB. -/
def wrapFld (p : Nat) : FldDesc := if p = 0 then F.EUN_STAT_WRAPA else F.EUN_STAT_WRAPB

/-- The node is the tick root (R516). -/
def State.isRoot (s : State) : Bool := s.fbit F.EUN_CFG_ROOT

/-- The node has a valid address: the root's is 0 (R516, R518). -/
def State.addrValid (s : State) : Bool := s.isRoot || s.fbit F.EUN_STAT_ADDRV

/-- Own address. -/
def State.ownAddr (s : State) : Nat := if s.isRoot then 0 else s.fget F.EUN_STAT_ADDR

/-- A ring event: flag 920 and vector 20 (Table 18-6). -/
def State.ringEvent (s : State) : State := (s.setFlag 920).raise 20

/-! ### Sending on the ports -/

/-- A frame sent out of a port that is up (R513). -/
def State.portSend (s : State) (p : Nat) (f : RingFrame) : State := if s.portUp p then s.emit (.ring p f.bytes) else s

/-- A frame on its way in the primary direction: out of port B, or out of port A with WRAP set while the node wraps at B
(R510, R511). -/
def State.primarySend (s : State) (f : RingFrame) : State :=
  if s.fbit F.EUN_STAT_WRAPB then s.portSend 0 { f with wrap := true } else s.portSend 1 f

/-- A frame that arrived on port p and is forwarded (R511). -/
def State.forward (s : State) (p : Nat) (f : RingFrame) : State :=
  if p = 0 then s.primarySend f
  else if s.fbit F.EUN_STAT_WRAPA then s.primarySend { f with wrap := true }
  else s.portSend 0 f

/-- A frame received on port p is handled as an arrival: on port A, or on port B while the node wraps at A (R511). -/
def State.arrives (s : State) (p : Nat) : Bool := p = 0 || s.fbit F.EUN_STAT_WRAPA

/-- The frame is discarded and counted in CRCERR of its port (R513). -/
def State.crcErr (s : State) (p : Nat) : State := s.finc F.EUN_P_CNT_CRCERR 1 p

/-! ### Links (R509, R512, R514) -/

/-- PORT_TRAINED: n consecutive valid IDLE sets; from 128 on the port is trained and the LINK exchange starts (R508, R509, R514). -/
def execPortTrained (p n : Nat) (inv : Bool) (s : State) : Host.Outcome State Fault Refusal :=
  .next (
    if 2 ≤ p || n < 128 || (s.port p).trained || s.bivouac then s
    else (s.fset F.EUN_P_STAT_INV (bit inv) p).setPort p { s.port p with trained := true, due := true, req := none })

/-- A port comes up with its first delay measurement (R509). -/
def State.portRise (s : State) (p : Nat) : State :=
  if s.portUp p then s
  else (((s.fset F.EUN_P_STAT_UP 1 p).fset (linkFld p) 1).setPort p { s.port p with upTick := s.elapsed }).ringEvent

/-- A port goes down: no longer trained, counted and recorded, and the node wraps there (R509, R511, R512, Table 22-6).
[DEDUCED, log entry 107] -/
def State.portFall (s : State) (p : Nat) : State :=
  let s := s.setPort p { s.port p with trained := false, due := false, req := none }
  if s.portUp p then
    let s := (((s.fset F.EUN_P_STAT_UP 0 p).fset (linkFld p) 0).finc F.EUN_P_CNT_DOWN 1 p).fset (wrapFld p) 1
    (s.ringEvent.recRule 509).absorb F.SYS_ABS1_RINGBRK
  else s

/-- The link is lost: 16 code violations within 1 µs, or 1 µs without comma alignment or without received characters. Times are in
tick-PLL cycles, 400 of them 1 µs (R509). -/
def linkLost (viol : List Nat) (align chars : Nat) : Bool :=
  (List.range viol.length).any (fun i => i + 15 < viol.length && nth viol (i + 15) 0 ≤ nth viol i 0 + 400) || 400 ≤ align || 400 ≤ chars

/-- PORT_DOWN: the code violations at the times of `viol` are counted, and the port goes down where the link is lost (R509). -/
def execPortDown (p : Nat) (viol : List Nat) (align chars : Nat) (s : State) : Host.Outcome State Fault Refusal :=
  .next (
    if 2 ≤ p then s
    else
      let s := s.finc F.EUN_P_STAT_CODEERR viol.length p
      if linkLost viol align chars then s.portFall p else s)

/-- Port p unwraps: it has been up for 5,000 ticks at a tick that is a multiple of 1,024 (R512). -/
def State.unwrapDue (s : State) (p : Nat) : Bool :=
  s.fbit (wrapFld p) && s.portUp p && (s.port p).upTick + 5000 ≤ s.elapsed && s.tick % 1024 == 0

/-- The node unwraps where it is due, at phase 15 (R512). -/
def State.ringUnwrap (s : State) : State :=
  (List.range 2).foldl (fun s p => if s.unwrapDue p then (s.fset (wrapFld p) 0).ringEvent else s) s

/-- RING_UNWRAP (R512). -/
def execRingUnwrap (s : State) : Host.Outcome State Fault Refusal := .next (if s.phase = 15 then s.ringUnwrap else s)

/-- LINK_REQUEST at time t: once trained, and every 1,024 ticks while up (R514). -/
def execLinkRequest (p t : Nat) (s : State) : Host.Outcome State Fault Refusal :=
  .next (
    let x := s.port p
    if 2 ≤ p || !x.trained || !(x.due || (s.portUp p && x.reqTick + 1024 ≤ s.elapsed)) then s
    else (s.setPort p { x with due := false, req := some t, reqTick := s.elapsed }).emit (.link p false t 0))

/-- LINK_FRAME: a request is answered with the turnaround time; a reply that arrives at time t sets DLY and brings a trained
port up; ok false is a bad CRC, a code violation or a wrong length (R513, R514). -/
def execLinkFrame (p : Nat) (reply : Bool) (t turn : Nat) (ok : Bool) (s : State) : Host.Outcome State Fault Refusal :=
  .next (
    let x := s.port p
    if 2 ≤ p || !x.trained then s
    else if !ok then s.crcErr p
    else if !reply then s.emit (.link p true t turn)
    else match x.req with
      | none => s
      | some r => ((s.fset F.EUN_P_DLY_DLY (min ((t - r - turn) / 2) (2 ^ 24 - 1)) p).setPort p { x with req := none }).portRise p)

/-- LINK_TIMEOUT at time t: a request without a reply for 10 µs is sent again (R514). -/
def execLinkTimeout (p t : Nat) (s : State) : Host.Outcome State Fault Refusal :=
  .next (
    let x := s.port p
    match x.req with
    | some r => if p < 2 && x.trained && r + 64000 ≤ t then (s.setPort p { x with req := some t }).emit (.link p false t 0) else s
    | none => s)

/-! ### The shared tick (R519 to R522) -/

/-- The root's TICK sets at phase 0, on each port that is up (R519). -/
def State.tickSend (s : State) : State :=
  if s.isRoot && !s.bivouac then
    (List.range 2).foldl (fun s p => if s.portUp p then s.emit (.tickSet p s.tick 0) else s) s
  else s

/-- Another root is on the ring (R516). -/
def State.rootErr (s : State) : State := ((s.fset F.EUN_STAT_ROOTERR 1).ringEvent).recRule 516

/-- The port whose TICK sets the node follows next: the one in use, or the other after 2 ticks without a set (R520).
[DEDUCED, log entry 106] -/
def State.tickPort (s : State) (p : Nat) : Nat :=
  let q := s.fget F.EUN_STAT_TICKSRC
  match nth s.ring.lastSet q none with
  | some t => if q ≠ p && t + 2 ≤ s.elapsed then p else q
  | none => p

/-- The node acts on error e of a set whose tick has the number that root's tick has now; the set at which it switches ports re-times
nothing (R520). -/
def State.tickFollow (s : State) (e : Int) (num : Int) (switch : Bool) : State :=
  let s := (s.rset R.EUN_TICKERR (unsign 32 e)).fset F.TCK_STAT_RINGSYNC (bit (decide (e.natAbs ≤ 64)))
  let adj : Int := if e.natAbs < 16 then 0 else if 0 < e then -1 else 1
  if switch || e.natAbs ≤ 6400 then s.setRing { s.ring with adj := adj, retime := none }
  else s.setRing { s.ring with adj := adj, retime := some (num - s.tick) }

/-- TICK_SET on port p: TICKNO and ACC, the arrival relative to the own start of that tick, the time until it is forwarded,
in 1/16 tick-PLL cycle, and whether another root sent it (R515, R516, R519, R520). -/
def execTickSet (p tickno acc : Nat) (arr : Int) (dep : Nat) (other : Bool) (s : State) : Host.Outcome State Fault Refusal :=
  .next (
    if 2 ≤ p || !s.portUp p || s.bivouac then s
    else if s.isRoot then (if other then s.rootErr else s)
    else
      let dly := s.fget F.EUN_P_DLY_DLY p
      let s := if s.portUp (1 - p) then s.emit (.tickSet (1 - p) tickno ((acc + dly + dep) % 2 ^ 32)) else s
      let q := s.tickPort p
      let r := (nth s.ring.lastSet (s.fget F.EUN_STAT_TICKSRC) none).isSome
      let s := s.setRing { s.ring with lastSet := s.ring.lastSet.set p (some s.elapsed), noTick := 0 }
      if q ≠ p then s
      else
        let switch := r && s.fget F.EUN_STAT_TICKSRC ≠ p
        let s := (s.fset F.EUN_STAT_TICKSRC p).fset F.EUN_STAT_NOTICK 0
        s.tickFollow ((acc : Int) + dly - arr) ((tickno : Int) + ((acc + dly) / 128000 : Nat)) switch)

/-- 64 ticks have passed without a TICK set on either port (R521). -/
def State.noTickDue (s : State) : Bool := !s.isRoot && s.ring.noTick == 64

/-- The node runs on its own reference (R521). -/
def State.noTickEvent (s : State) : State :=
  let s := (s.fset F.TCK_STAT_RINGSYNC 0).fset F.EUN_STAT_NOTICK 1
  (s.setRing { s.ring with noTick := 65, adj := 0 }).ringEvent.recRule 521

/-- Ticks without a TICK set at phase 0 (R521). -/
def State.noTickPhase0 (s : State) : State :=
  let s := if s.isRoot || 64 ≤ s.ring.noTick then s else s.setRing { s.ring with noTick := s.ring.noTick + 1 }
  if s.noTickDue then s.noTickEvent else s

/-- The adjustment of the tick that ends, and the re-timing due while no page is ADMITTED or IMAGING: what the tick number
grows by beside 1 (R33, R520). -/
def State.tickAdjust (s : State) : State × Int :=
  if s.isRoot then (s.rset R.TCK_ADJ 0, 0)
  else match s.ring.retime with
    | some d =>
      if s.pageBusy then ((s.rset R.TCK_ADJ (unsign 2 s.ring.adj)), 0)
      else (((s.rset R.TCK_ADJ 0).fset F.TCK_STAT_SLIP 1).setRing { s.ring with adj := 0, retime := none }, d)
    | none => ((s.rset R.TCK_ADJ (unsign 2 s.ring.adj)).setRing { s.ring with adj := 0 }, 0)

/-! ### Enumeration (R516 to R518) -/

/-- ENUM: EUN_CTRL.ENUM takes effect at the next phase 0; a non-root node ignores it (R517). [DEDUCED, log entry 105] -/
def State.enumWrite (s : State) : State := if s.isRoot then s.setRing { s.ring with enumPend := true } else s

/-- ENUM (R517). -/
def execEnumW (s : State) : Host.Outcome State Fault Refusal := .next s.enumWrite

/-- An ENUM waiting for phase 0 goes out, or is ignored while a page is ADMITTED or IMAGING (R517). -/
def State.enumPhase0 (s : State) : State :=
  if !s.ring.enumPend then s
  else
    let s := s.setRing { s.ring with enumPend := false }
    if !s.isRoot then s
    else if s.pageBusy then s.recRule 517
    else
      let eid := match s.ring.eid with | some e => (e + 1) % 256 | none => 1
      let s := (s.fset F.EUN_STAT_ENUMDONE 0).fset F.EUN_STAT_ENUMFAIL 0
      (s.setRing { s.ring with eid := some eid, enumAt := some s.elapsed }).primarySend
        { ft := 1, dst := 0, src := 0, payload := [1 + eid * 2 ^ 16] }

/-- The ENUM comes back to the root (R518). -/
def State.enumReturn (s : State) (f : RingFrame) : State :=
  let w := nth f.payload 0 0
  let s := (s.fset F.EUN_STAT_NODES (bits w 10 0)).fset F.EUN_STAT_CLOSED (bit (!f.wrap))
  let s := (s.fset F.EUN_STAT_ENUMDONE 1).fset F.EUN_STAT_ENUMFAIL (bits w 11 11)
  (s.setRing { s.ring with enumAt := none }).ringEvent

/-- ENUM_FRAME on port p; ok false is a bad CRC, a code violation or a wrong length (R513, R516, R518). -/
def execEnumFrame (p : Nat) (f : RingFrame) (ok : Bool) (s : State) : Host.Outcome State Fault Refusal :=
  .next (
    if 2 ≤ p || !s.portUp p || f.ft ≠ 1 || s.bivouac then s
    else if !ok || !f.lenOk then s.crcErr p
    else
      let w := nth f.payload 0 0
      let eid := bits w 23 16
      let count := bits w 10 0
      if !s.arrives p then s.forward p f
      else if s.isRoot then
        (if s.ring.eid ≠ some eid then s.rootErr else if s.ring.enumAt.isSome then s.enumReturn f else s)
      else if s.ring.eid = some eid then s.forward p f
      else if 1024 ≤ count then
        (s.fset F.EUN_STAT_ADDRV 0).forward p { f with payload := [putBits w 11 11 1] }
      else
        let s := (s.fset F.EUN_STAT_ADDR count).fset F.EUN_STAT_ADDRV 1
        (s.setRing { s.ring with eid := some eid }).forward p { f with payload := [putBits w 10 0 (count + 1)] })

/-- The ENUM sent has not returned within 1,000 ticks (R518). -/
def State.enumLate (s : State) : State :=
  match s.ring.enumAt with
  | some t => if t + 1000 ≤ s.elapsed then ((s.fset F.EUN_STAT_ENUMFAIL 1).setRing { s.ring with enumAt := none }).ringEvent else s
  | none => s

/-! ### Answers and results (R523 to R527, R530) -/

/-- A result enters the ACK FIFO, or is dropped and counted when it is full (R527). -/
def State.ackResult (s : State) (ctx seq res : Nat) : State :=
  if 32 ≤ s.ring.acks.length then s.finc F.EUN_TXCNT_ACKLOST 1
  else (s.setRing { s.ring with acks := s.ring.acks ++ [(ctx, seq, res)] }).setFlag 915

/-- The remote access ends (R530). -/
def State.accessDone (s : State) (status : Nat) (val : Option Nat) : State :=
  let s := match val with | some v => s.rset R.EUN_RA_DATA v | none => s
  (s.fset F.EUN_RA_STAT_BUSY 0).fset F.EUN_RA_STAT_RESULT status

/-- A SHEET was not acknowledged (R531). -/
def State.sheetFail (s : State) (k : Nat) : State := (s.fset F.EUN_SH_CFG_TXFAIL 1 k).ringEvent

/-- A frame ends without an answer: NONODE (3) or TIMEOUT (5) (R523, R524, R531, Table 18-4). -/
def State.txFail (s : State) (x : RingTx) (res : Nat) : State :=
  match x.kind with
  | .msg c => s.ackResult c x.frame.seq res
  | .access => s.accessDone 5 none
  | .sheet k => s.sheetFail k

/-- Removes the frame of a SEQ that awaits an answer from a node. -/
def State.takePend (s : State) (seq : Nat) : Option (RingTx × State) :=
  match s.ring.pend.find? (fun x => x.frame.seq == seq) with
  | some x => some (x, s.setRing { s.ring with pend := s.ring.pend.filter (fun y => y.frame.seq != seq) })
  | none => none

/-- An ACK (type 6) or RSP (type 5) for an own frame (R527, R530). -/
def State.answered (s : State) (ft : Nat) (payload : List Nat) : State :=
  let w := nth payload 0 0
  match s.takePend (bits w 15 8) with
  | none => s
  | some (x, t) =>
    match x.kind, ft with
    | .msg c, 6 => t.ackResult c x.frame.seq (bits w 2 0)
    | .access, 5 =>
      t.accessDone (bits w 2 0) (if x.frame.ft = 3 && bits w 7 0 = 1 then some (nth payload 1 0) else none)
    | .sheet _, 6 => t
    | _, _ => s

/-- An answer sent to a node, or taken at once when it is the own one (R523). -/
def State.reply (s : State) (dst ft : Nat) (payload : List Nat) : State :=
  if dst = s.ownAddr then s.answered ft payload
  else s.primarySend { ft := ft, dst := dst, src := s.ownAddr, payload := payload }

/-- A message is delivered: into the FIFO with flag 914 and, on entry into an empty one, vector 21; TYPE 0xF1 goes to the
security functions. The answer is DELIVERED or FULL (R526, R561). -/
def State.deliver (s : State) (src : Nat) (bcast auth : Bool) (type : Nat) (body : List Nat) : State × Nat :=
  if type = 0xF1 then
    (if auth then { s with sec := { s.sec with ringPend := some (nth body 0 0) } } else s.recRule 561, 1)
  else if 32 ≤ s.ring.fifo.length then (s, 2)
  else
    let t := s.setRing { s.ring with fifo := s.ring.fifo ++ [⟨src, bcast, auth, type, body⟩] }
    let t := if s.ring.fifo.isEmpty then t.raise 21 else t
    ((t.wakeBy 5).setFlag 914, 1)

/-- What is kept of a source. -/
def State.ringSrc (s : State) (src : Nat) : Option RingSrc := s.ring.srcs.find? (fun x => x.src == src)

/-- The state with what is kept of a source replaced. -/
def State.putSrc (s : State) (x : RingSrc) : State :=
  s.setRing { s.ring with srcs := x :: s.ring.srcs.filter (fun y => y.src != x.src) }

/-- How far a SEQ lies above the highest accepted, modulo 256 (R525). -/
def seqAhead (seq hi : Nat) : Int := signed 8 (seq + 256 - hi % 256)

/-- A SEQ is recorded for a source, with the answer given (R525). -/
def State.seqAccept (s : State) (src seq : Nat) (ans : Option (Nat × List Nat)) : State :=
  match s.ringSrc src with
  | none => s.putSrc { src := src, hi := seq, seen := [(seq, ans)], ctr := none }
  | some x =>
    let hi := if 0 < seqAhead seq x.hi then seq else x.hi
    s.putSrc { x with hi := hi, seen := ((seq, ans) :: x.seen.filter (fun k => k.1 != seq)).filter (fun (k : Nat × Option (Nat × List Nat)) =>
      decide (-64 ≤ seqAhead k.1 hi)) }

/-- The counter of an accepted AUTH frame of a source is kept. -/
def State.ctrAccept (s : State) (src ctr : Nat) : State :=
  match s.ringSrc src with
  | some x => s.putSrc { x with ctr := some ctr }
  | none => s.putSrc { src := src, hi := 0, seen := [], ctr := some ctr }

/-- The AUTH frame is accepted: the tag matches and AUTHCTR exceeds the last accepted from the source (R528). -/
def State.authOk (s : State) (f : RingFrame) : Bool :=
  let ctr := nth f.payload f.plain 0
  match s.nvm.ringKey with
  | none => false
  | some key =>
    decide (f.payload.drop (f.plain + 1) = f.tag key) &&
      (match s.ringSrc f.src with | some x => (match x.ctr with | some c => decide (c < ctr) | none => true) | none => true)

/-- A rejected AUTH frame is counted and recorded (R528). -/
def State.authReject (s : State) : State := (s.finc F.EUN_TXCNT_AUTHREJ 1).recRule 528

/-- The address of a remote access is served: a multiple of 4 below 0x0018_0000 (Table 18-4). -/
def raOk (off : Nat) : Bool := off % 4 == 0 && off < 0x180000

/-- A remote write is queued for phase 0 (R530). -/
def State.queueWrite (s : State) (f : RingFrame) : State :=
  s.setRing { s.ring with writes := s.ring.writes ++ [⟨f.src, f.seq, nth f.payload 0 0, nth f.payload 1 0, f.auth⟩] }

/-- A new unicast or broadcast frame is served; the answer that its SEQ is recorded with (R523, R526, R528, R530, R532). -/
def State.serve (s : State) (f : RingFrame) : State × Option (Nat × List Nat) :=
  let w := nth f.payload 0 0
  match f.ft with
  | 2 =>
    let (s, r) := s.deliver f.src f.bcast f.auth (bits w 7 0) ((f.payload.drop 1).take (bits w 11 8 + 1))
    (s, some (6, [r + f.seq % 256 * 2 ^ 8]))
  | 3 =>
    if raOk w then (s, some (5, [1 + f.seq % 256 * 2 ^ 8, s.readReg w]))
    else (s.recRule 530 [2], some (5, [4 + f.seq % 256 * 2 ^ 8, 0]))
  | 4 => (s.queueWrite f, none)
  | 7 =>
    (s.setRing { s.ring with sheets := s.ring.sheets ++ [⟨bits w 1 0, bits w 31 16, nth f.payload 1 0, nth f.payload 2 0, f.src⟩] },
     some (6, [1 + f.seq % 256 * 2 ^ 8]))
  | _ => (s, none)

/-- A frame addressed to this node, or a broadcast: duplicates are answered again or ignored, AUTH is checked, and a new
frame is served and answered (R523, R525, R528). -/
def State.handle (s : State) (f : RingFrame) : State :=
  let old := match s.ringSrc f.src with
    | some x => x.seen.find? (fun (k : Nat × Option (Nat × List Nat)) => k.1 == f.seq)
    | none => none
  let stale := match s.ringSrc f.src with
    | some x => !x.seen.isEmpty && decide (seqAhead f.seq x.hi < -64)
    | none => false
  match old with
  | some (_, ans) =>
    if f.bcast then s
    else (match ans with | some (ft, p) => s.reply f.src ft p | none => s)
  | none =>
    if stale then s
    else if f.auth && !s.authOk f then
      let s := s.authReject
      if f.bcast then s
      else if f.ft = 4 then s.reply f.src 5 [3 + f.seq % 256 * 2 ^ 8, 0]
      else s.reply f.src 6 [4 + f.seq % 256 * 2 ^ 8]
    else
      let (t, ans) := s.serve f
      let t := t.seqAccept f.src f.seq ans
      let t := if f.auth then t.ctrAccept f.src (nth f.payload f.plain 0) else t
      if f.bcast then t else (match ans with | some (ft, p) => t.reply f.src ft p | none => t)

/-- A data frame arrives on port p (R511, R513, R518, R523). [DEDUCED, log entry 108] -/
def State.frameIn (s : State) (p : Nat) (f : RingFrame) (ok : Bool) : State :=
  if 2 ≤ p || !s.portUp p || s.bivouac then s
  else if !ok || !f.lenOk then s.crcErr p
  else if !s.arrives p || !s.addrValid then s.forward p f
  else if f.src = s.ownAddr then
    (if f.bcast || f.ft = 5 || f.ft = 6 then s
     else match s.takePend f.seq with
      | some (x, t) => t.txFail x 3
      | none => s)
  else if f.bcast then (s.handle f).forward p f
  else if f.dst ≠ s.ownAddr then s.forward p f
  else if f.ft = 5 || f.ft = 6 then s.answered f.ft f.payload
  else s.handle f

/-- A frame row stands for frames of its own type, and for those of no type, which are discarded as a CRC error (R513). -/
def State.frameRow (s : State) (ft p : Nat) (f : RingFrame) (ok : Bool) : State :=
  if f.ft = ft || f.ft = 0 || 8 < f.ft then s.frameIn p f ok else s

/-- MSG_FRAME (R523). -/
def execMsgFrame (p : Nat) (f : RingFrame) (ok : Bool) (s : State) : Host.Outcome State Fault Refusal := .next (s.frameRow 2 p f ok)

/-- RRD_FRAME (R530). -/
def execRrdFrame (p : Nat) (f : RingFrame) (ok : Bool) (s : State) : Host.Outcome State Fault Refusal := .next (s.frameRow 3 p f ok)

/-- RWR_FRAME (R530). -/
def execRwrFrame (p : Nat) (f : RingFrame) (ok : Bool) (s : State) : Host.Outcome State Fault Refusal := .next (s.frameRow 4 p f ok)

/-- RSP_FRAME (R530). -/
def execRspFrame (p : Nat) (f : RingFrame) (ok : Bool) (s : State) : Host.Outcome State Fault Refusal := .next (s.frameRow 5 p f ok)

/-- ACK_FRAME (R527). -/
def execAckFrame (p : Nat) (f : RingFrame) (ok : Bool) (s : State) : Host.Outcome State Fault Refusal := .next (s.frameRow 6 p f ok)

/-- SHEET_FRAME (R532). -/
def execSheetFrame (p : Nat) (f : RingFrame) (ok : Bool) (s : State) : Host.Outcome State Fault Refusal := .next (s.frameRow 7 p f ok)

/-! ### Sending -/

/-- The next SEQ of the node (Table 18-1). [DEDUCED, log entry 104] -/
def State.nextSeq (s : State) : Nat × State := ((s.ring.seq + 1) % 256, s.setRing { s.ring with seq := (s.ring.seq + 1) % 256 })

/-- A frame signed with the ring key and the next AUTHCTR (R528). -/
def State.signFrame (s : State) (f : RingFrame) : RingFrame × State :=
  match s.nvm.ringKey with
  | some key => (f.sign key (s.ring.ctr + 1), s.setRing { s.ring with ctr := s.ring.ctr + 1 })
  | none => (f, s)

/-- A unicast frame goes out and awaits its answer; to the own address it is served without the ring (R523, R524). -/
def State.unicast (s : State) (f : RingFrame) (kind : RingKind) : State :=
  let s := s.setRing { s.ring with pend := s.ring.pend ++ [⟨f, kind, 0, s.elapsed⟩] }
  if f.dst = s.ownAddr then
    let (t, ans) := s.serve f
    match ans with | some (ft, p) => t.answered ft p | none => t
  else s.primarySend f

/-- A MSG of the module or of a context goes out: the first word, the body and, if asked, AUTH (R138, R523, R528). -/
def State.sendMsg (s : State) (ctx : Option Nat) (node : Nat) (bcast : Bool) (type : Nat) (auth : Bool) (body : List Nat) : State :=
  let lost (s : State) (res : Nat) : State :=
    match ctx with
    | some c => if bcast then s else let (q, s) := s.nextSeq
      s.ackResult c q res
    | none => s
  if !s.addrValid then lost s 3
  else if auth && s.nvm.ringKey.isNone then lost s 6
  else
    let (q, s) := s.nextSeq
    let f : RingFrame := { ft := 2, bcast := bcast, dst := node, src := s.ownAddr, seq := q,
                           payload := (type + (body.length - 1) * 2 ^ 8) :: body }
    let (f, s) := if auth then s.signFrame f else (f, s)
    if bcast then s.primarySend f
    else match ctx with
      | some c => s.unicast f (.msg c)
      | none => s.primarySend f

/-- Ticks until a unicast frame is sent again: ACKTMO, 0 counting as 1 (R524). -/
def State.ackTmo (s : State) : Nat := max (s.fget F.EUN_CFG_ACKTMO) 1

/-- A frame whose answer is overdue is sent again, or ends in TIMEOUT (R524). [DEDUCED, log entry 174] -/
def State.ackLate (s : State) (x : RingTx) : State :=
  if x.tries < s.fget F.EUN_CFG_RETRY then
    let s := s.setRing { s.ring with pend := s.ring.pend.map (fun y =>
      if y.frame.seq = x.frame.seq then { y with tries := y.tries + 1, sent := s.elapsed } else y) }
    (s.finc F.EUN_TXCNT_RESENT 1).primarySend x.frame
  else
    (s.setRing { s.ring with pend := s.ring.pend.filter (fun y => y.frame.seq != x.frame.seq) }).txFail x 5

/-- Every frame whose answer is overdue (R524); a remote write of this node to itself waits for its phase 0 and is never
overdue. -/
def State.ackTimeouts (s : State) : State :=
  (s.ring.pend.filter (fun x => x.sent + s.ackTmo ≤ s.elapsed && x.frame.dst != s.ownAddr)).foldl State.ackLate s

/-- GAPREQ: a change of FMT_GAPREQ.REQ is broadcast as TYPE 0xF0 (R529). -/
def State.gapBroadcast (s : State) : State :=
  let req := s.fget F.FMT_GAPREQ_REQ
  if req = s.ring.gapSent then s
  else (s.setRing { s.ring with gapSent := req }).sendMsg none 0 true 0xF0 false [req]

/-! ### FIFOs (R526, R527) -/

/-- EUN_RXPOP removes the oldest message. -/
def State.rxPop (s : State) : State := s.setRing { s.ring with fifo := s.ring.fifo.drop 1 }

/-- RXPOP (R526). -/
def execRxpop (s : State) : Host.Outcome State Fault Refusal := .next s.rxPop

/-- EUN_ACKPOP removes the oldest entry. -/
def State.ackPop (s : State) : State := s.setRing { s.ring with acks := s.ring.acks.drop 1 }

/-- ACKPOP (R527). -/
def execAckpop (s : State) : Host.Outcome State Fault Refusal := .next s.ackPop

/-! ### Remote access of the host (R530) -/

/-- A write of EUN_RA_CMD with GO: the access of EUN_RA_OFF goes out, unless one is outstanding (R530). -/
def State.raGo (s : State) (wr auth : Bool) (dst : Nat) : State :=
  if s.fbit F.EUN_RA_STAT_BUSY then s.recRule 530 [1]
  else if !s.addrValid then s.accessDone 5 none
  else if wr && auth && s.nvm.ringKey.isNone then s.accessDone 3 none
  else
    let (q, s) := s.nextSeq
    let off := s.rget R.EUN_RA_OFF
    let f : RingFrame := { ft := if wr then 4 else 3, dst := dst, src := s.ownAddr, seq := q,
                           payload := if wr then [off, s.rget R.EUN_RA_DATA] else [off] }
    let (f, s) := if wr && auth then s.signFrame f else (f, s)
    (s.fset F.EUN_RA_STAT_BUSY 1).unicast f .access

/-- A write of EUN_RA_CMD: its RW fields, and GO (R11, R530). -/
def State.raCmdWrite (s : State) (v : Nat) : State :=
  let s := s.rset R.EUN_RA_CMD (bits v 30 29 * 2 ^ 29 + bits v 9 0)
  if v.testBit 31 then s.raGo (v.testBit 30) (v.testBit 29) (bits v 9 0) else s

/-- REMOTE_READ: EUN_RA_CMD.GO with WR 0 (R530). -/
def execRemoteRead (dst : Nat) (s : State) : Host.Outcome State Fault Refusal := .next (s.raCmdWrite (2 ^ 31 + dst % 1024))

/-- REMOTE_WRITE: EUN_RA_CMD.GO with WR 1 (R530). -/
def execRemoteWrite (dst : Nat) (auth : Bool) (s : State) : Host.Outcome State Fault Refusal :=
  .next (s.raCmdWrite (2 ^ 31 + 2 ^ 30 + bit auth * 2 ^ 29 + dst % 1024))

/-! ### Sheet hand-over (R531, R532) -/

/-- SHEET_EDGE: an edge of the selected polarity on the GPIO of channel k at a cycle of the phase captures the time and the raw position
of the axis at the edge (R436, R531). -/
def execSheetEdge (k sub : Nat) (fall : Bool) (s : State) : Host.Outcome State Fault Refusal :=
  .next (
    if 4 ≤ k || !s.fbit F.EUN_SH_CFG_EN k || s.fbit F.EUN_SH_CFG_FALL k ≠ fall || s.bivouac then s
    else
      let no := nth s.ring.sheetNo k 0 % 65535 + 1
      let s := s.setRing { s.ring with sheetNo := s.ring.sheetNo.set k no }
      if !s.addrValid then s.sheetFail k
      else
        let (q, s) := s.nextSeq
        s.unicast { ft := 7, dst := s.fget F.EUN_SH_CFG_DST k, src := s.ownAddr, seq := q,
                    payload := [k + no * 2 ^ 16, (s.tick * 8000 + s.phase * 500 + sub) % 2 ^ 32,
                      unsign 32 (s.axRaw (s.fget F.EUN_SH_CFG_AXIS k))] } (.sheet k))

/-- A write of EUN_SH_CFG: sheet numbers count from 1 after EN is set (R531). -/
def State.shCfgWrite (s : State) (k v : Nat) : State :=
  let on := v.testBit 31 && !s.fbit F.EUN_SH_CFG_EN k
  let tx := if v.testBit 16 then 0 else s.fget F.EUN_SH_CFG_TXFAIL k
  let s := s.rset R.EUN_SH_CFG (bits v 31 17 * 2 ^ 17 + tx * 2 ^ 16 + bits v 9 0) k
  if on then s.setRing { s.ring with sheetNo := s.ring.sheetNo.set k 0 } else s

/-- The SHEETs received are latched at phase 0 in order of arrival (R532). -/
def State.sheetPhase0 (s : State) : State :=
  s.ring.sheets.foldl (fun s (x : RingSheet) =>
    let s := (s.rset R.EUN_SH_RXT x.t x.ch).rset R.EUN_SH_RXPOS x.raw x.ch
    (s.rset R.EUN_SH_RXINFO (2 ^ 31 + x.src * 2 ^ 16 + x.no) x.ch).setFlag (916 + x.ch)) (s.setRing { s.ring with sheets := [] })

/-- A port that is down is wrapped, with the ring event of a wrap (R511, Table 18-6). -/
def State.wrapPhase0 (s : State) : State :=
  (List.range 2).foldl (fun s p => if s.portUp p || s.fbit (wrapFld p) then s else (s.fset (wrapFld p) 1).ringEvent) s

/-- The ring's own work at phase 0, but for remote writes and messages of contexts (R511, R517 to R521, R524, R532). -/
def State.ringPhase0 (s : State) : State :=
  if s.bivouac then s else s.wrapPhase0.noTickPhase0.ackTimeouts.enumLate.enumPhase0.sheetPhase0.tickSend

end Sys2Proof.Machine
end

