-- ==== Sys2Proof/Machine/Sec.lean ====
section
/-! DEFINITION. Security functions: presence windows, the seal loop, security version, keys, franking counters and debug
unlock (R556 to R577). -/

namespace Sys2Proof.Machine

/-- The state with the security functions' data replaced. -/
def State.setSec (s : State) (x : Sec) : State := { s with sec := x }

/-- The state with the NVM die replaced. -/
def State.setNvm (s : State) (x : Nvm) : State := { s with nvm := x }

/-- n random bytes from the on-die source. -/
def State.randomBytes (s : State) (n : Nat) : List Nat × State :=
  ((List.range n).map (fun i => Config.randomByte (s.free + i) % 256), { s with free := s.free + n })

/-! ### Presence (R558 to R562) -/

/-- A security event that no rule but R557 says is recorded: the position of its kind in R557 (R557, R580, R644).
[DEDUCED, log entry 118] -/
def State.recEvt (s : State) (kind : Nat) : State := s.recSec 557 [kind]

/-- The presence window opened or closed since it was `was`: flag 925, vector 23 and a record (R557, R558). -/
def State.presNote (s : State) (was : Bool) : State :=
  if s.presence == was then s else ((s.setFlag 925).raise 23).recEvt (if was then 2 else 1)

/-- The 100,000th low sample of PRES_BTN_N in a row, after a high one, opens BTN for rem ticks (R558, R559). -/
def State.btnOpen (s : State) (rem : Nat) : State :=
  s.setSec { s.sec with remBtn := rem, btnHigh := false }

/-- BTN or RING with one tick left reaches its end (R558). -/
def State.presExpire (s : State) : State :=
  s.setSec { s.sec with remBtn := if s.sec.remBtn = 1 then 0 else s.sec.remBtn,
                        remRing := if s.sec.remRing = 1 then 0 else s.sec.remRing }

/-- PRESFWD: SEC_CTRL.PRESFWD waits for phase 0 (R560). -/
def execPresfwd (s : State) : Host.Outcome State Fault Refusal := .next (if s.bivouac then s else s.setSec { s.sec with fwdPend := true })

/-- PRESCLR: SEC_CTRL.PRESCLR waits for phase 0 (R562). -/
def execPresclr (s : State) : Host.Outcome State Fault Refusal := .next (if s.bivouac then s else s.setSec { s.sec with clrPend := true })

/-- A sample of PRES_BTN_N at phase 0 (R558, R559). -/
def State.btnSample (s : State) (low : Bool) : State :=
  if !low then s.setSec { s.sec with btnLow := 0, btnHigh := true }
  else
    let n := s.sec.btnLow + 1
    let s := s.setSec { s.sec with btnLow := n }
    if s.sec.btnHigh && 100000 ≤ n then s.btnOpen 1500000 else s

/-- A presence message accepted over the ring opens RING; with the seal loop broken or a body out of range it is discarded
and recorded (R561). -/
def State.ringOpen (s : State) : State :=
  match s.sec.ringPend with
  | none => s
  | some b =>
    let s := s.setSec { s.sec with ringPend := none }
    if s.fbit F.SEC_SEAL_BROKEN || b = 0 || 1500000 < b || s.bivouac then s.recRule 561
    else s.setSec { s.sec with remRing := max s.sec.remRing (b - 1) }

/-- PRESFWD at phase 0: the presence message goes out while BTN or STRAP is open and a ring key is provisioned (R560).
[DEDUCED, log entry 115] -/
def State.presForward (s : State) : State :=
  if !s.sec.fwdPend then s
  else
    let s := s.setSec { s.sec with fwdPend := false }
    if (s.sec.strap || 0 < s.sec.remBtn) && s.nvm.ringKey.isSome then
      s.sendMsg none 0 true 0xF1 true [if s.sec.strap then 1500000 else s.sec.remBtn]
    else s.recRule 560

/-- Presence at phase 0: one tick passes, PRESCLR acts, the button is sampled and a presence message opens RING (R558 to
R562). -/
def State.presPhase0 (s : State) (low : Bool) : State :=
  let was := s.presence
  let s := s.setSec { s.sec with remBtn := s.sec.remBtn - 1, remRing := s.sec.remRing - 1 }
  let s := if s.sec.clrPend then s.setSec { s.sec with remBtn := 0, remRing := 0, clrPend := false } else s
  ((((s.btnSample low).ringOpen).presNote was).presForward)

/-! ### Seal loop (R563) -/

/-- A break of the seal loop is reported once the logic side runs (R557, R563). -/
def State.sealReport (s : State) : State :=
  if s.sec.sealNote && s.ticking then (((s.setSec { s.sec with sealNote := false }).setFlag 926).raise 23).recSec 563 else s

/-- SEAL_PULSE: a pulse comes back or not; two failures in a row break the loop, 100 good pulses in a row mend it (R563). -/
def execSealPulse (good : Bool) (s : State) : Host.Outcome State Fault Refusal :=
  .next (
    if good then
      let n := s.sec.sealGood + 1
      if s.fbit F.SEC_SEAL_BROKEN && 100 ≤ n then
        (s.fset F.SEC_SEAL_BROKEN 0).setSec { s.sec with sealFail := 0, sealGood := 0 }
      else s.setSec { s.sec with sealFail := 0, sealGood := if s.fbit F.SEC_SEAL_BROKEN then n else 0 }
    else
      let n := min 2 (s.sec.sealFail + 1)
      let s := s.setSec { s.sec with sealFail := n, sealGood := 0 }
      if n = 2 && !s.fbit F.SEC_SEAL_BROKEN then
        let s := (s.fset F.SEC_SEAL_BROKEN 1).finc F.SEC_SEAL_COUNT 1
        (s.setSec { s.sec with sealNote := true }).sealReport
      else s)

/-! ### Security version (R565) -/

/-- MINVER is raised, at the end of an NVM hold if one is in force (R565). -/
def State.raiseMinver (s : State) (v : Nat) : State :=
  if s.nvmHold then s.setSec { s.sec with minPend := max s.sec.minPend v }
  else if s.nvm.minver < v then (s.setNvm { s.nvm with minver := v }).recEvt 6
  else s

/-- A write of SEC_MINVER (R11, R565). -/
def State.minverWrite (s : State) (v : Nat) : State :=
  if !s.presence then (if v = s.nvm.minver then s else s.recRwp (R.SEC_MINVER.addr 0 0) v)
  else if v < s.nvm.minver then s.recRule 565
  else s.raiseMinver v

/-- MINVER_WRITE (R565). -/
def execMinverWrite (v : Nat) (s : State) : Host.Outcome State Fault Refusal :=
  .next (if s.bivouac then s else s.minverWrite (v % 2 ^ 32))

/-- A write of SEC_CTRL: ROLLWIN under presence, PRESCLR and PRESFWD (R11, R565). -/
def State.secCtrlWrite (s : State) (v : Nat) : State :=
  let w := bits v 11 8
  let s := if !s.presence then (if w = s.nvm.rollwin then s else s.recRwp (R.SEC_CTRL.addr 0 0) v)
    else if s.nvmHold then s.setSec { s.sec with rollPend := some w }
    else s.setNvm { s.nvm with rollwin := w }
  s.setSec { s.sec with clrPend := s.sec.clrPend || v.testBit 1, fwdPend := s.sec.fwdPend || v.testBit 0 }

/-- MINVER and ROLLWIN that waited for the end of an NVM hold (R565). -/
def State.secAfterHold (s : State) : State :=
  let v := s.sec.minPend
  let w := s.sec.rollPend
  let s := s.setSec { s.sec with minPend := 0, rollPend := none }
  let s := match w with | some x => s.setNvm { s.nvm with rollwin := x } | none => s
  s.raiseMinver v

/-! ### Keys (R564, R567 to R569) -/

/-- Bytes of a SEC window: offset from the SEC base and length (Table 20-8). -/
def State.secWin (s : State) (off n : Nat) : List Nat := memBytes s.sec.wins off n

/-- Last key or debug error (Table 20-7). -/
def State.secErr (s : State) (code : Nat) : State := s.fset F.SEC_STAT_ERR code

/-- The key that KEYSLOT names, while it is usable (R564). -/
def State.imageKey (s : State) (slot : Nat) : Option (List Nat) :=
  if slot = 0 then (if s.vkOk then some s.nvm.vendor else none)
  else if slot ≤ 2 && (s.custSlot (slot - 1)).state == .set then some (s.custSlot (slot - 1)).key
  else none

/-- The state with customer slot i replaced. -/
def State.putSlot (s : State) (i : Nat) (k : KeySlot) : State := s.setNvm { s.nvm with cust := s.nvm.cust.set i k }

/-- A public key may be set in slot i: a point on P-384, and neither the other slot's key nor the vendor key (R567). -/
def State.keyNew (s : State) (i : Nat) (k : List Nat) : Bool :=
  Config.onCurve k && decide (k ≠ s.nvm.vendor) &&
    !((s.custSlot (1 - i)).state != .empty && decide ((s.custSlot (1 - i)).key = k))

/-- SEC_KEYCMD.SET for customer slot i (R567). -/
def State.custSet (s : State) (i : Nat) : State :=
  let k := s.secWin 0x1000 96
  let old := s.custSlot i
  if old.state == .revoked then s.secErr 2
  else if !s.keyNew i k then s.secErr 7
  else if old.state == .set && !Config.ecdsaOk old.key (Config.sha384 (i :: (k ++ s.devid))) (s.secWin 0x1060 96) then s.secErr 1
  else (s.putSlot i ⟨.set, k⟩).recEvt 7

/-- SEC_KEYCMD.SET (R567, R569). -/
def State.keySet (s : State) : State :=
  let i := s.rget R.SEC_KEYSEL
  if s.nvmHold then s.secErr 3
  else if i < 2 then s.custSet i
  else if i = 2 then (s.setNvm { s.nvm with ringKey := some (s.secWin 0x1100 32) }).recEvt 7
  else s

/-- SEC_KEYCMD.REVOKE (R568, R569). -/
def State.keyRevoke (s : State) : State :=
  let i := s.rget R.SEC_KEYSEL
  if s.nvmHold then s.secErr 3
  else if i < 2 then (s.putSlot i { s.custSlot i with state := .revoked }).recEvt 8
  else if i = 2 then (s.setNvm { s.nvm with ringKey := none }).recEvt 8
  else s

/-- A write of SEC_KEYCMD, an RWP register (R11, R567 to R569). -/
def State.keyCmdWrite (s : State) (v : Nat) : State :=
  if !s.presence then (if v % 4 = 0 then s else s.recRwp (R.SEC_KEYCMD.addr 0 0) v)
  else
    let s := if v.testBit 0 then s.keySet else s
    if v.testBit 1 then s.keyRevoke else s

/-- KEY_SET (R567). -/
def execKeySet (s : State) : Host.Outcome State Fault Refusal := .next (if s.bivouac then s else s.keyCmdWrite 1)

/-- KEY_REVOKE (R568). -/
def execKeyRevoke (s : State) : Host.Outcome State Fault Refusal := .next (if s.bivouac then s else s.keyCmdWrite 2)

/-- BAR0 offsets of the writable SEC windows: NEWKEY, AUTHSIG, RINGKEY and RESPONSE (Table 20-8). -/
def secWindow (a : Nat) : Bool :=
  (0x141000 ≤ a && a < 0x1410C0) || (0x141100 ≤ a && a < 0x141120) || (0x141340 ≤ a && a < 0x1413A0)

/-- A write of a word of a SEC window, RWP (Table 20-8). -/
def State.secWinWrite (s : State) (a v : Nat) : State :=
  let off := a - 0x140000
  if s.presence then s.setSec { s.sec with wins := memWrite s.sec.wins off 4 v }
  else if memRead s.sec.wins off 4 = v then s else s.recRwp a v

/-! ### Franking (R570 to R575) -/

/-- The state with counter k replaced. -/
def State.putFrank (s : State) (k : Nat) (x : Frank) : State := s.setNvm { s.nvm with frank := s.nvm.frank.set k x }

/-- A franking error: FRKSTAT.ERR and a record (R557, Table 20-7). -/
def State.frkErr (s : State) (code : Nat) : State := (s.fset F.SEC_FRKSTAT_ERR code).recEvt 10

/-- The first 96 bytes of a franking record (Table 20-5). -/
def State.frkBody (s : State) (k kind old new rseq : Nat) : List Nat :=
  leBytes 4 0x4B524659 ++ leBytes 2 1 ++ [k, kind] ++ leBytes 8 old ++ leBytes 8 new ++ leBytes 4 rseq ++ leBytes 4 0 ++
    s.postmarkNow ++ slice s.devid 0 48

/-- A franking record is signed and written in both copies, and the counter takes its new value (R572, R574). -/
def State.frkRecord (s : State) (k kind new : Nat) : State :=
  let x := s.frank k
  let body := s.frkBody k kind x.committed new s.nvm.frseq
  let rec' := body ++ slice (Config.ecdsaSign (s.nvm.idPub.getD []) (Config.sha384 body) s.free) 0 96
  let s := s.nextFree.putFrank k { x with committed := new, copyA := rec', copyB := rec', bad := false }
  s.setNvm { s.nvm with frseq := (s.nvm.frseq + 1) % 2 ^ 32 }

/-- FRANKING_ADD: a write of SEC_FRK_ADD waits for phase 0; 0 has no effect (R571). -/
def State.frkAdd (s : State) (k v : Nat) : State :=
  if 16 ≤ k || v % 65536 = 0 then s else s.setSec { s.sec with adds := s.sec.adds ++ [(k, v % 65536)] }

/-- FRANKING_ADD (R571). -/
def execFrankingAdd (k v : Nat) (s : State) : Host.Outcome State Fault Refusal := .next (if s.bivouac then s else s.frkAdd k v)

/-- An add at phase 0 (R571, R575, R577). [DEDUCED, log entry 116] -/
def State.frkApply (s : State) (kv : Nat × Nat) : State :=
  let x := s.frank kv.1
  if s.fbit F.SEC_STAT_FRKLOCK then s.frkErr 5
  else if x.bad then (s.fset F.SEC_FRKSTAT_ERR 9).recSec 575
  else
    let room := 2 ^ 48 - 1 - s.frankVal kv.1
    let s := s.putFrank kv.1 { x with pend := x.pend + min kv.2 room }
    if room < kv.2 then (s.fset F.SEC_FRKSTAT_SAT 1).recSec 571 else s

/-- FRKINIT: SEC_FRKINIT.GO with counter ctr waits for phase 0, with the value of SEC_FRKIV (R574). -/
def State.frkInit (s : State) (ctr : Nat) : State :=
  let iv := s.rget R.SEC_FRKIV_LO + s.rget R.SEC_FRKIV_HI % 65536 * 2 ^ 32
  (s.rset R.SEC_FRKINIT (ctr % 16)).setSec { s.sec with initPend := some (ctr % 16, iv) }

/-- FRKINIT (R574). -/
def execFrkinit (ctr : Nat) (s : State) : Host.Outcome State Fault Refusal := .next (if s.bivouac then s else s.frkInit ctr)

/-- An initialisation at phase 0 (R574, R575, R577). -/
def State.frkInitPhase0 (s : State) : State :=
  match s.sec.initPend with
  | none => s
  | some (k, iv) =>
    if s.nvmHold then s
    else
      let s := s.setSec { s.sec with initPend := none }
      let x := s.frank k
      if s.fbit F.SEC_STAT_FRKLOCK then s.frkErr 5
      else if x.pend ≠ 0 || s.sec.batch.any (fun b => b.1 == k) then s.frkErr 8
      else if (x.committed ≠ 0 || x.bad) && !s.presence then s.frkErr 4
      else (s.frkRecord k 2 iv).recSec 574

/-- The pending amounts become a batch (R572). -/
def State.batchStart (s : State) : State :=
  let ks := (List.range 16).filter (fun k => (s.frank k).pend ≠ 0)
  let b := ks.map (fun k => (k, (s.frank k).pend))
  let s := ks.foldl (fun (s : State) k => s.putFrank k { s.frank k with pend := 0, age := 0 }) s
  s.setSec { s.sec with batch := b, pageEnded := false }

/-- The batch in progress is signed, written and committed: flag 927 (R572). -/
def State.batchWrite (s : State) : State :=
  if s.sec.batch.isEmpty then s
  else
    let b := s.sec.batch
    let s := b.foldl (fun (s : State) (ka : Nat × Nat) => s.frkRecord ka.1 1 ((s.frank ka.1).committed + ka.2)) s
    (s.setSec { s.sec with batch := [] }).setFlag 927

/-- FRANKING_BATCH: the batch in progress completes, outside an NVM hold and while debug is locked (R549, R572, R577). -/
def execFrankingBatch (s : State) : Host.Outcome State Fault Refusal :=
  .next (if s.nvmHold || s.fbit F.SEC_STAT_FRKLOCK then s else s.batchWrite)

/-- Franking at phase 0: initialisation, then adds, then the triggers of a batch (R571, R572, R574). -/
def State.frkPhase0 (s : State) : State :=
  let s := s.frkInitPhase0
  let s := s.setNvm { s.nvm with frank := s.nvm.frank.map (fun x => if x.pend = 0 then x else { x with age := x.age + 1 }) }
  let adds := s.sec.adds
  let s := adds.foldl State.frkApply (s.setSec { s.sec with adds := [] })
  let due := s.nvm.frank.any (fun x => 4096 ≤ x.pend || 50000 ≤ x.age) || (s.sec.pageEnded && s.nvm.frank.any (fun x => x.pend != 0))
  if due && s.sec.batch.isEmpty then s.batchStart
  else if s.sec.pageEnded && s.nvm.frank.all (fun x => x.pend == 0) then s.setSec { s.sec with pageEnded := false }
  else s

/-! ### Debug (R576, R577) -/

/-- SEC_DBG.CHAL: a fresh nonce of 48 bytes (R577). -/
def State.chal (s : State) : State :=
  let (n, s) := s.randomBytes 48
  s.setSec { s.sec with nonce := some n, challenge := n }

/-- CHAL (R577). [DESIGN CHOICE, log entry 176] -/
def execChal (s : State) : Host.Outcome State Fault Refusal := .next (if s.bivouac then s else s.chal)

/-- The response opens a debug level: level 1 by a customer slot in SET, level 2 by the vendor key, which is usable only while it
matches the fused hash (R564, R577). -/
def State.debugOk (s : State) (level : Nat) (nonce : List Nat) : Bool :=
  let h := Config.sha384 (nonce ++ s.devid ++ [level])
  let sig := s.secWin 0x1340 96
  if level = 1 then (List.range 2).any (fun i => (s.custSlot i).state == .set && Config.ecdsaOk (s.custSlot i).key h sig)
  else level == 2 && s.vkOk && Config.ecdsaOk s.nvm.vendor h sig

/-- UNLOCK: a write of SEC_DBG with UNLOCK and LEVEL under presence (R577). -/
def State.unlock (s : State) (level : Nat) : State :=
  match s.sec.nonce with
  | none => s.secErr 6
  | some n =>
    let s := s.setSec { s.sec with nonce := none }
    if s.debugOk level n then
      let s := ((s.fset F.SEC_STAT_DBGUNL 1).fset F.SEC_STAT_LEVEL level).fset F.SEC_STAT_FRKLOCK 1
      s.recSec 577
    else s.secErr 1

/-- A write of SEC_DBG: LEVEL and UNLOCK under presence, and CHAL (R11, R577). -/
def State.dbgWrite (s : State) (v : Nat) : State :=
  let lvl := bits v 3 2
  let s := if v.testBit 0 then s.chal else s
  if s.presence then
    let s := s.rset R.SEC_DBG (lvl * 4)
    if v.testBit 1 then s.unlock lvl else s
  else if lvl ≠ s.fget F.SEC_DBG_LEVEL || v.testBit 1 then s.recRwp (R.SEC_DBG.addr 0 0) v
  else s

/-- UNLOCK (R577). -/
def execUnlock (level : Nat) (s : State) : Host.Outcome State Fault Refusal :=
  .next (if s.bivouac then s else s.dbgWrite (level % 4 * 4 + 2))

end Sys2Proof.Machine
end

