-- ==== Sys2Proof/Machine/Rec.lean ====
section
/-! DEFINITION. The event recorder: the write sequence, the bank, rate windows, snapshots, clearing and the cursors (R578 to
R595). -/

namespace Sys2Proof.Machine

/-- The state with the recorder replaced. -/
def State.setRcd (s : State) (r : Recorder) : State := { s with rcd := r }

/-- Flag 928 and vector 24 (R589, R590). -/
def State.recEvent (s : State) : State := (s.setFlag 928).raise 24

/-- A code that goes to the security area (R582). -/
def secCode (code : Nat) : Bool := (0x5000 ≤ code && code ≤ 0x53FF) || code == 0x5405

/-- A record that cannot be kept (R585, R589, R590). -/
def State.recDrop (s : State) : State := s.finc F.REC_LOST_COUNT 1

/-- A record enters the last-gasp bank, which holds eight (R590). -/
def State.bankPut (s : State) (bs : List Nat) : State :=
  if 8 ≤ s.rcd.bank.length then s.recDrop else s.setRcd { s.rcd with bank := s.rcd.bank ++ [bs] }

/-- Write pointer and slots of the area a code goes to: security or general. -/
def State.areaOf (s : State) (sec : Bool) : Nat × Nat := if sec then (areaPtr s.rcd.sec, 256) else (areaPtr s.rcd.gen, 12032)

/-- A slot of an area written. -/
def State.putSlotRec (s : State) (sec : Bool) (k : Nat) (bs : List Nat) : State :=
  if sec then s.setRcd { s.rcd with sec := (k, bs) :: s.rcd.sec } else s.setRcd { s.rcd with gen := (k, bs) :: s.rcd.gen }

/-- What a slot's writing tells: 64 slots left, and a full area (R589). -/
def State.areaNote (s : State) (sec : Bool) : State :=
  let (p, n) := s.areaOf sec
  if sec then (if n ≤ p then (s.fset F.REC_STAT_SECFULL 1).recEvent else s)
  else if p + 64 = n then ((s.fset F.REC_STAT_NEARFULL 1).recEvent).record 0x5404 [64]
  else if n ≤ p then ((s.fset F.REC_STAT_FULL 1).recEvent).record 0x5405 [s.fget F.REC_LOST_COUNT]
  else s

/-- A record's bytes go to the next slot of their area, or are lost at a full one (R582, R583, R589). -/
def State.areaPut (s : State) (sec : Bool) (bs : List Nat) : State :=
  let (p, n) := s.areaOf sec
  if n ≤ p then s.recDrop else (s.putSlotRec sec p bs).areaNote sec

/-- Bytes that a failed comparison leaves in a slot: those that step 1 wrote read back otherwise (step 2), or MARK does
(step 4). [DEDUCED, log entry 119] -/
def State.failedSlot (s : State) (bs : List Nat) (step : Nat) : List Nat :=
  let junk (n : Nat) : List Nat := (List.range n).map (fun i => Config.freeWord (s.free + i) % 256)
  if step = 2 then junk 0x7C ++ [0, 0, 0, 0] else bs.take 0x7C ++ junk 4

/-- A comparison of R583 fails at a step: LOGMEM_FAIL, the record and a 0x5401 to the bank (R590). -/
def State.recFail (s : State) (r : Rec) (step : Nat) : State :=
  let sec := secCode r.code
  let (p, _) := s.areaOf sec
  let s := { s.putSlotRec sec p (s.failedSlot r.bytes step) with free := s.free + 0x7C }
  let s := (s.fset F.REC_STAT_LOGMEM_FAIL 1).bankPut r.bytes
  let q := s.rget R.REC_NEXTSEQ
  let s := (s.rset R.REC_NEXTSEQ (q + 1)).bankPut ({ r with
    code := 0x5401, flags := 0, origin := 0xFFFF, rseq := q, pcyc := s.rget R.SYS_PCYC, opsec := s.rget R.SYS_OPSEC,
    tick := s.tick, phase := s.phase, pflags := s.fget F.TCK_STAT_RINGSYNC, payload := [bit sec, p, step], snap := [],
    snapOf := none }).bytes
  s.recEvent

/-- The records lost at a full queue are told once there is room (R585). -/
def State.lostTold (s : State) : State :=
  let n := s.rcd.lostNow
  if n = 0 then s else (s.setRcd { s.rcd with lostNow := 0 }).record 0x5403 [n]

/-- The head record is written: to the bank after a failure, else to its area; step 2 or 4 is the comparison that fails
(R582, R583, R590). -/
def State.recHead (s : State) (step : Nat) : State :=
  match s.rcd.queue with
  | [] => s
  | r :: q =>
    let s := s.setRcd { s.rcd with queue := q }
    let s :=
      if s.fbit F.REC_STAT_LOGMEM_FAIL then s.bankPut r.bytes
      else if (step = 2 || step = 4) && (s.areaOf (secCode r.code)).1 < (s.areaOf (secCode r.code)).2 then s.recFail r step
      else s.areaPut (secCode r.code) r.bytes
    s.lostTold

/-- The head record may be written: none has been in this tick, no hold, no clear, its snapshot taken (R582, R585, R588,
R594). -/
def State.recReady (s : State) : Bool :=
  s.ticking && !s.rcd.wrote && !s.nvmHold && !s.fbit F.REC_STAT_CLRBUSY && s.rcd.queue.head?.any (fun r => r.snapOf.isNone)

/-- RECORD_WRITE: step 0 when every comparison of R583 holds, else the failing one (R583). -/
def execRecordWrite (step : Nat) (s : State) : Host.Outcome State Fault Refusal :=
  .next (if s.recReady then (s.recHead step).setRcd { (s.recHead step).rcd with wrote := true } else s)

/-- Every queued record is written (R605). -/
def State.recFlush (s : State) : State :=
  if s.nvmHold || s.fbit F.REC_STAT_CLRBUSY then s else (List.range s.rcd.queue.length).foldl (fun s _ => s.recHead 0) s

/-- The records that waited through an NVM hold carry HELD (R585). -/
def State.recHeld (s : State) : State :=
  s.setRcd { s.rcd with queue := s.rcd.queue.map (fun r => { r with flags := if r.flags.testBit 3 then r.flags else r.flags + 8 }) }

/-! ### Rate windows (R586) -/

/-- The window of a key, if it has ended. -/
def State.rateEnded (s : State) (key : Nat) : State :=
  s.rateTurn key s.tick

/-- The windows that have ended at phase 0. -/
def State.ratePhase0 (s : State) : State := (s.rcd.wins.map (·.key)).foldl State.rateEnded s

/-! ### Snapshots (R588) -/

/-- The words of snapshot entry j. -/
def State.snapWords (s : State) (j : Nat) : List Nat :=
  (List.range (s.fget F.REC_SNAP_CFG_NM1 j + 1)).map (fun i =>
    let a := memRead s.table (64 * s.fget F.REC_SNAP_CFG_TBL64 j + 4 * i) 4
    if a % 4 ≠ 0 || 0x180000 ≤ a then 0 else s.readReg a)

/-- Snapshots at phase 0, of the records that an earlier tick postmarked. -/
def State.snapPhase0 (s : State) : State :=
  s.setRcd { s.rcd with queue := s.rcd.queue.map (fun r =>
    match r.snapOf with
    | some j => if r.tick ≠ s.tick then { r with flags := r.flags + 2, snap := s.snapWords j, snapOf := none } else r
    | none => r) }

/-! ### Clearing (R594) -/

/-- A write of REC_CTRL, an RWP register (R11, R594). -/
def State.recCtrlWrite (s : State) (v : Nat) : State :=
  if !s.presence then (if v % 4 = 0 then s else s.recRwp (R.REC_CTRL.addr 0 0) v)
  else if v.testBit 0 then s.setRcd { s.rcd with clrPend := some (v.testBit 1) }
  else s

/-- CLEAR, with CLRSEC or without (R594). -/
def execClear (sec : Bool) (s : State) : Host.Outcome State Fault Refusal := .next (s.recCtrlWrite (1 + 2 * bit sec))

/-- A CLEAR at phase 0 outside an NVM hold: the areas, the bank and the counts are zeroed (R594). -/
def State.clearPhase0 (s : State) : State :=
  match s.rcd.clrPend with
  | none => s
  | some want =>
    if s.nvmHold || s.fbit F.REC_STAT_CLRBUSY then s
    else
      let sec := want && s.sec.strap
      let p := [areaPtr s.rcd.gen, if sec then areaPtr s.rcd.sec else 0, s.fget F.REC_LOST_COUNT]
      let s := s.setRcd { s.rcd with gen := [], sec := if sec then [] else s.rcd.sec, bank := [], clrPend := none, clrRec := p }
      let s := ((s.fset F.REC_STAT_LOGMEM_FAIL 0).fset F.REC_STAT_FULL 0).fset F.REC_STAT_NEARFULL 0
      let s := if sec then s.fset F.REC_STAT_SECFULL 0 else s
      let s := (s.fset F.REC_LOST_COUNT 0).fset F.REC_STAT_CLRBUSY 1
      if want && !sec then s.recRule 594 else s

/-- CLEAR_DONE: the zeroing has ended; record 0x5010 (R594). -/
def execClearDone (s : State) : Host.Outcome State Fault Refusal :=
  .next (if s.fbit F.REC_STAT_CLRBUSY then (s.fset F.REC_STAT_CLRBUSY 0).record 0x5010 s.rcd.clrRec else s)

/-! ### Cursors (R593) -/

/-- The indices that hold a valid or damaged record. -/
def State.recIndices (s : State) : List Nat :=
  (s.rcd.gen.filter (fun kb => slotMarked kb.2)).map (·.1) ++ (s.rcd.sec.filter (fun kb => slotMarked kb.2)).map (fun kb => kb.1 + 12032) ++
    ((s.rcd.bank.zipIdx.filter (fun bk => slotMarked bk.1)).map (fun bk => bk.2 + 12288))

/-- REC_C{u}_CMD.NEXT: the next higher index that is valid or damaged, else the end. -/
def State.recNext (s : State) (u : Nat) : State :=
  s.rset R.REC_C_IDX ((s.recIndices.filter (fun i => s.cursor u < i)).foldl min 12296) u

/-- NEXT (R593). -/
def execRecNext (u : Nat) (s : State) : Host.Outcome State Fault Refusal := .next (if u < 2 then s.recNext u else s)

/-! ### Start (R581, R584, R592) -/

/-- RSEQ of a record's bytes. -/
def recSeq (bs : List Nat) : Nat := leAt bs 8 4

/-- The marked records of the areas and the bank. -/
def State.recAll (s : State) : List (List Nat) :=
  ((s.rcd.gen.map (·.2)) ++ (s.rcd.sec.map (·.2)) ++ s.rcd.bank).filter slotMarked

/-- The next RSEQ and the state of the areas as NVM and Basecamp give them (R581, R584). -/
def State.recScan (s : State) : State :=
  let s := if s.recAll.isEmpty then s else s.rset R.REC_NEXTSEQ ((s.recAll.map recSeq).foldl max 0 + 1)
  let g := areaPtr s.rcd.gen
  ((s.fset F.REC_STAT_FULL (bit (decide (12032 ≤ g)))).fset F.REC_STAT_NEARFULL (bit (decide (12032 ≤ g + 64)))).fset
    F.REC_STAT_SECFULL (bit (decide (256 ≤ areaPtr s.rcd.sec)))

/-- Insertion of a record's bytes by RSEQ. -/
def insertSeq (b : List Nat) : List (List Nat) → List (List Nat)
  | [] => [b]
  | c :: cs => if recSeq b < recSeq c then b :: c :: cs else c :: insertSeq b cs

/-- The bank at start: its records go to their areas unless one has code 0x5401 (R592). -/
def State.bankStart (s : State) : State :=
  if s.rcd.bank.isEmpty then s
  else if s.rcd.bank.any (fun b => leAt b 0 2 == 0x5401) then s.fset F.REC_STAT_LOGMEM_FAIL 1
  else
    let l := s.rcd.bank.foldr insertSeq []
    l.foldl (fun s b => s.areaPut (secCode (leAt b 0 2)) b) (s.setRcd { s.rcd with bank := [] })

/-- A record of the present moment that the last-gasp path writes to the bank (R591). [DEDUCED, log entry 120] -/
def State.lastGasp (s : State) (code : Nat) (payload : List Nat) : State :=
  let q := s.rget R.REC_NEXTSEQ
  let r : Rec := { code := code, flags := 4, origin := 0xFFFF, rseq := q, pcyc := s.rget R.SYS_PCYC,
                   opsec := s.rget R.SYS_OPSEC, tick := s.tick, phase := s.phase, pflags := s.fget F.TCK_STAT_RINGSYNC,
                   payload := payload, snap := [], snapOf := none }
  (s.rset R.REC_NEXTSEQ (q + 1)).bankPut r.bytes

end Sys2Proof.Machine
end

