-- ==== Sys2Proof/Machine/Reset.lean ====
section
/-! DEFINITION. Resets: what a start keeps, failed starts, and the stop under the double-fault rule (R596, R598, R605, R610,
R619, R621). -/

namespace Sys2Proof.Machine

/-- The state with the start's data replaced. -/
def State.setBoot (s : State) (b : Boot) : State := { s with boot := b }

/-- The state with power management's data replaced. -/
def State.setPwr (s : State) (p : Pwr) : State := { s with pwr := p }

/-- Registers that Basecamp or the NVM die keep through a reset (R581, R598). -/
def basecampReg (a : Nat) : Bool :=
  [R.SYS_PCYC, R.SYS_OPSEC, R.SYS_RTC, R.SYS_RTCALM, R.SYS_BIVC, R.SYS_BCCFG, R.SYS_BCCAUSE, R.SYS_BCHDL, R.SEC_SEAL,
    R.REC_LOST, R.REC_NEXTSEQ].any (fun r => r.addr 0 0 == a)

/-- The register file after a reset that keeps the registers of `keep` and gives the others their reset values. -/
def keepRegs (keep : Nat → Bool) (init old : List (Nat × Word)) : List (Nat × Word) :=
  (old.filter (fun kv => keep kv.1)).foldl (fun m kv => tabPut (kv.2 + 1) m kv.1 kv.2) (init.filter (fun kv => !keep kv.1))

/-- Registers that show pins and NVM from the reset on: EXP_ILK, CAL_SETSTAT, REC_STAT and REC_NEXTSEQ. -/
def State.resetViews (s : State) (fail : Nat) : State :=
  let s := (s.fset F.EXP_ILK_ILKOPEN (bit (!s.pins.ilkClosed))).fset F.EXP_ILK_ESTOP (bit (!s.pins.estopN))
  ((s.fset F.CAL_SETSTAT_VALID s.nvm.calValid).fset F.REC_STAT_LOGMEM_FAIL fail).recScan

/-- Every block of the core die in its reset state; the NVM die, Basecamp, the mains section, the pins and the commands that
wait are kept (R596, R598). -/
def State.coreReset (s : State) : State :=
  let z := State.initial s.variant
  let t := { z with
    pending := s.pending, stepping := s.stepping, fuseRev := s.fuseRev
    regs := keepRegs basecampReg z.regs s.regs
    free := s.free, log := s.log, nvm := s.nvm, pins := { s.pins with mainps := true }
    rcd := { z.rcd with gen := s.rcd.gen, sec := s.rcd.sec, bank := s.rcd.bank }
    sec := { z.sec with sealFail := s.sec.sealFail, sealGood := s.sec.sealGood, sealNote := s.sec.sealNote,
                        strap := s.pins.svcStrap }
    boot := { z.boot with fscnt := s.boot.fscnt, frkHeld := s.boot.frkHeld }
    pwr := { z.pwr with lastRail := s.pwr.lastRail, lastRailPm := s.pwr.lastRailPm }
    power := { z.power with mns := { s.power.mns with zcAt := none } } }
  t.resetViews (s.fget F.REC_STAT_LOGMEM_FAIL)

/-- The release of a start source: the core die is reset, PCYC counts, and the PLLs begin to lock (R596, R598, R600). -/
def State.start (s : State) (src : Nat) : State :=
  let s := s.coreReset
  let s := s.rset R.SYS_PCYC (s.rget R.SYS_PCYC + 1)
  s.setBoot { s.boot with step := .locking, src := src }

/-- Milliseconds since the release of the start source. -/
def State.startMs (s : State) : Nat := (s.boot.lockUs + 20 * s.elapsed) / 1000

/-- A failed start with the cause of a bit of SYS_BIVC (R605). -/
def State.failStart (s : State) (cause : Nat) : State :=
  let s := s.rset R.SYS_BIVC (s.rget R.SYS_BIVC ||| 2 ^ cause)
  let s := s.setBoot { s.boot with fscnt := min 7 (s.boot.fscnt + 1) }
  let s := (s.record 0x0010 [cause, s.boot.fscnt, s.startMs]).resetOutputs.recFlush
  s.setBoot { s.boot with step := .held }

/-- Every declared context is halted, and what reaches outputs is dropped; messages, records and parameter writes that a commit
has released stay (R85, R108, R610). [DESIGN CHOICE, log entry 137] -/
def State.haltAll (s : State) : State :=
  let f (x : Ctx) : Ctx := if x.st == .unused then x else { x with st := .halted }
  { s with seq := { s.seq with ctx := s.seq.ctx.map f, ckpt := s.seq.ckpt.map f, outq := [], journal := []
                               rel := s.seq.rel.filter (fun d => match d with | .iowAt .. => false | _ => true) },
           lpe := { s.lpe with outq := [], rel := [] } }

/-- A stop under the double-fault rule: kind 1 a pair, 2 a loop engine, 3 an SRAM region. Before program READY it is a
failed start (R610). -/
def State.stop (s : State) (kind n : Nat) : State :=
  let s := (s.abandonPage 7).haltAll.resetOutputs
  let s := (s.fset F.SEQ_STAT_MODE 5).fset F.SYS_START_STATE 3
  let s := (s.record 0x0030 [kind, n]).raise 25
  let s := s.setBoot { s.boot with step := .stopped, replace := false }
  if s.boot.ready then s else s.failStart (if kind = 3 then 6 else 5)

end Sys2Proof.Machine
end

