-- ==== Sys2Proof/Machine/Place.lean ====
section
/-! DEFINITION. Engine program images and placement: the image checks, the copy of the sections, the declarations, the
refusal reasons and what an admission sets (R42 to R58, R101 to R105, R347, R487, R488, R642, R643). -/

namespace Sys2Proof.Machine

/-! ### Image format (Tables 3-5 to 3-9) -/

/-- A section entry (Table 3-6). -/
structure ImgSect where
  type  : Nat
  flags : Nat
  off   : Nat
  len   : Nat
  dest  : Nat
  deriving DecidableEq, Repr

/-- Bits of an image in words and bytes are little-endian (R101): section entry i. -/
def imgSect (img : List Nat) (i : Nat) : ImgSect :=
  let o := 0x20 + 16 * i
  ⟨leAt img o 1, leAt img (o + 1) 1, leAt img (o + 4) 4, leAt img (o + 8) 4, leAt img (o + 12) 4⟩

/-- The image's section entries. -/
def imgSects (img : List Nat) : List ImgSect := (List.range (min 12 (leAt img 0x12 2))).map (imgSect img)

/-- IMGLEN. -/
def imgLen (img : List Nat) : Nat := leAt img 8 4

/-- SECVER. -/
def imgSecver (img : List Nat) : Nat := leAt img 0xC 4

/-- REQFEAT. -/
def imgReqfeat (img : List Nat) : Nat := leAt img 0x14 4

/-- A run of bytes is all zero. -/
def zeroBytes (img : List Nat) (off n : Nat) : Bool := (slice img off n).all (· == 0)

/-- The section leaves no bytes in the image: ZEROFILL (Table 3-6). -/
def ImgSect.zerofill (x : ImgSect) : Bool := x.flags % 2 == 1

/-- A section entry is well formed (check 4 of Table 3-11). [DEDUCED, log entry 34] -/
def ImgSect.ok (x : ImgSect) (len : Nat) : Bool :=
  let copied := x.type == 1 || x.type == 2 || x.type == 3
  (copied || (0x10 ≤ x.type && x.type ≤ 0x14)) && decide (x.flags < 2) && (!x.zerofill || copied) &&
  (if x.zerofill then x.off == 0 else x.off % 64 == 0 && (x.len == 0 || (256 ≤ x.off && x.off + x.len ≤ len - 128))) &&
  (x.type != 1 || (x.dest % 4 == 0 && x.len % 4 == 0)) && (copied || x.dest == 0)

/-- Check 4 of Table 3-11: reserved bytes, NSECT and the section table. -/
def imgTableOk (img : List Nat) : Bool :=
  let n := leAt img 0x12 2
  zeroBytes img 0x1C 4 && zeroBytes img 0xE0 28 && decide (1 ≤ n) && decide (n ≤ 12) &&
  (List.range 12).all (fun i =>
    if i < n then zeroBytes img (0x22 + 16 * i) 2 && (imgSect img i).ok (imgLen img) else zeroBytes img (0x20 + 16 * i) 16)

/-- The image's signature block and signature are good under the key that KEYSLOT names (R102, R564). -/
def State.imgSigned (s : State) (img : List Nat) : Bool :=
  let o := imgLen img - 128
  zeroBytes img (o + 1) 3 && zeroBytes img (o + 100) 28 &&
  (match s.imageKey (leAt img o 1) with
    | some k => Config.ecdsaOk k (Config.sha384 (slice img 0 o)) (slice img (o + 4) 96)
    | none => false)

/-- The first check of Table 3-11 that fails, as SEQ_LDSTAT.ERR; 0 when none does. A load gives SEQ_LDLEN.LEN (R643). -/
def State.imageErr (s : State) (img : List Nat) (len : Option Nat) : Nat :=
  let n := imgLen img
  if leAt img 0 4 ≠ 0x474D4959 || leAt img 4 2 ≠ 1 || leAt img 6 2 ≠ 256 then 1
  else if n % 64 ≠ 0 || n < 384 || 3145728 < n || (match len with | some l => l != n | none => false) then 2
  else if leAt img 0xFC 4 ≠ crc32 (slice img 0 0xFC) then 3
  else if !imgTableOk img then 1
  else if leAt img 0x10 2 ≠ 0x5659 || (imgReqfeat img).testBit 30 || (imgReqfeat img).testBit 0 then 4
  else if !s.imgSigned img then 5
  else if imgSecver img < s.nvm.minver then 6
  else 0

/-! ### Copying the sections (R103) -/

/-- A section copied into a space of `size` bytes, no further than the space goes (R103, R643). -/
def copySect (img : List Nat) (size : Nat) (m : List Host.Cell) (x : ImgSect) : List Host.Cell :=
  let n := min x.len (size - x.dest)
  if x.zerofill then m.filter (fun c => c.1 < x.dest || x.dest + n ≤ c.1) else memPutBytes m x.dest (slice img x.off n)

/-- A space after the copy: every byte that no section writes is 0. -/
def copySpace (img : List Nat) (type size : Nat) : List Host.Cell :=
  ((imgSects img).filter (fun x => x.type == type)).foldl (copySect img size) []

/-- Bytes of shared and bulk data (Table 3-2). -/
def Variant.dataSize (v : Variant) : Nat := if v.isX0 then 0x3400000 else 0x400000

/-- The image's sections copied to program store, data and table RAM (R103). -/
def State.copyImage (s : State) (img : List Nat) : State :=
  { s with
    prog := copySpace img 1 0x400000, data := copySpace img 2 s.variant.dataSize, table := copySpace img 3 0x200000
    boot := { s.boot with image := img } }

/-! ### Declarations (Tables 3-8, 3-9, 11-4 and 17-1) -/

/-- The records of n bytes in the section of a type, each with its byte offset in the image. -/
def declRecs (img : List Nat) (type n : Nat) : List (Nat × List Nat) :=
  match (imgSects img).find? (fun x => x.type == type) with
  | none => []
  | some x => (List.range (x.len / n)).map (fun i => (x.off + n * i, slice img (x.off + n * i) n))

/-- A context declaration record (Table 3-8). -/
def parseCtx (b : List Nat) : Nat × CtxDecl :=
  let f := leAt b 2 2
  (leAt b 0 2,
   { crit := f.testBit 15, pin := if f.testBit 14 then some (bits f 13 11) else none, prio := bits f 10 8
     maxActs := bits f 7 6 + 1, startWait := f.testBit 5, wci := leAt b 4 2, wcc := leAt b 6 2, entry := bits (leAt b 8 4) 19 0
     startEv := leAt b 12 2, pair := 0, tw := [] })

/-- A context record is consistent in itself (Table 3-8). [DEDUCED, log entry 22] -/
def ctxRecOk (b : List Nat) : Bool :=
  decide (leAt b 0 2 < 512) && bits (leAt b 2 2) 4 0 == 0 && decide (leAt b 8 4 < 2 ^ 20) &&
  (!(leAt b 2 2).testBit 5 || decide (leAt b 12 2 < 1024)) && leAt b 14 2 == 0

/-- A timed-write reservation record (Table 3-9): its context and the reservation. -/
def parseTw (b : List Nat) : Nat × TwRes := (leAt b 0 2, ⟨leAt b 2 1, leAt b 3 1, leAt b 4 4⟩)

/-- A BAR0 offset that a declaration may name. -/
def declAddrOk (a : Nat) : Bool := a % 4 == 0 && decide (a < 0x180000)

/-- A reservation record is consistent in itself (Table 3-9). -/
def TwRes.ok (x : TwRes) : Bool :=
  [2, 4, 6, 8, 10].contains x.phase && decide (1 ≤ x.count) && decide (x.count ≤ 64) && (x.target == 0xFFFFFFFF || declAddrOk x.target)

/-- Law type of a TYPE code (Table 11-1). -/
def lawTypeOf (n : Nat) : Option LawType := ([none, some .pi, some .pid, some .pllspd, some .dqcur, some .cvcc, some .fuser] : List (Option LawType)).getD n none

/-- A source or target group of a law record, at offset o (Table 11-4). -/
def parseField (b : List Nat) (o : Nat) (sgn : Bool) : LawField :=
  ⟨leAt b o 4, leAt b (o + 4) 1, leAt b (o + 5) 1, signed 8 (leAt b (o + 6) 1), sgn⟩

/-- The group, if it names a register. -/
def parseOptField (b : List Nat) (o : Nat) (sgn : Bool) : Option LawField :=
  if leAt b o 4 = 0xFFFFFFFF then none else some (parseField b o sgn)

/-- A law declaration record (Table 11-4), not yet placed. -/
def parseLaw (b : List Nat) : LawDecl :=
  let f := leAt b 3 1
  { law := leAt b 0 1, type := (lawTypeOf (leAt b 1 1)).getD .pi, cls := leAt b 2 1, initAct := f.testBit 0
    pinPh := f.testBit 1, pinEng := if f.testBit 2 then some (leAt b 5 1) else none, phase := leAt b 4 1, altGrp := leAt b 6 1
    meas := parseField b 0x08 (f.testBit 3), aux := parseOptField b 0x10 (f.testBit 4), sp := parseOptField b 0x18 (f.testBit 5)
    tgt := parseField b 0x20 (f.testBit 6), tgt2 := parseOptField b 0x28 (f.testBit 6)
    ein := signed 8 (leAt b 0x30 1), egain := signed 8 (leAt b 0x31 1), eout := signed 8 (leAt b 0x32 1)
    eaux := signed 8 (leAt b 0x33 1), init := (List.range 15).map (fun i => signed 16 (leAt b (0x40 + 2 * i) 2))
    engine := 0, slot := 0, oph := 0 }

/-- The parameters of INIT in order (Table 11-4). -/
def initParams : List Nat := [0, 3, 4, 5, 6, 16, 17, 18, 19, 20, 24, 25, 26, 27, 28]

/-- A source or target group obeys R347: a register field that fits its word, or all zero beside 0xFFFF_FFFF. -/
def groupOk (b : List Nat) (o : Nat) : Bool :=
  leAt b (o + 7) 1 == 0 &&
  (if leAt b o 4 = 0xFFFFFFFF then zeroBytes b (o + 4) 3
   else declAddrOk (leAt b o 4) && decide (leAt b (o + 4) 1 + leAt b (o + 5) 1 ≤ 32) && leAt b (o + 5) 1 != 0)

/-- CLASS agrees with the type (R330). -/
def classOk (t : LawType) (cls : Nat) : Bool :=
  match t with
  | .dqcur => cls == 0
  | .fuser => cls == 4
  | _ => cls == 1 || cls == 2 || cls == 3 || cls == 5

/-- A law record obeys R347 and R330 in itself. -/
def lawRecOk (b : List Nat) : Bool :=
  let d := parseLaw b
  (match lawTypeOf (leAt b 1 1) with | some t => classOk t d.cls | none => false) && decide (d.law < 128) &&
  !(leAt b 3 1).testBit 7 && [0, 2, 4, 6, 8, 10].contains d.phase && (match d.pinEng with | some e => decide (e < 4) | none => true) &&
  decide (d.altGrp < 64) && leAt b 7 1 == 0 && leAt b 8 4 != 0xFFFFFFFF && leAt b 0x20 4 != 0xFFFFFFFF &&
  d.tgt2.isSome == (d.type == .dqcur) && d.aux.isSome == (d.type == .pllspd || d.type == .dqcur || d.type == .cvcc) &&
  [0x08, 0x10, 0x18, 0x20, 0x28].all (groupOk b) && (d.type != .fuser || d.eaux == d.ein) && zeroBytes b 0x34 12 &&
  leAt b 0x5E 2 == 0 && (initParams.zip d.init).all (fun pv => paramOf d.type pv.1 || pv.2 == 0)

/-- Default output phase of a class, 0 where the phase is not placed (Table 2-5). -/
def classPhase (cls : Nat) : Nat := ([0, 4, 6, 8, 0, 10] : List Nat).getD cls 0

/-- The phase a law asks for: 0 when its outputs are not placed (R49). -/
def LawDecl.wants (d : LawDecl) : Nat := if classPhase d.cls = 0 then 0 else if d.phase = 0 then classPhase d.cls else d.phase

/-- Registers a law outputs to. -/
def LawDecl.targets (d : LawDecl) : List Nat := d.tgt.addr :: (match d.tgt2 with | some f => [f.addr] | none => [])

/-- Register, position and width of a target. -/
def LawField.place (f : LawField) : Nat × Nat × Nat := (f.addr, f.pos, f.wid)

/-- Two laws of one image contradict one another: the same number, alternates that differ, or one target outside an
alternates group (R347). [DEDUCED, log entry 19] -/
def LawDecl.clash (a b : LawDecl) : Bool :=
  let alts := a.altGrp != 0 && a.altGrp == b.altGrp
  a.law == b.law ||
  (alts && (a.type != b.type || a.tgt.place != b.tgt.place || a.tgt2.map LawField.place != b.tgt2.map LawField.place ||
    a.wants != b.wants)) ||
  (!alts && a.targets.any (fun t => b.targets.contains t))

/-- A DMA declaration record (Table 17-1): channel, slots, priority, INITEN and CLAT. -/
structure DmaDecl where
  ch     : Nat
  slots  : Nat
  prio   : Nat
  initEn : Bool
  clat   : Nat
  deriving DecidableEq, Repr

/-- A DMA declaration record parsed. -/
def parseDma (b : List Nat) : DmaDecl := ⟨leAt b 0 1, leAt b 1 1, leAt b 2 1, (leAt b 3 1).testBit 0, leAt b 4 2⟩

/-- A DMA declaration record obeys R487 in itself. -/
def dmaRecOk (b : List Nat) : Bool :=
  let d := parseDma b
  decide (d.ch < 64) && decide (2 ≤ d.slots) && decide (d.slots ≤ 64) && decide (d.prio ≤ 3) && decide (leAt b 3 1 < 2) && leAt b 6 2 == 0

/-! ### MALFORMED (R58, R104, R347, R487) -/

/-- Offsets of the records of a list that are bad in themselves or clash with an earlier one. -/
def badRecs {α : Type} (l : List (Nat × α)) (ok : α → Bool) (clash : α → α → Bool) : List Nat :=
  (l.zipIdx.filter (fun x => !ok x.1.2 || (l.take x.2).any (fun y => clash y.2 x.1.2))).map (fun x => x.1.1)

/-- Record size of a declaration section type. -/
def declSize (type : Nat) : Nat := if type = 0x10 then 16 else if type = 0x11 then 8 else if type = 0x12 then 96 else if type = 0x13 then 8 else 4

/-- Offsets of section entries that repeat a declaration section or give it a wrong length (R104). -/
def badSects (img : List Nat) : List Nat :=
  let l := (imgSects img).zipIdx
  (l.filter (fun x => 0x10 ≤ x.1.type && (x.1.len % declSize x.1.type != 0 || (x.1.type == 0x14 && x.1.len != 4) ||
    (x.1.type == 0x12 && decide (128 * 96 < x.1.len)) ||
    ((imgSects img).take x.2).any (fun y => y.type == x.1.type)))).map (fun x => 0x20 + 16 * x.2)

/-- Byte offsets in the image of everything that makes it MALFORMED. [DEDUCED, log entry 21] -/
def malformed (img : List Nat) : List Nat :=
  let ctxs := declRecs img 0x10 16
  let tws := declRecs img 0x11 8
  badSects img ++ badRecs ctxs ctxRecOk (fun a b => leAt a 0 2 == leAt b 0 2) ++
  badRecs tws (fun b => (parseTw b).2.ok && ctxs.any (fun c => leAt c.2 0 2 == leAt b 0 2)) (fun _ _ => false) ++
  badRecs (declRecs img 0x12 96) lawRecOk (fun a b => (parseLaw a).clash (parseLaw b)) ++
  badRecs (declRecs img 0x13 8) dmaRecOk (fun a b => leAt a 0 1 == leAt b 0 1)

/-! ### RESOURCE (R642) -/

/-- SYS_FEAT bit index of the resource of an absent register instance (Table 2-9). -/
def Res.featIdx (v : Variant) (r : Res) (i : Nat) : Nat :=
  match r with
  | .always => 0
  | .station => 1
  | .beam => if v.stn ≤ i then 1 else 4
  | .hvch => 25
  | .stepper => 20
  | .foc => 16
  | .csi => 14
  | .dram => 11
  | .enc => 9
  | .dec => 6
  | .mains => 31

/-- The index of Table 2-9 for the absent instance that a BAR0 offset names, if it names one. -/
def absentIdx (v : Variant) (a : Nat) : Option Nat :=
  match findReg a with
  | some (r, i, j) => if r.res.absent v i j then some (r.res.featIdx v i) else none
  | none => none

/-- Registers that the declarations of an image name. -/
def declAddrs (img : List Nat) : List Nat :=
  ((declRecs img 0x11 8).map (fun r => (parseTw r.2).2.target)) ++
  ((declRecs img 0x12 96).map (fun r => [0x08, 0x10, 0x18, 0x20, 0x28].map (fun o => leAt r.2 o 4))).flatten

/-- Indices of the resources an image needs and the variant lacks (R642). -/
def lacking (v : Variant) (img : List Nat) : List Nat :=
  let q := imgReqfeat img
  let counts := ([(3, 1), (5, 4), (8, 6), (10, 9), (13, 11), (15, 14), (19, 16), (24, 20), (29, 25)] : List (Nat × Nat)).filterMap
    (fun f => if v.field f.1 f.2 < bits q f.1 f.2 then some f.2 else none)
  counts ++ (if q.testBit 31 && !v.mains then [31] else []) ++ (declAddrs img).filterMap (absentIdx v)

/-! ### Contexts on lane pairs (R43, R46) -/

/-- Insertion into a list that is in the order of `le`, behind what is equal. -/
def insertBy {α : Type} (le : α → α → Bool) (x : α) : List α → List α
  | [] => [x]
  | y :: l => if le x y then x :: y :: l else y :: insertBy le x l

/-- A list put into the order of `le`; equal elements keep their order. -/
def sortBy {α : Type} (le : α → α → Bool) (l : List α) : List α := l.foldr (insertBy le) []

/-- Charge of a context against its pair (R43). -/
def CtxDecl.charge (d : CtxDecl) : Nat := d.wcc + 32 * d.maxActs

/-- The admission ceiling per lane pair and per loop engine (Table 2-3). -/
def ceiling : Nat := 16704

/-- Index of the least element, the lowest of equals. -/
def leastIdx (l : List Nat) : Nat := l.idxOf (l.foldl min (l.headD 0))

/-- Placement of contexts in progress: charged cycles per pair, the pair of each context, and the first context that did not
fit. -/
structure PairFit where
  load : List Nat
  of   : List (Nat × Nat)
  bad  : Option Nat
  deriving DecidableEq, Repr

/-- A context put on a pair. -/
def PairFit.put (f : PairFit) (c q p : Nat) : PairFit :=
  { f with load := f.load.set p (nth f.load p 0 + q), of := f.of ++ [(c, p)] }

/-- An unpinned context put on the pair with the lowest load, or found not to fit (R46). -/
def PairFit.next (f : PairFit) (cd : Nat × CtxDecl) : PairFit :=
  let p := leastIdx f.load
  if nth f.load p 0 + cd.2.charge ≤ ceiling then f.put cd.1 cd.2.charge p else { f with bad := f.bad.or (some cd.1) }

/-- The pinned contexts on their pairs. -/
def pinFit (cs : List (Nat × CtxDecl)) : PairFit :=
  cs.foldl (fun f cd => match cd.2.pin with | some p => f.put cd.1 cd.2.charge p | none => f)
    { load := List.replicate 8 0, of := [], bad := none }

/-- Worst-fit decreasing (R46). -/
def pairFit (cs : List (Nat × CtxDecl)) : PairFit :=
  (sortBy (fun a b : Nat × CtxDecl => decide (b.2.charge < a.2.charge) || (a.2.charge == b.2.charge && decide (a.1 ≤ b.1)))
    (cs.filter (fun cd => cd.2.pin.isNone))).foldl PairFit.next (pinFit cs)

/-! ### Laws to output phases and loop engines (R44, R48, R49) -/

/-- Cycles of a law type (Table 11-1). -/
def LawType.cycles : LawType → Nat
  | .pi => 40 | .pid => 56 | .pllspd => 56 | .dqcur => 120 | .cvcc => 88 | .fuser => 64

/-- Output phases in use: law outputs of phases 2, 4, 6, 8 and 10, the phase of each alternates group met, the phase of each
law, and the first law without one. -/
structure PhaseFit where
  count : List Nat
  grp   : List (Nat × Nat)
  of    : List (Nat × Nat)
  bad   : Option Nat
  deriving DecidableEq, Repr

/-- A law given its output phase: that of its alternates, or the requested or a later one with room (R49, R342). -/
def PhaseFit.next (f : PhaseFit) (d : LawDecl) : PhaseFit :=
  let w := d.wants
  if w = 0 then { f with of := f.of ++ [(d.law, 0)] }
  else match f.grp.find? (fun g => d.altGrp ≠ 0 && g.1 == d.altGrp) with
    | some g => { f with of := f.of ++ [(d.law, g.2)] }
    | none =>
      let room (k : Nat) : Bool := decide (nth f.count k 32 < 32)
      let pick := if d.pinPh then (if room (w / 2 - 1) then some (w / 2 - 1) else none)
        else findBelow 5 (fun k => decide (w / 2 - 1 ≤ k) && room k)
      match pick with
      | some k => { count := f.count.set k (nth f.count k 0 + 1), grp := f.grp ++ [(d.altGrp, 2 * k + 2)]
                    of := f.of ++ [(d.law, 2 * k + 2)], bad := f.bad }
      | none => { f with of := f.of ++ [(d.law, w)], bad := f.bad.or (some d.law) }

/-- Order by a phase, then by law number. [DEDUCED, log entry 17] -/
def byPhase (a b : Nat × LawDecl) : Bool := decide (a.1 < b.1) || (a.1 == b.1 && decide (a.2.law ≤ b.2.law))

/-- The output phases of all laws. -/
def phaseFit (ds : List LawDecl) : PhaseFit :=
  ((sortBy byPhase (ds.map (fun d => (d.wants, d)))).map (·.2)).foldl PhaseFit.next
    { count := [0, 0, 0, 0, 0], grp := [], of := [], bad := none }

/-- The laws with their output phases, in the order in which they go to the engines (R48). -/
def phased (ds : List LawDecl) : List LawDecl :=
  let f := phaseFit ds
  (sortBy byPhase (ds.map (fun d =>
    let p := ((f.of.find? (fun x => x.1 == d.law)).map (·.2)).getD 0
    (p, { d with oph := p })))).map (·.2)

/-- Laws on loop engines: slots and cycles in use, the placed laws, and the first law that did not fit. -/
structure EngFit where
  used : List Nat
  cyc  : List Nat
  laws : List LawDecl
  bad  : Option Nat
  deriving DecidableEq, Repr

/-- A law put on its pinned engine or on the one with the fewest occupied slots (R48). -/
def EngFit.next (f : EngFit) (d : LawDecl) : EngFit :=
  let e := match d.pinEng with | some e => e | none => leastIdx f.used
  let n := nth f.used e 0
  if n < 32 && nth f.cyc e 0 + d.type.cycles ≤ ceiling then
    { f with used := f.used.set e (n + 1), cyc := f.cyc.set e (nth f.cyc e 0 + d.type.cycles)
             laws := f.laws ++ [{ d with engine := e, slot := n }] }
  else { f with bad := f.bad.or (some d.law) }

/-- All laws placed. [DEDUCED, log entry 18] -/
def engFit (ds : List LawDecl) : EngFit :=
  (phased ds).foldl EngFit.next { used := [0, 0, 0, 0], cyc := [0, 0, 0, 0], laws := [], bad := none }

/-! ### Decoder lanes (R50) -/

/-- The first lane for which a map breaks R50: an absent or retired lane that serves, an absent station, a station or the
spare named twice; 0 where a present station is left without a lane. [DEDUCED, log entry 23] -/
def State.laneBad (s : State) (v : Nat) : Option Nat :=
  let m (l : Nat) : Nat := bits v (4 * l + 3) (4 * l)
  let bad (l : Nat) : Bool :=
    m l != 15 && (decide (s.variant.decl ≤ l) || s.laneMap l == 15 || (m l != 14 && decide (s.variant.stn ≤ m l)) ||
      (List.range l).any (fun k => m k == m l))
  (findBelow 7 bad).or (if (List.range s.variant.stn).all (fun i => (List.range 7).any (fun l => m l == i)) then none else some 0)

/-! ### Refusal (R55, R58) -/

/-- The image's context declarations. -/
def imgCtxs (img : List Nat) : List (Nat × CtxDecl) := (declRecs img 0x10 16).map (fun r => parseCtx r.2)

/-- The image's law declarations. -/
def imgLaws (img : List Nat) : List LawDecl := (declRecs img 0x12 96).map (fun r => parseLaw r.2)

/-- The image's timed-write reservations. -/
def imgTws (img : List Nat) : List (Nat × TwRes) := (declRecs img 0x11 8).map (fun r => parseTw r.2)

/-- The least of the items to report. -/
def least (l : List Nat) : Option Nat := match l with | [] => none | x :: r => some (r.foldl min x)

/-- Sections of a type reach beyond a space. -/
def overflows (img : List Nat) (type size : Nat) : Bool := (imgSects img).any (fun x => x.type == type && decide (size < x.dest + x.len))

/-- An item with code c. -/
def reason (c : Nat) (d : Option Nat) : Option (Nat × Nat) := d.map (fun x => (c, x))

/-- The DMA slots of the declarations, after the previous program's channels were freed; the channel that fails (R487,
R488). [DEDUCED, log entry 20] -/
def State.dmaPlace (s : State) (ds : List DmaDecl) : State × Option Nat :=
  ds.foldl (fun (sb : State × Option Nat) d =>
    match sb.2 with
    | some _ => sb
    | none =>
      if sb.1.dmaSlots d.ch ≠ 0 then (sb.1, some d.ch)
      else match sb.1.dmaDeclare d.ch d.slots d.prio d.initEn d.clat with
        | some t => (t, none)
        | none => (sb.1, some d.ch)) (s.dmaUndeclare, none)

/-- The item to report where a condition holds that has no item of its own. -/
def yes (b : Bool) : Option Nat := if b then some 0 else none

/-- Codes 1 to 5 of Table 2-6 that an image gives, with their details. -/
def State.formRefusals (s : State) (img : List Nat) : List (Option (Nat × Nat)) :=
  [reason 1 ((least (malformed img)).map (· / 16)), reason 2 (least (lacking s.variant img)),
   reason 3 (yes (overflows img 1 0x400000)), reason 4 (yes (overflows img 2 s.variant.dataSize)),
   reason 5 (yes (overflows img 3 0x200000))]

/-- The lowest context that breaks R41 or R42: WCI above 16,384, or WCC below WCI (Table 2-6). -/
def wciBad (cs : List (Nat × CtxDecl)) : Option Nat :=
  least ((cs.filter (fun c => decide (16384 < c.2.wci) || decide (c.2.wcc < c.2.wci))).map (·.1))

/-- The lowest pair whose pinned contexts exceed its ceiling. -/
def pinBad (cs : List (Nat × CtxDecl)) : Option Nat := findBelow 8 (fun p => decide (ceiling < nth (pinFit cs).load p 0))

/-- The lowest output phase whose reservations exceed 64. -/
def twBad (tws : List (Nat × TwRes)) : Option Nat :=
  ([2, 4, 6, 8, 10] : List Nat).find? (fun p =>
    decide (64 < ((tws.filter (fun t => t.2.phase == p)).map (fun t => t.2.count)).foldl (· + ·) 0))

/-- The first reservation whose target a law owns (R38). [DESIGN CHOICE, log entry 133] -/
def ownedBad (ds : List LawDecl) (tws : List (Nat × TwRes)) : Option Nat :=
  (tws.find? (fun t => ds.any (fun d => d.targets.contains t.2.target))).map (fun t => t.2.target / 4)

/-- The lane for which the image's LANEPIN section breaks R50. -/
def State.pinLaneBad (s : State) (img : List Nat) : Option Nat :=
  match (declRecs img 0x14 4).head? with | some r => s.laneBad (leAt r.2 0 4) | none => none

/-- Codes 6 to 14 of Table 2-6 that an image gives, with their details. -/
def State.fitRefusals (s : State) (img : List Nat) : List (Option (Nat × Nat)) :=
  [reason 6 (wciBad (imgCtxs img)), reason 7 (pairFit (imgCtxs img)).bad, reason 8 (pinBad (imgCtxs img)),
   reason 9 (engFit (imgLaws img)).bad, reason 0xA (phaseFit (imgLaws img)).bad, reason 0xB (twBad (imgTws img)),
   reason 0xC (ownedBad (imgLaws img) (imgTws img)), reason 0xD (s.dmaPlace ((declRecs img 0x13 8).map (fun r => parseDma r.2))).2,
   reason 0xE (s.pinLaneBad img)]

/-- The refusal of an image: the lowest code of Table 2-6 with its detail, none when it can be admitted (R58). -/
def State.refusal (s : State) (img : List Nat) : Option (Nat × Nat) :=
  (s.formRefusals img ++ s.fitRefusals img).findSome? id

/-- Placement refuses: PLC_REFUSE and a record (R55). [DEDUCED, log entry 29] -/
def State.refuse (s : State) (code detail : Nat) : State :=
  ((s.fset F.PLC_STAT_RESULT 2).rset R.PLC_REFUSE (detail % 2 ^ 24 * 256 + code)).recRule 55

/-! ### Admission (R55, R103, R105) -/

/-- A declared context in its start state (R99, R105). -/
def startCtx (d : CtxDecl) : Ctx :=
  { Ctx.blank with pc := d.entry, decl := some d, st := if d.startWait then .waiting else .ready
                   waitFlag := if d.startWait then d.startEv else 0 }

/-- A context at an admission: one declared with STARTWAIT 0 becomes READY at the next phase 0 only (R105).
[DESIGN CHOICE, log entry 143] -/
def admitCtx (d : CtxDecl) : Ctx :=
  if d.startWait then startCtx d else { startCtx d with st := .yielded }

/-- The contexts of an image as placed. -/
def placedCtxs (img : List Nat) : List Ctx :=
  let f := pairFit (imgCtxs img)
  let tws := imgTws img
  (imgCtxs img).foldl (fun l cd =>
    l.set cd.1 (admitCtx { cd.2 with
      pair := ((f.of.find? (fun x => x.1 == cd.1)).map (·.2)).getD 0
      tw := (tws.filter (fun t => t.1 == cd.1)).map (·.2) })) (List.replicate 512 Ctx.blank)

/-- A law slot with its initial values (Table 11-4). -/
def startLaw (d : LawDecl) : Law :=
  (initParams.zip d.init).foldl (fun l pv => l.setParam pv.1 pv.2) { Law.blank with decl := some d }

/-- The writes that make the laws with INITACT active, in ascending law number; of alternates the last one stands (R342). -/
def initActs (ls : List Law) : List ParamWrite :=
  ls.zipIdx.filterMap (fun ln => match ln.1.decl with
    | some d => if d.initAct then some (.lawset ln.2 60 1 0) else none
    | none => none)

/-- The laws of an image as placed; those with INITACT become active at the next phase 0, before the host writes that wait
(Table 11-4, R344). [DEDUCED, log entry 24] -/
def State.placeLaws (s : State) (img : List Nat) : State :=
  let ds := (engFit (imgLaws img)).laws
  let ls := ds.foldl (fun l d => l.set d.law (startLaw d)) (List.replicate 128 Law.blank)
  let hosts := (s.lpe.again ++ s.lpe.host).filter (fun w => match w with | .host .. => true | _ => false)
  { s.fset F.LPE_STAT_NLAW ds.length with lpe := { Lpe.blank with law := ls, ckpt := ls, again := initActs ls, host := hosts } }

/-- PLC_P_LOAD and PLC_E_LOAD. -/
def State.showLoads (s : State) (img : List Nat) : State :=
  let p := pairFit (imgCtxs img)
  let e := engFit (imgLaws img)
  let s := (List.range 8).foldl (fun s k =>
    s.rset R.PLC_P_LOAD ((p.of.filter (fun x => x.2 == k)).length * 2 ^ 16 + nth p.load k 0) k) s
  (List.range 4).foldl (fun s k => s.rset R.PLC_E_LOAD (nth e.used k 0 * 2 ^ 16 + nth e.cyc k 0) k) s

/-- Every event flag cleared and every timer stopped (R105). -/
def State.clearFlagsTimers (s : State) : State :=
  let s := (List.range 32).foldl (fun s g => s.rset R.SEQ_EV 0 g) s
  (List.range 64).foldl (fun s t => (s.rset R.SEQ_T_CTRL 0 t).rset R.SEQ_T_CNT 0 t) s

/-- The whole program admitted (R55, R105, R488). -/
def State.admission (s : State) (img : List Nat) : State :=
  let cs := placedCtxs img
  let s := s.clearFlagsTimers
  let s := { s with seq := { Seq.blank with ctx := cs, ckpt := cs, selfTest := s.seq.selfTest, subst := s.seq.subst } }
  let s := (s.placeLaws img).showLoads img
  let s := (s.dmaPlace ((declRecs img 0x13 8).map (fun r => parseDma r.2))).1
  let s := match (declRecs img 0x14 4).head? with | some r => s.setLaneMap (leAt r.2 0 4) | none => s
  let s := (s.fset F.PLC_STAT_RESULT 1).rset R.PLC_REFUSE 0
  s.setBoot { s.boot with first := true, step := .running }

/-- PROGRAM_ADMISSION: the copied image is admitted or refused; a refusal is a failed start (R55, R104, R108). -/
def execProgramAdmission (s : State) : Host.Outcome State Fault Refusal :=
  .next (
    if s.boot.step ≠ .admission then s
    else match s.refusal s.boot.image with
      | none => s.admission s.boot.image
      | some (c, d) => (s.refuse c d).failStart 1)

/-- A write of PLC_LANEMAP (R11, R50). -/
def State.lanemapWrite (s : State) (v : Nat) : State :=
  let v := bits v 27 0
  if v = s.rget R.PLC_LANEMAP then s
  else if !s.codecIdle then s.recRwi R.PLC_LANEMAP v
  else if (s.laneBad v).isSome then s.recRule 50
  else s.setLaneMap v

/-- LANEMAP_WRITE (R50). -/
def execLanemapWrite (val : Nat) (s : State) : Host.Outcome State Fault Refusal :=
  .next (if s.bivouac then s else s.lanemapWrite val)

end Sys2Proof.Machine
end

