-- ==== Sys2Proof/Machine/Pwr.lean ====
section
/-! DEFINITION. Power states, housekeeping, supply supervision and thermal limits (R533 to R555). -/

namespace Sys2Proof.Machine

/-- PWR_STAT.STATE and TARGET. -/
def State.pst (s : State) : Nat := s.fget F.PWR_STAT_STATE

/-- PWR_STAT.TARGET. -/
def State.ptgt (s : State) : Nat := s.fget F.PWR_STAT_TARGET

/-- TARGET written, with flag 921 (R535). -/
def State.setTarget (s : State) (t : Nat) : State := (s.fset F.PWR_STAT_TARGET t).setFlag 921

/-! ### NEXTEVT (R541, R599) -/

/-- PWR_NEXTEVT as a tick count. -/
def State.nextEvt (s : State) : Nat := s.rget R.PWR_NEXTEVT_LO + s.rget R.PWR_NEXTEVT_HI % 65536 * 2 ^ 32

/-- NEXTEVT written. -/
def State.putEvt (s : State) (t : Nat) : State := (s.rset R.PWR_NEXTEVT_LO (t % 2 ^ 32)).rset R.PWR_NEXTEVT_HI (t / 2 ^ 32 % 65536)

/-- A write of NEXTEVT waits for phase 0. -/
def State.postEvt (s : State) (t : Nat) : State := s.setPwr { s.pwr with nextPend := s.pwr.nextPend ++ [t % 2 ^ 48] }

/-- A write of the _LO half, kept until the _HI half is written. -/
def State.evtLoWrite (s : State) (v : Nat) : State := s.setPwr { s.pwr with nextLo := v % 2 ^ 32 }

/-- A write of the _HI half. -/
def State.evtHiWrite (s : State) (v : Nat) : State := s.postEvt (s.pwr.nextLo + v % 65536 * 2 ^ 32)

/-- NEXTEVT_WRITE of both halves (R541). -/
def execNextevtWrite (t : Nat) (s : State) : Host.Outcome State Fault Refusal :=
  .next ((s.evtLoWrite t).evtHiWrite (t / 2 ^ 32))

/-- One write of NEXTEVT at phase 0: the earlier event stands, 0 clears. -/
def State.evtApply (s : State) (t : Nat) : State :=
  if t = 0 then s.putEvt 0 else if s.nextEvt = 0 || t < s.nextEvt then s.putEvt t else s

/-- The RTC alarm as a posted event, recomputed (R599). -/
def State.rtcPost (s : State) : State :=
  let a := s.rget R.SYS_RTCALM
  let r := s.rget R.SYS_RTC
  if r < a then s.postEvt (s.tick + (a - r) * 50000) else s

/-- NEXTEVT at phase 0: writes, then its clearing when it is reached. -/
def State.evtPhase0 (s : State) : State :=
  let l := s.pwr.nextPend
  let s := l.foldl State.evtApply (s.setPwr { s.pwr with nextPend := [] })
  if s.nextEvt ≠ 0 && s.nextEvt ≤ s.tick then s.putEvt 0 else s

/-! ### Choice (R536, R538, R542) -/

/-- EXIT of a state in ms. -/
def State.exitMs (s : State) (k : Nat) : Nat := s.fget F.PWR_S_CFG_EXIT k

/-- The module may enter STANDBY or SLEEP (R536). -/
def State.quiet (s : State) : Bool :=
  (List.range 4).all (fun z => s.fget F.FUS_Z_STAT_SENT z == 0) &&
  (List.range 12).all (fun n => s.focState n == 0 || s.focState n == 6) &&
  (List.range 16).all (fun n => !s.fbit F.FOC_ST_CTRL_EN n) && (List.range 8).all (fun n => !s.fbit F.FOC_SD_CFG_EN n) &&
  (List.range 24).all (fun n => s.fget F.HVS_C_STAT_STATE n != 1 && s.fget F.HVS_C_STAT_STATE n != 2) &&
  (List.range 6).all (fun i => !s.fbit F.EXP_S_CTRL_LDEN i)

/-- SLEEP is eligible (R538). -/
def State.sleepable (s : State) : Bool :=
  s.held == 0 && (List.range 2).all (fun e => !s.fbit F.CDC_E_CTRL_EN e) && decide (s.resumeGran ≤ s.fget F.PLC_RETAIN_GRAN) &&
  ((!s.portUp 0 && !s.portUp 1) || s.fbit F.PWR_CTRL_RINGSLEEP)

/-- State k may be entered. -/
def State.eligible (s : State) (k : Nat) : Bool := k < 3 || (s.quiet && (k != 4 || s.sleepable))

/-- State k qualifies (R542), with Δ in ticks. -/
def State.qualifies (s : State) (k : Nat) : Bool :=
  let e := s.exitMs k
  let paid : Bool :=
    if s.nextEvt = 0 then true
    else
      let d : Int := (s.nextEvt : Int) - s.tick
      decide (((e + s.fget F.PWR_MARGIN_MS) * 50 : Int) ≤ d) &&
      decide ((500000 * s.fget F.PWR_S_COST_COST k : Int) <
        ((s.fget F.PWR_S_CFG_DRAW 1 : Int) - s.fget F.PWR_S_CFG_DRAW k) * (d - 50 * e))
  paid && s.eligible k

/-- DEEPEST; values outside 1 to 4 count as 1. -/
def State.deepest (s : State) : Nat :=
  let d := s.fget F.PWR_CTRL_DEEPEST
  if 1 ≤ d && d ≤ 4 then d else 1

/-- The choice of a state, in READY while TARGET equals STATE (R535, R542). [DEDUCED, log entry 109] -/
def State.stateChoice (s : State) : State :=
  if s.pst = 1 && s.ptgt = 1 then
    let k := ((List.range (s.deepest + 1)).filter (fun k => 2 ≤ k && s.qualifies k)).foldl max 1
    if k = 1 then s else (s.setTarget k).setPwr { (s.setTarget k).pwr with choiceRef := false }
  else s

/-- The millisecond of a tick: the choice falls on every 50th tick. -/
def State.choiceTick (s : State) : Bool := s.tick % 50 == 0

/-! ### Entry (R535, R538, R544) -/

/-- Cells of a memory from address lo on, n bytes, moved to base. -/
def shiftCells (m : List Host.Cell) (lo n base : Nat) : List Host.Cell :=
  (m.filter (fun c => lo ≤ c.1 && c.1 < lo + n)).map (fun c => (base + (c.1 - lo), c.2))

/-- The cells of a list of bytes from an address on. -/
def byteCells (base : Nat) (bs : List Nat) : List Host.Cell :=
  (bs.zipIdx.filter (fun bi => bi.1 % 256 != 0)).map (fun bi => (base + bi.2, BitVec.ofNat 8 bi.1))

/-- The header of the resume image (Table 19-7): MAGIC, FMTVER, tick count, PCYC, BUILD and length in this order, and in the
last four bytes the CRC, which covers an internal layout. [DEDUCED, log entry 111] -/
def State.resumeHeader (s : State) : List Nat :=
  let h := leBytes 4 0x4D535259 ++ leBytes 2 1 ++ leBytes 6 s.tick ++ leBytes 4 (s.rget R.SYS_PCYC) ++
    leBytes 4 (leAt s.boot.image 0x18 4) ++ leBytes 4 (s.resumeGran * 65536)
  h ++ List.replicate (65532 - h.length) 0 ++ leBytes 4 (Config.freeWord s.free)

/-- The cells of the resume image from address a on (Table 19-7). -/
def State.resumeCells (s : State) (a : Nat) : List Host.Cell :=
  byteCells a s.resumeHeader ++ shiftCells s.prog 0 0x400000 (a + 0x10000) ++ shiftCells s.data 0 0x400000 (a + 0x410000) ++
  shiftCells s.table 0 0x200000 (a + 0x810000) ++
  (s.seq.ctx.zipIdx.map (fun xc => shiftCells xc.1.loc 0 1024 (a + 0xA10000 + 1024 * xc.2))).flatten ++
  byteCells (a + 0xA90000) ((List.range 0x170000).map (fun i => Config.freeWord (s.free + 1 + i))) ++
  (if s.variant.isX0 then shiftCells s.data 0x400000 0x3000000 (a + 0xC00000) else [])

/-- The resume image written into the resume area, at the end of the retained region (R538). -/
def State.writeResume (s : State) : State :=
  let a := (s.fget F.PLC_RETAIN_GRAN - s.resumeGran) * 65536
  { s with dram := s.dram.filter (fun c => c.1 < a) ++ s.resumeCells a, free := s.free + 1 + 0x170000 }

/-- Registers that outlive SLEEP: of the blocks in the resume image or the standby island, and what Basecamp and NVM keep
(R538, R540). -/
def sleepReg (a : Nat) : Bool :=
  [0x0, 0x1, 0x2, 0x3, 0xA, 0x13].contains (a / 65536) || basecampReg a ||
  a == R.CAL_SET.addr 0 0 ||
  (List.range 64).any (fun c => a == R.DMA_C_CFG.addr c 0 || a == R.DMA_C_SLOT.addr c 0)

/-- The core die goes off but for its standby island: what the resume image does not hold is lost (R538, R540).
[DEDUCED, log entry 112] -/
def State.sleepLoss (s : State) : State :=
  let z := State.initial s.variant
  let t := { s with
    regs := keepRegs sleepReg z.regs s.regs
    msixTab := msixReset, msixPend := [], msixEn := false
    rcd := { z.rcd with gen := s.rcd.gen, sec := s.rcd.sec, bank := s.rcd.bank }
    fmt := { z.fmt with seqNo := s.fmt.seqNo }
    sec := { z.sec with sealFail := s.sec.sealFail, sealGood := s.sec.sealGood, sealNote := s.sec.sealNote,
                        strap := s.sec.strap }
    cdc := z.cdc, img := { z.img with ilkSince := s.img.ilkSince }, dramCh := z.dramCh, dma := z.dma, dmaShare := 0, motion := z.motion, cal := z.cal
    power := { z.power with mns := s.power.mns }
    ring := z.ring, iox := z.iox }
  (t.resetViews (s.fget F.REC_STAT_LOGMEM_FAIL)).setLaneMap (s.rget R.PLC_LANEMAP)

/-- Entry of SLEEP (R483, R538, Table 19-1). -/
def State.enterSleep (s : State) : State :=
  let s := s.linkDown.recFlush.writeResume.drcSleep.sleepLoss
  { s.setPwr { s.pwr with asleep := true } with pins := { s.pins with mainps := false } }

/-- Entry of STANDBY (R482, R537). -/
def State.enterStandby (s : State) : State := s.drcStandby.setPwr { s.pwr with sbTick := 0 }

/-- The franking batch that an entry waits for (R572). -/
def State.entryBatch (s : State) : State :=
  let s := if s.fbit F.SEC_STAT_FRKLOCK then s else s.batchWrite
  if s.fbit F.SEC_STAT_FRKLOCK then s else s.batchStart.batchWrite

/-- A franking batch stands in the way of an entry (R549, R572). -/
def State.entryWaits (s : State) : Bool :=
  s.nvmHold && (!s.sec.batch.isEmpty || s.nvm.frank.any (fun x => x.pend != 0))

/-- A write of PWR_ACK waits for phase 0; a value other than TARGET is ignored (R535). -/
def State.ackWrite (s : State) (v : Nat) : State :=
  if v % 8 = s.ptgt then s.setPwr { s.pwr with ackPend := some (v % 8) } else s

/-- PWR_ACK (R535). -/
def execPwrAck (code : Nat) (s : State) : Host.Outcome State Fault Refusal := .next (s.ackWrite code)

/-- The acknowledged state is entered at phase 0, or refused (R535, R536). -/
def State.ackPhase0 (s : State) : State :=
  match s.pwr.ackPend with
  | none => s
  | some v =>
    if v ≠ s.ptgt || v = s.pst then s.setPwr { s.pwr with ackPend := none }
    else if v < 3 then (s.setPwr { s.pwr with ackPend := none }).fset F.PWR_STAT_STATE v
    else if !s.eligible v then
      let told := s.pwr.choiceRef
      let s := (s.setPwr { s.pwr with ackPend := none, choiceRef := true }).fset F.PWR_STAT_ENTREF 1
      if told then s else s.recRule 536
    else if s.entryWaits then s
    else
      let s := (s.setPwr { s.pwr with ackPend := none }).entryBatch.fset F.PWR_STAT_STATE v
      if v = 3 then s.enterStandby else s.enterSleep

/-! ### Exit (R543 to R545) -/

/-- Wake condition 1 at a tick: it has reached NEXTEVT − (EXIT + MARGIN) × 50. -/
def State.wakeDue (s : State) (tick : Nat) : Bool :=
  s.nextEvt != 0 && decide (s.nextEvt ≤ tick + (s.exitMs s.pst + s.fget F.PWR_MARGIN_MS) * 50)

/-- WAKE by condition c of Table 19-2; PWR_WAKE_N counts once it has been low for 1 ms, 50 ticks (R543). -/
def execWake (c low : Nat) (s : State) : Host.Outcome State Fault Refusal :=
  .next (if c = 1 then (if s.boundary && s.wakeDue (s.tick + 1) then s.wakeBy 1 else s)
    else if c = 4 && low < 50 then s
    else s.wakeBy c)

/-- The exit to READY begins (R543, R545). -/
def State.exitBy (s : State) (c : Nat) : State :=
  let st := s.pst
  let s := s.fset F.PWR_STAT_WAKE c
  if st = 4 then
    let s := { s.fset F.PWR_STAT_TARGET 1 with pins := { s.pins with mainps := true } }
    (List.range 4).foldl State.trainStart s
  else if st = 3 then s.drcWake.setTarget 1
  else s.setTarget 1

/-- Wakes at phase 0; one that arose during an entry is served once the entry has completed (R544). -/
def State.wakePhase0 (s : State) : State :=
  if s.entering then s
  else
    let s := if s.wakeDue s.tick then s.wakeBy 1 else s
    match s.pwr.wakePend with
    | none => s
    | some c =>
      let s := s.setPwr { s.pwr with wakePend := none }
      if s.wakeOk c then s.exitBy c else s

/-- SLEEP_RESUME: after training, the image's CRC matches and everything it holds is restored, or a full start follows with
source RESUME; the calibration set BOOT is applied again (R323, R545, R603, Table 22-1). -/
def execSleepResume (ok : Bool) (s : State) : Host.Outcome State Fault Refusal :=
  .next (
    if !s.pwr.asleep || s.ptgt ≠ 1 || s.fget F.DRC_C_STAT_STATE 0 ≠ 3 ||
        (List.range s.variant.drch).any (fun c => s.fget F.DRC_C_STAT_STATE c == 2) then s
    else if ok then
      let s := s.setPwr { s.pwr with asleep := false }
      let b := s.fget F.CAL_SET_BOOT
      let s := if b < 4 && (s.nvm.calSet b).isSome then s.calApply b else s
      (s.setBoot { s.boot with wdog := max (s.fget F.SYS_WDOG_TMO) 1 + 1 }).setFlag 921
    else (s.start 7).setTarget 1)

/-! ### Heartbeat (R537) -/

/-- The wake tick of a context is reached at a tick (R135). -/
def Ctx.reached (x : Ctx) (tick : Nat) : Bool := (tick % 2 ^ 32 + 2 ^ 32 - x.wake % 2 ^ 32) % 2 ^ 32 < 2 ^ 31

/-- A context sleeps, or waits with a timeout, and its wake tick is reached at a tick. -/
def Ctx.wakes (x : Ctx) (tick : Nat) : Bool := (x.st == .sleeping || x.st == .waiting && x.waitTimed) && x.reached tick

/-- A context begins a tick: what yielded, was pre-empted or has its wake tick reached is READY, with its budget, activations,
reservations and limits fresh (R70, R74, R129, R144). -/
def Ctx.beginTick (x : Ctx) (tick : Nat) : Ctx :=
  let x := if x.wakes tick || x.st == .waiting && x.expired then x.wakeUp true else x
  let x := { x with
    budget := match x.decl with | some d => d.wcc | none => 0
    twUsed := match x.decl with | some d => List.replicate d.tw.length 0 | none => []
    acts := 0, nMsg := 0, nDma := 0, nLaw := 0, nRec := 0, overran := false, spent := 0 }
  match x.st with
  | .yielded | .preempted => { x with st := .ready }
  | _ => x

/-- The heartbeat tick: of all contexts only HBCTX begins the tick and is dispatched. -/
def State.heartbeat (s : State) : State :=
  if s.gated && s.pwr.sbTick = 50 then
    let s := s.setPwr { s.pwr with sbTick := 51 }
    let c := s.fget F.PWR_CTRL_HBCTX
    let s := s.setCtx c ((s.ctx c).beginTick s.tick)
    s.dispatch (s.ctx c).pair
  else s

/-- HEARTBEAT_TICK at phase 0 of the 50th tick (R537). -/
def execHeartbeatTick (s : State) : Host.Outcome State Fault Refusal := .next (if s.phase = 0 then s.heartbeat else s)

/-- The count of the heartbeat at phase 0. -/
def State.heartbeatCount (s : State) : State :=
  if s.gated then s.setPwr { s.pwr with sbTick := if 50 ≤ s.pwr.sbTick then 1 else s.pwr.sbTick + 1 } else s

/-! ### Housekeeping (R546, R547, R554) -/

/-- HOUSEKEEPING_SAMPLE: channel i reads v, or fails its self-check; latched at the next phase 0. The mains section
takes channels 3, 23 and 24 for its next return frame; on L variants they read 0 (R393, R546). -/
def execHousekeepingSample (i : Nat) (v : Int) (ok : Bool) (s : State) : Host.Outcome State Fault Refusal :=
  .next (
    let line := i = 3 ∨ i = 23 ∨ i = 24
    if 32 ≤ i then s
    else if line ∧ s.variant.mains then
      let m := s.power.mns
      { s with power := { s.power with mns := { m with hk := m.hk.filter (fun r => r.1 != i) ++ [(i, unsign 16 v, ok)] } } }
    else s.setPwr { s.pwr with hkPend := s.pwr.hkPend ++ [(i, unsign 16 (if line then 0 else v), ok || line)] })

/-- What follows from a good reading of channel i. -/
def State.hkEffect (s : State) (i : Nat) (t : Int) : State :=
  if i = 21 then s.fset F.PWR_SUP_VBATLOW (bit (decide (t < 1800)))
  else if 4 ≤ i && i ≤ 9 && i - 4 < s.variant.stn then
    let hot := s.pwr.gapHot.filter (· != i)
    let was := s.pwr.gapHot.contains i
    (s.setPwr { s.pwr with gapHot := if 1072 ≤ t || (was && 1024 ≤ t) then i :: hot else hot }).headTemp (i - 4) t
  else s

/-- One reading at phase 0 (R547). [DEDUCED, log entry 113] -/
def State.hkLatch (s : State) (r : Nat × Nat × Bool) : State :=
  let (i, v, ok) := r
  let t := signed 16 v
  let stale := s.fbit F.PWR_HK_VAL_STALE i
  if ok && signed 16 (s.fget F.PWR_HK_LIM_LO i) ≤ t && t ≤ signed 16 (s.fget F.PWR_HK_LIM_HI i) then
    let n := nth s.pwr.hkGood i 0 + 1
    let s := s.fset F.PWR_HK_VAL_VALUE v i
    let s := if stale then s.setPwr { s.pwr with hkGood := s.pwr.hkGood.set i n } else s
    (if stale && 16 ≤ n then s.fset F.PWR_HK_VAL_STALE 0 i else s).hkEffect i t
  else
    let s := s.setPwr { s.pwr with hkGood := s.pwr.hkGood.set i 0 }
    if stale then s else (((s.fset F.PWR_HK_VAL_STALE 1 i).setFlag 924).recRule 547).absorb F.SYS_ABS1_HKSTALE

/-- An NVM hold has ended: what waited goes on (R549, R565, R585). -/
def State.holdOver (s : State) : State := if s.nvmHold then s else s.recHeld.secAfterHold

/-- The NVM temperature window at phase 0 (R554). -/
def State.nvmTemp (s : State) : State :=
  let t := signed 16 (s.fget F.PWR_HK_VAL_VALUE 2)
  if s.pwr.holdTemp then
    (if -368 ≤ t && t ≤ 1648 then (s.setPwr { s.pwr with holdTemp := false }).holdOver else s)
  else if t < -400 || 1680 < t then s.setPwr { s.pwr with holdTemp := true } else s

/-- The readings that wait are latched at phase 0. -/
def State.hkPhase0 (s : State) : State :=
  let l := s.pwr.hkPend
  (l.foldl State.hkLatch (s.setPwr { s.pwr with hkPend := [] })).nvmTemp

/-! ### Supplies (R548 to R550, R573) -/

/-- PWR_SUP.WARN changes: flag 922 and vector 22 (R549, R555). -/
def State.setWarn (s : State) (w : Nat) : State :=
  if s.fget F.PWR_SUP_WARN = w then s else ((s.fset F.PWR_SUP_WARN w).setFlag 922).raise 22

/-- The pending franking amounts by counter, those of a batch among them. [DEDUCED, log entry 114] -/
def State.frkAmounts (s : State) : List (Nat × Nat) :=
  ((List.range 16).map (fun k => (k, s.frankVal k - (s.frank k).committed))).filter (fun ka => ka.2 != 0)

/-- SUPPLY_WARNING: a rail, in the order of R548, has read `dev` per mille off its nominal value for ns nanoseconds. From −4 % on it is
at warning level: NVM writes are held, the pending franking amounts go to Basecamp; above it has left that level, and the hold stays
(R548, R549, R573). -/
def execSupplyWarning (rail : Nat) (dev : Int) (ns : Nat) (s : State) : Host.Outcome State Fault Refusal :=
  .next (
    if 7 ≤ rail || !s.ticking || ns < 1000 then s
    else if -40 < dev then s.setWarn (s.fget F.PWR_SUP_WARN - bit ((s.fget F.PWR_SUP_WARN).testBit rail) * 2 ^ rail)
    else
      let s := (s.setWarn (s.fget F.PWR_SUP_WARN ||| 2 ^ rail)).setPwr
        { (s.setWarn (s.fget F.PWR_SUP_WARN ||| 2 ^ rail)).pwr with holdSup := true }
      s.setBoot { s.boot with frkHeld := s.frkAmounts })

/-- SUPPLY_RECOVERY: the lowest rail has been `dev` per mille off its nominal value or higher for us microseconds; above −3 % for 1 ms
the held writes follow in order (R549). -/
def execSupplyRecovery (dev : Int) (us : Nat) (s : State) : Host.Outcome State Fault Refusal :=
  .next (
    if !s.pwr.holdSup || dev ≤ -30 || us < 1000 then s
    else
      let s := (s.setWarn 0).setBoot { (s.setWarn 0).boot with frkHeld := [] }
      (s.setPwr { s.pwr with holdSup := false }).holdOver)

/-- SUPPLY_RESET: a rail has read `dev` per mille off its nominal value for ns nanoseconds. At −8 % or above +8 % the page is abandoned
with cause 4, rail and postmark go to Basecamp, the bank takes the record, and the module starts with source SUPPLY (R548, R550, R591,
R596). -/
def execSupplyReset (rail : Nat) (dev : Int) (ns : Nat) (s : State) : Host.Outcome State Fault Refusal :=
  .next (
    if 7 ≤ rail || s.boot.step = .off || ns < 1000 || (-80 < dev && dev ≤ 80) then s
    else
      let s := (s.abandonPage 4).setPwr { (s.abandonPage 4).pwr with lastRail := rail, lastRailPm := s.postmarkNow }
      (s.lastGasp (0x6000 + 550) []).start 3)

/-- VSTBY_LOSS: the module falls into BASECAMP; without VBAT Basecamp returns to its reset values (R534, R598, R631). -/
def execVstbyLoss (vbat : Bool) (s : State) : Host.Outcome State Fault Refusal :=
  .next (
    let s := s.coreReset
    let s := s.fset F.PWR_STAT_STATE 5
    let s := { s with pins := { s.pins with vstby := false, mainps := false } }
    if vbat then s
    else
      let z := State.initial s.variant
      let s := s.setRcd { s.rcd with bank := [] }
      let s := { s with regs := keepRegs (fun a => !(basecampReg a) || a == R.REC_NEXTSEQ.addr 0 0) z.regs s.regs
                        sec := { s.sec with sealFail := 0, sealGood := 0, sealNote := false }
                        pwr := { s.pwr with lastRail := 0, lastRailPm := [] } }
      (s.setBoot { s.boot with fscnt := 0, frkHeld := [] }).resetViews 0)

/-! ### Throttling (R551 to R553) -/

/-- The throttle level that follows a level at Tj in 1/16 °C, with a THRCLR or without (Table 19-4). -/
def thrNext (cur : Nat) (t : Int) (clr : Bool) : Nat :=
  let warn := if 1712 ≤ t then 1 else 0
  if cur = 3 && !clr then 3
  else if 2000 ≤ t then 3
  else if cur = 2 then (if 1760 ≤ t then 2 else warn)
  else if 1840 ≤ t then 2
  else if cur = 1 then warn
  else if 1760 ≤ t then 1 else 0

/-- Tj, housekeeping channel 0. -/
def State.tj (s : State) : Int := signed 16 (s.fget F.PWR_HK_VAL_VALUE 0)

/-- A write of THRCLR: only in STOP and below 105 °C; it leaves STOP at the next phase 0 (R553, Table 19-4). -/
def State.thrClr (s : State) : State :=
  if s.fget F.PWR_STAT_THR = 3 && s.tj < 1680 then s.setPwr { s.pwr with thrClr := true } else s.recRule 553 [2]

/-- THRCLR (R553). -/
def execThrclr (s : State) : Host.Outcome State Fault Refusal := .next s.thrClr

/-- The throttle level at phase 0 (R551). -/
def State.thrPhase0 (s : State) : State :=
  let cur := s.fget F.PWR_STAT_THR
  let n := thrNext cur s.tj s.pwr.thrClr
  let s := s.setPwr { s.pwr with thrClr := false, stopDone := s.pwr.stopDone && n == 3 }
  if n = cur then s else (((s.fset F.PWR_STAT_THR n).setFlag 923).raise 22).recRule 551

/-- STOP, from the completion point of the page IMAGING or at once: every power output in its reset state, and the stop
recorded (R553). -/
def State.stopPhase0 (s : State) : State :=
  if s.fget F.PWR_STAT_THR = 3 && !s.pwr.stopDone && !s.anyImaging then
    (s.resetOutputs.setPwr { s.resetOutputs.pwr with stopDone := true }).recRule 553 [1]
  else s

/-- While STOP has been carried out no class is allowed (R553). -/
def State.stopClass (s : State) : State :=
  if s.pwr.stopDone then ((s.fset F.PLC_MAXCLASS_CLASS 0).fset F.PLC_MAXCLASS_BYMAINS 0).fset F.PLC_MAXCLASS_BYFLICK 0 else s

/-! ### Page gaps (R175, R529, R552) -/

/-- The largest of two requests. -/
def maxReq (a b : Option Nat) : Nat := max (a.getD 0) (b.getD 0)

/-- FMT_GAPREQ.REQ becomes r (R175). -/
def State.putReq (s : State) (r : Nat) : State :=
  let old := s.fget F.FMT_GAPREQ_REQ
  if r = old then s
  else
    let s := s.fset F.FMT_GAPREQ_REQ r
    let s :=
      if old < r then
        let s := (s.fset F.FMT_GAPREQ_PEND 1).fset F.FMT_GAPGRACE_TICKS (s.fget F.PWR_THR_GRACE * 500)
        (s.raise 4).setFlag 770
      else s.fset F.FMT_GAP_FLOOR (min (s.fget F.FMT_GAP_FLOOR) r)
    s.gapBroadcast

/-- The sources of the gap request at phase 0: the die at level GAP, and a hot printhead (R552). -/
def State.gapPhase0 (s : State) : State :=
  let gap := s.fget F.PWR_THR_GAP
  let keep (on : Bool) (was : Option Nat) : Option Nat := if on then was.or (some gap) else none
  let s := { s with fmt := { s.fmt with
    gapDie := keep (s.fget F.PWR_STAT_THR == 2) s.fmt.gapDie
    gapHead := keep (!s.pwr.gapHot.isEmpty) s.fmt.gapHead } }
  s.putReq (maxReq s.fmt.gapDie s.fmt.gapHead)

/-- The grace of a pending request counts down at phase 0 (R175). -/
def State.gracePhase0 (s : State) : State :=
  if s.fbit F.FMT_GAPREQ_PEND then
    let n := s.fget F.FMT_GAPGRACE_TICKS
    if n ≤ 1 then s.gapAccept else s.fset F.FMT_GAPGRACE_TICKS (n - 1)
  else s

/-! ### RUN and READY (R534) -/

/-- RUN and READY at phase 0. -/
def State.runPhase0 (s : State) : State :=
  let busy := s.pageBusy || !s.fmt.queue.isEmpty
  if s.pst = 1 && busy then (s.fset F.PWR_STAT_STATE 0).fset F.PWR_STAT_TARGET 0
  else if s.pst = 0 && !busy then (s.fset F.PWR_STAT_STATE 1).fset F.PWR_STAT_TARGET 1
  else s

/-- Power states at phase 0: posted events, RUN and READY, acknowledgements, wakes, and the choice of the millisecond. -/
def State.pwrPhase0 (s : State) : State :=
  let s := s.evtPhase0.runPhase0.ackPhase0.wakePhase0
  if s.choiceTick && s.running then s.stateChoice else s

end Sys2Proof.Machine
end

