-- ==== Sys2Proof/Machine/Boot.lean ====
section
/-! DEFINITION. The start sequence, Bivouac mode, the watchdog, failed starts, SRAM errors and the Basecamp clock (R566, R575,
R584, R592, R596 to R610). -/

namespace Sys2Proof.Machine

/-! ### Sources -/

/-- The level of SVC_STRAP at the release of reset (R621). [DEDUCED, log entry 33] -/
def State.withStrap (s : State) (strap : Bool) : State := { s with pins := { s.pins with svcStrap := strap } }

/-- POWER_RELEASE: source POWER, from BASECAMP (R596, R629). [DESIGN CHOICE, log entry 6] -/
def execPowerRelease (strap : Bool) (s : State) : Host.Outcome State Fault Refusal :=
  .next (if s.boot.step = .off then { s.withStrap strap with pins := { (s.withStrap strap).pins with vstby := true } }.start 1
    else s)

/-- RESET_PIN: RESET_N is released after ns nanoseconds low; from 1 µs on it is source PIN (R596). -/
def execResetPin (strap : Bool) (ns : Nat) (s : State) : Host.Outcome State Fault Refusal :=
  .next (if s.boot.step = .off || ns < 1000 then s else (s.withStrap strap).start 2)

/-- SWRST: source SOFT (R596). -/
def execSwrst (s : State) : Host.Outcome State Fault Refusal := .next (if s.ticking then s.start 5 else s)

/-- START_RETRY: source RETRY, after a failed start and us microseconds in reset, of which 1 ms are due (R605). -/
def execStartRetry (us : Nat) (s : State) : Host.Outcome State Fault Refusal :=
  .next (if s.boot.step = .held && 1000 ≤ us then s.start 6 else s)

/-! ### Lock -/

/-- A copy of a franking record is valid: MAGIC, DEVID and the signature (R575). -/
def State.frkCopyOk (s : State) (b : List Nat) : Bool :=
  leAt b 0 4 == 0x4B524659 && slice b 48 48 == slice s.devid 0 48 &&
    Config.ecdsaOk (s.nvm.idPub.getD []) (Config.sha384 (slice b 0 96)) (slice b 96 96)

/-- Counter k takes NEW of its valid copy with the higher RSEQ, or is BAD (R570, R575). -/
def State.frkVerify (s : State) (k : Nat) : State :=
  let x := s.frank k
  let good := [x.copyA, x.copyB].filter s.frkCopyOk
  match good with
  | [] => s.putFrank k { x with bad := true, committed := 0 }
  | b :: r =>
    let b := r.foldl (fun b c => if leAt b 0x18 4 < leAt c 0x18 4 then c else b) b
    s.putFrank k { x with bad := false, committed := bits (leAt b 0x10 8) 47 0 }

/-- Bivouac mode; no channel of the DRAM is trained (R484, R606). -/
def State.enterBivouac (s : State) : State :=
  let s := (s.fset F.SEQ_STAT_MODE 4).fset F.SYS_START_STATE 2
  let s := (List.range s.variant.drch).foldl (fun s c => s.fset F.DRC_C_STAT_STATE 1 c) s
  ((s.record 0x0011 [s.rget R.SYS_BIVC]).raise 25).setBoot { s.boot with step := .bivouac }

/-- The image step begins: the image is to be copied and checked. -/
def State.imageStep (s : State) : State :=
  (s.fset F.SEQ_STAT_MODE 1).setBoot { s.boot with step := .image, stepAt := s.elapsed }

/-- Phase 0 of tick 0, with the PLLs locked to the reference or, in Bivouac mode without it, from the internal oscillator (R270, R600,
R606): the recorder's scan and bank, the franking records, and Bivouac mode or the next steps (R575, R584, R592). -/
def State.lock (s : State) (us : Nat) (pll : Bool) : State :=
  let s := s.setBoot { s.boot with lockUs := us }
  let s := ((s.fset F.TCK_STAT_LOCK (bit pll)).fset F.CLK_STAT_CORELOCK (bit pll)).fset F.CLK_STAT_REFOK (bit pll)
  let s := { s with tick := 0, elapsed := 0, phase := 0, committed := false }
  let s := s.bankStart
  let s := (List.range 16).foldl State.frkVerify s
  if 3 ≤ s.boot.fscnt then s.enterBivouac.sealReport
  else ((List.range 4).foldl State.trainStart s.imageStep).sealReport.rtcPost

/-- No lock by 10 ms: the start fails with CLOCK, but with FSCNT of 3 or more Bivouac mode runs without the reference (R600, R606, Table
22-3). [DEDUCED, log entry 25] -/
def State.clockLate (s : State) : State :=
  if 3 ≤ s.boot.fscnt then s.lock 10000 false else (s.setBoot { s.boot with lockUs := 10000 }).failStart 7

/-- PLL_LOCK, us microseconds after the release: within 10 ms, or too late (R600). -/
def execPllLock (us : Nat) (s : State) : Host.Outcome State Fault Refusal :=
  .next (
    if s.boot.step ≠ .locking then s
    else if us ≤ 10000 then s.lock us true
    else s.clockLate)

/-! ### Image and identity -/

/-- The identity key pair is generated at a start that finds none (R566). -/
def State.makeIdentity (s : State) : State :=
  match s.nvm.idPub with
  | some _ => s
  | none => (s.nextFree.setNvm { s.nvm with idPub := some (slice (Config.identityKey s.free) 0 96) }).recRule 566

/-- The image in the active slot. -/
def State.activeImage (s : State) : List Nat := if s.nvm.active = 1 then s.nvm.slot1 else s.nvm.slot0

/-- The active image is checked and copied, or the start fails with IMAGE (R103, R104, R643). -/
def State.imageVerified (s : State) : State :=
  let img := s.activeImage
  if s.imageErr img none ≠ 0 then s.failStart 0
  else
    let s := (s.copyImage img).makeIdentity
    let s := (s.fset F.SEQ_STAT_MODE 2).fset F.PLC_STAT_RESULT 3
    s.setBoot { s.boot with step := .admission, stepAt := s.elapsed }

/-- IMAGE_VERIFIED (R103). -/
def execImageVerified (s : State) : Host.Outcome State Fault Refusal :=
  .next (if s.boot.step = .image then s.imageVerified else s)

/-! ### Late steps (R600, R602) -/

/-- A step that is not complete at a tick overruns: the cause bits of Table 22-3 for DRAM training, the image with the 300 ms
of a new identity key, and admission (Table 22-2). -/
def State.stepLate (s : State) (cause tick : Nat) : Bool :=
  match cause with
  | 0 => s.boot.step == .image && decide (s.boot.stepAt + 20000 + (if s.nvm.idPub.isNone then 15000 else 0) ≤ tick)
  | 1 => s.boot.step == .admission && decide (s.boot.stepAt + 2500 ≤ tick)
  | 2 => !s.boot.ready && (s.boot.step == .image || s.boot.step == .admission || s.boot.step == .running) && decide (1500 ≤ tick) &&
      (List.range s.variant.drch).any (fun c => s.fget F.DRC_C_STAT_STATE c == 2)
  | _ => false

/-- The start budget has expired at a tick (R602). -/
def State.budgetOver (s : State) (tick : Nat) : Bool :=
  !s.boot.ready && (s.boot.step == .image || s.boot.step == .admission || s.boot.step == .running) &&
    decide (max (s.fget F.SYS_BCCFG_SBUDGET) 1 * 100000 ≤ s.boot.lockUs + 20 * tick)

/-- A populated channel has failed its training before program READY (Table 22-3). [DEDUCED, log entry 122] -/
def State.dramFailed (s : State) : Bool :=
  !s.boot.ready && (s.boot.step == .image || s.boot.step == .admission || s.boot.step == .running) &&
    (List.range s.variant.drch).any (fun c => s.fget F.DRC_C_STAT_STATE c == 7)

/-- DRAM_TRAINING: the channel is ready, or it has FAILED, which before program READY is a failed start (R465, R466, R605). -/
def execDramTraining (c : Nat) (tries : List TrainTry) (ranks dens : Nat) (bits bytes : List Nat) (s : State) :
    Host.Outcome State Fault Refusal :=
  .next (let t := s.trained c tries ranks dens bits bytes
         if t.dramFailed then t.failStart 2 else t)

/-! ### Watchdog (R603) -/

/-- Watchdog timeout in ticks; 0 is treated as 1. -/
def State.wdogTmo (s : State) : Nat := max (s.fget F.SYS_WDOG_TMO) 1

/-- The watchdog has reached 0: a failed start before program READY, and after it a start with source WDOG and the record
0x0013 of the moment of expiry (R603, Table 22-7). [DEDUCED, log entry 31] -/
def State.wdogExpire (s : State) : State :=
  if !s.boot.ready then (s.setBoot { s.boot with wdog := 0 }).failStart 4
  else
    let r : Rec := { code := 0x0013, flags := 0, origin := 0xFFFF, rseq := 0, pcyc := s.rget R.SYS_PCYC
                     opsec := s.rget R.SYS_OPSEC, tick := s.tick, phase := s.phase, pflags := s.fget F.TCK_STAT_RINGSYNC
                     payload := [s.fget F.SYS_WDOG_TMO], snap := [], snapOf := none }
    (s.start 4).pushRec r

/-- The watchdog counts at this phase 0. -/
def State.wdogRuns (s : State) : Bool := s.running && !s.boot.first && !s.pwr.asleep

/-- The watchdog at phase 0. -/
def State.wdogPhase0 (s : State) : State :=
  if !s.wdogRuns then s
  else if s.boot.wdog ≤ 1 then s.wdogExpire
  else s.setBoot { s.boot with wdog := s.boot.wdog - 1 }

/-- A KICK that takes effect (R603). -/
def State.kick (s : State) : State := if s.running && !s.boot.first then s.setBoot { s.boot with wdog := s.wdogTmo } else s

/-- KICK (R603). -/
def execKick (s : State) : Host.Outcome State Fault Refusal := .next s.kick

/-! ### The first phase 0 after an admission -/

/-- The franking amounts that Basecamp held are written as a batch; what a counter without a valid record holds stays in
Basecamp (R573, R575). -/
def State.frkRestore (s : State) : State :=
  let ok := s.boot.frkHeld.filter (fun ka => !(s.frank ka.1).bad)
  if ok.isEmpty then s
  else
    let s := s.setBoot { s.boot with frkHeld := s.boot.frkHeld.filter (fun ka => (s.frank ka.1).bad) }
    let s := s.setSec { s.sec with batch := s.sec.batch ++ ok }
    if s.nvmHold then s else s.batchWrite

/-- The first phase 0 after an admission: the program runs, the watchdog starts, set BOOT is applied and the held franking
amounts are written (R323, R573, R600, R603). [DEDUCED, log entry 77] -/
def State.firstPhase0 (s : State) : State :=
  if !s.boot.first then s
  else
    let s := (s.setBoot { s.boot with first := false, wdog := s.wdogTmo }).fset F.SEQ_STAT_MODE 3
    let b := s.fget F.CAL_SET_BOOT
    let s := if b < 4 && (s.nvm.calSet b).isSome then s.calApply b else s
    s.frkRestore

/-! ### Program READY (R601) -/

/-- SYS_START.READY written by the engine program (R565, R601). -/
def State.declareReady (s : State) : State :=
  if s.boot.ready then s.recRule 601
  else if !s.running then s
  else
    let ms := s.startMs
    let s := (s.fset F.SYS_START_STATE 1).fset F.SYS_START_MS (min ms 32767)
    let s := (s.setBoot { s.boot with ready := true, fscnt := 0 }).rset R.SYS_BIVC 0
    (s.raiseMinver (imgSecver s.boot.image - s.nvm.rollwin)).record 0x0012 [ms]

/-- READY (R601). -/
def execReady (s : State) : Host.Outcome State Fault Refusal := .next s.declareReady

/-! ### SYS_CTRL -/

/-- SYS_CTRL.BIVTRY: in Bivouac mode and under presence the next start is a normal attempt (R608). -/
def State.bivtry (s : State) : State :=
  if !s.presence then s.recRwp (R.SYS_CTRL.addr 0 0) 2
  else if s.bivouac then s.setBoot { s.boot with fscnt := 2 }
  else s

/-- BIVTRY (R608). -/
def execBivtry (s : State) : Host.Outcome State Fault Refusal := .next s.bivtry

/-! ### SRAM errors (R13, R609) -/

/-- Inbox data of window w is lost: the block that it belongs to is invalid (R161, R609). -/
def State.inboxSram (s : State) (w : Nat) : State :=
  match (s.win w).slot with
  | none => s
  | some i =>
    match (s.slotEnv i).bind (fun e => e.blkAt ((s.win w).ack - 1)) with
    | some b => (s.modBlk i b.stn b.idx (fun t => { t with invalid := true, checked := true })).blkBad w b
    | none => s

/-- The effect of an uncorrectable error in its region (Table 22-5). [DEDUCED, log entry 26] -/
def State.sramEffect (s : State) (region unit item : Nat) : State :=
  match region with
  | 0 => s.setStn unit { s.stn unit with holes := (s.stn unit).holes.map (fun p =>
      if p.no = item then { p with valid := false, lost := true } else p) }
  | 1 => s.laneFault unit
  | 2 => s.chunkSram unit
  | 3 => if unit = 0 then s.crcErr item else if unit = 1 then s.inboxSram item else s
  | _ => s.setBoot { s.boot with sramBad := s.boot.sramBad.or (some region) }

/-- SRAM_UNCORRECTABLE: the record 0x0031 and the region's effect; from region 4 on the module stops at phase 15 (R609,
R610). -/
def execSramUncorrectable (region word unit item : Nat) (s : State) : Host.Outcome State Fault Refusal :=
  .next (if 9 < region || !s.ticking then s else (s.record 0x0031 [region, word]).sramEffect region unit item)

/-- SRAM_SINGLE_BIT (R13, R611). -/
def execSramSingleBit (s : State) : Host.Outcome State Fault Refusal := .next (if s.ticking then s.absorb F.SYS_ABS0_SRAMCE else s)

/-! ### The clock of Basecamp (R598, R599) -/

/-- RTC_WRITE: either register is written, and the alarm's posted event is recomputed (R599). -/
def State.rtcWrite (s : State) (alarm : Bool) (v : Nat) : State :=
  (if alarm then s.rset R.SYS_RTCALM v else s.rset R.SYS_RTC v).rtcPost

/-- RTC_WRITE (R599). -/
def execRtcWrite (alarm : Bool) (val : Nat) (s : State) : Host.Outcome State Fault Refusal := .next (s.rtcWrite alarm val)

/-- RTC_SECOND: RTC counts, and OPSEC while the core die is powered outside SLEEP (R598). -/
def execRtcSecond (s : State) : Host.Outcome State Fault Refusal :=
  .next (
    let s := s.rset R.SYS_RTC (s.rget R.SYS_RTC + 1)
    if s.boot.step = .off || s.pwr.asleep then s else s.rset R.SYS_OPSEC (s.rget R.SYS_OPSEC + 1))

end Sys2Proof.Machine
end

