-- ==== Sys2Proof/Machine/Iox.lean ====
section
/-! DEFINITION. General I/O: event capture, general SPI, I²C and UART (R636 to R640); and ESTOP_N, which acts on several blocks
at once (R263, R353, R420, R435). -/

namespace Sys2Proof.Machine

/-- The state with general I/O's queues replaced. -/
def State.setIox (s : State) (x : Iox) : State := { s with iox := x }

/-! ### GPIO (R636) -/

/-- The levels of the 64 GPIOs: an output drives its OUT bit while its OE bit is 1, the others are driven from outside (R636). -/
def State.gpioLevels (s : State) (ext : Nat) : Nat :=
  let w (r : RegDesc) : Nat := s.rget r + 2 ^ 32 * s.rget r 1
  let oe := w R.IOX_GPIO_OE
  (oe &&& w R.IOX_GPIO_OUT) ||| ((ext % 2 ^ 64) ^^^ (ext % 2 ^ 64 &&& oe))

/-! ### Event capture (R637) -/

/-- An edge is of the kind that EDGE selects: 0 rising, 1 falling, 2 both (R637). -/
def State.evcEdge (s : State) (k : Nat) (fall : Bool) : Bool :=
  s.fget F.IOX_EVC_CFG_EDGE k == 2 || s.fget F.IOX_EVC_CFG_EDGE k == bit fall

/-- EVENT_CAPTURE: an edge on the pin of channel k at cycle sub of the phase that begins a pulse of ns nanoseconds; an edge of the selected
kind is accepted unless its pulse is shorter than 10 ns (R637). -/
def execEventCapture (k sub : Nat) (fall : Bool) (ns : Nat) (s : State) : Host.Outcome State Fault Refusal :=
  .next (
    if 16 ≤ k || !s.fbit F.IOX_EVC_CFG_EN k || !s.evcEdge k fall || ns < 10 then s
    else
      let s := (((s.rset R.IOX_EVC_TIME (s.drcNow sub) k).finc F.IOX_EVC_CNT_VALUE 1 k).setFlag (930 + k))
      if s.fbit F.IOX_EVC_CFG_IRQ k then s.raise 26 else s)

/-- A write of IOX_EVC{k}_CFG: EDGE 3 is ignored and recorded; the other fields are written. -/
def State.evcCfgWrite (s : State) (k v : Nat) : State :=
  let bad := bits v 30 29 = 3
  let e := if bad then s.fget F.IOX_EVC_CFG_EDGE k else bits v 30 29
  let s := if bad then s.recRule 637 else s
  s.rset R.IOX_EVC_CFG (bits v 31 31 * 2 ^ 31 + e * 2 ^ 29 + bits v 28 28 * 2 ^ 28 + bits v 5 0) k

/-! ### General SPI (R638) -/

/-- Frames queued on controller k. -/
def State.spiQ (s : State) (k : Nat) : List Nat := nth s.iox.spi k []

/-- The first frame of controller k goes out, LEN bits of it. -/
def State.spiSend (s : State) (k : Nat) : State :=
  match s.spiQ k with
  | f :: _ => if s.fbit F.IOX_SPI_CFG_EN k then s.emit (.spi k (f % 2 ^ s.fget F.IOX_SPI_CFG_LEN k)) else s
  | [] => s

/-- A write of TX: a frame is queued; a write to a full queue is ignored and recorded. [DEDUCED, log entry 121] -/
def State.gspiTx (s : State) (k frame : Nat) : State :=
  let q := s.spiQ k
  if 8 ≤ q.length then s.recRule 638
  else
    let s := s.setIox { s.iox with spi := s.iox.spi.set k (q ++ [frame % 2 ^ 32]) }
    if q.isEmpty then s.spiSend k else s

/-- SPI_TX (R638). -/
def execSpiTx (k frame : Nat) (s : State) : Host.Outcome State Fault Refusal := .next (if k < 2 then s.gspiTx k frame else s)

/-- SPI_FRAME_DONE: the running frame ends with its MISO bits, the next one starts; flag 946 + k when the queue empties. -/
def execSpiFrameDone (k miso : Nat) (s : State) : Host.Outcome State Fault Refusal :=
  .next (
    match s.spiQ k with
    | [] => s
    | _ :: q =>
      if 2 ≤ k || !s.fbit F.IOX_SPI_CFG_EN k then s
      else
        let s := s.rset R.IOX_SPI_RXD (miso % 2 ^ s.fget F.IOX_SPI_CFG_LEN k) k
        let s := s.setIox { s.iox with spi := s.iox.spi.set k q }
        if q.isEmpty then s.setFlag (946 + k) else s.spiSend k)

/-- A write of IOX_SPI{k}_CFG: LEN, MODE and DIV only while the queue is empty (R11); EN 1 starts the frame that waits. -/
def State.gspiCfgWrite (s : State) (k v : Nat) : State :=
  let old := s.rget R.IOX_SPI_CFG k
  let rwi (x : Nat) : Nat := bits x 15 10 * 2 ^ 10 + bits x 6 0
  let free := (s.spiQ k).isEmpty
  let s := if free then s else s.recRwi R.IOX_SPI_CFG v k
  let s := s.rset R.IOX_SPI_CFG (bits v 31 31 * 2 ^ 31 + rwi (if free then v else old)) k
  if v.testBit 31 && !old.testBit 31 then s.spiSend k else s

/-! ### I²C (R639) -/

/-- A write of IOX_I2C{k}_CMD: the fields, and with GO a transfer; GO while BUSY is ignored and recorded. -/
def State.i2cCmdWrite (s : State) (k v : Nat) : State :=
  let s := s.rset R.IOX_I2C_CMD (bits v 29 24 * 2 ^ 24 + bits v 22 16 * 2 ^ 16) k
  if !v.testBit 31 then s
  else if s.fbit F.IOX_I2C_STAT_BUSY k then s.recRule 639
  else if !s.fbit F.IOX_I2C_CFG_EN k then s
  else
    let bs := (leBytes 4 (s.rget R.IOX_I2C_DATA k)).take (s.fget F.IOX_I2C_CMD_NW k)
    (s.fset F.IOX_I2C_STAT_BUSY 1 k).emit (.i2c k (s.fget F.IOX_I2C_CMD_ADDR k) bs (min 4 (s.fget F.IOX_I2C_CMD_NR k)))

/-- I2C_GO with NW, NR and ADDR (R639). -/
def execI2cGo (k nw nr addr : Nat) (s : State) : Host.Outcome State Fault Refusal :=
  .next (if k < 4 then s.i2cCmdWrite k (2 ^ 31 + nw % 8 * 2 ^ 27 + nr % 8 * 2 ^ 24 + addr % 128 * 2 ^ 16) else s)

/-- I2C_TRANSFER_END: with the bytes read, with a NACK (or stretching beyond 10 ms), or with lost arbitration. -/
def execI2cTransferEnd (k : Nat) (data : List Nat) (nack arb : Bool) (s : State) : Host.Outcome State Fault Refusal :=
  .next (
    if 4 ≤ k || !s.fbit F.IOX_I2C_STAT_BUSY k then s
    else
      let s := s.fset F.IOX_I2C_STAT_BUSY 0 k
      let s := if nack then s.fset F.IOX_I2C_STAT_NACK 1 k else s
      let s := if arb then s.fset F.IOX_I2C_STAT_ARB 1 k else s
      let d := data.take 4
      let s := if nack || arb then s
        else s.rset R.IOX_I2C_DATA (leWord (d ++ (leBytes 4 (s.rget R.IOX_I2C_DATA k)).drop d.length)) k
      s.setFlag (948 + k))

/-- A write of IOX_I2C{k}_CFG: SPEED 3 is ignored and recorded. -/
def State.i2cCfgWrite (s : State) (k v : Nat) : State :=
  let bad := v % 4 = 3
  let p := if bad then s.fget F.IOX_I2C_CFG_SPEED k else v % 4
  (if bad then s.recRule 639 else s).rset R.IOX_I2C_CFG (bits v 31 31 * 2 ^ 31 + p) k

/-! ### UART (R640) -/

/-- Bytes to send and received of UART k. -/
def State.uartTx (s : State) (k : Nat) : List Nat := nth s.iox.tx k []

/-- Bytes received of UART k. -/
def State.uartRx (s : State) (k : Nat) : List Nat := nth s.iox.rx k []

/-- The first byte of UART k goes out. -/
def State.uartSend (s : State) (k : Nat) : State :=
  match s.uartTx k with
  | b :: _ => if s.fbit F.IOX_U_CFG_EN k then s.emit (.uart k b) else s
  | [] => s

/-- A write of TX: a byte is queued; a write to a full FIFO is ignored and recorded. -/
def State.uartPut (s : State) (k b : Nat) : State :=
  let q := s.uartTx k
  if 16 ≤ q.length then s.recRule 640
  else
    let s := s.setIox { s.iox with tx := s.iox.tx.set k (q ++ [b % 256]) }
    if q.isEmpty then s.uartSend k else s

/-- UART_TX (R640). -/
def execUartTx (k b : Nat) (s : State) : Host.Outcome State Fault Refusal := .next (if k < 2 then s.uartPut k b else s)

/-- UART_BYTE_SENT: the byte leaves the FIFO and the next one starts. -/
def execUartByteSent (k : Nat) (s : State) : Host.Outcome State Fault Refusal :=
  .next (
    if 2 ≤ k || (s.uartTx k).isEmpty || !s.fbit F.IOX_U_CFG_EN k then s
    else (s.setIox { s.iox with tx := s.iox.tx.set k ((s.uartTx k).drop 1) }).uartSend k)

/-- UART_RECEIVE: the byte enters the FIFO, with flag 952 + k and vector 27 into an empty one, or sets OVR. -/
def execUartReceive (k b : Nat) (s : State) : Host.Outcome State Fault Refusal :=
  .next (
    let q := s.uartRx k
    if 2 ≤ k || !s.fbit F.IOX_U_CFG_EN k then s
    else if 16 ≤ q.length then s.fset F.IOX_U_STAT_OVR 1 k
    else
      let s := s.setIox { s.iox with rx := s.iox.rx.set k (q ++ [b % 256]) }
      if q.isEmpty then (s.setFlag (952 + k)).raise 27 else s)

/-- POP removes the oldest received byte. -/
def State.uartPop (s : State) (k : Nat) : State := s.setIox { s.iox with rx := s.iox.rx.set k ((s.uartRx k).drop 1) }

/-- UART_POP (R640). -/
def execUartPop (k : Nat) (s : State) : Host.Outcome State Fault Refusal := .next (if k < 2 then s.uartPop k else s)

/-- A write of IOX_U{k}_CFG: DIV only while EN is 0 (R11); EN 1 starts the byte that waits. -/
def State.uartCfgWrite (s : State) (k v : Nat) : State :=
  let old := s.rget R.IOX_U_CFG k
  let free := !old.testBit 31
  let s := if free then s else s.recRwi R.IOX_U_CFG v k
  let s := s.rset R.IOX_U_CFG (bits v 31 31 * 2 ^ 31 + (if free then v else old) % 65536) k
  if v.testBit 31 && free then s.uartSend k else s

/-- A write of IOX_U{k}_STAT: POP and the W1C bit OVR. -/
def State.uartStatWrite (s : State) (k v : Nat) : State :=
  let s := if v.testBit 16 then s.fset F.IOX_U_STAT_OVR 0 k else s
  if v.testBit 31 then s.uartPop k else s

/-! ### ESTOP_N (R263, R353, R366, R420, R435) -/

/-- ESTOP: lasers, motors, HV drives and the fuser command stop at once; the axes take it at phase 0. -/
def execEstop (s : State) : Host.Outcome State Fault Refusal :=
  .next (
    if !s.pins.estopN then s
    else (({ s with pins := { s.pins with estopN := false } }.fset F.EXP_ILK_ESTOP 1).laserTrip.motorEstop.hvFusGate))

/-- ESTOP_N_RISE: HV drives return to their commands, and the 100 ms of R264 begin (R353). -/
def execEstopNRise (s : State) : Host.Outcome State Fault Refusal :=
  .next (
    if s.pins.estopN then s
    else
      let s := { s with pins := { s.pins with estopN := true }, img := { s.img with ilkSince := s.time16 } }
      (List.range 24).foldl (fun s n => s.hvSettle n) (s.fset F.EXP_ILK_ESTOP 0).ldSyncAll)

end Sys2Proof.Machine
end

