-- ==== Sys2Proof/Machine/Load.lean ====
section
/-! DEFINITION. The image loader: loads, activation and replacement of the program (R57, R106 to R108, R557, R643). -/

namespace Sys2Proof.Machine

/-- SEQ_LDSTAT. -/
def State.ldStat (s : State) (st err : Nat) : State := (s.fset F.SEQ_LDSTAT_STATE st).fset F.SEQ_LDSTAT_ERR err

/-- A load is in progress (R106). -/
def State.loading (s : State) : Bool := 1 ≤ s.fget F.SEQ_LDSTAT_STATE && s.fget F.SEQ_LDSTAT_STATE ≤ 3

/-- SEQ_LDCTRL.GO: the image is read from host memory (R106). -/
def State.loadGo (s : State) : State :=
  if s.loading then s.recRule 106
  else
    let a := s.rget R.SEQ_LDADDR_LO + 2 ^ 32 * s.rget R.SEQ_LDADDR_HI
    (s.ldStat 1 0).emit (.hostRead a (s.fget F.SEQ_LDLEN_LEN))

/-- A load fails: SEQ_LDSTAT.ERR, and a record of the refusal (R557, R643). -/
def State.loadFail (s : State) (err : Nat) : State := (s.ldStat 5 err).recEvt 5

/-- The inactive slot takes the bytes of an image. -/
def State.putSlotImage (s : State) (img : List Nat) (ok : Bool) : State :=
  if s.nvm.active = 1 then s.setNvm { s.nvm with slot0 := img, pendOk := ok } else s.setNvm { s.nvm with slot1 := img, pendOk := ok }

/-- The load has read the image: it is checked, written to the inactive slot and read back; during a hold of NVM writes it
waits before the write (R106, R549, R643). [DESIGN CHOICE, log entry 134] -/
def State.loadComplete (s : State) (img : List Nat) (hostErr backErr : Bool) : State :=
  let err := s.imageErr img (some (s.fget F.SEQ_LDLEN_LEN))
  if hostErr then s.loadFail 7
  else if err ≠ 0 then s.loadFail err
  else if s.nvmHold then s.ldStat 3 0
  else if backErr then (s.putSlotImage [] false).loadFail 8
  else ((s.putSlotImage img true).ldStat 4 0).recEvt 3

/-- LOAD_COMPLETE (R643). -/
def execLoadComplete (image : List Nat) (hostErr readBackErr : Bool) (s : State) : Host.Outcome State Fault Refusal :=
  .next (if s.loading then s.loadComplete (image.map (· % 256)) hostErr readBackErr else s)

/-- SEQ_LDCTRL.ACTIVATE: the pending slot becomes active for the next start; in Bivouac mode the next start is a normal
attempt (R107, R608). [DEDUCED, log entry 30; DESIGN CHOICE, log entry 135] -/
def State.activate (s : State) : State :=
  if !s.nvm.pendOk then s.recEvt 5
  else
    let s := (s.setNvm { s.nvm with active := 1 - s.nvm.active, pendOk := false }).recEvt 4
    if s.bivouac then s.setBoot { s.boot with fscnt := 2 } else s

/-- A replacement asked for while the program runs: refused with PAGEBUSY while a page is ADMITTED or IMAGING, else carried
out at the next commit (R57, R108). [DEDUCED, log entry 28] -/
def State.replace (s : State) : State :=
  if !s.running then s
  else if s.pageBusy then
    let s := s.refuse 0x0F 0
    { s with seq := { s.seq with retryArmed := true } }
  else s.setBoot { s.boot with replace := true }

/-- A write of SEQ_LDCTRL, an RWP register: ACTIVATE, then REPLACE, then GO (R11, R107). -/
def State.ldCtrlWrite (s : State) (v : Nat) : State :=
  let v := v % 8
  if !s.presence then (if v = 0 then s else s.recRwp (R.SEQ_LDCTRL.addr 0 0) v)
  else
    let s := if v.testBit 1 then s.activate else s
    let s := if v.testBit 2 then s.replace else s
    if v.testBit 0 then s.loadGo else s

/-- LOAD_GO (R106). -/
def execLoadGo (s : State) : Host.Outcome State Fault Refusal := .next (s.ldCtrlWrite 1)

/-- ACTIVATE (R107). -/
def execActivate (s : State) : Host.Outcome State Fault Refusal := .next (s.ldCtrlWrite 2)

/-- REPLACE (R108). [DEDUCED, log entry 27] -/
def execReplace (s : State) : Host.Outcome State Fault Refusal := .next (s.ldCtrlWrite 4)

/-- PLC_CTRL.RETRY: a replacement refused with PAGEBUSY is repeated once; any other write is recorded (R57). -/
def State.retry (s : State) : State :=
  if s.seq.retryArmed && s.fget F.PLC_REFUSE_CODE = 0x0F then { s with seq := { s.seq with retryArmed := false } }.replace
  else s.recRule 57

/-- RETRY (R57). -/
def execRetry (s : State) : Host.Outcome State Fault Refusal := .next (if s.bivouac then s else s.retry)

/-- The replacement at the commit: every context stops, every power output returns to its reset state, and the image step
begins as at a start; a page admitted meanwhile refuses it (R57, R108). [DESIGN CHOICE, log entry 136] -/
def State.replaceNow (s : State) : State :=
  let s := s.setBoot { s.boot with replace := false }
  if s.pageBusy then
    let s := s.refuse 0x0F 0
    { s with seq := { s.seq with retryArmed := true } }
  else s.haltAll.resetOutputs.imageStep

end Sys2Proof.Machine
end

