-- ==== Sys2Proof/Machine/Mains.lean ====
section
/-! DEFINITION. The mains section and the Guyline: line evaluation, dip states, the flicker limiter, bridges and triacs,
frames in both directions, configuration writes, the standby converter and the speed bound (R371 to R399). -/

namespace Sys2Proof.Machine

/-! ### The mains section by itself -/

/-- A field of the configuration that the mains section has taken over (R395). -/
def Mns.cget (m : Mns) (f : FldDesc) (i : Nat := 0) : Nat :=
  bits (tabGet (BitVec.ofNat 32 f.reg.reset) m.cfg (f.reg.addr i 0)).toNat f.hi f.lo

/-- Unom in volts by NOM; 0 while not fixed (Table 13-3). -/
def Mns.unom (m : Mns) : Nat := match m.nom with | 1 => 100 | 2 => 120 | 3 => 200 | 4 => 230 | 5 => 277 | _ => 0

/-- Row of Table 13-3 for a half-cycle rms in 0.1 V; 0 for none. -/
def rmsRow (r : Nat) : Nat :=
  if r < 850 || 3000 < r then 0 else if r < 1100 then 1 else if r < 1550 then 2 else if r < 2150 then 3
  else if r < 2550 then 4 else 5

/-- FULL of MNS_CTRL. -/
def Mns.full (m : Mns) : Bool := m.cget F.MNS_CTRL_FULL == 1

/-- PRATED of zone z. -/
def Mns.prated (m : Mns) (z : Nat) : Nat := m.cget F.MNS_Z_PRATED_PRATED z

/-- The command of zone z after the hold of WARN: A_z (R377). -/
def Mns.cmdHeld (m : Mns) (z : Nat) : Nat :=
  let c := nth m.cmds z 0
  if m.st = 3 then c * max m.hold 1 / 100 else c

/-- The requested power of zone z; zone 1 is not output in full-bridge mode (R382, R383). -/
def Mns.want (m : Mns) (z : Nat) : Nat := if z = 1 && m.full then 0 else m.cmdHeld z * m.prated z / 65535

/-- The requested powers. -/
def Mns.wants (m : Mns) : List Nat := (List.range 4).map m.want

/-- Sum of a list. -/
def sumN (l : List Nat) : Nat := l.foldl (· + ·) 0

/-- Bridges and triacs may run (Table 13-4, R381, R387). -/
def Mns.runs (m : Mns) : Bool := (m.st = 2 || m.st = 3) && m.inven && !m.invflt && !m.ov

/-- Powers scaled under a ceiling, rounded down (R385). -/
def scaleTo (ws : List Nat) (lim : Nat) : List Nat :=
  let t := sumN ws
  if t ≤ lim then ws else ws.map (fun w => w * lim / t)

/-- PFLK in watts (R388). -/
def Mns.pflk (m : Mns) : Nat := m.cget F.MNS_FLK_DMAX * m.unom ^ 2 / max (m.cget F.MNS_FLK_RREF) 1

/-- PCAP in watts (R389). -/
def Mns.pcap (m : Mns) : Nat :=
  min (m.unom * m.cget F.MNS_CAP_IBR / 10) (100 * m.unom ^ 2 / max m.rsrc 1) - m.cget F.MNS_CAP_PREST

/-- Frequency of a bridge, in 10 Hz, for an applied power of a zone and a table column (R383). -/
def Mns.freq (m : Mns) (f : FldDesc) (w z : Nat) (low : Bool) : Nat :=
  let r := m.prated z
  if w = 0 || r = 0 then 0
  else if 16 * w < r then (if low then m.cget f 1 else 0)
  else
    let i := min (16 * w / r) 16
    if i = 16 then m.cget f 16
    else
      let a : Int := m.cget f i
      let b : Int := m.cget f (i + 1)
      (a + (b - a) * ((16 * w - i * r : Nat) : Int) / r).toNat

/-- Bridge k. -/
def Mns.br (m : Mns) (k : Nat) : Bridge := nth m.bridge k ⟨false, 0, 0, false, 0⟩

/-- The bridges' frequencies follow the applied power; in full-bridge mode both follow zone 0 (R382, R383). -/
def Mns.drive (m : Mns) : Mns :=
  let one (k : Nat) : Bridge :=
    let b := m.br k
    let z := if m.full then 0 else k
    let f := if k = 0 || m.full then F.MNS_FTAB_FA else F.MNS_FTAB_FB
    let low := if m.full then (m.br 0).runs else b.runs
    { b with freq := if b.stopped then 0 else m.freq f (nth m.applied z 0) z low }
  { m with bridge := [one 0, one 1] }

/-- The applied power set: the zones scaled under the limit of the half-cycle, which a lower request lowers; nothing while the outputs
are off, and a ramp-down keeps its own (R385, R392). -/
def Mns.setApplied (m : Mns) : Mns :=
  if !m.runs then { m with applied := [0, 0, 0, 0], lim := 0 }.drive
  else if m.ramp.isSome then { m with lim := 0 }.drive
  else { m with applied := scaleTo m.wants m.lim, lim := min m.lim (sumN m.wants) }.drive

/-- The total applied power. -/
def Mns.total (m : Mns) : Nat := sumN m.applied

/-- The error diffusion of a bridge's low range over half-cycles (R383). -/
def Mns.diffuse (m : Mns) (k : Nat) : Bridge :=
  let b := m.br k
  let w := nth m.applied k 0
  let r := m.prated k
  let b := { b with stopped := false, halves := if b.stopped then b.halves else 0 }
  if w = 0 || r = 0 || r ≤ 16 * w then { b with acc := 0, runs := true }
  else if r ≤ b.acc + 16 * w then { b with acc := b.acc + 16 * w - r, runs := true }
  else { b with acc := b.acc + 16 * w, runs := false }

/-- The applied command of zone z: its command, scaled as its power is; of a zone whose power rounds to 0, scaled as the zones are
(R384, R385, R392). -/
def Mns.cmdApplied (m : Mns) (z : Nat) : Nat :=
  let w := m.want z
  let a := m.cmdHeld z
  if w ≠ 0 then a * nth m.applied z 0 / w
  else match m.ramp with
    | some (k, _) => a * (100 - k) / 100
    | none => if sumN m.wants ≤ m.lim then a else a * m.lim / sumN m.wants

/-- A triac's sum at a zero-cross, with the applied command of zone z, and whether it fires; where the zero-cross is missing it does
neither (R384). -/
def Mns.fire (m : Mns) (missing : Bool) (z : Nat) : Nat × Bool :=
  let a := (nth m.triac (z - 2) (0, false)).1
  let a' := a + m.cmdApplied z
  if !m.runs then (0, false) else if missing then (a, false) else if 65535 ≤ a' then (a' - 65535, true) else (a', false)

/-- The ceiling of the half-cycle that begins and the applied power under it; restore ceiling, bridges and triacs
(R378, R384, R385). -/
def Mns.startHalf (m : Mns) (missing : Bool) : Mns :=
  let p := m.total
  let req := sumN m.wants
  let restore := m.restore.map (fun c => c + max (m.cget F.MNS_RAMP_RSTEP) 1)
  let ceil := min (min m.pflk m.pcap) (p + max (m.cget F.MNS_FLK_FSTEP) 1)
  let ceil := match restore with | some c => min ceil c | none => ceil
  let m := { m with ceil := ceil, restore := restore.bind (fun c => if req ≤ c then none else some c), lim := min ceil req }.setApplied
  let m := { m with bridge := [m.diffuse 0, m.diffuse 1] }
  { m with triac := [m.fire missing 2, m.fire missing 3] }.drive

/-- The source-resistance estimate at a change of applied power of 500 W or more: rms values in 0.1 V before and after (R389). -/
def Mns.estimate (m : Mns) (u0 u1 p0 p1 : Nat) : Nat :=
  let dp : Int := (p1 : Int) - p0
  if dp.natAbs < 500 || m.nom = 0 then m.rsrc
  else
    let g : Int := if dp < 0 then -1 else 1
    let num := g * (10 * ((u0 : Int) - u1) * u1 - m.rsrc * dp)
    min 65535 ((m.rsrc : Int) + num / (8 * dp.natAbs : Nat)).toNat

/-- The next state at an evaluation (R375, R376): the new state and the DETECT count. [DEDUCED, log entry 83] -/
def Mns.nextState (m : Mns) (rms : Nat) (missing : Bool) : Nat × Nat × Nat :=
  let row := if missing then 0 else rmsRow rms
  let low (pct : Nat) : Bool := 10 * rms < pct * m.unom
  match m.st with
  | 0 | 4 => if 850 ≤ rms && !missing then (1, 0, 0) else (m.st, 0, 0)
  | 1 =>
    if row = 0 then (1, 0, 0)
    else
      let n := if row = m.row then m.count + 1 else 1
      if 32 ≤ n then (2, row, 0) else (1, row, n)
  | _ =>
    if 2 ≤ m.lowRun || 3 ≤ m.missRun then (4, 0, 0)
    else if m.st = 2 && low 85 then (3, 0, 0)
    else if m.st = 3 && !low 90 then (2, 0, 0)
    else (m.st, 0, 0)

/-- A half-cycle evaluated: rms in 0.1 V, its length in µs where a zero-cross closes it, and whether it counts as a missing zero-cross
(R373 to R385, R389). -/
def Mns.evaluate (m : Mns) (rms : Nat) (len : Option Nat) (missing : Bool) : Mns :=
  let p0 := m.papp
  let p1 := m.total
  let rsrc := m.estimate m.rms rms p0 p1
  let m := { m with
    rsrc := rsrc, papp := p1, rms := rms, len := len.getD m.len, lens := (len.toList ++ m.lens).take 8
    missRun := if missing then min 255 (m.missRun + 1) else 0
    lowRun := if m.nom ≠ 0 && 10 * rms < 60 * m.unom then min 255 (m.lowRun + 1) else 0
    ovRun := if rms ≤ 2900 then min 255 (m.ovRun + 1) else 0 }
  let tooHigh := (m.st = 2 || m.st = 3) && 3000 < rms
  let (st, row, n) := if tooHigh then (m.st, 0, 0) else m.nextState rms missing
  let ov := tooHigh || (m.ov && m.ovRun < 8)
  let fixed := m.st = 1 && st = 2
  let m' := { m with
    st := st, row := row, count := n, ov := ov
    nom := if fixed then row else if st = 4 then 0 else m.nom
    lowRun := if fixed || st = 4 then 0 else m.lowRun
    rsrc := if fixed then max (m.cget F.MNS_FLK_RREF) 1 else m.rsrc
    restore := if st = 4 then none else if m.st = 3 && st = 2 then some p1 else m.restore }
  m'.startHalf len.isNone

/-! ### Line events -/

/-- The state with the mains section replaced. -/
def State.setMns (s : State) (m : Mns) : State := { s with power := { s.power with mns := m } }

/-- ZERO_CROSS: a zero-cross closes a half-cycle of rms in 0.1 V and length in µs; outside 47 to 63 Hz it counts as missing
(R373, R374). -/
def execZeroCross (rms len : Nat) (s : State) : Host.Outcome State Fault Refusal :=
  .next (
    if s.variant.mains then
      s.setMns { s.power.mns.evaluate rms (some len) (len < 7900 || 10700 < len) with zcAt := some s.time16, zcMiss := false }
    else s)

/-- A zero-cross is missing at a time: 1.25 times the mean length of the last 8 half-cycles after the last zero-cross, or that mean
after the last missing one. Where no half-cycle has been measured, or no zero-cross since the lock, any time will do (R374). -/
def Mns.crossMissing (m : Mns) (t : Nat) : Bool :=
  match m.zcAt with
  | none => true
  | some z => (if m.zcMiss then 4 else 5) * sumN m.lens * 6400 ≤ (t - z) * 4 * m.lens.length

/-- MISSING_ZERO_CROSS: no zero-cross in time; rms is that of the preceding Tm (R374). -/
def execMissingZeroCross (rms : Nat) (s : State) : Host.Outcome State Fault Refusal :=
  .next (
    if s.variant.mains && s.power.mns.crossMissing s.time16 then
      s.setMns { s.power.mns.evaluate rms none true with zcAt := some s.time16, zcMiss := true }
    else s)

/-- BRIDGE_CURRENT_LIMIT: the run-th switching period in a row of bridge k ends at IPK; the eighth stops the bridge for the
half-cycle, and the sixteenth half-cycle in a row sets INVFLT (R386). -/
def execBridgeCurrentLimit (k run : Nat) (s : State) : Host.Outcome State Fault Refusal :=
  .next (
    let m := s.power.mns
    let b := m.br k
    if !s.variant.mains || 2 ≤ k || !m.runs || b.stopped || run < 8 then s
    else
      let m := { m with bridge := m.bridge.set k { b with stopped := true, halves := b.halves + 1 } }
      let m := if 16 ≤ b.halves + 1 then { m with invflt := true } else m
      s.setMns m.setApplied)

/-- MAINS_SECTION_POWER_UP (Table 13-4). -/
def execMainsSectionPowerUp (s : State) : Host.Outcome State Fault Refusal :=
  .next (if s.variant.mains then s.setMns { Mns.blank with sby := s.power.mns.sby } else s)

/-- STANDBY_CONVERTER_START: L_VHV has risen above 100 V (R396). -/
def execStandbyConverterStart (s : State) : Host.Outcome State Fault Refusal :=
  .next (if s.variant.mains && s.power.mns.sby = 0 then s.setMns { s.power.mns with sby := 1 } else s)

/-- STANDBY_CONVERTER_STOP: 0 L_VHV has fallen below 70 V; 1 the load passes 700 mA and the current is limited, 2 it has been for
20 ms, 3 it no longer is (R396). [DESIGN CHOICE, log entry 152] -/
def execStandbyConverterStop (why : Nat) (s : State) : Host.Outcome State Fault Refusal :=
  .next (
    let put (n : Nat) : State := s.setMns { s.power.mns with sby := n }
    let on := s.power.mns.sby = 1 ∨ s.power.mns.sby = 3
    if !s.variant.mains then s
    else match why with
      | 0 => put 0
      | 1 => if s.power.mns.sby = 1 then put 3 else s
      | 2 => if on then put 2 else s
      | _ => if s.power.mns.sby = 3 then put 1 else s)

/-- STANDBY_CONVERTER_RETRY: 1 s after a stop in current limit (R396). -/
def execStandbyConverterRetry (s : State) : Host.Outcome State Fault Refusal :=
  .next (if s.variant.mains && s.power.mns.sby = 2 then s.setMns { s.power.mns with sby := 1 } else s)

/-! ### Forward frames (R391, R392, R395) -/

/-- The forward frame of a commit, or of a tick withheld, which repeats the previous commands but for zones forced to 0 (R17,
R366, R367). [DEDUCED, log entry 81] -/
def State.glSend (s : State) (again : Bool) : State :=
  if !s.variant.mains then s
  else
    let p := s.power
    let cmd (z : Nat) : Nat :=
      if s.zoneForced z || nth p.fus.zeroed z false then 0
      else if again then nth p.sent.cmds z 0 else s.fget F.FUS_Z_STAT_SENT z
    let f : GlFrame :=
      { seq := (p.sent.seq + 1) % 16, again := again, inven := s.fbit F.MNS_CTRL_INVEN, linkloss := p.linkloss,
        cmds := (List.range 4).map cmd, hold := s.fget F.FUS_HOLD_PCT, cfg := p.cfgq.head? }
    let s := { s with power := { p with flight := some f, sent := f, cfgq := p.cfgq.tail } }
    (s.fset F.MNS_STAT_CFGQ s.power.cfgq.length).emit (.guyline f.seq f.again f.inven f.linkloss f.cmds f.hold f.cfg)

/-- The MNS registers of the configuration, as offsets in the block (R395). -/
def mnsConfig (off : Nat) : Bool :=
  off % 4 = 0 && ((0x08 ≤ off && off ≤ 0x18) || off = 0x30 || (0x40 ≤ off && off ≤ 0x8C))

/-- The registers of the configuration whose fields are RWI. -/
def mnsRwi (off : Nat) : Bool := off = 0x0C || off = 0x30 || (0x40 ≤ off && off ≤ 0x8C)

/-- A configuration write that a good frame carries is applied; an RWI field is checked against the frame's INVEN, and a
refused one is recorded, and reads back what the mains section holds unless a newer write to the register waits (R395). -/
def State.mnsTake (s : State) (inven : Bool) (off v : Nat) : State :=
  let a := R.MNS_STAT.addr 0 0 + off
  let newer := s.power.cfgq.any (fun e => e.1 == off)
  let m := s.power.mns
  let s := s.setMns { m with lastCfg := off / 4 }
  let m := s.power.mns
  let old := match findReg a with | some (r, _, _) => (tabGet (BitVec.ofNat 32 r.reset) m.cfg a).toNat | none => 0
  let put (s : State) (w : Nat) : State :=
    match findReg a with
    | some (r, _, _) => s.setMns { s.power.mns with cfg := tabPut (BitVec.ofNat 32 r.reset) s.power.mns.cfg a (BitVec.ofNat 32 w) }
    | none => s
  if off = 0x08 then
    let s := if v.testBit 1 then s.setMns { m with invflt := false, bridge := m.bridge.map (fun b => { b with halves := 0 }) } else s
    if v &&& 4 = old &&& 4 then s
    else if inven then (if newer then s else s.fset F.MNS_CTRL_FULL (bits old 2 2)).record 0x600B [a, v]
    else put s (v &&& 4)
  else if mnsRwi off && inven then
    if v = old then s
    else match findReg a with
      | some (r, i, j) => (if newer then s else s.rset r old i j).record 0x600B [a, v]
      | none => s
  else put s v

/-- A good frame's commands, HOLD and INVEN in the mains section: a fall acts at once, a rise waits for the next half-cycle;
during a ramp-down only the sixteenth good frame in a row is obeyed, from zero (R385, R391, R392). -/
def Mns.take (m : Mns) (f : GlFrame) : Mns :=
  let m := { m with seq := some f.seq, hold := f.hold, inven := f.inven, missing := 0, heard := true }
  match m.ramp with
  | none => { m with cmds := f.cmds }.setApplied
  | some _ =>
    if 16 ≤ m.goodRun + 1 then
      { m with ramp := none, glfault := false, goodRun := 0, cmds := f.cmds, applied := [0, 0, 0, 0], lim := 0 }.setApplied
    else { m with goodRun := m.goodRun + 1 }.setApplied

/-- The tick has no good frame: the second in a row starts the ramp-down and sets GLFAULT (R392). -/
def Mns.miss (m : Mns) : Mns :=
  let m := { m with missing := min 255 (m.missing + 1), goodRun := 0, heard := true }
  if 2 ≤ m.missing && m.ramp.isNone then { m with ramp := some (0, m.applied), glfault := true } else m

/-- The tick has no good frame: one on its way does not arrive or counts as missing, and its configuration write waits again unless a
newer one does; or the core die has sent none (R18, R392, R395). -/
def State.glMissing (s : State) : State :=
  match s.power.flight with
  | none => s.setMns s.power.mns.miss
  | some f =>
    let q := match f.cfg with
      | some e => if s.power.cfgq.any (fun x => x.1 == e.1) then s.power.cfgq else e :: s.power.cfgq
      | none => s.power.cfgq
    let s := { s with power := { s.power with flight := none, cfgq := q, mns := s.power.mns.miss } }
    (s.fset F.MNS_STAT_CFGQ q.length).finc F.MNS_EVCNT_GLMISS 1

/-- GUYLINE_FRAME: the forward frame sent at the last commit arrives good, and takes effect at phase 2 (R391). -/
def execGuylineFrame (s : State) : Host.Outcome State Fault Refusal :=
  .next (
    match s.power.flight with
    | some f =>
      if s.phase ≠ 2 || s.power.mns.heard then s
      else if f.linkloss then s.glMissing
      else
        let last := s.power.mns.seq
        let skipped := match last with | some q => (f.seq + 15 - q) % 16 - s.power.mns.missing | none => 0
        let s := { s with power := { s.power with flight := none, mns := s.power.mns.take f } }
        let s := if skipped = 0 then s else s.finc F.MNS_EVCNT_GLMISS skipped
        match f.cfg with
        | some (off, v) => s.mnsTake f.inven off v
        | none => s
    | none => s)

/-- After phase 2: a frame that has not arrived is missing, and a ramp-down goes on by one hundredth. The mains section does this by
itself in every 20 µs, whatever the core die does (R18, R392). [DEDUCED, log entry 84] -/
def State.mnsAfterFrame (s : State) : State :=
  if !s.variant.mains then s
  else
    let s := if s.power.mns.heard then s else s.glMissing
    let m := { s.power.mns with heard := false }
    match m.ramp with
    | none => s.setMns m
    | some (k, ws) =>
      let k := min 100 (k + 1)
      let m := { m with ramp := some (k, ws) }
      let ap := if m.runs then ws.map (fun w => w * (100 - k) / 100) else [0, 0, 0, 0]
      s.setMns { m with applied := (ap.zip m.applied).map (fun (p : Nat × Nat) => min p.1 p.2) }.drive

/-- GUYLINE_LOSS: a second forward frame in a row does not arrive; while the core die does not run its ticks, 20 µs have passed
without a frame (R18, R392). -/
def execGuylineLoss (s : State) : Host.Outcome State Fault Refusal :=
  .next (
    if !s.variant.mains then s
    else if !s.ticking then s.mnsAfterFrame
    else if s.phase = 2 && !s.pwr.asleep && !s.power.mns.heard && 1 ≤ s.power.mns.missing then s.glMissing
    else s)

/-! ### Return frames (R380, R393, R394) -/

/-- Two return frames in a row are missing (R394). -/
def State.retLoss (s : State) : State :=
  let was := s.fbit F.MNS_STAT_LINK
  let s := { s.fset F.MNS_STAT_LINK 0 with power := { s.power with linkloss := true, retMiss := 2 } }
  (if was then (s.setFlag 802).raise 15 else s).recRule 394

/-- The return frame that the mains section sends at phase 15 (R393). [DESIGN CHOICE, log entry 151] -/
def Mns.retFrame (m : Mns) : RetFrame :=
  let mean := if m.lens.isEmpty then 0 else sumN m.lens / m.lens.length
  { st := m.st, nom := m.nom, f60 := !m.lens.isEmpty && mean < 9170, glfault := m.glfault, sbyok := m.sby == 1, ov := m.ov
    invflt := m.invflt, ramping := m.restore.isSome, len := min m.len 65535, rms := min m.rms 65535, pflk := min m.pflk 65535
    pcap := min m.pcap 65535, rsrc := min m.rsrc 65535, papp := min m.papp 65535, hk := m.hk, cfg := m.lastCfg }

/-- Phase 15: a return frame is sent. -/
def State.retSend (s : State) : State :=
  if !s.variant.mains then s
  else { s with power := { s.power with ret := some s.power.mns.retFrame, mns := { s.power.mns with hk := [] } } }

/-- A mains event at the latch of a return frame: flag, vector 15 and record (Table 13-6). -/
def State.mnsEvent (s : State) (flag rule : Nat) (p : List Nat) : State := ((s.setFlag flag).raise 15).recRule rule p

/-- A good return frame is latched: the values of MNS_STAT, MNS_LINE, MNS_BOUND and MNS_MEAS, and what their changes raise
(R380, R393, R399). [DEDUCED, log entry 82] -/
def State.retLatch (s : State) (m : RetFrame) : State :=
  let was := s.fget F.MNS_STAT_STATE
  let gl := s.fbit F.MNS_STAT_GLFAULT
  let lk := s.fbit F.MNS_STAT_LINK
  let bad := s.fbit F.MNS_STAT_INVFLT
  let ov := s.fbit F.MNS_STAT_OV
  let s := { s with power := { s.power with retCfg := m.cfg } }
  let s := ((((s.fset F.MNS_STAT_STATE m.st).fset F.MNS_STAT_NOM m.nom).fset F.MNS_STAT_F60 (bit m.f60)).fset F.MNS_STAT_LINK 1).fset F.MNS_STAT_GLFAULT (bit m.glfault)
  let s := (((s.fset F.MNS_STAT_SBYOK (bit m.sbyok)).fset F.MNS_STAT_OV (bit m.ov)).fset F.MNS_STAT_INVFLT
    (bit m.invflt)).fset F.MNS_STAT_RAMPING (bit m.ramping)
  let s := ((s.rset R.MNS_LINE (m.len * 65536 + m.rms)).rset R.MNS_BOUND (m.pflk * 65536 + m.pcap)).rset R.MNS_MEAS
    (m.rsrc * 65536 + m.papp)
  let s := if m.st = 3 && was ≠ 3 then (s.mnsEvent 799 380 [2]).finc F.MNS_EVCNT_WARN 1
    else if m.st = 2 && was = 3 then s.mnsEvent 800 380 [3]
    else if m.st = 4 && was ≠ 4 then (s.mnsEvent 801 380 [1]).finc F.MNS_EVCNT_LOSS 1
    else s
  let s := if m.st = 4 then s.abandonPage 3 else s
  let s := if m.glfault != gl || !lk then (s.setFlag 802).raise 15 else s
  let s := if m.invflt && !bad then s.mnsEvent 803 386 [] else s
  if m.ov && !ov then (s.setFlag 803).raise 15 else s

/-- The housekeeping readings of a good return frame are latched with those of the round (R393, R546). -/
def State.retHk (s : State) (ret : Bool) : State :=
  match s.power.ret with
  | some f => if ret then { s with pwr := { s.pwr with hkPend := s.pwr.hkPend ++ f.hk } } else s
  | none => s

/-- Phase 0: the return frame of the last phase 15 is latched, or missing; before the first phase 15 there is none (R393, R394). -/
def State.mnsPhase0 (s : State) (ret : Bool) : State :=
  match s.power.ret with
  | none => s
  | some f =>
    if ret then
      let g := min 16 (s.power.retGood + 1)
      { s with power := { s.power with
          ret := none, retMiss := 0, retGood := g, linkloss := s.power.linkloss && g < 16 } }.retLatch f
    else
      let k := s.power.retMiss
      let s := { s with power := { s.power with ret := none, retMiss := min 2 (k + 1), retGood := 0 } }.finc F.MNS_EVCNT_GLMISS 1
      if k = 1 then s.retLoss else s

/-! ### Configuration writes (R387, R395) -/

/-- A configuration write enters the queue; one for a register that waits already replaces its value (R395). -/
def State.cfgQueue (s : State) (off v : Nat) : State :=
  let q := s.power.cfgq
  let q := if q.any (fun e => e.1 == off) then q.map (fun e => if e.1 = off then (off, v) else e) else q ++ [(off, v)]
  { s with power := { s.power with cfgq := q } }.fset F.MNS_STAT_CFGQ q.length

/-- A zone's command is output: it is enabled, and not zone 1 in full-bridge mode. [DEDUCED, log entry 85] -/
def State.zoneUsed (s : State) (full : Bool) (z : Nat) : Bool := s.fbit F.FUS_Z_CFG_EN z && !(z = 1 && full)

/-- A column of the frequency table is non-increasing and within FMIN to FMAX (R387). -/
def State.tabOk (s : State) (f : FldDesc) : Bool :=
  (List.range 16).all (fun i =>
    let v := s.fget f (i + 1)
    s.fget F.MNS_INV_FMIN * 100 ≤ v && v ≤ s.fget F.MNS_INV_FMAX * 100 && (i = 0 || v ≤ s.fget f i))

/-- INVEN = 1 is allowed (R387). -/
def State.invenOk (s : State) (full : Bool) : Bool :=
  let rsh := s.fget F.MNS_SHUNT_RSH
  (!s.zoneUsed full 0 || s.tabOk F.MNS_FTAB_FA) && (!(s.zoneUsed full 1 || (full && s.zoneUsed full 0)) || s.tabOk F.MNS_FTAB_FB) &&
    (List.range 4).all (fun z => !s.zoneUsed full z || s.fget F.MNS_Z_PRATED_PRATED z != 0) &&
    rsh != 0 && s.fget F.MNS_INV_IPK * rsh ≤ 250000

/-- A write of an MNS configuration register at an offset in its block: INVEN acts in the core die, the rest is queued for the
Guyline, and reads back at once (R387, R395). -/
def State.mnsWrite (s : State) (off v : Nat) : State :=
  if !s.variant.mains || !mnsConfig off then s
  else match findReg (R.MNS_STAT.addr 0 0 + off) with
    | none => s
    | some (r, i, j) =>
      let mask := r.fields.foldl (fun a f => a ||| ((2 ^ (f.hi + 1 - f.lo) - 1) * 2 ^ f.lo)) 0
      let v := v &&& mask
      if off = 0x08 then
        let en := v.testBit 0 && s.invenOk (v.testBit 2)
        let s := if v.testBit 0 && !en then s.recRule 387 else s
        let s := s.rset R.MNS_CTRL (v &&& 4 ||| bit en)
        s.cfgQueue off (v &&& 6)
      else (s.rset r v i j).cfgQueue off v

/-- MNS_CONFIG_WRITE (R395). -/
def execMnsConfigWrite (off v : Nat) (s : State) : Host.Outcome State Fault Refusal := .next (s.mnsWrite off v)

/-- INVEN_WRITE: a write of MNS_CTRL (R387). -/
def execInvenWrite (v : Nat) (s : State) : Host.Outcome State Fault Refusal := .next (s.mnsWrite 0x08 v)

/-- INVFCLR: a write of MNS_CTRL with its other fields as they stand (R386). -/
def execInvfclr (s : State) : Host.Outcome State Fault Refusal :=
  .next (s.mnsWrite 0x08 (s.rget R.MNS_CTRL ||| 2))

/-! ### The speed bound (R390, R398) -/

/-- The power bound in force: none on an L variant with LPWR 0. -/
def State.powerBound (s : State) : Option Nat :=
  if s.variant.mains then some (min (s.fget F.MNS_BOUND_PFLK) (s.fget F.MNS_BOUND_PCAP))
  else if s.fget F.MNS_LPWR_LPWR = 0 then none else some (s.fget F.MNS_LPWR_LPWR)

/-- Speed class k, 1 to 15, is defined. -/
def State.classMms (s : State) (k : Nat) : Nat := s.fget F.FMT_SPD_MMS k

/-- The highest class below n + 1 that satisfies p; 0 for none. -/
def topClass (p : Nat → Bool) : Nat → Nat
  | 0 => 0
  | n + 1 => if p (n + 1) then n + 1 else topClass p n

/-- A class fits the power bound. -/
def State.classFits (s : State) (k : Nat) : Bool :=
  let w := s.fget F.MNS_SPDPWR_P0 + s.fget F.MNS_SPDPWR_KV * s.classMms k / 10
  s.classMms k != 0 && (match s.powerBound with | some b => decide (w ≤ b) | none => true)

/-- PLC_MAXCLASS at phase 0 (R390). -/
def State.maxClassPhase0 (s : State) : State :=
  let m := s.variant.mains
  let st := s.fget F.MNS_STAT_STATE
  let put (s : State) (c : Nat) (f b : Bool) : State :=
    ((s.fset F.PLC_MAXCLASS_CLASS c).fset F.PLC_MAXCLASS_BYFLICK (bit f)).fset F.PLC_MAXCLASS_BYMAINS (bit b)
  let top := topClass (fun k => s.classMms k != 0) 15
  let fl := m && s.fget F.MNS_BOUND_PFLK ≤ s.fget F.MNS_BOUND_PCAP
  if m && (st ≤ 1 || st = 4 || !s.fbit F.MNS_STAT_LINK) then put s 0 (0 < top && fl) (0 < top)
  else if m && st = 3 || s.anyImaging then s
  else
    let c := topClass s.classFits 15
    put s c (c < top && fl) (c < top && !fl)

end Sys2Proof.Machine
end

