-- ==== Sys2Proof/Machine/Write.lean ====
section
/-! DEFINITION. Writing a register: the access codes field by field, and the registers whose write does more (R9 to R11, R80,
R84, R97, R99, R131, R617, R618). -/

namespace Sys2Proof.Machine

/-! ### Registers of the tick timer and the sequencer -/

/-- TCK_CTRL.CNTLATCH: tick count [47:32] into TCK_COUNT_HI (R32). -/
def State.cntLatch (s : State) : State := s.rset R.TCK_COUNT_HI (s.tick / 2 ^ 32 % 65536)

/-- CNTLATCH (R32). -/
def execCntlatch (s : State) : Host.Outcome State Fault Refusal := .next s.cntLatch

/-- COUNT_LO_READ: a host read of TCK_COUNT_LO, with its side effect (R32, R73). -/
def execCountLoRead (s : State) : Host.Outcome State Fault Refusal :=
  .next (s.cntLatch.emit (.hostRead32 (R.TCK_COUNT_LO.addr 0 0) s.now32))

/-- An abort of context c waits for the next commit (R97). [DEDUCED, log entry 93] -/
def State.ctxAbort (s : State) (c : Nat) : State :=
  if 512 ≤ c || s.seq.abortPend.contains c then s
  else { s with seq := { s.seq with abortPend := s.seq.abortPend ++ [c] } }

/-- CTX_ABORT of the context selected (R97). -/
def execCtxAbort (c : Nat) (s : State) : Host.Outcome State Fault Refusal :=
  .next (if s.bivouac then s else (s.rset R.SEQ_CTXSEL (c % 512)).ctxAbort (c % 512))

/-- A restart of context c waits for the next commit (R99). -/
def State.ctxRestart (s : State) (c : Nat) : State :=
  if 512 ≤ c || s.seq.restartPend.contains c then s
  else { s with seq := { s.seq with restartPend := s.seq.restartPend ++ [c] } }

/-- CTX_RESTART of the context selected (R99). -/
def execCtxRestart (c : Nat) (s : State) : Host.Outcome State Fault Refusal :=
  .next (if s.bivouac then s else (s.rset R.SEQ_CTXSEL (c % 512)).ctxRestart (c % 512))

/-- SEQ_EVSET: flags 0 to 767; other values are ignored (R80). -/
def State.evSet (s : State) (f : Nat) : State := if f < 768 then s.setFlag f else s

/-- EVSET (R80). -/
def execEvset (f : Nat) (s : State) : Host.Outcome State Fault Refusal := .next (if s.bivouac then s else s.evSet (f % 1024))

/-- SEQ_EV{g}: each 1 clears its flag (R80). -/
def State.evClear (s : State) (g v : Nat) : State :=
  (List.range 32).foldl (fun s b => if v.testBit b then s.clearFlag (32 * g + b) else s) s

/-- EVENT_FLAG_CLEAR (R80). -/
def execEventFlagClear (g val : Nat) (s : State) : Host.Outcome State Fault Refusal :=
  .next (if s.bivouac || 32 ≤ g then s else s.evClear g val)

/-- SEQ_T{t}_CTRL: with EN = 1 the count is loaded from RELOAD, 0 being treated as 1 (R84). -/
def State.timerWrite (s : State) (t v : Nat) : State :=
  let s := s.rset R.SEQ_T_CTRL (bits v 31 30 * 2 ^ 30 + bits v 23 0) t
  if v.testBit 31 then s.rset R.SEQ_T_CNT (max (bits v 23 0) 1) t else s

/-- TIMER_WRITE (R84). -/
def execTimerWrite (t val : Nat) (s : State) : Host.Outcome State Fault Refusal :=
  .next (if s.bivouac || 64 ≤ t then s else s.timerWrite t (val % 2 ^ 32))

/-! ### Plain fields (R11, Table 0-5) -/

/-- The unit that owns the RWI fields of a register is idle. -/
def State.unitIdle (s : State) (r : RegDesc) (i : Nat) : Bool :=
  if r = R.PLC_RETAIN then s.held == 0
  else match r.base / 65536 with
    | 0x05 => !s.fbit F.CDC_E_CTRL_EN i && (s.enc i).blk.isNone && s.fget F.CDC_E_STAT_STATE i == 0
    | 0x07 | 0x08 => !s.stnImaging i
    | 0x0E =>
      if r.base < 0xE2000 then s.focState i == 0 || s.focState i == 6
      else if r.base < 0xE2400 then !s.fbit F.FOC_ST_CTRL_EN i
      else !s.fbit F.FOC_SD_CFG_EN i
    | 0x0F => s.axState i == 0 || 5 ≤ s.axState i
    | 0x10 | 0x12 => !s.pageBusy
    | 0x11 => !s.dmaBusy i
    | _ => true

/-- The value of a field after a write of v over old, under its access code (Table 0-5). -/
def FieldDesc.written (f : FieldDesc) (pres idle : Bool) (old v : Nat) : Nat :=
  let o := bits old f.hi f.lo
  let n := bits v f.hi f.lo
  match f.acc with
  | .rw => n
  | .w1c => o - (o &&& n)
  | .rwp => if pres then n else o
  | .rwi => if idle then n else o
  | .ro | .wo | .w1p => o

/-- The value of a register after a write, its reserved bits 0. -/
def RegDesc.written (r : RegDesc) (pres idle : Bool) (old v : Nat) : Nat :=
  r.fields.foldl (fun a f => a + f.written pres idle old v * 2 ^ f.lo) 0

/-- A write under the access codes alone, with at most one record (R11). -/
def State.plainWrite (s : State) (r : RegDesc) (i j v : Nat) : State :=
  let old := s.rget r i j
  let pres := s.presence
  let idle := s.unitIdle r i
  let t := s.rset r (r.written pres idle old v) i j
  if !pres && r.differs .rwp old v then t.recRwp (r.addr i j) v
  else if !idle && r.differs .rwi old v then t.record 0x600B [r.addr i j, v]
  else t

/-! ### Registers whose write does more -/

/-- SYS_CTRL: BIVTRY, then SWRST. -/
def State.sysCtrlWrite (s : State) (v : Nat) : State :=
  let s := if v.testBit 1 then s.bivtry else s
  if v.testBit 0 then s.start 5 else s

/-- SYS_START.READY, by IOW.AT or by the host, whose write is ignored and recorded (R601). -/
def State.sysStartWrite (s : State) (host : Bool) (v : Nat) : State :=
  if !v.testBit 0 then s else if host then s.recRule 601 else s.declareReady

/-- SEQ_CTXCMD on the selected context: ABORT and RESTART (R97, R99). -/
def State.ctxCmdWrite (s : State) (v : Nat) : State :=
  let c := s.rget R.SEQ_CTXSEL
  let s := if v.testBit 0 then s.ctxAbort c else s
  if v.testBit 1 then s.ctxRestart c else s

/-- FMT_W_CTRL: RESEND, then CLOSE, then OPEN (R154, R162). -/
def State.winCtrlWrite (s : State) (w v : Nat) : State :=
  let s := s.fset F.FMT_W_CTRL_RESEND (bits v 2 2) w
  let s := if v.testBit 1 then s.close w else s
  if v.testBit 0 then s.open_ w else s

/-- FMT_PGSTART, by IOW.AT or by the host, whose write is ignored and recorded (R172, R173). -/
def State.pgStartWrite (s : State) (host : Bool) (v : Nat) : State := if host then s.recRule 173 else s.pgStart v

/-- CDC_E_CTRL: EN, then FLUSH and ABORT (R203, R209, R210). -/
def State.encCtrlWrite (s : State) (e v : Nat) : State :=
  let s := if v.testBit 0 then s.encEnable e else s.encDisable e
  s.setEnc e { s.enc e with flushPend := (s.enc e).flushPend || v.testBit 1, abortPend := (s.enc e).abortPend || v.testBit 2 }

/-- EXP_S_SPICMD: SENDTRIM, then RAW (R250). -/
def State.spiCmdWrite (s : State) (i v : Nat) : State :=
  let s := if v.testBit 0 then s.sendTrim i else s
  if v.testBit 1 then s.sendRaw i else s

/-- CAL_CTRL: APPLY, STORE, then RUN (R304, R321, R322). -/
def State.calCtrlWrite (s : State) (v : Nat) : State :=
  let s := if v.testBit 1 then s.calApply (s.fget F.CAL_SET_SRC) else s
  let s := if v.testBit 2 then s.calStore else s
  if v.testBit 0 then s.calRun else s

/-- LPE_PCMD: READ at once, then WRITE (R344). -/
def State.pcmd (s : State) (v : Nat) : State :=
  let s := if v.testBit 1 then s.pcmdRead else s
  if v.testBit 0 then s.pcmdWrite else s

/-- FUS_Z_CFG: a zone whose EN is 0 is commanded 0 (R366). -/
def State.zoneCfgWrite (s : State) (z v : Nat) : State :=
  let s := s.plainWrite R.FUS_Z_CFG z 0 v
  if v.testBit 31 then s else s.zeroZone z

/-- FOC_BRKSTAT: CHFCLR, then OVCLR (R422, R424). -/
def State.brkStatWrite (s : State) (v : Nat) : State :=
  let s := if v.testBit 0 then s.chfclr else s
  if v.testBit 1 then s.ovclr else s

/-- The _HI half of a virtual-limit pair or of HOMEPOS: the pair takes effect at the next phase 0 (Table 15-6). -/
def State.axHiWrite (s : State) (r : RegDesc) (n which v : Nat) : State :=
  let ok := which != 2 || s.unitIdle r n
  let s := s.plainWrite r n 0 v
  if ok then s.setAxis n { s.axis n with pairs := which :: (s.axis n).pairs } else s

/-- A program word or address register of a DMA channel; the host's write of a sequencer-owned channel is ignored and
recorded (R489, Table 17-4). -/
def State.dmaWordWrite (s : State) (host : Bool) (r : RegDesc) (c j v : Nat) : State :=
  if host && s.dmaSeq c then s.recRule 489 else s.plainWrite r c j v

/-- PWR_CTRL: its RW fields, WAKE and THRCLR (R543, R552). -/
def State.pwrCtrlWrite (s : State) (v : Nat) : State :=
  let s := s.plainWrite R.PWR_CTRL 0 0 v
  let s := if v.testBit 8 then s.wakeBy 3 else s
  if v.testBit 9 then s.thrClr else s

/-- SEC_FRKINIT: CTR, and with GO an initialisation (R574). -/
def State.frkInitWrite (s : State) (v : Nat) : State := if v.testBit 31 then s.frkInit (v % 16) else s.rset R.SEC_FRKINIT (v % 16)

/-- The registers up to the band store whose write does more than their access codes; `host` tells a host write from an
IOW.AT. -/
def writersA (host : Bool) : List (RegDesc × (State → Nat → Nat → Nat → State)) :=
  [(R.SYS_CTRL, fun s _ _ v => s.sysCtrlWrite v),
   (R.SYS_START, fun s _ _ v => s.sysStartWrite host v),
   (R.SYS_WDKICK, fun s _ _ v => if v.testBit 0 then s.kick else s),
   (R.SYS_RTC, fun s _ _ v => s.rtcWrite false v),
   (R.SYS_RTCALM, fun s _ _ v => s.rtcWrite true v),
   (R.TCK_CTRL, fun s _ _ v => if v.testBit 0 then s.cntLatch else s),
   (R.PLC_CTRL, fun s _ _ v => if v.testBit 0 then s.retry else s),
   (R.PLC_LANEMAP, fun s _ _ v => s.lanemapWrite v),
   (R.SEQ_CTXCMD, fun s _ _ v => s.ctxCmdWrite v),
   (R.SEQ_EVSET, fun s _ _ v => s.evSet (v % 1024)),
   (R.SEQ_LDCTRL, fun s _ _ v => s.ldCtrlWrite v),
   (R.SEQ_EV, fun s g _ v => s.evClear g v),
   (R.SEQ_T_CTRL, fun s t _ v => s.timerWrite t v),
   (R.FMT_W_CTRL, fun s w _ v => s.winCtrlWrite w v),
   (R.FMT_QUEUE, fun s _ _ v => s.queuePage v),
   (R.FMT_CMD, fun s _ _ v => if v % 4 = 0 then s else s.pageCmd (v.testBit 0) (v.testBit 1)),
   (R.FMT_PGSTART, fun s _ _ v => s.pgStartWrite host v),
   (R.FMT_DONE_POP, fun s _ _ v => if v.testBit 0 then s.donePop else s),
   (R.FMT_GAPREQ, fun s _ _ v => if v.testBit 30 && s.fbit F.FMT_GAPREQ_PEND then s.gapAccept else s),
   (R.FMT_SPD, fun s k _ v => s.spdWrite k v),
   (R.CDC_E_CTRL, fun s e _ v => s.encCtrlWrite e v),
   (R.CDC_E_RDPTR, fun s e _ v => s.rdptrWrite e v),
   (R.CDC_E_DPOP, fun s e _ v => if v.testBit 0 then s.dpop e else s),
   (R.BST_UPD, fun s _ _ v => if v.testBit 0 then { s with img := { s.img with armPend := true } } else s),
   (R.BST_S_CFG, fun s i _ v => s.bstWrite i 0 v),
   (R.BST_S_LPC, fun s i _ v => s.bstWrite i 1 v),
   (R.BST_S_START, fun s i _ v => s.bstWrite i 2 v)]

/-- The registers of exposure, scanner synchronisation, calibration, loop engines, power electronics, motors and axes whose
write does more than their access codes. -/
def writersB : List (RegDesc × (State → Nat → Nat → Nat → State)) :=
  [(R.EXP_ILK, fun s _ _ v => if v.testBit 3 then s.rearm else s),
   (R.EXP_S_CTRL, fun s i _ v => s.ldenWrite i (v % 2)),
   (R.EXP_S_SPICMD, fun s i _ v => s.spiCmdWrite i v),
   (R.EXP_S_PWR, fun s i _ v => s.pwrWrite i v),
   (R.EXP_S_APCCFG, fun s i _ v => s.apcWrite i v false),
   (R.EXP_S_APCSTB, fun s i _ v => s.apcWrite i v true),
   (R.SCN_S_CFG, fun s i _ v => s.scnCfgWrite i v),
   (R.SCN_S_SOLDLY, fun s i _ v => s.soldlyWrite i v),
   (R.CLK_CTRL, fun s _ _ v => s.sscWrite v),
   (R.CLK_S_PFREQ, fun s i _ v => s.pfreqWrite i v),
   (R.CAL_CTRL, fun s _ _ v => s.calCtrlWrite v),
   (R.LPE_PCMD, fun s _ _ v => s.pcmd v),
   (R.LPE_L_STAT, fun s n _ v => s.lawStatClear n v),
   (R.HVS_S_WIN, fun s i _ v => s.hvWinWrite i v),
   (R.HVS_C_CFG, fun s n _ v => s.hvCfgWrite n v),
   (R.HVS_C_CTRL, fun s n _ v => s.hvCtrlWrite n v),
   (R.HVS_C_OUT, fun s n _ v => s.hvOutWrite n v),
   (R.FUS_T_CTRL, fun s i _ v =>
      if v.testBit 0 then { s with power := { s.power with fus := { s.power.fus with clr := s.power.fus.clr.set i true } } } else s),
   (R.FUS_Z_CFG, fun s z _ v => s.zoneCfgWrite z v),
   (R.FUS_Z_CTRL, fun s z _ v => if v.testBit 0 then s.zoneTripClr z else s),
   (R.FOC_BRKSTAT, fun s _ _ v => s.brkStatWrite v),
   (R.FOC_C_CTRL, fun s n _ v => s.focCtrlWrite n v),
   (R.AXS_A_CMD, fun s n _ v => s.axCmdWrite n (v % 8)),
   (R.AXS_A_LIMLO_HI, fun s n _ v => s.axHiWrite R.AXS_A_LIMLO_HI n 0 v),
   (R.AXS_A_LIMHI_HI, fun s n _ v => s.axHiWrite R.AXS_A_LIMHI_HI n 1 v),
   (R.AXS_A_HOMEPOS_HI, fun s n _ v => s.axHiWrite R.AXS_A_HOMEPOS_HI n 2 v)]

/-- The registers of memory, ring, power, security, the recorder and general I/O whose write does more than their access
codes. -/
def writersC (host : Bool) : List (RegDesc × (State → Nat → Nat → Nat → State)) :=
  [(R.DRC_P_CFG, fun s p _ v => s.drcPortWrite p v),
   (R.DRC_C_CTRL, fun s c _ v => if v.testBit 0 then s.retrain c else s),
   (R.DMA_C_CFG, fun s c _ v => s.dmaCfgWrite c v),
   (R.DMA_C_CTRL, fun s c _ v => s.dmaCtrlWrite c v),
   (R.DMA_C_A_LO, fun s c k v => s.dmaWordWrite host R.DMA_C_A_LO c k v),
   (R.DMA_C_A_HI, fun s c k v => s.dmaWordWrite host R.DMA_C_A_HI c k v),
   (R.DMA_C_PROG_LO, fun s c k v => s.dmaWordWrite host R.DMA_C_PROG_LO c k v),
   (R.DMA_C_PROG_HI, fun s c k v => s.dmaWordWrite host R.DMA_C_PROG_HI c k v),
   (R.EUN_CTRL, fun s _ _ v => if v.testBit 0 then s.enumWrite else s),
   (R.EUN_RXPOP, fun s _ _ v => if v.testBit 0 then s.rxPop else s),
   (R.EUN_ACKPOP, fun s _ _ v => if v.testBit 0 then s.ackPop else s),
   (R.EUN_RA_CMD, fun s _ _ v => s.raCmdWrite v),
   (R.EUN_SH_CFG, fun s k _ v => s.shCfgWrite k v),
   (R.PWR_CTRL, fun s _ _ v => s.pwrCtrlWrite v),
   (R.PWR_NEXTEVT_LO, fun s _ _ v => s.evtLoWrite v),
   (R.PWR_NEXTEVT_HI, fun s _ _ v => s.evtHiWrite v),
   (R.PWR_ACK, fun s _ _ v => s.ackWrite v),
   (R.SEC_MINVER, fun s _ _ v => s.minverWrite v),
   (R.SEC_CTRL, fun s _ _ v => s.secCtrlWrite v),
   (R.SEC_KEYCMD, fun s _ _ v => s.keyCmdWrite v),
   (R.SEC_DBG, fun s _ _ v => s.dbgWrite v),
   (R.SEC_FRKINIT, fun s _ _ v => s.frkInitWrite v),
   (R.SEC_FRK_ADD, fun s k _ v => s.frkAdd k v),
   (R.REC_CTRL, fun s _ _ v => s.recCtrlWrite v),
   (R.REC_C_CMD, fun s u _ v => if v.testBit 0 then s.recNext u else s),
   (R.IOX_EVC_CFG, fun s k _ v => s.evcCfgWrite k v),
   (R.IOX_SPI_CFG, fun s k _ v => s.gspiCfgWrite k v),
   (R.IOX_SPI_TX, fun s k _ v => s.gspiTx k v),
   (R.IOX_I2C_CFG, fun s k _ v => s.i2cCfgWrite k v),
   (R.IOX_I2C_CMD, fun s k _ v => s.i2cCmdWrite k v),
   (R.IOX_U_CFG, fun s k _ v => s.uartCfgWrite k v),
   (R.IOX_U_TX, fun s k _ v => s.uartPut k v),
   (R.IOX_U_STAT, fun s k _ v => s.uartStatWrite k v)]

/-- What a write of a register does beyond its access codes, if anything. -/
def writerOf (host : Bool) (r : RegDesc) : Option (State → Nat → Nat → Nat → State) :=
  ((writersA host ++ writersB ++ writersC host).find? (fun w => w.1.base == r.base && w.1.i0 == r.i0)).map (·.2)

/-! ### Windows -/

/-- A write of a word of the MSI-X table: a vector that it unmasks sends its pending message (PCI Express Base 5.0). -/
def State.msixWrite (s : State) (a v : Nat) : State :=
  let o := a - 0x48000
  let k := o / 16
  let s := { s with msixTab := memWrite s.msixTab o 4 v }
  let masked := (memRead s.msixTab (16 * k + 12) 4).testBit 0
  if s.msixEn && !masked && s.msixPend.contains k then { s with msixPend := s.msixPend.filter (· != k) }.emit (.msix k) else s

/-- A write of an aligned word below 0x0018_0000 that no register occupies (R617, Tables 5-1 and 20-8). -/
def State.windowWrite (s : State) (a v : Nat) : State :=
  if 0x48000 ≤ a && a < 0x48400 then s.msixWrite a v
  else if secWindow a then s.secWinWrite a v
  else s

/-! ### A write of BAR0 -/

/-- A write of an aligned word at a BAR0 offset below 0x0018_0000, by the host or by IOW.AT: without effect where the
instance is absent (R2), where nothing lies (R617), and in Bivouac mode outside its registers (R607). -/
def State.applyWrite (s : State) (host : Bool) (a v : Nat) : State :=
  if s.bivouac && !bivouacReg a then s
  else match findReg a with
    | some (r, i, j) =>
      if r.res.absent s.variant i j then s
      else if r.base / 65536 = 0x0D && mnsConfig (a % 65536) then s.mnsWrite (a % 65536) v
      else match writerOf host r with
        | some f => f s i j v
        | none => s.plainWrite r i j v
    | none => s.windowWrite a v

/-- The program store window or the table RAM window (R618). -/
def imageWindow (a : Nat) : Bool := (0x1000000 ≤ a && a < 0x1400000) || (0x1800000 ≤ a && a < 0x1A00000)

/-- A host write of BAR0: aligned words only; the image windows are read-only, and a write of them is recorded (R9, R618). -/
def State.hostWrite (s : State) (a size v : Nat) : State :=
  if imageWindow a then s.recRule 618
  else if size ≠ 4 || a % 4 ≠ 0 || 0x180000 ≤ a then s
  else s.applyWrite true a (v % 2 ^ 32)

/-- REGISTER_WRITE (R11). -/
def execRegisterWrite (addr size val : Nat) (s : State) : Host.Outcome State Fault Refusal :=
  .next (if s.ticking then s.hostWrite addr size val else s)

end Sys2Proof.Machine
end

