-- ==== Sys2Proof/Machine/Outp.lean ====
section
/-! DEFINITION. From phase 0 to the end of phase 14: output phases, overruns and pre-emption (R36 to R40, R61 to R65, R78,
R86). -/

namespace Sys2Proof.Machine

/-! ### Output phases (R36 to R40) -/

/-- The law outputs released for a phase. -/
def State.lawOuts (s : State) (p : Nat) : List LawOut := s.lpe.rel.filter (fun o => o.phase == p)

/-- The timed writes released for an output phase, as context, address and value, in ascending context number and program
order. -/
def State.timedWrites (s : State) (p : Nat) : List (Nat × Nat × Nat) :=
  s.seq.rel.filterMap (fun d => match d with
    | .iowAt c a v q => if q = p then some (c, a, v) else none
    | _ => none)

/-- A deferred action is a timed write of an output phase. -/
def Deferred.writesAt (d : Deferred) (p : Nat) : Bool := match d with | .iowAt _ _ _ q => q == p | _ => false

/-- Two contexts write one register (R39). [DEDUCED, log entry 36] -/
def collides (l : List (Nat × Nat × Nat)) : Bool := l.any (fun x => l.any (fun y => x.2.1 == y.2.1 && x.1 != y.1))

/-- What has been released for a phase is taken out. -/
def State.dropOutputs (s : State) (p : Nat) : State :=
  { s with
    lpe := { s.lpe with rel := s.lpe.rel.filter (fun o => o.phase != p) }
    seq := { s.seq with rel := s.seq.rel.filter (fun d => !d.writesAt p) } }

/-- A collision of timed writes: WCOLL, recorded once per tick (R39). -/
def State.collision (s : State) : State :=
  let s := s.fset F.PLC_STAT_WCOLL 1
  if s.seq.collTold then s else ({ s with seq := { s.seq with collTold := true } }).recRule 39

/-- The law outputs of a phase take effect. -/
def State.putLawOuts (s : State) (l : List LawOut) : State := l.foldl (fun s (o : LawOut) => s.applyWrite false o.addr o.val) s

/-- Timed writes take effect in order, so the last one of a register stands (R39, R86, R131). -/
def State.putTimed (s : State) (l : List (Nat × Nat × Nat)) : State :=
  l.foldl (fun s (w : Nat × Nat × Nat) => s.applyWrite false w.2.1 w.2.2) s

/-- Output phase p: the law outputs and timed writes released for it take effect (R36). -/
def State.applyOutputs (s : State) (p : Nat) : State :=
  let s := { s with phase := p }
  let s := if p = 4 then s.mnsAfterFrame else s
  let lo := s.lawOuts p
  let tw := s.timedWrites p
  let s := ((s.dropOutputs p).putLawOuts lo).putTimed tw
  if collides tw then s.collision else s

/-- What is left of phase 0 before a later phase event: the heartbeat and the DMA starts that are due. -/
def State.phase0Rest (s : State) : State := if s.phase = 0 then s.heartbeat.dmaStartsDue else s

/-- The output phases after the present phase, up to p, in phase order. [DEDUCED, log entry 13] -/
def State.outputsTo (s : State) (p : Nat) : State :=
  ([2, 4, 6, 8, 10] : List Nat).foldl (fun s q => if s.phase < q && q ≤ p then s.applyOutputs q else s) s.phase0Rest

/-- OUTPUT_PHASE p, in its tick (R36). -/
def execOutputPhase (p : Nat) (s : State) : Host.Outcome State Fault Refusal :=
  .next (if s.ticking && !s.pwr.asleep && p % 2 = 0 && 2 ≤ p && p ≤ 10 && s.phase < p then s.outputsTo p else s)

/-! ### Overruns (R61 to R65, R78) -/

/-- Overrun ticks in a row before a context is halted. -/
def State.ovrLim (s : State) : Nat := max (s.fget F.PLC_OVRLIM_LIM) 1

/-- The first overrun of a context since the admission is recorded (R64). -/
def State.ovrRecord (s : State) (c : Nat) : State :=
  if s.seq.ovrSeen.contains c then s
  else ({ s with seq := { s.seq with ovrSeen := c :: s.seq.ovrSeen } }).recRule 64

/-- Running context c is pre-empted and flagged OVERRUN for a cause, 1 BUDGET or 2 PHASE14: it resumes at its instruction in the
next tick, or after too many overruns in a row it is HALTED, which is recorded with the commit (R61, R63 to R65).
[DEDUCED, log entries 35, 37] -/
def State.overrun (s : State) (c cause : Nat) : State :=
  let x := s.ctx c
  let halt := s.ovrLim ≤ x.ovrRun + 1
  let s := ((s.finc F.PLC_OVRCNT_COUNT 1).rset R.PLC_LASTOVR (s.tick % 65536 * 65536 + cause * 4096 + c)).ovrRecord c
  let s := if halt then { s with seq := { s.seq with commitRecs := s.seq.commitRecs ++ [(0x6041, [])] } } else s
  s.endActivation c { x with overran := true, ovrRun := x.ovrRun + 1 } (if halt then .halted else .preempted)

/-- BUDGET_EXHAUSTED: a running context has used its WCC, and is pre-empted at the instruction boundary (R61, R78). -/
def execBudgetExhausted (c : Nat) (s : State) : Host.Outcome State Fault Refusal :=
  .next (if s.running && s.phase < 14 && (s.ctx c).st == .running && (s.ctx c).budget = 0 then s.overrun c 1 else s)

/-- The contexts that run. -/
def State.runningCtxs (s : State) : List Nat := (s.seq.ctx.zipIdx.filter (fun xc => xc.1.st == .running)).map (·.2)

/-- The end of phase 14: every running context is pre-empted, with cause BUDGET where its budget was used up first (R61). -/
def State.preemptAll (s : State) : State :=
  let s := { s.outputsTo 10 with phase := 14 }
  s.runningCtxs.foldl (fun s c => s.overrun c (if (s.ctx c).budget = 0 then 1 else 2)) s

/-- PHASE14_PREEMPT (R61). -/
def execPhase14Preempt (s : State) : Host.Outcome State Fault Refusal :=
  .next (if s.ticking && s.phase < 14 then s.preemptAll else s)

end Sys2Proof.Machine
end

