-- ==== Sys2Proof/Machine/Commit.lean ====
section
/-! DEFINITION. Phase 15: compare, commit, checkpoint, rollback and substitution (R16, R17, R68, R85 to R100, R329, R610). -/

namespace Sys2Proof.Machine

/-! ### Pairs (R47, R93 to R95) -/

/-- SEQ_PAIRSTAT.PP of physical pair p: 0 active, 1 spare, 2 self-test, 3 retired. -/
def State.pairStat (s : State) (p : Nat) : Nat := bits (s.rget R.SEQ_PAIRSTAT) (2 * p + 1) (2 * p)

/-- SEQ_PAIRSTAT.PP of physical pair p set. -/
def State.setPairStat (s : State) (p v : Nat) : State :=
  s.rset R.SEQ_PAIRSTAT (putBits (s.rget R.SEQ_PAIRSTAT) (2 * p + 1) (2 * p) v)

/-- Physical pair p has caused a substitution (SEQ_PAIRSTAT.FAILED). -/
def State.pairFailed (s : State) (p : Nat) : Bool := (s.rget R.SEQ_PAIRSTAT).testBit (18 + p)

/-- The physical pair behind logical pair l. -/
def State.pairMap (s : State) (l : Nat) : Nat := bits (s.rget R.PLC_PAIRMAP) (4 * l + 3) (4 * l)

/-- The spare pair. -/
def State.sparePair (s : State) : Option Nat := findBelow 9 (fun p => s.pairStat p == 1)

/-- The spare takes the logical pair of a pair that mismatched, which goes into its self-test, or is retired if it has caused
a substitution before (R92 to R94). -/
def State.substitute (s : State) (p : Nat) : State :=
  match s.sparePair, findBelow 8 (fun l => s.pairMap l == p) with
  | some q, some l =>
    let again := s.pairFailed p
    let s := s.rset R.PLC_PAIRMAP (putBits (s.rget R.PLC_PAIRMAP) (4 * l + 3) (4 * l) q)
    let s := (s.setPairStat q 0).setPairStat p (if again then 3 else 2)
    let s := s.rset R.SEQ_PAIRSTAT (s.rget R.SEQ_PAIRSTAT ||| 2 ^ (18 + p))
    { s.fset F.PLC_STAT_PAIRSUB 1 with
      seq := { s.seq with subst := some q, selfTest := if again then none else some (p, 100) } }
  | _, _ => s

/-- The self-test of pair p has ended: spare or retired, and the pair that took over is an ordinary one (R93, R95).
[DEDUCED, log entry 39] -/
def State.selfTestEnd (s : State) (p : Nat) (pass : Bool) : State :=
  let s := (s.setPairStat p (if pass then 1 else 3)).fset F.PLC_STAT_PAIRSUB 0
  { s with seq := { s.seq with subst := none, selfTest := none } }

/-- PAIR_SELF_TEST_END at the boundary after its 100th tick (R93). -/
def execPairSelfTestEnd (pass : Bool) (s : State) : Host.Outcome State Fault Refusal :=
  .next (match s.seq.selfTest with
    | some (p, 0) => if s.boundary then s.selfTestEnd p pass else s
    | _ => s)

/-! ### Compare (R68, R95, R329) -/

/-- The core clock runs in this tick: always but in SLEEP and in the ticks of STANDBY between heartbeats (R537). -/
def State.coreRuns (s : State) : Bool := !s.pwr.asleep && (!s.gated || 50 ≤ s.pwr.sbTick)

/-- Signatures are compared: the program runs. -/
def State.compares (s : State) : Bool := s.running && s.coreRuns

/-- The active pairs among those whose signatures differ. -/
def State.badPairs (s : State) (lanes : List Nat) : List Nat :=
  if s.compares then (List.range 9).filter (fun p => lanes.contains p && (List.range 8).any (fun l => s.pairMap l == p)) else []

/-- The loop engines whose signatures differ. -/
def State.badEngines (s : State) (engines : List Nat) : List Nat :=
  if s.compares then (List.range 4).filter (fun e => engines.contains e) else []

/-- The pair whose mismatch stops the module: the substituting one, one without a spare, or a second one in one tick (R95).
[DEDUCED, log entry 38] -/
def State.stopPair (s : State) (bad : List Nat) : Option Nat :=
  match bad with
  | [] => none
  | p :: r => if s.seq.subst == some p || s.sparePair.isNone then some p else r.head?

/-- Why the compare stops the module, as kind and number: an SRAM region, a pair, or an engine in two ticks running (R95, R329,
R610). -/
def State.stopCause (s : State) (pairs engines : List Nat) : Option (Nat × Nat) :=
  match s.boot.sramBad, s.stopPair pairs, engines.find? (fun e => s.lpe.mmLast.contains e) with
  | some r, _, _ => some (3, r)
  | none, some p, _ => some (1, p)
  | none, none, some e => some (2, e)
  | none, none, none => none

/-! ### Rollback (R90 to R92, R346) -/

/-- A journal replayed, latest entry first. -/
def State.replay (s : State) : List JEntry → State
  | [] => s
  | j :: js =>
    (match j.loc with
      | none => { s with data := memWrite s.data j.addr 4 j.old }
      | some c => s.setCtx c { s.ctx c with loc := memWrite (s.ctx c).loc j.addr 4 j.old }).replay js

/-- The words of the event flags. -/
def State.flagWords (s : State) : List Word := (List.range 32).map (fun g => BitVec.ofNat 32 (s.rget R.SEQ_EV g))

/-- The event flags set to 32 words. -/
def State.putFlagWords (s : State) (l : List Word) : State :=
  (List.range 32).foldl (fun s g => s.rset R.SEQ_EV (nth l g 0).toNat g) s

/-- A change to an event flag since the checkpoint is applied again (R91). -/
def State.reapply (s : State) (a : Arrival) : State := match a with | .set f => s.raiseFlag f | .clear f => s.putFlag f false

/-- Memory, contexts, event flags and laws return to their checkpoint; what the tick queued is discarded; parameter writes wait
to be applied again; the changes of flags that have arrived are applied again (R87, R90, R91, R148, R346). -/
def State.restore (s : State) : State :=
  let s := s.replay s.seq.journal
  let s := { s with
    seq := { s.seq with
      ctx := (s.seq.ckpt.zip s.seq.ctx).map (fun (kx : Ctx × Ctx) => { kx.1 with loc := kx.2.loc })
      outq := [], rel := [], journal := [], faults := [], commitRecs := [] }
    lpe := { s.lpe with law := s.lpe.ckpt, outq := [], rel := [], again := s.lpe.applied, applied := [] } }
  let s := s.lpe.clears.foldl State.clearSticky s
  let s := if s.lpe.again.any (fun w => match w with | .host .. => true | _ => false) then s.fset F.LPE_PSTAT_BUSY 1 else s
  s.seq.arrivals.foldl State.reapply (s.putFlagWords s.seq.flagCkpt)

/-- A rollback of the tick, by pairs or engines: the state restored, the failing pair replaced, what reports it, and a Guyline
frame that repeats the previous commands (R17, R90, R92, R329, R611). -/
def State.rollback (s : State) (pairs engines : List Nat) : State :=
  let s := s.restore
  let s := match pairs with | p :: _ => s.substitute p | [] => s
  let last := match pairs with | p :: _ => p | [] => 128 + engines.headD 0
  let s := (s.finc F.SEQ_RBCNT_COUNT 1).fset F.SEQ_STAT_RB 1
  let s := s.rset R.SEQ_LASTRB (s.tick % 65536 * 65536 + last)
  let s := s.fset F.LPE_STAT_ENGMM (engines.foldl (fun m e => m ||| 2 ^ e) (s.fget F.LPE_STAT_ENGMM))
  let s := (s.absorb F.SYS_ABS0_LANE).recRule 90
  ({ s with lpe := { s.lpe with mmLast := engines } }).glSend true

/-! ### Commit (R85, R89, R96 to R100) -/

/-- A context has ended (R96). -/
def Status.ended (st : Status) : Bool := st == .done || st == .halted || st == .aborted || st == .faulted

/-- The faults of the tick: SEQ_FAULT and a record for each (R100, R148). -/
def State.commitFaults (s : State) : State :=
  s.seq.faults.foldl (fun s (f : Nat × Nat) => (s.rset R.SEQ_FAULT (f.2 * 2 ^ 24 + f.1)).recRule 100) s

/-- The records of halts in the tick. -/
def State.commitRecords (s : State) : State := s.seq.commitRecs.foldl (fun s (r : Nat × List Nat) => s.record r.1 r.2) s

/-- An abort of context c sampled at the commit: completion wins (R97). -/
def State.sampleAbort (s : State) (c : Nat) : State :=
  let x := s.ctx c
  if x.st == .done then
    { s with seq := { s.seq with abortLate := if s.seq.abortLate.contains c then s.seq.abortLate else c :: s.seq.abortLate } }
  else if x.st.ended || x.st == .unused then s
  else s.setCtx c { x with st := .aborted }

/-- A critical context has ended in this tick (R65, R96). -/
def State.critEnded (s : State) : Bool :=
  (s.seq.ctx.zip s.seq.ckpt).any (fun (xk : Ctx × Ctx) =>
    (match xk.1.decl with | some d => d.crit | none => false) && xk.1.st.ended && !xk.2.st.ended)

/-- A restart of a declared context: registers, flags and local store cleared, at its entry in its start state (R99).
[DESIGN CHOICE, log entry 40] -/
def State.sampleRestart (s : State) (c : Nat) : State :=
  match (s.ctx c).decl with
  | none => s
  | some d => { s.setCtx c (startCtx d) with seq := { (s.setCtx c (startCtx d)).seq with abortLate := s.seq.abortLate.filter (· != c) } }

/-- A context that did not overrun in the tick starts to count anew (R65). -/
def Ctx.endTick (x : Ctx) : Ctx := if x.overran then x else { x with ovrRun := 0 }

/-- The queues are released: actions in ascending context number and program order, with the programs that DMAGO copies, fuser
commands at once and the other law outputs for their phases (R85, R138, R141, R327, R490). -/
def State.release (s : State) : State :=
  let rel := sortBy (fun (a b : Deferred) => decide (a.ctx ≤ b.ctx)) s.seq.outq
  let s := rel.foldl (fun (s : State) d => match d with
    | .dmago _ ch pc => s.setDma ch { s.dmaCh ch with starts := (s.dmaCh ch).starts ++ [s.dmaCopy pc] }
    | _ => s) s
  let fus := s.lpe.outq.filter (fun o => o.phase == 15)
  let s := s.putLawOuts fus
  { s with
    seq := { s.seq with rel := rel, outq := [] }
    lpe := { s.lpe with rel := s.lpe.outq.filter (fun o => o.phase != 15), outq := [] } }

/-- The checkpoint of contexts, event flags and laws is taken, and the journals are emptied (R89). A law that a motor channel has
activated stays active from here on (R408). -/
def State.checkpoint (s : State) : State :=
  { s with
    seq := { s.seq with ckpt := s.seq.ctx, flagCkpt := s.flagWords, journal := [], faults := [], commitRecs := [],
                        abortPend := [], restartPend := [], arrivals := [] }
    lpe := { s.lpe with ckpt := s.lpe.law, applied := [], clears := [], mmLast := [] }
    motion := { s.motion with foc := s.motion.foc.map (fun x => { x with enter := false }) } }

/-- The commit of a tick (R89, R96 to R100). -/
def State.commit (s : State) : State :=
  let s := s.commitFaults.commitRecords
  let s := s.seq.abortPend.foldl State.sampleAbort s
  let s := if s.critEnded then s.abandonPage 2 else s
  let s := s.seq.restartPend.foldl State.sampleRestart s
  let s := { s with seq := { s.seq with ctx := s.seq.ctx.map Ctx.endTick } }
  s.release.checkpoint

/-- The tick ends with its commit: the outputs of the commit's own phase, and a replacement that was asked for (R17, R108). -/
def State.commitTick (s : State) : State :=
  let s := (if s.coreRuns then s.commit else { s with lpe := { s.lpe with mmLast := [] } }).fusSend.glSend false
  if s.boot.replace && s.running then s.replaceNow else s

/-- Phase 15 of a tick whose signatures have been compared. -/
def State.phase15 (s : State) (lanes engines : List Nat) : State :=
  let pairs := s.badPairs lanes
  let engs := s.badEngines engines
  match s.stopCause pairs engs with
  | some (k, n) => ((s.setBoot { s.boot with sramBad := none }).stop k n).glSend true
  | none => if pairs.isEmpty && engs.isEmpty then s.commitTick else s.rollback pairs engs

/-- PHASE_15_COMMIT, once in a tick: phases that have not been commanded come first (R16, R89, R90). [DEDUCED, log entry 124] -/
def execPhase15Commit (lanes lawEngines : List Nat) (s : State) : Host.Outcome State Fault Refusal :=
  .next (
    if !s.ticking || 15 ≤ s.phase then s
    else
      let s := { (if s.phase < 14 then s.preemptAll else s) with phase := 15 }
      let s := if s.pwr.asleep then s else (List.range s.variant.stn).foldl State.dutyNow s
      let s := if s.pwr.asleep then s else (s.phase15 lanes lawEngines).ringUnwrap.retSend
      { s with committed := true })

end Sys2Proof.Machine
end

