-- ==== Sys2Proof/Machine/Tick.lean ====
section
/-! DEFINITION. Phase 0 of a tick: inputs latched, released actions begun, parameter writes, laws, admission of the head,
timers, wakes and dispatch (R32, R35, R66, R74, R75, R84, R135, R138, R171, R172, R530, R635, R636). -/

namespace Sys2Proof.Machine

/-! ### The tick begins -/

/-- The tick count grows by 1, and by a re-timing to the ring (R32, R33, R520); what counts once per tick begins anew.
[DEDUCED, log entry 12] -/
def State.tickStart (s : State) : State :=
  let (s, d) := s.tickAdjust
  { s with
    tick := (((s.tick : Int) + 1 + d) % ((2 ^ 48 : Nat) : Int)).toNat
    elapsed := s.elapsed + 1, phase := 0, committed := false
    rcd := { s.rcd with wrote := false }
    seq := { s.seq with collTold := false, pairCyc := List.replicate 8 0, sigs := [], selfTest := s.seq.selfTest.map (fun pk => (pk.1, pk.2 - 1)) } }

/-- A start whose step is late, whose budget has expired, or whose DRAM training has failed ends here (R600, R602, R605). -/
def State.startSweep (s : State) : State :=
  if s.dramFailed then s.failStart 2
  else match ([0, 1, 2] : List Nat).find? (fun c => s.stepLate c s.elapsed) with
    | some c => s.failStart c
    | none => if s.budgetOver s.elapsed then s.failStart 3 else s

/-! ### What the commit released for phase 0 -/

/-- Released messages leave, in ascending context number and program order (R138). -/
def State.msgRelease (s : State) : State :=
  if s.bivouac then s
  else s.seq.rel.foldl (fun (s : State) d => match d with | .msg c n b t a body => s.sendMsg (some c) n b t a body | _ => s) s

/-- Only timed writes and parameter writes outlive the start of phase 0. -/
def State.dropReleased (s : State) : State :=
  { s with seq := { s.seq with rel := s.seq.rel.filter (fun d => match d with
    | .iowAt .. | .lawset .. => true
    | _ => false) } }

/-- The law outputs that take effect at phase 0: motor current (R327). -/
def State.pwmOuts (s : State) : State := (s.dropOutputs 0).putLawOuts (s.lawOuts 0)

/-! ### Remote writes (R530) -/

/-- The status of a remote write, the lowest code of Table 18-4 that applies: 2 RWEN 0, 3 a protected register without an
authenticated frame or outside a presence window, 4 an offset out of range, 1 otherwise. -/
def State.remoteStatus (s : State) (w : RingWrite) : Nat :=
  let protect := match findReg w.off with
    | some (r, _, _) => r.fields.any (fun f => f.acc = .rwp)
    | none => false
  if !s.fbit F.EUN_CFG_RWEN then 2
  else if protect && !(w.auth && s.presence) then 3
  else if !raOk w.off then 4
  else 1

/-- A remote write is applied and answered, or refused and recorded. [DEDUCED, log entry 43] -/
def State.remoteWrite (s : State) (w : RingWrite) : State :=
  let st := s.remoteStatus w
  let s := if st = 1 then s.applyWrite true w.off w.val else s.recRule 530 [2]
  let ans := [st + w.seq % 256 * 2 ^ 8, w.val]
  (s.seqAccept w.src w.seq (some (5, ans))).reply w.src 5 ans

/-- The remote writes that arrived in the last tick, in order of arrival. -/
def State.remoteWrites (s : State) : State :=
  if s.bivouac || s.pwr.asleep then s
  else s.ring.writes.foldl State.remoteWrite (s.setRing { s.ring with writes := [] })

/-! ### The head of the queue (R66, R171, R172) -/

/-- Speed of a page's class in mm/s. -/
def State.pageSpeed (s : State) (e : Env) : Nat := s.classMms e.spdclass

/-- The decode demand of each station is within 95 % of 4 Gpixel/s: lines of 1/2400 inch (R66). [DEDUCED, log entry 44] -/
def State.demandOk (s : State) (e : Env) : Bool := s.pageSpeed e * 12000 * e.ppl ≤ 3800000000 * 127

/-- The first failing check of Table 5-9 for the head, 0 when none fails. -/
def State.headHold (s : State) (h : Nat) (e : Env) : Nat :=
  let v := s.pageSpeed e
  let st := s.fget F.PWR_STAT_STATE
  if !(e.state == .resident || e.state == .admitted) then 1
  else if s.fget F.PLC_MAXCLASS_CLASS < e.spdclass then 2
  else if v = 0 || s.variant.maxSpeed < v then 3
  else if !s.demandOk e then 4
  else if !s.scanCheck e v then 5
  else if !s.running then 6
  else if s.admittedHandle ≠ 0 && s.admittedHandle ≠ h then 7
  else if 1 < st then 8
  else 0

/-- The previous page has ended, and the gap since its end has passed (R20, R172). -/
def State.gapPassed (s : State) : Bool :=
  !s.anyImaging && match s.fmt.lastEnd with
  | none => true
  | some t => t + max (s.fget F.FMT_GAP_MIN) (s.fget F.FMT_GAP_FLOOR) * 128000 ≤ s.time16

/-- Every station of a page's mask holds its lead (R19). -/
def State.leads (s : State) (e : Env) : Bool := (List.range 6).all (fun i => !e.has i || s.lead i e)

/-- FMT_HEADSTAT.READY of the head, with flag 768 when it becomes 1 (R172). -/
def State.setReady (s : State) (on : Bool) : State :=
  let was := s.fbit F.FMT_HEADSTAT_READY
  let s := s.fset F.FMT_HEADSTAT_READY (bit on)
  if on && !was then s.setFlag 768 else s

/-- Vector 1 after an evaluation of the head in state s has given t: the head has become ADMITTED or READY, or is held with a new
reason (Table 5-2). [DESIGN CHOICE, log entry 147] -/
def State.headTell (s t : State) : State :=
  let admitted := t.admittedHandle != 0 && t.admittedHandle != s.admittedHandle
  let ready := t.fbit F.FMT_HEADSTAT_READY && !s.fbit F.FMT_HEADSTAT_READY
  let hold := t.fget F.FMT_HEADSTAT_HOLD
  if admitted || ready || (hold != 0 && hold != s.fget F.FMT_HEADSTAT_HOLD) then t.raise 1 else t

/-- The head admitted, or returned to RESIDENT (R171, R196). -/
def State.headCheck (s : State) : State :=
  let h := s.headHandle
  match s.envOf h with
  | none => (s.fset F.FMT_HEADSTAT_HOLD 0).setReady false
  | some e =>
    if h = 0 then (s.fset F.FMT_HEADSTAT_HOLD 0).setReady false
    else
      let k := s.headHold h e
      let s := s.fset F.FMT_HEADSTAT_HOLD k
      if k = 0 then
        let s := s.modEnv h (fun e => { e with state := .admitted })
        s.setReady (s.leads e && s.gapPassed)
      else
        let s := if e.state == .admitted then (s.modEnv h (fun e => { e with state := .resident })).releasePage h else s
        s.setReady false

/-- The head is evaluated, and what has changed is told (R150, R171). [DEDUCED, log entry 54] -/
def State.headEval (s : State) : State := s.headTell s.headCheck

/-! ### Timers and wakes (R84, R134, R135) -/

/-- Timer t reaches 0 at the coming count. -/
def State.timerDue (s : State) (t : Nat) : Bool := s.fbit F.SEQ_T_CTRL_EN t && s.fget F.SEQ_T_CNT_COUNT t ≤ 1

/-- Timer t reaches 0: its flag, and a reload or the end (R84). -/
def State.timerExpire (s : State) (t : Nat) : State :=
  let s := if s.fbit F.SEQ_T_CTRL_PERIODIC t then s.fset F.SEQ_T_CNT_COUNT (max (s.fget F.SEQ_T_CTRL_RELOAD t) 1) t
    else (s.fset F.SEQ_T_CTRL_EN 0 t).fset F.SEQ_T_CNT_COUNT 0 t
  s.setFlag (960 + t)

/-- One timer at phase 0, unless it has expired for this phase 0 already. -/
def State.timerPhase0 (s : State) (t : Nat) : State :=
  if s.seq.timersDone.contains t || !s.fbit F.SEQ_T_CTRL_EN t then s
  else if s.timerDue t then s.timerExpire t
  else s.fset F.SEQ_T_CNT_COUNT (s.fget F.SEQ_T_CNT_COUNT t - 1) t

/-- The timers at phase 0. [DEDUCED, log entry 42] -/
def State.timersPhase0 (s : State) : State :=
  let s := (List.range 64).foldl State.timerPhase0 s
  { s with seq := { s.seq with timersDone := [] } }

/-- A context at its wake tick: a sleeping one is READY; of one that waits the timeout has been reached, and a flag set at the coming
phase 0 still counts as its flag (R134, R135). -/
def Ctx.wakeTick (x : Ctx) : Ctx := if x.st == .sleeping then x.wakeUp true else { x with expired := true }

/-- WAKE_TICK_REACHED of context c at the boundary of its wake tick (R135). -/
def execWakeTickReached (c : Nat) (s : State) : Host.Outcome State Fault Refusal :=
  .next (
    if s.boundary && s.running && s.coreRuns && !s.gated && (s.ctx c).wakes (s.tick + 1) then s.setCtx c (s.ctx c).wakeTick
    else s)

/-- The contexts begin the tick, and every pair comes to a dispatch point; in STANDBY only the heartbeat does (R74, R75,
R537). -/
def State.ctxPhase0 (s : State) : State :=
  if !s.running || s.gated then s
  else
    let s := { s with seq := { s.seq with ctx := s.seq.ctx.map (fun x => x.beginTick s.tick) } }
    (List.range 8).foldl State.dispatch s

/-! ### Phase 0 -/

/-- The module is not held in a start: phase 0 goes on. -/
def State.andThen (s : State) (f : State → State) : State := if s.ticking && s.phase = 0 then f s else s

/-- Inputs latched by the image path, DMA and motion, and the completion point of a page (R35). -/
def State.latchImage (s : State) (inp : TickInputs) : State :=
  let g := s.gpioLevels inp.gpio
  let s := { (s.rset R.IOX_GPIO_IN (g % 2 ^ 32)).rset R.IOX_GPIO_IN (g / 2 ^ 32) 1 with pins := { s.pins with gpio := g } }
  let s := (s.retHk inp.ret).hkPhase0.armPhase0
  let s := (List.range 2).foldl State.encPhase0 s
  let s := s.dmaPhase0
  let s := (List.range s.variant.stn).foldl State.dutyPhase0 s
  (s.coastPhase0.scanPhase0.motionPhase0 g).motorPhase0 inp

/-- Power electronics, the pages' commands, calibration and the classes allowed. -/
def State.latchPages (s : State) (inp : TickInputs) : State :=
  let s := (s.hvFusPhase0 inp.hv inp.fth).mnsPhase0 inp.ret
  let s := (s.finishScans s.time16).thrPhase0.stopPhase0
  let cmds := s.fmt.cmds
  let s := cmds.foldl State.applyCmd s
  let s := { s with fmt := { s.fmt with cmds := [] } }
  let s := (s.calPhase0 inp.msns).gracePhase0.gapPhase0
  s.maxClassPhase0.stopClass

/-- Parameter writes, then the laws, then the outputs of the last tick's laws for this phase 0, which no law reads before the next
(R325, R326, R344), and the motor channels' drive of the tick (R405). -/
def State.lawPhase0 (s : State) : State :=
  let s := s.lpeWrites.focLawPhase0
  let s := (if s.compares then s.lpeEvaluate s.readReg else s).pwmOuts.fusCmdPhase0
  (List.range s.variant.focch).foldl State.focApply s

/-- Presence, franking, the ring, the messages of contexts, and the power states. [DESIGN CHOICE, log entry 15] -/
def State.sysPhase0 (s : State) (inp : TickInputs) : State :=
  let s := (s.presPhase0 (!inp.presBtn)).frkPhase0.ringPhase0.msgRelease.dropReleased
  s.pwrPhase0.heartbeatCount

/-- The head, the decoder lanes, timers, the recorder, and the contexts. -/
def State.runTick (s : State) : State :=
  s.headEval.startLanes.timersPhase0.ratePhase0.snapPhase0.clearPhase0.ctxPhase0

/-- Phase 0 of a tick outside SLEEP. -/
def State.awakePhase0 (s : State) (inp : TickInputs) : State :=
  let s := s.wdogPhase0.firstPhase0
  let s := s.andThen (fun s => (s.latchImage inp).latchPages inp)
  let s := s.andThen (fun s => (s.sysPhase0 inp).lawPhase0)
  s.andThen State.runTick

/-- TICK_PHASE_0: the boundary of the last tick is past (R14, R35). In SLEEP only the tick and its wakes go on (R538, R543). -/
def execTickPhase0 (inp : TickInputs) (s : State) : Host.Outcome State Fault Refusal :=
  .next (
    if !s.ticking || !s.boundary then s
    else
      let s := s.tickStart.recRelease
      if s.pwr.asleep then s.mnsAfterFrame.evtPhase0.wakePhase0
      else s.remoteWrites.andThen (fun s => s.startSweep.andThen (fun s => s.awakePhase0 inp)))

end Sys2Proof.Machine
end

