-- ==== Sys2Proof/Machine/Boundary.lean ====
section
/-! DEFINITION. What happens at a phase 0 and is commanded by name, at the boundary between the end of phase 15 and that phase 0
(R35). -/

namespace Sys2Proof.Machine

/-- Something that happens at the coming phase 0, seen from the end of phase 15: it bears the next tick's time. The records
released and the remote writes of that phase 0 come first, so that what the hardware sets there stands against them (R11, R35,
R581). -/
def State.atNext (s : State) (f : State → State) : State :=
  let t := ({ s.recRelease with tick := s.tick + 1, elapsed := s.elapsed + 1, phase := 0 }).remoteWrites
  { (if t.ticking then f t else t) with tick := s.tick, elapsed := s.elapsed, phase := s.phase }

/-! ### The start and the watchdog -/

/-- START_STEP_OVERRUN: the clock step at any time before the lock, another step at the boundary of its tick (R600). -/
def execStartStepOverrun (cause : Nat) (s : State) : Host.Outcome State Fault Refusal :=
  .next (
    if cause = 7 then
      (if s.boot.step = .locking then s.clockLate else s)
    else if s.boundary && s.stepLate cause (s.elapsed + 1) then s.atNext (fun s => s.failStart cause)
    else s)

/-- START_BUDGET_EXPIRY at the boundary of the tick (R602). -/
def execStartBudgetExpiry (s : State) : Host.Outcome State Fault Refusal :=
  .next (if s.boundary && s.budgetOver (s.elapsed + 1) then s.atNext (fun s => s.failStart 3) else s)

/-- WATCHDOG_EXPIRY at the boundary of the tick (R603). -/
def execWatchdogExpiry (s : State) : Host.Outcome State Fault Refusal :=
  .next (if s.boundary && s.wdogRuns && s.boot.wdog ≤ 1 then s.atNext (fun s => s.wdogExpire) else s)

/-! ### Presence -/

/-- PRESENCE_BUTTON at the boundary of a tick: the coming sample is the 100,000th low one in a row (R558, R559). -/
def execPresenceButton (s : State) : Host.Outcome State Fault Refusal :=
  .next (
    if s.boundary && s.sec.btnHigh && s.sec.btnLow = 99999 then s.atNext (fun s => (s.btnOpen 1500001).presNote s.presence)
    else s)

/-- PRESENCE_EXPIRY at the boundary of a tick (R558). -/
def execPresenceExpiry (s : State) : Host.Outcome State Fault Refusal :=
  .next (if s.boundary then s.atNext (fun s => s.presExpire.presNote s.presence) else s)

/-! ### The recorder -/

/-- RATE_WINDOW_END of the rule state of a key at the boundary of a tick (R586). -/
def execRateWindowEnd (key : Nat) (s : State) : Host.Outcome State Fault Refusal :=
  .next (if s.boundary then s.atNext (fun s => s.rateEnded key) else s)

/-! ### Power states -/

/-- STATE_CHOICE at the boundary of a tick (R542). -/
def execStateChoice (s : State) : Host.Outcome State Fault Refusal :=
  .next (if s.boundary then s.atNext (fun s => if s.choiceTick && s.running then s.stateChoice else s) else s)

/-! ### Timers -/

/-- TIMER_EXPIRY at the boundary of its tick (R84). -/
def execTimerExpiry (t : Nat) (s : State) : Host.Outcome State Fault Refusal :=
  .next (
    if s.boundary && t < 64 && s.timerDue t && !s.seq.timersDone.contains t && !s.pwr.asleep then
      let s := s.atNext (fun s => s.timerExpire t)
      { s with seq := { s.seq with timersDone := t :: s.seq.timersDone } }
    else s)

/-! ### Pages -/

/-- GAP_GRACE_EXPIRY at the boundary of a tick: the grace counts down to 0 (R175). -/
def execGapGraceExpiry (s : State) : Host.Outcome State Fault Refusal :=
  .next (if s.boundary && s.fbit F.FMT_GAPREQ_PEND && s.fget F.FMT_GAPGRACE_TICKS ≤ 1 then s.atNext State.gapAccept else s)

/-! ### The fuser -/

/-- DISAGREE at the boundary of a tick (R363). -/
def execDisagree (z : Nat) (s : State) : Host.Outcome State Fault Refusal :=
  .next (if s.boundary && z < 4 && s.zoneDisDue z then s.atNext (fun s => s.zoneDisagree z) else s)

/-! ### The Guyline -/

/-- RETURN_FRAME_LOSS at the boundary of a tick: one return frame is missing and the next does not come (R394). -/
def execReturnFrameLoss (s : State) : Host.Outcome State Fault Refusal :=
  .next (if s.boundary && s.power.retMiss = 1 then s.atNext (fun s => s.retLoss) else s)

/-! ### Motor channels -/

/-- OBSERVE_END at the boundary of a tick: two electrical periods have been timed (R409). A STOP that waits wins (R407). -/
def execObserveEnd (n amp : Nat) (speed : Int) (s : State) : Host.Outcome State Fault Refusal :=
  .next (
    if s.boundary && s.focPresent n && s.focState n = 1 && !(s.foc n).stop then
      s.atNext (fun s =>
        let s := s.focObserved n amp speed
        s.setFoc n { s.foc n with fresh := true })
    else s)

/-- BRAKE_TIMEOUT at the boundary of a tick (R410). -/
def execBrakeTimeout (n : Nat) (s : State) : Host.Outcome State Fault Refusal :=
  .next (
    if s.boundary && s.focPresent n && s.focBrakeDue n ((s.foc n).ticks + 1) && !(s.foc n).stop then s.atNext (fun s => s.focFault n 6) else s)

/-- ALIGN_END at the boundary of a tick: injection for 1,000 ticks and two pulses of 50 ticks are over; the inductances
measured decide between HFI and FAULT code 7 (R411). -/
def execAlignEnd (n ld lq : Nat) (s : State) : Host.Outcome State Fault Refusal :=
  .next (
    if s.boundary && s.focPresent n && s.focState n = 3 && 1100 ≤ (s.foc n).ticks + 1 && !(s.foc n).stop then
      if (max ld lq - min ld lq) * 20 < max ld lq || max ld lq = 0 then s.atNext (fun s => s.focFault n 7)
      else s.atNext (fun s => (s.focEnter n 4).setFoc n { (s.focEnter n 4).foc n with fresh := true })
    else s)

/-- HFI_HANDOVER at the boundary of a tick: sixteen latches have met the condition (R414). -/
def execHfiHandover (n : Nat) (s : State) : Host.Outcome State Fault Refusal :=
  .next (
    if s.boundary && s.focPresent n && s.focState n = 4 && 16 ≤ (s.foc n).hoRun && !(s.foc n).stop then s.atNext (fun s => s.focEnter n 5) else s)

/-- OBS_RETURN at the boundary of a tick: sixteen latches lie below the hysteresis speed (R415). -/
def execObsReturn (n : Nat) (s : State) : Host.Outcome State Fault Refusal :=
  .next (
    if s.boundary && s.focPresent n && s.focState n = 5 && 16 ≤ (s.foc n).retRun && !(s.foc n).stop then s.atNext (fun s => s.focEnter n 4) else s)

/-- VSAT at the boundary of a tick: LIMMOD has been set in 63 ticks with ADV at its limit, and the tick that ends is another
(R418). -/
def execVsat (n : Nat) (s : State) : Host.Outcome State Fault Refusal :=
  .next (
    if s.boundary && s.focPresent n && 63 ≤ (s.foc n).satRun && s.focLimited n && s.focAtLimit n then s.atNext (fun s => s.focVsat n) else s)

/-- SPDIN_TIMEOUT at the boundary of a tick (R430). -/
def execSpdinTimeout (p : Nat) (s : State) : Host.Outcome State Fault Refusal :=
  .next (
    if s.boundary && p < 4 && 2 ≤ s.fget F.FOC_SPD_CFG_MODE p && max 1 (s.fget F.FOC_SPD_CFG_TMO p) ≤ s.spdAge p + 1 then
      s.atNext (fun s => s.spdTimeout p)
    else s)

/-! ### Axes -/

/-- SWITCH_QUALIFIED at the boundary of a tick: the switch has its samples (R450, R451). -/
def execSwitchQualified (n k : Nat) (s : State) : Host.Outcome State Fault Refusal :=
  .next (if s.boundary && n < 36 && k < 3 then s.atNext (fun s => s.swQualify n k) else s)

/-- HOME_EVENT at the boundary of a tick (R453). -/
def execHomeEvent (n : Nat) (s : State) : Host.Outcome State Fault Refusal :=
  .next (if s.boundary && n < 36 then s.atNext (fun s => s.homeCheck n) else s)

/-- HOMING_TIMEOUT at the boundary of a tick (R455). -/
def execHomingTimeout (n : Nat) (s : State) : Host.Outcome State Fault Refusal :=
  .next (if s.boundary && n < 36 then s.atNext (fun s => s.homeTimeout n) else s)

/-- STALL at the boundary of a tick (R456). -/
def execStall (n : Nat) (s : State) : Host.Outcome State Fault Refusal :=
  .next (if s.boundary && n < 36 then s.atNext (fun s => s.stallCheck n) else s)

/-- MOVE_COMPLETION at the boundary of a tick: the plan of axis n ends by the coming phase 0, whose sample is exactly TGT
(R442). -/
def execMoveCompletion (n : Nat) (s : State) : Host.Outcome State Fault Refusal :=
  .next (
    let x := s.axis n
    if s.boundary && n < 36 && (x.goal == .move || x.goal == .homing) && !x.segs.isEmpty && x.ended (x.t + 1) then s.atNext (fun s => s.axSample n)
    else s)

/-! ### Calibration -/

/-- APPLY_EFFECT at the boundary of a tick (R321). -/
def execApplyEffect (s : State) : Host.Outcome State Fault Refusal := .next (if s.boundary then s.atNext (fun s => s.calApplyDue) else s)

/-! ### The ring -/

/-- NOTICK at the boundary of a tick: the coming phase 0 ends 64 ticks without a set (R521). -/
def execNotick (s : State) : Host.Outcome State Fault Refusal :=
  .next (if s.boundary && !s.isRoot && s.ring.noTick == 63 && !s.bivouac then s.atNext (fun s => s.noTickEvent) else s)

/-- ENUM_TIMEOUT at the boundary of a tick (R518). -/
def execEnumTimeout (s : State) : Host.Outcome State Fault Refusal := .next (if s.boundary then s.atNext State.enumLate else s)

/-- ACK_TIMEOUT at the boundary of a tick (R524). -/
def execAckTimeout (s : State) : Host.Outcome State Fault Refusal := .next (if s.boundary then s.atNext State.ackTimeouts else s)

end Sys2Proof.Machine
end

