-- ==== Sys2Proof/Machine/IsaMem.lean ====
section
/-! DEFINITION. The Yartum branches, loads, stores, atomics, event, wait and deferred-action instructions (Tables 4-8 to
4-13, R119 to R148). An instruction acts only while its context runs; one that faults changes nothing but its context's
status and budget. -/

namespace Sys2Proof.Machine

/-- Instruction i of context c: f gives the fault code and its charge, or the state after. -/
def State.instr (s : State) (c : Nat) (i : Instr) (f : Ctx → (Nat × Nat) ⊕ State) : Host.Outcome State Fault Refusal :=
  if s.executes c i then
    match f (s.ctx c) with
    | .inl (code, cyc) => .next (s.faultCtx c code cyc)
    | .inr t => .next t
  else .next s

/-- A branch that goes to `target` when taken (R113, R119). -/
def State.branch (s : State) (c : Nat) (taken : Bool) (target cycT cycN : Nat) : State :=
  let x := s.ctx c
  s.setCtx c (if taken then x.retireTo target cycT else x.retire cycN)

/-- B.cond: the reserved condition 8 faults ILLEGAL (Table 4-3). -/
def execBCond (c cond off : Nat) (s : State) : Host.Outcome State Fault Refusal :=
  s.instr c (.bCond c cond off) (fun x => if cond = 8 then .inl (1, 2) else .inr (s.branch c (condHolds cond x) (branchPc x.pc 22 off) 2 1))

/-- BL: X15 takes the address of the next instruction. -/
def execBl (c off : Nat) (s : State) : Host.Outcome State Fault Refusal :=
  s.instr c (.bl c off) (fun x => .inr (s.setCtx c
    ((x.setReg 15 (BitVec.ofNat 32 ((x.pc + 1) % 2 ^ 20))).retireTo (branchPc x.pc 26 off) 2)))

/-- BR (R120). -/
def execBr (c : Nat) (a : Fin 16) (s : State) : Host.Outcome State Fault Refusal :=
  s.instr c (.br c a) (fun x => .inr (s.branch c true ((x.reg a).toNat) 3 3))

/-- BLR: the target is read before X15 is written (R120). -/
def execBlr (c : Nat) (a : Fin 16) (s : State) : Host.Outcome State Fault Refusal :=
  s.instr c (.blr c a) (fun x => .inr (s.setCtx c
    ((x.setReg 15 (BitVec.ofNat 32 ((x.pc + 1) % 2 ^ 20))).retireTo ((x.reg a).toNat) 3)))

/-- CBZ. -/
def execCbz (c : Nat) (a : Fin 16) (off : Nat) (s : State) : Host.Outcome State Fault Refusal :=
  s.instr c (.cbz c a off) (fun x => .inr (s.branch c (x.reg a == 0) (branchPc x.pc 21 off) 2 1))

/-- CBNZ. -/
def execCbnz (c : Nat) (a : Fin 16) (off : Nat) (s : State) : Host.Outcome State Fault Refusal :=
  s.instr c (.cbnz c a off) (fun x => .inr (s.branch c (x.reg a != 0) (branchPc x.pc 21 off) 2 1))

/-- The lowest fault code of an access of width code w at an address: ILLEGAL, ADDR, ALIGN (R121 to R123, R146). -/
def memFault (w addr : Nat) (ok : Bool) : Option Nat :=
  if w = 3 then some 1 else if !ok then some 2 else if addr % widthBytes w ≠ 0 then some 3 else none

/-- The word that a load of n bytes gives: zero-extended, or sign-extended. -/
def loadValue (sx : Bool) (n v : Nat) : Word := if sx then sext (8 * n) v else BitVec.ofNat 32 v

/-- A load from the local store. -/
def State.loadLocal (s : State) (c : Nat) (i : Instr) (w : Nat) (t a : Fin 16) (off : Nat) (sx : Bool) : Host.Outcome State Fault Refusal :=
  s.instr c i (fun x =>
    let ad := x.addrM a off
    let n := widthBytes w
    match memFault w ad (inLocal ad n) with
    | some k => .inl (k, 2)
    | none => .inr (s.setCtx c ((x.setReg t (loadValue sx n (memRead x.loc ad n))).retire 2)))

/-- A load from shared or bulk data: 4 cycles, 8 from bulk data on. -/
def State.loadData (s : State) (c : Nat) (i : Instr) (w : Nat) (t a : Fin 16) (off : Nat) (sx : Bool) : Host.Outcome State Fault Refusal :=
  s.instr c i (fun x =>
    let ad := x.addrM a off
    let n := widthBytes w
    match memFault w ad (inData s.variant.isX0 ad n) with
    | some k => .inl (k, 8)
    | none => .inr (s.setCtx c ((x.setReg t (loadValue sx n (memRead (s.seenData c) ad n))).retire
        (if ad < 0x400000 then 4 else 8))))

/-- LDL (Table 4-8). -/
def execLdl (c w : Nat) (t a : Fin 16) (off : Nat) (s : State) : Host.Outcome State Fault Refusal :=
  s.loadLocal c (.ldl c w t a off) w t a off false

/-- LDLX (Table 4-8). -/
def execLdlx (c w : Nat) (t a : Fin 16) (off : Nat) (s : State) : Host.Outcome State Fault Refusal :=
  s.loadLocal c (.ldlx c w t a off) w t a off true

/-- STL (Table 4-8). -/
def execStl (c w : Nat) (t a : Fin 16) (off : Nat) (s : State) : Host.Outcome State Fault Refusal :=
  s.instr c (.stl c w t a off) (fun x =>
    let ad := x.addrM a off
    let n := widthBytes w
    match memFault w ad (inLocal ad n) with
    | some k => .inl (k, 2)
    | none =>
      let t := s.storeLocal c ad n (x.reg t).toNat
      .inr (t.setCtx c ((t.ctx c).retire 2)))

/-- LDS (Table 4-8). -/
def execLds (c w : Nat) (t a : Fin 16) (off : Nat) (s : State) : Host.Outcome State Fault Refusal :=
  s.loadData c (.lds c w t a off) w t a off false

/-- LDSX (Table 4-8). -/
def execLdsx (c w : Nat) (t a : Fin 16) (off : Nat) (s : State) : Host.Outcome State Fault Refusal :=
  s.loadData c (.ldsx c w t a off) w t a off true

/-- STS (Table 4-8). -/
def execSts (c w : Nat) (t a : Fin 16) (off : Nat) (s : State) : Host.Outcome State Fault Refusal :=
  s.instr c (.sts c w t a off) (fun x =>
    let ad := x.addrM a off
    let n := widthBytes w
    match memFault w ad (inData s.variant.isX0 ad n) with
    | some k => .inl (k, 2)
    | none => .inr ((s.storeData c ad n (x.reg t).toNat).setCtx c (x.retire 2)))

/-- An atomic instruction: from the context and the old word it gives the word to store, if any, and the context
(Table 4-9, R125). -/
def State.atomic (s : State) (c : Nat) (i : Instr) (a : Fin 16) (f : Ctx → Word → Option Word × Ctx) :
    Host.Outcome State Fault Refusal :=
  s.instr c i (fun x =>
    let ad := (x.reg a).toNat
    match memFault 2 ad (inData s.variant.isX0 ad 4) with
    | some k => .inl (k, 6)
    | none =>
      let r := f x (BitVec.ofNat 32 (memRead s.data ad 4))
      let t := match r.1 with
        | some v => s.storeData c ad 4 v.toNat
        | none => s
      .inr (t.setCtx c (r.2.retire 6)))

/-- XADD (Table 4-9). -/
def execXadd (c : Nat) (d a b : Fin 16) (s : State) : Host.Outcome State Fault Refusal :=
  s.atomic c (.xadd c d a b) a (fun x old => (some (old + x.reg b), x.setReg d old))

/-- XCHG (Table 4-9). -/
def execXchg (c : Nat) (d a b : Fin 16) (s : State) : Host.Outcome State Fault Refusal :=
  s.atomic c (.xchg c d a b) a (fun x old => (some (x.reg b), x.setReg d old))

/-- CAS: Z tells whether the old word was Xd (Table 4-9). -/
def execCas (c : Nat) (d a b : Fin 16) (s : State) : Host.Outcome State Fault Refusal :=
  s.atomic c (.cas c d a b) a (fun x old => (if old = x.reg d then some (x.reg b) else none,
    { x.setReg d old with z := decide (old = x.reg d) }))

/-- The reservation that an IOW.AT of context x to an address in a phase uses: one with this target first, then the
wildcard (R129). -/
def Ctx.twSlot (x : Ctx) (phase addr : Nat) : Option Nat :=
  let tw := match x.decl with | some d => d.tw | none => []
  let free (target : Nat) : Option Nat :=
    (tw.zipIdx.find? (fun ri => ri.1.phase == phase && ri.1.target == target && decide (nth x.twUsed ri.2 0 < ri.1.count))).map (·.2)
  (free addr).or (free 0xFFFFFFFF)

/-- The register instance at an address is one that SYS_FEAT shows absent (R127). -/
def State.absentAt (s : State) (addr : Nat) : Bool :=
  match findReg addr with
  | some (r, i, j) => r.res.absent s.variant i j
  | none => false

/-- The fault of an IOR or IOW.AT address: ADDR, ALIGN, RESOURCE (R126, R127). -/
def State.ioFault (s : State) (addr : Nat) : Option Nat :=
  if 0x180000 ≤ addr then some 2 else if addr % 4 ≠ 0 then some 3 else if s.absentAt addr then some 4 else none

/-- IOW.AT: the write is queued for its output phase of the next tick; without a reservation, or to a law-owned register,
it faults TWRITE (R59, R60, R129, R130). -/
def execIowAt (c : Nat) (v a : Fin 16) (ph woff : Nat) (s : State) : Host.Outcome State Fault Refusal :=
  s.instr c (.iowAt c v a ph woff) (fun x =>
    let ad := (x.reg a + BitVec.ofNat 32 (4 * woff)).toNat
    if 5 ≤ ph then .inl (1, 2)
    else match s.ioFault ad with
      | some k => .inl (k, 2)
      | none =>
        if s.lawOwned ad then .inl (5, 2)
        else match x.twSlot (phaseOfField ph) ad with
          | none => .inl (5, 2)
          | some i =>
            let x' := { x with twUsed := x.twUsed.set i (nth x.twUsed i 0 + 1) }
            .inr ((s.queueOut (.iowAt c ad (x.reg v).toNat (phaseOfField ph))).setCtx c (x'.retire 2)))

/-- The flag an event instruction names. -/
def Ctx.flagOf (x : Ctx) (reg : Bool) (a : Fin 16) (flag : Nat) : Nat := if reg then (x.reg a).toNat else flag

/-- SIG sets its flag; above 767 it faults EVENT (R80, R83). -/
def execSig (c : Nat) (reg : Bool) (a : Fin 16) (flag : Nat) (s : State) : Host.Outcome State Fault Refusal :=
  s.instr c (.sig c reg a flag) (fun x =>
    if 767 < x.flagOf reg a flag then .inl (6, 2)
    else .inr (let t := s.sigFlag c (x.flagOf reg a flag)
               t.setCtx c ((t.ctx c).retire 2)))

/-- WAIT: a set flag lets the context go on, consuming it if asked; otherwise the context waits (R132, R136). -/
def execWait (c : Nat) (reg consume : Bool) (a : Fin 16) (flag : Nat) (s : State) : Host.Outcome State Fault Refusal :=
  s.instr c (.wait c reg consume a flag) (fun x =>
    let f := x.flagOf reg a flag
    if 1023 < f then .inl (6, 2)
    else if s.sampled c f then
      .inr ((if consume then s.consumeFlag c f else s).setCtx c (x.retire 2))
    else .inr (s.blockOn c (x.retire 2) f consume false))

/-- WAITE: as WAIT, with a timeout in ticks; a timeout of 0 polls (R134). -/
def execWaite (c : Nat) (consume : Bool) (t : Fin 16) (flag : Nat) (s : State) : Host.Outcome State Fault Refusal :=
  s.instr c (.waite c consume t flag) (fun x =>
    let lim := (x.reg t).toNat % 2 ^ 24
    if s.sampled c flag then
      .inr ((if consume then s.consumeFlag c flag else s).setCtx c { x.retire 2 with cy := false })
    else if lim = 0 then .inr (s.setCtx c { x.retire 2 with cy := true })
    else .inr (s.blockOn c { x.retire 2 with wake := (s.now32 + lim) % 2 ^ 32 } flag consume true))

/-- WAITT: the context sleeps until its wake tick (R135). -/
def execWaitt (c : Nat) (abs useReg : Bool) (a : Fin 16) (imm : Nat) (s : State) : Host.Outcome State Fault Refusal :=
  s.instr c (.waitt c abs useReg a imm) (fun x =>
    let wake := ((if abs then 0 else s.now32) + (if useReg then (x.reg a).toNat else 0) + imm) % 2 ^ 32
    .inr (s.endActivation c { x.retire 2 with wake := wake } .sleeping))

/-- YIELD without END: the context's work of this tick is finished. -/
def execYield (c : Nat) (s : State) : Host.Outcome State Fault Refusal :=
  s.instr c (.yield c) (fun x => .inr (s.endActivation c (x.retire 1) .yielded))

/-- YIELD with END: the context is done (R96). -/
def execYieldEnd (c : Nat) (s : State) : Host.Outcome State Fault Refusal :=
  s.instr c (.yieldEnd c) (fun x => .inr (s.endActivation c (x.retire 1) .done))

/-- HALT: the context stops and a halt event is recorded with the tick's commit (R96, R148). -/
def execHalt (c : Nat) (s : State) : Host.Outcome State Fault Refusal :=
  s.instr c (.halt c) (fun x =>
    let t := { s with seq := { s.seq with commitRecs := s.seq.commitRecs ++ [(0x6041, [c])] } }
    .inr (t.endActivation c (x.retire 1) .halted))

/-- n words of the local store from a byte address. -/
def Ctx.words (x : Ctx) (a n : Nat) : List Nat := (List.range n).map (fun i => memRead x.loc (a + 4 * i) 4)

/-- The fault of a body of n words at an address of the local store (R137). -/
def bodyFault (a n : Nat) : Option Nat :=
  if !inLocal a (4 * n) then some 2 else if a % 4 ≠ 0 then some 3 else none

/-- MSG queues a message with its body as it is now (R137 to R139, R144). -/
def execMsg (c : Nat) (a b : Fin 16) (auth : Bool) (len : Nat) (s : State) : Host.Outcome State Fault Refusal :=
  s.instr c (.msg c a b auth len) (fun x =>
    let va := (x.reg a).toNat
    let ad := (x.reg b).toNat
    let cyc := 4 + (len + 1)
    match bodyFault ad (len + 1) with
    | some k => .inl (k, cyc)
    | none =>
      if 0xF0 ≤ bits va 23 16 then .inl (0x0B, cyc)
      else if 4 ≤ x.nMsg then .inl (9, cyc)
      else .inr ((s.queueOut (.msg c (bits va 9 0) (va.testBit 10) (bits va 23 16) auth (x.words ad (len + 1)))).setCtx c
        { x.retire cyc with nMsg := x.nMsg + 1 }))

/-- REC queues an event record with its payload (R137, R144, R145). -/
def execRecI (c : Nat) (a b : Fin 16) (len : Nat) (s : State) : Host.Outcome State Fault Refusal :=
  s.instr c (.recI c a b len) (fun x =>
    let code := bits (x.reg a).toNat 15 0
    let ad := (x.reg b).toNat
    let cyc := 4 + len
    if 4 < len then .inl (1, cyc)
    else match (if len = 0 then none else bodyFault ad len) with
      | some k => .inl (k, cyc)
      | none =>
        if code < 0x8000 then .inl (0x0A, cyc)
        else if 4 ≤ x.nRec then .inl (9, cyc)
        else .inr ((s.queueOut (.rcd c code (x.words ad len) s.tick)).setCtx c { x.retire cyc with nRec := x.nRec + 1 }))

/-- LAWSET queues a parameter write (R141, R143, R144). -/
def execLawset (c : Nat) (v a : Fin 16) (param exp : Nat) (s : State) : Host.Outcome State Fault Refusal :=
  s.instr c (.lawset c v a param exp) (fun x =>
    let n := (x.reg a).toNat
    if !(s.law n).writable param then .inl (7, 2)
    else if 16 ≤ x.nLaw then .inl (9, 2)
    else .inr ((s.queueOut (.lawset c n param ((x.reg v).toInt) (signed 8 exp))).setCtx c
      { x.retire 2 with nLaw := x.nLaw + 1 }))

/-- LAWGET reads a parameter as committed at the end of the previous tick (R142, R143). -/
def execLawget (c : Nat) (d a : Fin 16) (param exp : Nat) (s : State) : Host.Outcome State Fault Refusal :=
  s.instr c (.lawget c d a param exp) (fun x =>
    let n := (x.reg a).toNat
    if !(s.law n).readable param then .inl (7, 4)
    else
      let r := (s.lawCommitted n).get param (signed 8 exp)
      .inr (s.setCtx c { (x.setReg d (BitVec.ofNat 32 r.1)).retire 4 with v := r.2 }))

/-- A word that spells no instruction faults ILLEGAL (R112, R117). -/
def execIllegal (c w : Nat) (s : State) : Host.Outcome State Fault Refusal :=
  s.instr c (.illegal c w) (fun _ => .inl (1, illegalCycles w))

end Sys2Proof.Machine
end

