-- ==== Sys2Proof/Machine/IsaIo.lean ====
section
/-! DEFINITION. The Yartum instructions that read a register and start a DMA channel (R126 to R128, R140, R486). -/

namespace Sys2Proof.Machine

/-- IOR: the register's value at the cycle of execution, without read side effects (R73, R126 to R128). -/
def execIor (c : Nat) (t a : Fin 16) (off : Nat) (s : State) : Host.Outcome State Fault Refusal :=
  s.instr c (.ior c t a off) (fun x =>
    let ad := x.addrM a off
    match s.ioFault ad with
    | some k => .inl (k, 6)
    | none => .inr (s.setCtx c ((x.setReg t (BitVec.ofNat 32 (s.readReg ad))).retire 6)).nextFree)

/-- DMAGO queues the start of a channel that the image declares; any other faults DMA (R140, R144, R486). -/
def execDmago (c : Nat) (a b : Fin 16) (s : State) : Host.Outcome State Fault Refusal :=
  s.instr c (.dmago c a b) (fun x =>
    let ch := (x.reg a).toNat % 64
    if !s.dmaSeq ch then .inl (8, 2)
    else if 4 ≤ x.nDma then .inl (9, 2)
    else .inr ((s.queueOut (.dmago c ch (x.reg b).toNat)).setCtx c { x.retire 2 with nDma := x.nDma + 1 }))

end Sys2Proof.Machine
end

