-- ==== Sys2Proof/Machine/Dispatch.lean ====
section
/-! DEFINITION. The dispatch: one arm for each command, calling its meaning. -/

namespace Sys2Proof.Machine

/-- The effect of a command on everything but the queue. -/
def exec (i : Instr) (s : State) : Host.Outcome State Fault Refusal :=
  match i with
  | .tickPhase0 inp => Sys2Proof.Machine.execTickPhase0 inp s
  | .outputPhase p => Sys2Proof.Machine.execOutputPhase p s
  | .phase14Preempt => Sys2Proof.Machine.execPhase14Preempt s
  | .budgetExhausted c => Sys2Proof.Machine.execBudgetExhausted c s
  | .phase15Commit lanes lawEngines => Sys2Proof.Machine.execPhase15Commit lanes lawEngines s
  | .pairSelfTestEnd pass => Sys2Proof.Machine.execPairSelfTestEnd pass s
  | .timerExpiry t => Sys2Proof.Machine.execTimerExpiry t s
  | .wakeTickReached c => Sys2Proof.Machine.execWakeTickReached c s
  | .cntlatch => Sys2Proof.Machine.execCntlatch s
  | .countLoRead => Sys2Proof.Machine.execCountLoRead s
  | .registerWrite addr size val => Sys2Proof.Machine.execRegisterWrite addr size val s
  | .programAdmission => Sys2Proof.Machine.execProgramAdmission s
  | .retry => Sys2Proof.Machine.execRetry s
  | .lanemapWrite val => Sys2Proof.Machine.execLanemapWrite val s
  | .ctxAbort c => Sys2Proof.Machine.execCtxAbort c s
  | .ctxRestart c => Sys2Proof.Machine.execCtxRestart c s
  | .evset f => Sys2Proof.Machine.execEvset f s
  | .eventFlagClear g val => Sys2Proof.Machine.execEventFlagClear g val s
  | .timerWrite t val => Sys2Proof.Machine.execTimerWrite t val s
  | .loadGo => Sys2Proof.Machine.execLoadGo s
  | .loadComplete image hostErr readBackErr => Sys2Proof.Machine.execLoadComplete image hostErr readBackErr s
  | .activate => Sys2Proof.Machine.execActivate s
  | .replace => Sys2Proof.Machine.execReplace s
  | .add c d a b => Sys2Proof.Machine.execAdd c d a b s
  | .adc c d a b => Sys2Proof.Machine.execAdc c d a b s
  | .sub c d a b => Sys2Proof.Machine.execSub c d a b s
  | .sbc c d a b => Sys2Proof.Machine.execSbc c d a b s
  | .andR c d a b => Sys2Proof.Machine.execAndR c d a b s
  | .orR c d a b => Sys2Proof.Machine.execOrR c d a b s
  | .xorR c d a b => Sys2Proof.Machine.execXorR c d a b s
  | .bic c d a b => Sys2Proof.Machine.execBic c d a b s
  | .shl c d a b => Sys2Proof.Machine.execShl c d a b s
  | .shr c d a b => Sys2Proof.Machine.execShr c d a b s
  | .sar c d a b => Sys2Proof.Machine.execSar c d a b s
  | .ror c d a b => Sys2Proof.Machine.execRor c d a b s
  | .mul c d a b => Sys2Proof.Machine.execMul c d a b s
  | .mulh c d a b => Sys2Proof.Machine.execMulh c d a b s
  | .mulhu c d a b => Sys2Proof.Machine.execMulhu c d a b s
  | .divu c d a b => Sys2Proof.Machine.execDivu c d a b s
  | .divs c d a b => Sys2Proof.Machine.execDivs c d a b s
  | .minS c d a b => Sys2Proof.Machine.execMinS c d a b s
  | .maxS c d a b => Sys2Proof.Machine.execMaxS c d a b s
  | .minu c d a b => Sys2Proof.Machine.execMinu c d a b s
  | .maxu c d a b => Sys2Proof.Machine.execMaxu c d a b s
  | .adds c d a b => Sys2Proof.Machine.execAdds c d a b s
  | .subs c d a b => Sys2Proof.Machine.execSubs c d a b s
  | .addsu c d a b => Sys2Proof.Machine.execAddsu c d a b s
  | .subsu c d a b => Sys2Proof.Machine.execSubsu c d a b s
  | .neg c d a => Sys2Proof.Machine.execNeg c d a s
  | .cmp c a b => Sys2Proof.Machine.execCmp c a b s
  | .tst c a b => Sys2Proof.Machine.execTst c a b s
  | .absR c d a => Sys2Proof.Machine.execAbsR c d a s
  | .clz c d a => Sys2Proof.Machine.execClz c d a s
  | .paddB c d a b => Sys2Proof.Machine.execPaddB c d a b s
  | .psubB c d a b => Sys2Proof.Machine.execPsubB c d a b s
  | .paddusB c d a b => Sys2Proof.Machine.execPaddusB c d a b s
  | .psubusB c d a b => Sys2Proof.Machine.execPsubusB c d a b s
  | .paddsB c d a b => Sys2Proof.Machine.execPaddsB c d a b s
  | .psubsB c d a b => Sys2Proof.Machine.execPsubsB c d a b s
  | .pmaxuB c d a b => Sys2Proof.Machine.execPmaxuB c d a b s
  | .pminuB c d a b => Sys2Proof.Machine.execPminuB c d a b s
  | .pavguB c d a b => Sys2Proof.Machine.execPavguB c d a b s
  | .psadB c d a b => Sys2Proof.Machine.execPsadB c d a b s
  | .pcmpeqB c d a b => Sys2Proof.Machine.execPcmpeqB c d a b s
  | .pcmpgtuB c d a b => Sys2Proof.Machine.execPcmpgtuB c d a b s
  | .pshufB c d a b => Sys2Proof.Machine.execPshufB c d a b s
  | .addi c d a imm => Sys2Proof.Machine.execAddi c d a imm s
  | .cmpi c a imm => Sys2Proof.Machine.execCmpi c a imm s
  | .andi c d a imm => Sys2Proof.Machine.execAndi c d a imm s
  | .ori c d a imm => Sys2Proof.Machine.execOri c d a imm s
  | .xori c d a imm => Sys2Proof.Machine.execXori c d a imm s
  | .shli c d a amt => Sys2Proof.Machine.execShli c d a amt s
  | .shri c d a amt => Sys2Proof.Machine.execShri c d a amt s
  | .sari c d a amt => Sys2Proof.Machine.execSari c d a amt s
  | .rori c d a amt => Sys2Proof.Machine.execRori c d a amt s
  | .movi c d imm => Sys2Proof.Machine.execMovi c d imm s
  | .movhi c d imm => Sys2Proof.Machine.execMovhi c d imm s
  | .mfsTicklo c d => Sys2Proof.Machine.execMfsTicklo c d s
  | .mfsTickhi c d => Sys2Proof.Machine.execMfsTickhi c d s
  | .mfsPhase c d => Sys2Proof.Machine.execMfsPhase c d s
  | .mfsCtx c d => Sys2Proof.Machine.execMfsCtx c d s
  | .mfsBudget c d => Sys2Proof.Machine.execMfsBudget c d s
  | .mfsLpair c d => Sys2Proof.Machine.execMfsLpair c d s
  | .mfsActs c d => Sys2Proof.Machine.execMfsActs c d s
  | .bCond c cond off => Sys2Proof.Machine.execBCond c cond off s
  | .bl c off => Sys2Proof.Machine.execBl c off s
  | .br c a => Sys2Proof.Machine.execBr c a s
  | .blr c a => Sys2Proof.Machine.execBlr c a s
  | .cbz c a off => Sys2Proof.Machine.execCbz c a off s
  | .cbnz c a off => Sys2Proof.Machine.execCbnz c a off s
  | .ldl c w t a off => Sys2Proof.Machine.execLdl c w t a off s
  | .ldlx c w t a off => Sys2Proof.Machine.execLdlx c w t a off s
  | .stl c w t a off => Sys2Proof.Machine.execStl c w t a off s
  | .lds c w t a off => Sys2Proof.Machine.execLds c w t a off s
  | .ldsx c w t a off => Sys2Proof.Machine.execLdsx c w t a off s
  | .sts c w t a off => Sys2Proof.Machine.execSts c w t a off s
  | .xadd c d a b => Sys2Proof.Machine.execXadd c d a b s
  | .xchg c d a b => Sys2Proof.Machine.execXchg c d a b s
  | .cas c d a b => Sys2Proof.Machine.execCas c d a b s
  | .ior c t a off => Sys2Proof.Machine.execIor c t a off s
  | .iowAt c v a ph woff => Sys2Proof.Machine.execIowAt c v a ph woff s
  | .sig c reg a flag => Sys2Proof.Machine.execSig c reg a flag s
  | .wait c reg consume a flag => Sys2Proof.Machine.execWait c reg consume a flag s
  | .waite c consume t flag => Sys2Proof.Machine.execWaite c consume t flag s
  | .waitt c abs useReg a imm => Sys2Proof.Machine.execWaitt c abs useReg a imm s
  | .yield c => Sys2Proof.Machine.execYield c s
  | .yieldEnd c => Sys2Proof.Machine.execYieldEnd c s
  | .halt c => Sys2Proof.Machine.execHalt c s
  | .msg c a b auth len => Sys2Proof.Machine.execMsg c a b auth len s
  | .dmago c a b => Sys2Proof.Machine.execDmago c a b s
  | .lawset c v a param exp => Sys2Proof.Machine.execLawset c v a param exp s
  | .lawget c d a param exp => Sys2Proof.Machine.execLawget c d a param exp s
  | .recI c a b len => Sys2Proof.Machine.execRecI c a b len s
  | .illegal c w => Sys2Proof.Machine.execIllegal c w s
  | .linkDown d3 => Sys2Proof.Machine.execLinkDown d3 s
  | .perst => Sys2Proof.Machine.execPerst s
  | .bar4Read o n bad => Sys2Proof.Machine.execBar4Read o n bad s
  | .inboxOpen w => Sys2Proof.Machine.execInboxOpen w s
  | .inboxClose w => Sys2Proof.Machine.execInboxClose w s
  | .inboxWrite a data => Sys2Proof.Machine.execInboxWrite a data s
  | .handleIssue w => Sys2Proof.Machine.execHandleIssue w s
  | .granuleReservation => Sys2Proof.Machine.execGranuleReservation s
  | .queue h => Sys2Proof.Machine.execQueue h s
  | .pgstart h => Sys2Proof.Machine.execPgstart h s
  | .cancel => Sys2Proof.Machine.execCancel s
  | .abandon => Sys2Proof.Machine.execAbandon s
  | .donePop => Sys2Proof.Machine.execDonePop s
  | .gapAccept => Sys2Proof.Machine.execGapAccept s
  | .gapGraceExpiry => Sys2Proof.Machine.execGapGraceExpiry s
  | .spdWrite k val => Sys2Proof.Machine.execSpdWrite k val s
  | .blockDecodeComplete l err => Sys2Proof.Machine.execBlockDecodeComplete l err s
  | .decoderResume l => Sys2Proof.Machine.execDecoderResume l s
  | .redecodeStart => Sys2Proof.Machine.execRedecodeStart s
  | .redecodeComplete err => Sys2Proof.Machine.execRedecodeComplete err s
  | .laneStateFault l => Sys2Proof.Machine.execLaneStateFault l s
  | .sensorLine p vc dt hdr crc samples => Sys2Proof.Machine.execSensorLine p vc dt hdr crc samples s
  | .frameEnd p vc hdr => Sys2Proof.Machine.execFrameEnd p vc hdr s
  | .encoderBlockComplete e ok => Sys2Proof.Machine.execEncoderBlockComplete e ok s
  | .encoderOutputResume e => Sys2Proof.Machine.execEncoderOutputResume e s
  | .encoderEnable e => Sys2Proof.Machine.execEncoderEnable e s
  | .encoderDisable e => Sys2Proof.Machine.execEncoderDisable e s
  | .flush e => Sys2Proof.Machine.execFlush e s
  | .encoderAbort e => Sys2Proof.Machine.execEncoderAbort e s
  | .rdptrWrite e val => Sys2Proof.Machine.execRdptrWrite e val s
  | .dpop e => Sys2Proof.Machine.execDpop e s
  | .beamDetectEdge k t phi w rising => Sys2Proof.Machine.execBeamDetectEdge k t phi w rising s
  | .arm => Sys2Proof.Machine.execArm s
  | .bstConfigWrite k r val => Sys2Proof.Machine.execBstConfigWrite k r val s
  | .beamDetectWindowOpen k => Sys2Proof.Machine.execBeamDetectWindowOpen k s
  | .apcSlot k t mon => Sys2Proof.Machine.execApcSlot k t mon s
  | .dutyCeiling k => Sys2Proof.Machine.execDutyCeiling k s
  | .dutyWarning k => Sys2Proof.Machine.execDutyWarning k s
  | .laserInterlockOpen => Sys2Proof.Machine.execLaserInterlockOpen s
  | .estop => Sys2Proof.Machine.execEstop s
  | .rearm => Sys2Proof.Machine.execRearm s
  | .ldenWrite k v => Sys2Proof.Machine.execLdenWrite k v s
  | .ldenSettleEnd k => Sys2Proof.Machine.execLdenSettleEnd k s
  | .pwrWrite k v => Sys2Proof.Machine.execPwrWrite k v s
  | .sendtrim k => Sys2Proof.Machine.execSendtrim k s
  | .raw k => Sys2Proof.Machine.execRaw k s
  | .laserSpiFrameDone k miso => Sys2Proof.Machine.execLaserSpiFrameDone k miso s
  | .beamDetectMiss k => Sys2Proof.Machine.execBeamDetectMiss k s
  | .beamDetectBEdge k t w rising => Sys2Proof.Machine.execBeamDetectBEdge k t w rising s
  | .scnEnable k en => Sys2Proof.Machine.execScnEnable k en s
  | .pfreqWrite k v => Sys2Proof.Machine.execPfreqWrite k v s
  | .sscWrite v => Sys2Proof.Machine.execSscWrite v s
  | .referenceLost => Sys2Proof.Machine.execReferenceLost s
  | .coastLimit => Sys2Proof.Machine.execCoastLimit s
  | .referenceRestored => Sys2Proof.Machine.execReferenceRestored s
  | .pixelPllUnlock k => Sys2Proof.Machine.execPixelPllUnlock k s
  | .calRun => Sys2Proof.Machine.execCalRun s
  | .markEdge k t v => Sys2Proof.Machine.execMarkEdge k t v s
  | .markMeasureEnd k => Sys2Proof.Machine.execMarkMeasureEnd k s
  | .calResult => Sys2Proof.Machine.execCalResult s
  | .apply => Sys2Proof.Machine.execApply s
  | .applyEffect => Sys2Proof.Machine.execApplyEffect s
  | .store => Sys2Proof.Machine.execStore s
  | .storeDone okA okB => Sys2Proof.Machine.execStoreDone okA okB s
  | .pcmdWrite => Sys2Proof.Machine.execPcmdWrite s
  | .pcmdRead => Sys2Proof.Machine.execPcmdRead s
  | .hvTrip n a b => Sys2Proof.Machine.execHvTrip n a b s
  | .hvTripclr n => Sys2Proof.Machine.execHvTripclr n s
  | .hvCfgWrite n v => Sys2Proof.Machine.execHvCfgWrite n v s
  | .fuserInputClr k => Sys2Proof.Machine.execFuserInputClr k s
  | .zoneTripclr z => Sys2Proof.Machine.execZoneTripclr z s
  | .disagree z => Sys2Proof.Machine.execDisagree z s
  | .zeroCross rms len => Sys2Proof.Machine.execZeroCross rms len s
  | .missingZeroCross rms => Sys2Proof.Machine.execMissingZeroCross rms s
  | .guylineFrame => Sys2Proof.Machine.execGuylineFrame s
  | .guylineLoss => Sys2Proof.Machine.execGuylineLoss s
  | .returnFrameLoss => Sys2Proof.Machine.execReturnFrameLoss s
  | .bridgeCurrentLimit k run => Sys2Proof.Machine.execBridgeCurrentLimit k run s
  | .invfclr => Sys2Proof.Machine.execInvfclr s
  | .invenWrite v => Sys2Proof.Machine.execInvenWrite v s
  | .mnsConfigWrite off v => Sys2Proof.Machine.execMnsConfigWrite off v s
  | .standbyConverterStart => Sys2Proof.Machine.execStandbyConverterStart s
  | .standbyConverterStop why => Sys2Proof.Machine.execStandbyConverterStop why s
  | .standbyConverterRetry => Sys2Proof.Machine.execStandbyConverterRetry s
  | .focStart n => Sys2Proof.Machine.execFocStart n s
  | .focStop n => Sys2Proof.Machine.execFocStop n s
  | .fltclr n => Sys2Proof.Machine.execFltclr n s
  | .observeEnd n amp speed => Sys2Proof.Machine.execObserveEnd n amp speed s
  | .brakeTimeout n => Sys2Proof.Machine.execBrakeTimeout n s
  | .alignEnd n ld lq => Sys2Proof.Machine.execAlignEnd n ld lq s
  | .hfiHandover n => Sys2Proof.Machine.execHfiHandover n s
  | .obsReturn n => Sys2Proof.Machine.execObsReturn n s
  | .motorTrip n c driver => Sys2Proof.Machine.execMotorTrip n c driver s
  | .brakeChopperGate v => Sys2Proof.Machine.execBrakeChopperGate v s
  | .chopperFault isns => Sys2Proof.Machine.execChopperFault isns s
  | .chfclr => Sys2Proof.Machine.execChfclr s
  | .busOvervoltage b v w => Sys2Proof.Machine.execBusOvervoltage b v w s
  | .ovclr => Sys2Proof.Machine.execOvclr s
  | .busUndervoltage b v => Sys2Proof.Machine.execBusUndervoltage b v s
  | .vsat n => Sys2Proof.Machine.execVsat n s
  | .spdinTimeout p => Sys2Proof.Machine.execSpdinTimeout p s
  | .axsMove n tgt => Sys2Proof.Machine.execAxsMove n tgt s
  | .axsVel n v => Sys2Proof.Machine.execAxsVel n v s
  | .axsAbort n => Sys2Proof.Machine.execAxsAbort n s
  | .axsQstop n => Sys2Proof.Machine.execAxsQstop n s
  | .axsHome n => Sys2Proof.Machine.execAxsHome n s
  | .axsSetpos n tgt => Sys2Proof.Machine.execAxsSetpos n tgt s
  | .axsClrflt n => Sys2Proof.Machine.execAxsClrflt n s
  | .moveCompletion n => Sys2Proof.Machine.execMoveCompletion n s
  | .limitPairWrite n which v => Sys2Proof.Machine.execLimitPairWrite n which v s
  | .switchQualified n k => Sys2Proof.Machine.execSwitchQualified n k s
  | .homeEvent n => Sys2Proof.Machine.execHomeEvent n s
  | .homingTimeout n => Sys2Proof.Machine.execHomingTimeout n s
  | .stall n => Sys2Proof.Machine.execStall n s
  | .encoderCount e a b w => Sys2Proof.Machine.execEncoderCount e a b w s
  | .indexEdge e rising => Sys2Proof.Machine.execIndexEdge e rising s
  | .dramRequest c port wr addr data sub => Sys2Proof.Machine.execDramRequest c port wr addr data sub s
  | .burstGrant c sub errs => Sys2Proof.Machine.execBurstGrant c sub errs s
  | .dramReadComplete c => Sys2Proof.Machine.execDramReadComplete c s
  | .dramWriteComplete c => Sys2Proof.Machine.execDramWriteComplete c s
  | .refresh c rank sub => Sys2Proof.Machine.execRefresh c rank sub s
  | .mr4Read c rates => Sys2Proof.Machine.execMr4Read c rates s
  | .wckOscillatorRead c drift => Sys2Proof.Machine.execWckOscillatorRead c drift s
  | .retrain c => Sys2Proof.Machine.execRetrain c s
  | .dramTraining c tries ranks dens bits bytes => Sys2Proof.Machine.execDramTraining c tries ranks dens bits bytes s
  | .scrub c errs => Sys2Proof.Machine.execScrub c errs s
  | .dmaGo c => Sys2Proof.Machine.execDmaGo c s
  | .dmaStart c => Sys2Proof.Machine.execDmaStart c s
  | .dmaMove c => Sys2Proof.Machine.execDmaMove c s
  | .dmaLoop c => Sys2Proof.Machine.execDmaLoop c s
  | .dmaWait c => Sys2Proof.Machine.execDmaWait c s
  | .dmaWaitEnd c => Sys2Proof.Machine.execDmaWaitEnd c s
  | .dmaSignal c => Sys2Proof.Machine.execDmaSignal c s
  | .dmaEnd c => Sys2Proof.Machine.execDmaEnd c s
  | .dmaChunkRead c ok data => Sys2Proof.Machine.execDmaChunkRead c ok data s
  | .dmaWriteResponse c ok => Sys2Proof.Machine.execDmaWriteResponse c ok s
  | .dmaAbort c => Sys2Proof.Machine.execDmaAbort c s
  | .dmaDisable c => Sys2Proof.Machine.execDmaDisable c s
  | .dmaEnable c => Sys2Proof.Machine.execDmaEnable c s
  | .slotsWrite c n => Sys2Proof.Machine.execSlotsWrite c n s
  | .portTrained p n inv => Sys2Proof.Machine.execPortTrained p n inv s
  | .portDown p viol align chars => Sys2Proof.Machine.execPortDown p viol align chars s
  | .ringUnwrap => Sys2Proof.Machine.execRingUnwrap s
  | .linkRequest p t => Sys2Proof.Machine.execLinkRequest p t s
  | .linkFrame p reply t turn ok => Sys2Proof.Machine.execLinkFrame p reply t turn ok s
  | .linkTimeout p t => Sys2Proof.Machine.execLinkTimeout p t s
  | .tickSet p tickno acc arr dep other => Sys2Proof.Machine.execTickSet p tickno acc arr dep other s
  | .notick => Sys2Proof.Machine.execNotick s
  | .enumW => Sys2Proof.Machine.execEnumW s
  | .enumFrame p f ok => Sys2Proof.Machine.execEnumFrame p f ok s
  | .enumTimeout => Sys2Proof.Machine.execEnumTimeout s
  | .msgFrame p f ok => Sys2Proof.Machine.execMsgFrame p f ok s
  | .rrdFrame p f ok => Sys2Proof.Machine.execRrdFrame p f ok s
  | .rwrFrame p f ok => Sys2Proof.Machine.execRwrFrame p f ok s
  | .rspFrame p f ok => Sys2Proof.Machine.execRspFrame p f ok s
  | .ackFrame p f ok => Sys2Proof.Machine.execAckFrame p f ok s
  | .sheetFrame p f ok => Sys2Proof.Machine.execSheetFrame p f ok s
  | .ackTimeout => Sys2Proof.Machine.execAckTimeout s
  | .rxpop => Sys2Proof.Machine.execRxpop s
  | .ackpop => Sys2Proof.Machine.execAckpop s
  | .remoteRead dst => Sys2Proof.Machine.execRemoteRead dst s
  | .remoteWrite dst auth => Sys2Proof.Machine.execRemoteWrite dst auth s
  | .sheetEdge k sub fall => Sys2Proof.Machine.execSheetEdge k sub fall s
  | .stateChoice => Sys2Proof.Machine.execStateChoice s
  | .pwrAck code => Sys2Proof.Machine.execPwrAck code s
  | .wake c low => Sys2Proof.Machine.execWake c low s
  | .sleepResume ok => Sys2Proof.Machine.execSleepResume ok s
  | .heartbeatTick => Sys2Proof.Machine.execHeartbeatTick s
  | .nextevtWrite t => Sys2Proof.Machine.execNextevtWrite t s
  | .housekeepingSample k v ok => Sys2Proof.Machine.execHousekeepingSample k v ok s
  | .supplyWarning rail dev ns => Sys2Proof.Machine.execSupplyWarning rail dev ns s
  | .supplyRecovery dev us => Sys2Proof.Machine.execSupplyRecovery dev us s
  | .supplyReset rail dev ns => Sys2Proof.Machine.execSupplyReset rail dev ns s
  | .thrclr => Sys2Proof.Machine.execThrclr s
  | .presenceButton => Sys2Proof.Machine.execPresenceButton s
  | .presenceExpiry => Sys2Proof.Machine.execPresenceExpiry s
  | .presfwd => Sys2Proof.Machine.execPresfwd s
  | .presclr => Sys2Proof.Machine.execPresclr s
  | .sealPulse good => Sys2Proof.Machine.execSealPulse good s
  | .minverWrite v => Sys2Proof.Machine.execMinverWrite v s
  | .keySet => Sys2Proof.Machine.execKeySet s
  | .keyRevoke => Sys2Proof.Machine.execKeyRevoke s
  | .frankingAdd k v => Sys2Proof.Machine.execFrankingAdd k v s
  | .frankingBatch => Sys2Proof.Machine.execFrankingBatch s
  | .frkinit ctr => Sys2Proof.Machine.execFrkinit ctr s
  | .chal => Sys2Proof.Machine.execChal s
  | .unlock level => Sys2Proof.Machine.execUnlock level s
  | .recordWrite step => Sys2Proof.Machine.execRecordWrite step s
  | .rateWindowEnd key => Sys2Proof.Machine.execRateWindowEnd key s
  | .clear sec => Sys2Proof.Machine.execClear sec s
  | .recNext u => Sys2Proof.Machine.execRecNext u s
  | .powerRelease strap => Sys2Proof.Machine.execPowerRelease strap s
  | .resetPin strap ns => Sys2Proof.Machine.execResetPin strap ns s
  | .swrst => Sys2Proof.Machine.execSwrst s
  | .watchdogExpiry => Sys2Proof.Machine.execWatchdogExpiry s
  | .startRetry us => Sys2Proof.Machine.execStartRetry us s
  | .startStepOverrun cause => Sys2Proof.Machine.execStartStepOverrun cause s
  | .pllLock us => Sys2Proof.Machine.execPllLock us s
  | .imageVerified => Sys2Proof.Machine.execImageVerified s
  | .startBudgetExpiry => Sys2Proof.Machine.execStartBudgetExpiry s
  | .ready => Sys2Proof.Machine.execReady s
  | .kick => Sys2Proof.Machine.execKick s
  | .bivtry => Sys2Proof.Machine.execBivtry s
  | .sramUncorrectable region word unit item => Sys2Proof.Machine.execSramUncorrectable region word unit item s
  | .sramSingleBit => Sys2Proof.Machine.execSramSingleBit s
  | .rtcWrite alarm val => Sys2Proof.Machine.execRtcWrite alarm val s
  | .eventCapture k sub fall ns => Sys2Proof.Machine.execEventCapture k sub fall ns s
  | .spiTx k frame => Sys2Proof.Machine.execSpiTx k frame s
  | .spiFrameDone k miso => Sys2Proof.Machine.execSpiFrameDone k miso s
  | .i2cGo k nw nr addr => Sys2Proof.Machine.execI2cGo k nw nr addr s
  | .i2cTransferEnd k data nack arb => Sys2Proof.Machine.execI2cTransferEnd k data nack arb s
  | .uartTx k b => Sys2Proof.Machine.execUartTx k b s
  | .uartReceive k b => Sys2Proof.Machine.execUartReceive k b s
  | .uartPop k => Sys2Proof.Machine.execUartPop k s
  | .pcieLinkUp speed width msix => Sys2Proof.Machine.execPcieLinkUp speed width msix s
  | .laserInterlockClose => Sys2Proof.Machine.execLaserInterlockClose s
  | .estopNRise => Sys2Proof.Machine.execEstopNRise s
  | .busUndervoltageClear b v => Sys2Proof.Machine.execBusUndervoltageClear b v s
  | .switchEdge k level => Sys2Proof.Machine.execSwitchEdge k level s
  | .frameStart p vc hdr => Sys2Proof.Machine.execFrameStart p vc hdr s
  | .vstbyLoss vbat => Sys2Proof.Machine.execVstbyLoss vbat s
  | .mainsSectionPowerUp => Sys2Proof.Machine.execMainsSectionPowerUp s
  | .rtcSecond => Sys2Proof.Machine.execRtcSecond s
  | .clearDone => Sys2Proof.Machine.execClearDone s
  | .uartByteSent k => Sys2Proof.Machine.execUartByteSent k s

end Sys2Proof.Machine
end

