-- ==== Sys2Proof/Safety.lean ====
section
/-! DEFINITION. What counts as a safe run, and the frames and invariants that the statements speak of. -/

namespace Sys2Proof.Machine

/-- The byte memories of the module in their canonical form: program store, shared and bulk data, table RAM, MSI-X table and
DRAM. -/
def State.memOk (s : State) : Bool :=
  Memory.wf s.prog && Memory.wf s.data && Memory.wf s.table && Memory.wf s.msixTab && Memory.wf s.dram

/-- The addresses of a table rise strictly. -/
def keysRise {α : Type} (m : List (Nat × α)) : Bool := (m.zip (m.drop 1)).all (fun p => decide (p.1.1 < p.2.1))

/-- The register file is a table: each register at most once, in ascending order of address. -/
def State.regsOk (s : State) : Bool := keysRise s.regs

/-- Every part that has instances has as many as the largest variant: contexts, windows, envelopes, lanes, encoders, stations, DRAM
channels with their banks and ranks, DMA channels, axes with their switches, encoders, motor channels, HV channels, fuser zones,
bridges, ring ports and tick sources, sheet channels, SPI and UART ports, and franking counters. -/
def State.shapeOk (s : State) : Bool :=
  s.seq.ctx.length == 512 && s.seq.ckpt.length == 512 && s.fmt.wins.length == 4 && s.fmt.env.length == 64 &&
  s.cdc.lanes.length == 7 && s.cdc.enc.length == 2 && s.img.stn.length == 6 &&
  s.dramCh.length == 4 && s.dramCh.all (fun x => x.rows.length == 32 && x.owed.length == 2 && x.forced.length == 2) &&
  s.dma.length == 64 && s.motion.axis.length == 36 && s.motion.axis.all (fun x => x.sw.length == 3) &&
  s.motion.enc.length == 24 && s.motion.foc.length == 12 && s.power.hv.length == 24 && s.power.fus.zeroed.length == 4 &&
  s.power.fus.disTold.length == 4 && s.power.mns.bridge.length == 2 && s.ring.ports.length == 2 && s.ring.lastSet.length == 2 &&
  s.ring.sheetNo.length == 4 && s.iox.spi.length == 2 && s.iox.tx.length == 2 && s.iox.rx.length == 2 && s.nvm.frank.length == 16

/-- The invariant of the model: the memories, the local stores of the contexts and of their checkpoints and the SEC windows are in
their canonical form, the register file is a table, and every part has its instances. -/
def State.inv (s : State) : Bool :=
  s.memOk && Memory.wf s.sec.wins && s.seq.ctx.all (fun x => Memory.wf x.loc) && s.seq.ckpt.all (fun x => Memory.wf x.loc) &&
  s.regsOk && s.shapeOk

/-- A step goes on: it answers a next state. -/
def State.goesOn (s : State) : Prop := ∃ t, step s = .next t

/-- Two states whose register files agree wherever P does not hold. -/
def State.regsApart (P : Nat → Prop) (s t : State) : Prop := ∀ a (d : Word), ¬ P a → tabGet d t.regs a = tabGet d s.regs a

/-- The registers that recording may write: REC_LOST, REC_SUPP and REC_NEXTSEQ. -/
def recTouched (a : Nat) : Prop := a = R.REC_LOST.addr 0 0 ∨ a = R.REC_SUPP.addr 0 0 ∨ a = R.REC_NEXTSEQ.addr 0 0

/-- Interrupt vector v is raised: its message is sent, or its pending bit is set (R149). -/
def State.vectored (s t : State) (v : Nat) : Prop :=
  (t.log = s.log ++ [.msix v] ∧ t.msixPend = s.msixPend) ∨ (v ∈ t.msixPend ∧ t.log = s.log)

/-- Wake condition c has arisen: it waits for phase 0 where it applies in the present power state (R543, R544). -/
def State.woken (s t : State) (c : Nat) : Prop :=
  t.pwr = { s.pwr with wakePend := if s.wakeOk c then s.pwr.wakePend.or (some c) else s.pwr.wakePend }

/-- Phase 15 is over, and neither an action that the commit released nor a remote write waits for the coming phase 0. -/
def State.atBoundary (s : State) : Prop := s.boundary = true ∧ s.seq.rel = [] ∧ s.ring.writes = []

/-- The page of envelope e is IMAGING. -/
def State.images (s : State) (e : Env) : Prop :=
  s.imagingHandle = e.handle ∧ e.handle ≠ 0 ∧ e.handle < 2 ^ 32 ∧ e.state = .imaging ∧ s.envOf e.handle = some e ∧ s.fmt.env.length = 64

/-- No page is IMAGING, and none was abandoned with cause 8 in this tick. -/
def State.imagesNone (s : State) : Prop :=
  s.imagingHandle = 0 ∧ s.envOf 0 = none ∧ s.fmt.lastAbn.map (·.2) ≠ some (s.elapsed, 8)

/-- The page of envelope e has been abandoned for a cause: its granules are free, its completion record added, every laser
enable low, the cause kept for Basecamp, and no other page touched (R23, R177, R268, R613). -/
def State.abandons (s t : State) (e : Env) (cause : Nat) : Prop :=
  t.envOf e.handle = some { e.freeBlks with state := .abandoned } ∧ e.handle ∉ t.fmt.queue ∧
  (∃ d, t.fmt.done = s.fmt.done ++ [d] ∧ d.handle = e.handle ∧ d.state = PageState.abandoned.code ∧ d.cause = cause) ∧
  (∀ i, i < 6 → t.fget F.EXP_S_CTRL_LDEN i = 0 ∧ t.fget F.EXP_S_STAT_LDOUT i = 0) ∧
  t.fget F.SYS_BCCAUSE_CODE = cause ∧ t.rget R.SYS_BCHDL = e.handle ∧ .set 769 ∈ t.seq.arrivals ∧
  (∀ k, k ≠ e.handle % 64 → t.slotEnv k = s.slotEnv k)

/-- A start source src is released, from state s: the core die is as at its reset but for what the NVM die, Basecamp, the mains
section and the pins keep, PCYC has counted, and the PLLs begin to lock (R596, R598, R600). -/
def State.starts (s t : State) (src : Nat) : Prop :=
  t = { State.initial s.variant with
    pending := s.pending
    stepping := s.stepping
    fuseRev := s.fuseRev
    regs := t.regs
    free := s.free
    log := s.log
    nvm := s.nvm
    pins := { s.pins with mainps := true }
    rcd := { Recorder.blank with gen := s.rcd.gen, sec := s.rcd.sec, bank := s.rcd.bank }
    sec := { Sec.blank with sealFail := s.sec.sealFail, sealGood := s.sec.sealGood, sealNote := s.sec.sealNote, strap := s.pins.svcStrap }
    boot := { Boot.blank with step := .locking, src := src, fscnt := s.boot.fscnt, frkHeld := s.boot.frkHeld }
    pwr := { Pwr.blank with lastRail := s.pwr.lastRail, lastRailPm := s.pwr.lastRailPm }
    power := { Power.blank with mns := s.power.mns } } ∧
  (s.regsOk = true → t.rget R.SYS_PCYC = (s.rget R.SYS_PCYC + 1) % 2 ^ 32) ∧
  (s.regsOk = true → ∀ a (d : Word), basecampReg a = true → a ≠ R.SYS_PCYC.addr 0 0 → a ≠ R.REC_NEXTSEQ.addr 0 0 →
    tabGet d t.regs a = tabGet d s.regs a) ∧
  (∀ a (d : Word), basecampReg a = false → a ≠ R.EXP_ILK.addr 0 0 → a ≠ R.CAL_SETSTAT.addr 0 0 → a ≠ R.REC_STAT.addr 0 0 →
    tabGet d t.regs a = tabGet d (State.initial s.variant).regs a)

/-- A context after an instruction of cyc cycles that is no branch and writes r to Xd: PC, budget and cycles used move on, and nothing
else changes (R78, R113). -/
def Ctx.result (x : Ctx) (d : Fin 16) (r : Word) (cyc : Nat) : Ctx :=
  { x with x := x.x.set d r, pc := (x.pc + 1) % 2 ^ 20, budget := x.budget - cyc, spent := x.spent + cyc }

/-- A context after an instruction of cyc cycles that is no branch and writes no register. -/
def Ctx.past (x : Ctx) (cyc : Nat) : Ctx := { x with pc := (x.pc + 1) % 2 ^ 20, budget := x.budget - cyc, spent := x.spent + cyc }

/-- When context c executes instruction i, the step completes, and nothing in the module changes but that the context
becomes x. -/
def State.onlyCtx (s : State) (c : Nat) (i : Instr) (x : Ctx) : Prop := s.executes c i = true → exec i s = .next (s.setCtx c x)

/-- The activation of context c ends with the context as y: the contexts and the pairs' cycles are all that changes, and every
other context stays as it is or, READY on the same pair, starts (R75). -/
def State.endsAs (s t : State) (c : Nat) (y : Ctx) : Prop :=
  t.ctx c = y ∧
  (∀ k, k ≠ c → t.ctx k = s.ctx k ∨
    ((s.ctx k).st = .ready ∧ (s.ctx k).pair = y.pair ∧ t.ctx k = { s.ctx k with st := .running, acts := (s.ctx k).acts + 1 })) ∧
  t = { s with seq := { s.seq with ctx := t.seq.ctx, pairCyc := t.seq.pairCyc } }

/-- When context c executes instruction i, the step completes, its activation ends with the context as y, and nothing else
changes (R75, R136). -/
def State.onlyEnds (s : State) (c : Nat) (i : Instr) (y : Ctx) : Prop :=
  s.executes c i = true → ∃ t, exec i s = .next t ∧ s.endsAs t c y

/-- When context c executes instruction i, the step completes, the context becomes y, one deferred action is queued, and nothing
else changes (R85). -/
def State.onlyQueues (s : State) (c : Nat) (i : Instr) (y : Ctx) (d : Deferred) : Prop :=
  s.executes c i = true → exec i s = .next { s with seq := { s.seq with ctx := s.seq.ctx.set c y, outq := s.seq.outq ++ [d] } }

/-- When context c executes instruction i, the step completes, the context is FAULTED with a code and charged cyc cycles, its PC,
registers and flags and every memory stay, nothing is queued, and the fault waits for the commit (R100, R117, R146). -/
def State.onlyFaults (s : State) (c : Nat) (i : Instr) (code cyc : Nat) : Prop :=
  s.executes c i = true → ∃ t, exec i s = .next t ∧
    State.endsAs { s with seq := { s.seq with faults := s.seq.faults ++ [(c, code)] } } t c
      { s.ctx c with st := .faulted, fcode := code, budget := (s.ctx c).budget - cyc, spent := (s.ctx c).spent + cyc }

end Sys2Proof.Machine
end

