-- ==== Sys2Proof/WellFormed.lean ====
section
/-! DEFINITION. The well-formed commands: every operand that names an instance, a register field or an encoded field lies
in the range the spec gives it. Times, counts of errors and measured values are not bounded here. -/

namespace Sys2Proof

/-- A ring frame whose header fields fit their widths (Tables 18-1 and 18-2). -/
def RingFrame.wf (f : RingFrame) : Bool :=
  f.ft < 256 && f.dst < 1024 && f.src < 1024 && f.seq < 256 && f.payload.length ≤ 32 && f.payload.all (· < 2 ^ 32)

/-- The operands of a command lie in their ranges: the instances of the largest variant, and for Yartum instructions the
field widths of Tables 4-1 to 4-9. -/
def Instr.wf : Instr → Bool
  | .tickPhase0 _ => true
  | .outputPhase p => (p = 2 || p = 4 || p = 6 || p = 8 || p = 10)
  | .phase14Preempt => true
  | .budgetExhausted c => c < 512
  | .phase15Commit lanes lawEngines => lanes.all (· < 9) && lawEngines.all (· < 4)
  | .pairSelfTestEnd _ => true
  | .timerExpiry t => t < 64
  | .wakeTickReached c => c < 512
  | .cntlatch => true
  | .countLoRead => true
  | .registerWrite addr size val => addr < 0x200000 && (size = 1 || size = 2 || size = 4 || size = 8) && val < 2 ^ 64
  | .programAdmission => true
  | .retry => true
  | .lanemapWrite val => val < 2 ^ 32
  | .ctxAbort c => c < 512
  | .ctxRestart c => c < 512
  | .evset f => f < 1024
  | .eventFlagClear g val => g < 32 && val < 2 ^ 32
  | .timerWrite t val => t < 64 && val < 2 ^ 32
  | .loadGo => true
  | .loadComplete image _ _ => image.all (· < 256)
  | .activate => true
  | .replace => true
  | .add c _ _ _ => c < 512
  | .adc c _ _ _ => c < 512
  | .sub c _ _ _ => c < 512
  | .sbc c _ _ _ => c < 512
  | .andR c _ _ _ => c < 512
  | .orR c _ _ _ => c < 512
  | .xorR c _ _ _ => c < 512
  | .bic c _ _ _ => c < 512
  | .shl c _ _ _ => c < 512
  | .shr c _ _ _ => c < 512
  | .sar c _ _ _ => c < 512
  | .ror c _ _ _ => c < 512
  | .mul c _ _ _ => c < 512
  | .mulh c _ _ _ => c < 512
  | .mulhu c _ _ _ => c < 512
  | .divu c _ _ _ => c < 512
  | .divs c _ _ _ => c < 512
  | .minS c _ _ _ => c < 512
  | .maxS c _ _ _ => c < 512
  | .minu c _ _ _ => c < 512
  | .maxu c _ _ _ => c < 512
  | .adds c _ _ _ => c < 512
  | .subs c _ _ _ => c < 512
  | .addsu c _ _ _ => c < 512
  | .subsu c _ _ _ => c < 512
  | .neg c _ _ => c < 512
  | .cmp c _ _ => c < 512
  | .tst c _ _ => c < 512
  | .absR c _ _ => c < 512
  | .clz c _ _ => c < 512
  | .paddB c _ _ _ => c < 512
  | .psubB c _ _ _ => c < 512
  | .paddusB c _ _ _ => c < 512
  | .psubusB c _ _ _ => c < 512
  | .paddsB c _ _ _ => c < 512
  | .psubsB c _ _ _ => c < 512
  | .pmaxuB c _ _ _ => c < 512
  | .pminuB c _ _ _ => c < 512
  | .pavguB c _ _ _ => c < 512
  | .psadB c _ _ _ => c < 512
  | .pcmpeqB c _ _ _ => c < 512
  | .pcmpgtuB c _ _ _ => c < 512
  | .pshufB c _ _ _ => c < 512
  | .addi c _ _ imm => c < 512 && imm < 2 ^ 16
  | .cmpi c _ imm => c < 512 && imm < 2 ^ 16
  | .andi c _ _ imm => c < 512 && imm < 2 ^ 16
  | .ori c _ _ imm => c < 512 && imm < 2 ^ 16
  | .xori c _ _ imm => c < 512 && imm < 2 ^ 16
  | .shli c _ _ amt => c < 512 && amt < 32
  | .shri c _ _ amt => c < 512 && amt < 32
  | .sari c _ _ amt => c < 512 && amt < 32
  | .rori c _ _ amt => c < 512 && amt < 32
  | .movi c _ imm => c < 512 && imm < 2 ^ 16
  | .movhi c _ imm => c < 512 && imm < 2 ^ 16
  | .mfsTicklo c _ => c < 512
  | .mfsTickhi c _ => c < 512
  | .mfsPhase c _ => c < 512
  | .mfsCtx c _ => c < 512
  | .mfsBudget c _ => c < 512
  | .mfsLpair c _ => c < 512
  | .mfsActs c _ => c < 512
  | .bCond c cond off => c < 512 && cond < 16 && cond != 8 && off < 2 ^ 22
  | .bl c off => c < 512 && off < 2 ^ 26
  | .br c _ => c < 512
  | .blr c _ => c < 512
  | .cbz c _ off => c < 512 && off < 2 ^ 21
  | .cbnz c _ off => c < 512 && off < 2 ^ 21
  | .ldl c w _ _ off => c < 512 && w < 3 && off < 2 ^ 16
  | .ldlx c w _ _ off => c < 512 && w < 3 && off < 2 ^ 16
  | .stl c w _ _ off => c < 512 && w < 3 && off < 2 ^ 16
  | .lds c w _ _ off => c < 512 && w < 3 && off < 2 ^ 16
  | .ldsx c w _ _ off => c < 512 && w < 3 && off < 2 ^ 16
  | .sts c w _ _ off => c < 512 && w < 3 && off < 2 ^ 16
  | .xadd c _ _ _ => c < 512
  | .xchg c _ _ _ => c < 512
  | .cas c _ _ _ => c < 512
  | .ior c _ _ off => c < 512 && off < 2 ^ 16
  | .iowAt c _ _ ph woff => c < 512 && ph < 5 && woff < 2 ^ 15
  | .sig c reg a flag => c < 512 && (if reg then flag == 0 else a == 0 && decide (flag < 1024))
  | .wait c reg _ a flag => c < 512 && (if reg then flag == 0 else a == 0 && decide (flag < 1024))
  | .waite c _ _ flag => c < 512 && flag < 1024
  | .waitt c _ useReg a imm => c < 512 && (useReg || a == 0) && imm < 2 ^ 20
  | .yield c => c < 512
  | .yieldEnd c => c < 512
  | .halt c => c < 512
  | .msg c _ _ _ len => c < 512 && len < 16
  | .dmago c _ _ => c < 512
  | .lawset c _ _ param exp => c < 512 && param < 64 && exp < 256
  | .lawget c _ _ param exp => c < 512 && param < 64 && exp < 256
  | .recI c _ _ len => c < 512 && len < 5
  | .illegal c w => c < 512 && w < 2 ^ 32
  | .linkDown _ => true
  | .perst => true
  | .bar4Read _ n _ => 0 < n
  | .inboxOpen w => w < 4
  | .inboxClose w => w < 4
  | .inboxWrite _ data => data.all (· < 256)
  | .handleIssue w => w < 4
  | .granuleReservation => true
  | .queue h => h < 2 ^ 32
  | .pgstart h => h < 2 ^ 32
  | .cancel => true
  | .abandon => true
  | .donePop => true
  | .gapAccept => true
  | .gapGraceExpiry => true
  | .spdWrite k val => 1 ≤ k && k < 16 && val < 2 ^ 32
  | .blockDecodeComplete l err => l < 8 && err < 16
  | .decoderResume l => l < 8
  | .redecodeStart => true
  | .redecodeComplete err => err < 16
  | .laneStateFault l => l < 8
  | .sensorLine p vc dt hdr _ _ => p < 4 && vc < 4 && dt < 64 && hdr < 3
  | .frameEnd p vc hdr => p < 4 && vc < 4 && hdr < 3
  | .encoderBlockComplete e _ => e < 2
  | .encoderOutputResume e => e < 2
  | .encoderEnable e => e < 2
  | .encoderDisable e => e < 2
  | .flush e => e < 2
  | .encoderAbort e => e < 2
  | .rdptrWrite e val => e < 2 && val < 2 ^ 32
  | .dpop e => e < 2
  | .beamDetectEdge i _ phi _ _ => i < 6 && phi < 256
  | .arm => true
  | .bstConfigWrite i r val => i < 6 && r < 3 && val < 2 ^ 32
  | .beamDetectWindowOpen i => i < 6
  | .apcSlot i _ mon => i < 6 && mon < 2 ^ 16
  | .dutyCeiling i => i < 6
  | .dutyWarning i => i < 6
  | .laserInterlockOpen => true
  | .estop => true
  | .rearm => true
  | .ldenWrite i v => i < 6 && v < 2
  | .ldenSettleEnd i => i < 6
  | .pwrWrite i v => i < 6 && v < 2 ^ 32
  | .sendtrim i => i < 6
  | .raw i => i < 6
  | .laserSpiFrameDone i miso => i < 6 && miso < 2 ^ 16
  | .beamDetectMiss i => i < 6
  | .beamDetectBEdge i _ _ _ => i < 6
  | .scnEnable i _ => i < 6
  | .pfreqWrite i v => i < 6 && v < 2 ^ 32
  | .sscWrite v => v < 2 ^ 32
  | .referenceLost => true
  | .coastLimit => true
  | .referenceRestored => true
  | .pixelPllUnlock i => i < 6
  | .calRun => true
  | .markEdge k _ v => k < 4 && v < 4096
  | .markMeasureEnd k => k < 4
  | .calResult => true
  | .apply => true
  | .applyEffect => true
  | .store => true
  | .storeDone _ _ => true
  | .pcmdWrite => true
  | .pcmdRead => true
  | .hvTrip n a b => n < 24 && a < 4096 && b < 4096
  | .hvTripclr n => n < 24
  | .hvCfgWrite n v => n < 24 && v < 2 ^ 32
  | .fuserInputClr i => i < 8
  | .zoneTripclr z => z < 4
  | .disagree z => z < 4
  | .zeroCross _ _ => true
  | .missingZeroCross _ => true
  | .guylineFrame => true
  | .guylineLoss => true
  | .returnFrameLoss => true
  | .bridgeCurrentLimit k _ => k < 2
  | .invfclr => true
  | .invenWrite v => v < 2 ^ 32
  | .mnsConfigWrite off v => off < 0x1000 && v < 2 ^ 32
  | .standbyConverterStart => true
  | .standbyConverterStop why => why < 4
  | .standbyConverterRetry => true
  | .focStart n => n < 12
  | .focStop n => n < 12
  | .fltclr n => n < 12
  | .observeEnd n _ _ => n < 12
  | .brakeTimeout n => n < 12
  | .alignEnd n _ _ => n < 12
  | .hfiHandover n => n < 12
  | .obsReturn n => n < 12
  | .motorTrip n c _ => n < 12 && c < 4096
  | .brakeChopperGate _ => true
  | .chopperFault _ => true
  | .chfclr => true
  | .busOvervoltage b _ _ => b < 2
  | .ovclr => true
  | .busUndervoltage b _ => b < 2
  | .vsat n => n < 12
  | .spdinTimeout p => p < 4
  | .axsMove n tgt => n < 36 && -(2 ^ 47 : Int) ≤ tgt && tgt < 2 ^ 47
  | .axsVel n v => n < 36 && -(2 ^ 47 : Int) ≤ v && v < 2 ^ 47
  | .axsAbort n => n < 36
  | .axsQstop n => n < 36
  | .axsHome n => n < 36
  | .axsSetpos n tgt => n < 36 && -(2 ^ 47 : Int) ≤ tgt && tgt < 2 ^ 47
  | .axsClrflt n => n < 36
  | .moveCompletion n => n < 36
  | .limitPairWrite n which v => n < 36 && which < 2 && -(2 ^ 47 : Int) ≤ v && v < 2 ^ 47
  | .switchQualified n k => n < 36 && k < 3
  | .homeEvent n => n < 36
  | .homingTimeout n => n < 36
  | .stall n => n < 36
  | .encoderCount e _ _ _ => e < 24
  | .indexEdge e _ => e < 24
  | .dramRequest c port _ _ data _ => c < 4 && port < 10 && !data.isEmpty && data.all (· < 256)
  | .burstGrant c _ _ => c < 4
  | .dramReadComplete c => c < 4
  | .dramWriteComplete c => c < 4
  | .refresh c rank _ => c < 4 && rank < 2
  | .mr4Read c rates => c < 4 && rates.all (· < 8)
  | .wckOscillatorRead c _ => c < 4
  | .retrain c => c < 4
  | .dramTraining c _ _ _ _ _ => c < 4
  | .scrub c _ => c < 4
  | .dmaGo c => c < 64
  | .dmaStart c => c < 64
  | .dmaMove c => c < 64
  | .dmaLoop c => c < 64
  | .dmaWait c => c < 64
  | .dmaWaitEnd c => c < 64
  | .dmaSignal c => c < 64
  | .dmaEnd c => c < 64
  | .dmaChunkRead c _ data => c < 64 && data.all (· < 256)
  | .dmaWriteResponse c _ => c < 64
  | .dmaAbort c => c < 64
  | .dmaDisable c => c < 64
  | .dmaEnable c => c < 64
  | .slotsWrite c n => c < 64 && n < 2 ^ 32
  | .portTrained p _ _ => p < 2
  | .portDown p _ _ _ => p < 2
  | .ringUnwrap => true
  | .linkRequest p _ => p < 2
  | .linkFrame p _ _ _ _ => p < 2
  | .linkTimeout p _ => p < 2
  | .tickSet p tickno _ _ _ _ => p < 2 && tickno < 2 ^ 64
  | .notick => true
  | .enumW => true
  | .enumFrame p f _ => p < 2 && f.wf
  | .enumTimeout => true
  | .msgFrame p f _ => p < 2 && f.wf
  | .rrdFrame p f _ => p < 2 && f.wf
  | .rwrFrame p f _ => p < 2 && f.wf
  | .rspFrame p f _ => p < 2 && f.wf
  | .ackFrame p f _ => p < 2 && f.wf
  | .sheetFrame p f _ => p < 2 && f.wf
  | .ackTimeout => true
  | .rxpop => true
  | .ackpop => true
  | .remoteRead dst => dst < 1024
  | .remoteWrite dst _ => dst < 1024
  | .sheetEdge k _ _ => k < 4
  | .stateChoice => true
  | .pwrAck code => code < 256
  | .wake c _ => 1 ≤ c && c < 8
  | .sleepResume _ => true
  | .heartbeatTick => true
  | .nextevtWrite t => t < 2 ^ 64
  | .housekeepingSample i v _ => i < 32 && -(2 ^ 15 : Int) ≤ v && v < 2 ^ 15
  | .supplyWarning rail _ _ => rail < 7
  | .supplyRecovery _ _ => true
  | .supplyReset rail _ _ => rail < 7
  | .thrclr => true
  | .presenceButton => true
  | .presenceExpiry => true
  | .presfwd => true
  | .presclr => true
  | .sealPulse _ => true
  | .minverWrite v => v < 2 ^ 32
  | .keySet => true
  | .keyRevoke => true
  | .frankingAdd k v => k < 16 && v < 2 ^ 32
  | .frankingBatch => true
  | .frkinit ctr => ctr < 16
  | .chal => true
  | .unlock level => level < 4
  | .recordWrite step => (step = 0 || step = 2 || step = 4)
  | .rateWindowEnd _ => true
  | .clear _ => true
  | .recNext u => u < 2
  | .powerRelease _ => true
  | .resetPin _ _ => true
  | .swrst => true
  | .watchdogExpiry => true
  | .startRetry _ => true
  | .startStepOverrun cause => cause < 8
  | .pllLock _ => true
  | .imageVerified => true
  | .startBudgetExpiry => true
  | .ready => true
  | .kick => true
  | .bivtry => true
  | .sramUncorrectable region _ _ _ => region < 10
  | .sramSingleBit => true
  | .rtcWrite _ val => val < 2 ^ 64
  | .eventCapture k _ _ _ => k < 16
  | .spiTx k frame => k < 2 && frame < 2 ^ 32
  | .spiFrameDone k miso => k < 2 && miso < 2 ^ 32
  | .i2cGo k nw nr addr => k < 4 && nw < 8 && nr < 8 && addr < 128
  | .i2cTransferEnd k data _ _ => k < 4 && data.all (· < 256)
  | .uartTx k b => k < 2 && b < 256
  | .uartReceive k b => k < 2 && b < 256
  | .uartPop k => k < 2
  | .pcieLinkUp speed width _ => speed < 16 && width < 64
  | .laserInterlockClose => true
  | .estopNRise => true
  | .busUndervoltageClear b _ => b < 2
  | .switchEdge k _ => k < 64
  | .frameStart p vc hdr => p < 4 && vc < 4 && hdr < 3
  | .vstbyLoss _ => true
  | .mainsSectionPowerUp => true
  | .rtcSecond => true
  | .clearDone => true
  | .uartByteSent k => k < 2

end Sys2Proof
end

