-- ==== Sys2Proof/Certificates/Slice0/Obligations.lean ====
section
/-! DEFINITION. The statements for the provers: what the commands do, block by block, the invariant, and the encoding. -/

open Sys2Proof Sys2Proof.Machine

/-- A step takes the command at the front of the queue and carries it out on the state with the queue's rest. With no command
waiting the module idles; that a module then waits is the model's choice (log entry 2). -/
def Obligations.step_takes_front : Prop :=
  (∀ (s : State) (c : Instr) (cs : List Instr), s.pending = c :: cs → step s = exec c { s with pending := cs }) ∧
  ∀ s : State, s.pending = [] → step s = .next s

/-- Every command completes in every state, and leaves the queue of waiting commands and the identity of the part (variant, stepping
and fuse revision) as they are. -/
def Obligations.every_command_completes : Prop :=
  ∀ (i : Instr) (s : State), ∃ t, exec i s = .next t ∧
    t.pending = s.pending ∧ t.variant = s.variant ∧ t.stepping = s.stepping ∧ t.fuseRev = s.fuseRev

/-- Every step keeps the invariant of the model (State.inv): the memories, the local stores of contexts and checkpoints and the SEC
windows stay canonical, the register file stays a table, and every part keeps its instances. -/
def Obligations.step_keeps_invariant : Prop :=
  ∀ s t : State, s.inv = true → step s = .next t → t.inv = true

/-- After reset the invariant holds for every variant, nothing waits and nothing has been sent, every memory is empty, and every
register holds its reset value: that of its table in the spec, or where the spec gives none the model's (log entry 3). -/
def Obligations.reset_state : Prop :=
  State.reset = State.initial .p6m ∧
  ∀ v : Variant, (State.initial v).inv = true ∧ (State.initial v).pending = [] ∧ (State.initial v).log = [] ∧
    (State.initial v).dram = [] ∧ (State.initial v).prog = [] ∧ (State.initial v).boot.step = .off ∧
    ∀ (r : RegDesc) (a i j : Nat), findReg a = some (r, i, j) → r.addr i j = a → r.res.absent v i j = false →
      (State.initial v).rget r i j = resetOf v a r.reset % 2 ^ 32

/-- SYS_IDENT and SYS_FEAT read the values of Table 0-2 in every state, Bivouac mode among them (R8). -/
def Obligations.identification : Prop :=
  ∀ s : State, s.stepping < 16 → s.fuseRev < 16 →
    let ident (code : Nat) : Prop := s.readReg (R.SYS_IDENT.addr 0 0) = 0x5659 * 2 ^ 16 + code * 2 ^ 8 + s.stepping * 16 + s.fuseRev
    let feat (f : Nat) : Prop := s.readReg (R.SYS_FEAT.addr 0 0) = f
    match s.variant with
    | .p6m => ident 0x96 ∧ feat 0xB10CA5EC
    | .p5m => ident 0x95 ∧ feat 0xA90CA5AA
    | .p4m => ident 0x94 ∧ feat 0xA10CA568
    | .h4m => ident 0xA4 ∧ feat 0xA0C85359
    | .k1m => ident 0xB1 ∧ feat 0x8CC852A2
    | .x0m => ident 0xC0 ∧ feat 0xD10C4A00
    | .p6l => ident 0x16 ∧ feat 0x310CA5EC
    | .p5l => ident 0x15 ∧ feat 0x290CA5AA
    | .p4l => ident 0x14 ∧ feat 0x210CA568
    | .h4l => ident 0x24 ∧ feat 0x20C85359
    | .k1l => ident 0x31 ∧ feat 0x0CC852A2
    | .x0l => ident 0x40 ∧ feat 0x510C4A00

/-- The encoding of the Yartum instructions (R110 to R112, Tables 4-1 to 4-9): for every well-formed one, with every operand at every
value that its encoding admits, its word decodes to it; and a 32-bit word that decodes to an instruction is that instruction's one
word, and the instruction is well-formed. -/
def Obligations.encode_decode_agree : Prop :=
  (∀ (i : Instr) (w : Nat), i.wf = true → encodeInsn i = some w → w < 2 ^ 32 ∧ ∃ c, c < 512 ∧ decodeInsn c w = some i) ∧
  ∀ (c w : Nat) (i : Instr), c < 512 → w < 2 ^ 32 → decodeInsn c w = some i → i.wf = true ∧ encodeInsn i = some w

/-- ADD to CLZ (Table 4-4): the result, the flags of the Flags column, and the cycles; nothing else in the module changes. -/
def Obligations.arithmetic_result : Prop :=
  ∀ (s : State) (c : Nat) (d a b : Fin 16),
    let x := s.ctx c
    let p := x.reg a
    let q := x.reg b
    let k := q.toNat % 32
    let cin := bit x.cy
    let nz (r : Word) (cyc : Nat) : Ctx := { x.result d r cyc with n := r.msb, z := r == 0 }
    let nzv (r : Word) (v : Bool) (cyc : Nat) : Ctx := { nz r cyc with v := v }
    let nzcv (r : Word) (cy : Bool) (v : Bool) : Ctx := { nz r 1 with cy := cy, v := v }
    let shift (r : Word) (out : Bool) : Ctx := { nz r 1 with cy := if k = 0 then x.cy else out }
    let out32 (i : Int) : Bool := decide (i < -2147483648 ∨ 2147483647 < i)
    s.onlyCtx c (.add c d a b) (nzcv (p + q) (decide (2 ^ 32 ≤ p.toNat + q.toNat)) (out32 (p.toInt + q.toInt))) ∧
    s.onlyCtx c (.adc c d a b) (nzcv (p + q + BitVec.ofNat 32 cin) (decide (2 ^ 32 ≤ p.toNat + q.toNat + cin))
      (out32 (p.toInt + q.toInt + cin))) ∧
    s.onlyCtx c (.sub c d a b) (nzcv (p - q) (decide (p.toNat < q.toNat)) (out32 (p.toInt - q.toInt))) ∧
    s.onlyCtx c (.sbc c d a b) (nzcv (p - q - BitVec.ofNat 32 cin) (decide (p.toNat < q.toNat + cin))
      (out32 (p.toInt - q.toInt - cin))) ∧
    s.onlyCtx c (.andR c d a b) (nz (p &&& q) 1) ∧
    s.onlyCtx c (.orR c d a b) (nz (p ||| q) 1) ∧
    s.onlyCtx c (.xorR c d a b) (nz (p ^^^ q) 1) ∧
    s.onlyCtx c (.bic c d a b) (nz (p &&& ~~~q) 1) ∧
    s.onlyCtx c (.shl c d a b) (shift (p <<< k) (p.getLsbD (32 - k))) ∧
    s.onlyCtx c (.shr c d a b) (shift (p >>> k) (p.getLsbD (k - 1))) ∧
    s.onlyCtx c (.sar c d a b) (shift (p.sshiftRight k) (p.getLsbD (k - 1))) ∧
    s.onlyCtx c (.ror c d a b) (shift (p.rotateRight k) (p.getLsbD (k - 1))) ∧
    s.onlyCtx c (.mul c d a b) (nz (p * q) 2) ∧
    s.onlyCtx c (.mulh c d a b) (nz (BitVec.ofInt 32 (p.toInt * q.toInt / 2 ^ 32)) 2) ∧
    s.onlyCtx c (.mulhu c d a b) (nz (BitVec.ofNat 32 (p.toNat * q.toNat / 2 ^ 32)) 2) ∧
    s.onlyCtx c (.divu c d a b) (if q = 0 then nzv 0 true 12 else nzv (BitVec.ofNat 32 (p.toNat / q.toNat)) false 12) ∧
    s.onlyCtx c (.divs c d a b) (if q = 0 then nzv 0 true 12
      else if p.toInt = -2 ^ 31 ∧ q.toInt = -1 then nzv p true 12
      else nzv (BitVec.ofInt 32 (Int.tdiv p.toInt q.toInt)) false 12) ∧
    s.onlyCtx c (.minS c d a b) (nz (BitVec.ofInt 32 (min p.toInt q.toInt)) 1) ∧
    s.onlyCtx c (.maxS c d a b) (nz (BitVec.ofInt 32 (max p.toInt q.toInt)) 1) ∧
    s.onlyCtx c (.minu c d a b) (nz (BitVec.ofNat 32 (min p.toNat q.toNat)) 1) ∧
    s.onlyCtx c (.maxu c d a b) (nz (BitVec.ofNat 32 (max p.toNat q.toNat)) 1) ∧
    s.onlyCtx c (.adds c d a b) (nzv (BitVec.ofInt 32 (max (-2 ^ 31) (min (2 ^ 31 - 1) (p.toInt + q.toInt)))) (out32 (p.toInt + q.toInt)) 1) ∧
    s.onlyCtx c (.subs c d a b) (nzv (BitVec.ofInt 32 (max (-2 ^ 31) (min (2 ^ 31 - 1) (p.toInt - q.toInt)))) (out32 (p.toInt - q.toInt)) 1) ∧
    s.onlyCtx c (.addsu c d a b) (nzv (BitVec.ofNat 32 (min (2 ^ 32 - 1) (p.toNat + q.toNat))) (decide (2 ^ 32 ≤ p.toNat + q.toNat)) 1) ∧
    s.onlyCtx c (.subsu c d a b) (nzv (BitVec.ofNat 32 (p.toNat - q.toNat)) (decide (p.toNat < q.toNat)) 1) ∧
    s.onlyCtx c (.neg c d a) (nzcv (-p) (decide (0 < p.toNat)) (decide (p.toInt = -2 ^ 31))) ∧
    s.onlyCtx c (.cmp c a b) { x.past 1 with n := (p - q).msb, z := p - q == 0, cy := decide (p.toNat < q.toNat), v := out32 (p.toInt - q.toInt) } ∧
    s.onlyCtx c (.tst c a b) { x.past 1 with n := (p &&& q).msb, z := p &&& q == 0 } ∧
    s.onlyCtx c (.absR c d a) (nzv (BitVec.ofNat 32 p.toInt.natAbs) (decide (p.toInt = -2 ^ 31)) 1) ∧
    (∃ n : Nat, n ≤ 32 ∧ (∀ i, 32 - n ≤ i → p.getLsbD i = false) ∧ (n < 32 → p.getLsbD (31 - n) = true) ∧
      s.onlyCtx c (.clz c d a) (nz (BitVec.ofNat 32 n) 1))

/-- PADD.B to PSHUF.B (Table 4-5, R118): each lane of the result, the flags and the cycles; nothing else in the module
changes. -/
def Obligations.packed_result : Prop :=
  ∀ (s : State) (c : Nat) (d a b : Fin 16),
    let x := s.ctx c
    let p (i : Nat) : Nat := (x.reg a).toNat / 256 ^ i % 256
    let q (i : Nat) : Nat := (x.reg b).toNat / 256 ^ i % 256
    let sg (n : Nat) : Int := if n < 128 then n else (n : Int) - 256
    let nz (r : Word) (cyc : Nat) : Ctx := { x.result d r cyc with n := r.msb, z := r == 0 }
    let lanes (i : Instr) (f : Nat → Nat) : Prop :=
      ∃ r : Word, (∀ k, k < 4 → r.toNat / 256 ^ k % 256 = f k) ∧ s.onlyCtx c i (nz r 1)
    let saturated (i : Instr) (lo hi : Int) (f : Nat → Int) : Prop :=
      ∃ (r : Word) (v : Bool), (∀ k, k < 4 → ((r.toNat / 256 ^ k % 256 : Nat) : Int) = max lo (min hi (f k)) % 256) ∧
        (v = true ↔ ∃ k, k < 4 ∧ (f k < lo ∨ hi < f k)) ∧ s.onlyCtx c i { nz r 1 with v := v }
    lanes (.paddB c d a b) (fun k => (p k + q k) % 256) ∧
    lanes (.psubB c d a b) (fun k => (256 + p k - q k) % 256) ∧
    saturated (.paddusB c d a b) 0 255 (fun k => (p k : Int) + q k) ∧
    saturated (.psubusB c d a b) 0 255 (fun k => (p k : Int) - q k) ∧
    saturated (.paddsB c d a b) (-128) 127 (fun k => sg (p k) + sg (q k)) ∧
    saturated (.psubsB c d a b) (-128) 127 (fun k => sg (p k) - sg (q k)) ∧
    lanes (.pmaxuB c d a b) (fun k => max (p k) (q k)) ∧
    lanes (.pminuB c d a b) (fun k => min (p k) (q k)) ∧
    lanes (.pavguB c d a b) (fun k => (p k + q k + 1) / 2) ∧
    s.onlyCtx c (.psadB c d a b) (nz (BitVec.ofNat 32 (((List.range 4).map (fun k => max (p k) (q k) - min (p k) (q k))).sum)) 2) ∧
    lanes (.pcmpeqB c d a b) (fun k => if p k = q k then 255 else 0) ∧
    lanes (.pcmpgtuB c d a b) (fun k => if q k < p k then 255 else 0) ∧
    lanes (.pshufB c d a b) (fun k => p ((x.reg b).toNat / 4 ^ k % 4))

/-- ADDI to MOVHI (Table 4-6) and MFS (Table 4-7): the result, the flags and the cycle; nothing else in the module changes. MFS
PHASE gives the phase of execution, of which only the bound is fixed here. -/
def Obligations.immediate_result : Prop :=
  ∀ (s : State) (c : Nat) (d a : Fin 16) (imm : Nat),
    let x := s.ctx c
    let p := x.reg a
    let e := BitVec.ofInt 32 (if imm % 65536 < 32768 then (imm % 65536 : Nat) else ((imm % 65536 : Nat) : Int) - 65536)
    let z := BitVec.ofNat 32 (imm % 65536)
    let k := imm % 32
    let nz (r : Word) : Ctx := { x.result d r 1 with n := r.msb, z := r == 0 }
    let shift (r : Word) (out : Bool) : Ctx := { nz r with cy := if k = 0 then x.cy else out }
    let out32 (i : Int) : Bool := decide (i < -2147483648 ∨ 2147483647 < i)
    s.onlyCtx c (.addi c d a imm) { nz (p + e) with cy := decide (2 ^ 32 ≤ p.toNat + e.toNat), v := out32 (p.toInt + e.toInt) } ∧
    s.onlyCtx c (.cmpi c a imm) { x.past 1 with n := (p - e).msb, z := p - e == 0, cy := decide (p.toNat < e.toNat), v := out32 (p.toInt - e.toInt) } ∧
    s.onlyCtx c (.andi c d a imm) (nz (p &&& z)) ∧
    s.onlyCtx c (.ori c d a imm) (nz (p ||| z)) ∧
    s.onlyCtx c (.xori c d a imm) (nz (p ^^^ z)) ∧
    s.onlyCtx c (.shli c d a imm) (shift (p <<< k) (p.getLsbD (32 - k))) ∧
    s.onlyCtx c (.shri c d a imm) (shift (p >>> k) (p.getLsbD (k - 1))) ∧
    s.onlyCtx c (.sari c d a imm) (shift (p.sshiftRight k) (p.getLsbD (k - 1))) ∧
    s.onlyCtx c (.rori c d a imm) (shift (p.rotateRight k) (p.getLsbD (k - 1))) ∧
    s.onlyCtx c (.movi c d imm) (x.result d e 1) ∧
    s.onlyCtx c (.movhi c d imm) (x.result d (z <<< 16 ||| (x.reg d &&& 0xFFFF#32)) 1) ∧
    s.onlyCtx c (.mfsTicklo c d) { x.result d (BitVec.ofNat 32 s.tick) 1 with tickHi := s.tick / 2 ^ 32 % 2 ^ 16 } ∧
    s.onlyCtx c (.mfsTickhi c d) (x.result d (BitVec.ofNat 32 x.tickHi) 1) ∧
    s.onlyCtx c (.mfsCtx c d) (x.result d (BitVec.ofNat 32 c) 1) ∧
    s.onlyCtx c (.mfsBudget c d) (x.result d (BitVec.ofNat 32 x.budget) 1) ∧
    s.onlyCtx c (.mfsLpair c d) (x.result d (BitVec.ofNat 32 x.pair) 1) ∧
    s.onlyCtx c (.mfsActs c d) (x.result d (BitVec.ofNat 32 x.acts) 1) ∧
    (s.executes c (.mfsPhase c d) = true → ∃ ph, s.phase ≤ ph ∧ ph ≤ 14 ∧
      exec (.mfsPhase c d) s = .next { s.setCtx c (x.result d (BitVec.ofNat 32 ph) 1) with free := s.free + 1 })

/-- B.cond, BL, CBZ, CBNZ, BR and BLR (R119, R120, Table 4-3): the offset counts instructions from the branch itself, BR and BLR
ignore Xa[31:20], BLR with a = 15 jumps to the old X15 and then writes the return address, no flag changes, and nothing else in the
module changes; and with the flags that a compare of two words leaves, the conditions are the orders that their suffixes name. -/
def Obligations.branch_result : Prop :=
  ∀ (s : State) (c cond off : Nat) (a : Fin 16),
    let x := s.ctx c
    let sx (w v : Nat) : Int := if v % 2 ^ w < 2 ^ (w - 1) then (v % 2 ^ w : Nat) else ((v % 2 ^ w : Nat) : Int) - 2 ^ w
    let goto (w cyc : Nat) : Ctx := { x with pc := ((x.pc + sx w off) % 2 ^ 20).toNat, budget := x.budget - cyc, spent := x.spent + cyc }
    let holds : Bool := match cond with
      | 0 => true
      | 1 => x.z
      | 2 => x.cy
      | 3 => x.cy || x.z
      | 4 => x.n != x.v
      | 5 => x.z || x.n != x.v
      | 6 => x.n
      | 7 => x.v
      | 9 => !x.z
      | 10 => !x.cy
      | 11 => !x.cy && !x.z
      | 12 => x.n == x.v
      | 13 => !x.z && x.n == x.v
      | 14 => !x.n
      | _ => !x.v
    let target := (x.reg a).toNat % 2 ^ 20
    let compared (p q : Word) : Prop := x.z = decide (p = q) ∧ x.cy = decide (p.toNat < q.toNat) ∧ x.n = (p - q).msb ∧
      x.v = outS32 (p.toInt - q.toInt)
    (cond < 16 → cond ≠ 8 → s.onlyCtx c (.bCond c cond off) (if holds then goto 22 2 else x.past 1)) ∧
    s.onlyCtx c (.bl c off) { goto 26 2 with x := x.x.set 15 (BitVec.ofNat 32 ((x.pc + 1) % 2 ^ 20)) } ∧
    s.onlyCtx c (.cbz c a off) (if x.reg a = 0 then goto 21 2 else x.past 1) ∧
    s.onlyCtx c (.cbnz c a off) (if x.reg a = 0 then x.past 1 else goto 21 2) ∧
    s.onlyCtx c (.br c a) { x with pc := target, budget := x.budget - 3, spent := x.spent + 3 } ∧
    s.onlyCtx c (.blr c a) { x with
      pc := target
      budget := x.budget - 3
      spent := x.spent + 3
      x := x.x.set 15 (BitVec.ofNat 32 ((x.pc + 1) % 2 ^ 20)) } ∧
    (∀ p q, compared p q →
      (cond = 1 → (holds = true ↔ p = q)) ∧ (cond = 9 → (holds = true ↔ p ≠ q)) ∧
      (cond = 2 → (holds = true ↔ p.toNat < q.toNat)) ∧ (cond = 10 → (holds = true ↔ q.toNat ≤ p.toNat)) ∧
      (cond = 3 → (holds = true ↔ p.toNat ≤ q.toNat)) ∧ (cond = 11 → (holds = true ↔ q.toNat < p.toNat)) ∧
      (cond = 4 → (holds = true ↔ p.toInt < q.toInt)) ∧ (cond = 12 → (holds = true ↔ q.toInt ≤ p.toInt)) ∧
      (cond = 5 → (holds = true ↔ p.toInt ≤ q.toInt)) ∧ (cond = 13 → (holds = true ↔ q.toInt < p.toInt)))

/-- LDL, LDLX, LDS and LDSX at an aligned address within their space (R121 to R124, Table 4-8): the loaded value, extended, and
the cycles; nothing else in the module changes. A load of shared or bulk data sees every store made so far but those that another
pair makes in the cycle of the load. -/
def Obligations.load_result : Prop :=
  ∀ (s : State) (c w off : Nat) (t a : Fin 16),
    let x := s.ctx c
    let ad := x.addrM a off
    let n := 2 ^ w
    let space := if s.variant.isX0 then 0x3400000 else 0x400000
    let zx (v : Nat) : Word := BitVec.ofNat 32 v
    let sx (v : Nat) : Word := BitVec.ofInt 32 (if 2 * v < 256 ^ n then (v : Int) else (v : Int) - 256 ^ n)
    let lo := memRead x.loc ad n
    let da := memRead (s.seenData c) ad n
    let cyc := if ad < 0x400000 then 4 else 8
    w < 3 → ad % n = 0 →
    (ad + n ≤ 1024 → s.onlyCtx c (.ldl c w t a off) (x.result t (zx lo) 2) ∧ s.onlyCtx c (.ldlx c w t a off) (x.result t (sx lo) 2)) ∧
    (ad + n ≤ space → s.onlyCtx c (.lds c w t a off) (x.result t (zx da) cyc) ∧ s.onlyCtx c (.ldsx c w t a off) (x.result t (sx da) cyc)) ∧
    ((∀ j ∈ s.seq.journal, j.cyc = s.cycleOf c → j.pair = x.pair) → s.seenData c = s.data) ∧
    (∀ j, s.seq.journal.head? = some j → j.loc = none → j.cyc = s.cycleOf c → j.pair ≠ x.pair →
      (∀ k ∈ s.seq.journal.tail, k.cyc = s.cycleOf c → k.pair = x.pair) → s.seenData c = memWrite s.data j.addr 4 j.old)

/-- STL and STS at an aligned address within their space (R88, R121 to R123, Table 4-8): the stored bytes hold the low bytes of
Xt, every other byte reads as before, the word's before-image enters the journal, and nothing else in the module changes. -/
def Obligations.store_result : Prop :=
  ∀ (s : State) (c w off : Nat) (t a : Fin 16), c < s.seq.ctx.length →
    let x := s.ctx c
    let ad := x.addrM a off
    let n := 2 ^ w
    let space := if s.variant.isX0 then 0x3400000 else 0x400000
    let stored (m m' : List Host.Cell) : Prop := memRead m' ad n = (x.reg t).toNat % 256 ^ n ∧
      ∀ k, k < ad ∨ ad + n ≤ k → tabGet (0 : Byte) m' k = tabGet 0 m k
    w < 3 → ad % n = 0 →
    (ad + n ≤ 1024 → s.executes c (.stl c w t a off) = true → ∃ m, stored x.loc m ∧
      exec (.stl c w t a off) s = .next { s with seq := { s.seq with
        ctx := s.seq.ctx.set c { x.past 2 with loc := m }
        journal := ⟨some c, ad / 4 * 4, memRead x.loc (ad / 4 * 4) 4, x.pair, s.cycleOf c⟩ :: s.seq.journal } }) ∧
    (ad + n ≤ space → s.executes c (.sts c w t a off) = true → ∃ m, stored s.data m ∧
      exec (.sts c w t a off) s = .next { s with
        data := m
        seq := { s.seq with
          ctx := s.seq.ctx.set c (x.past 2)
          journal := ⟨none, ad / 4 * 4, memRead s.data (ad / 4 * 4) 4, x.pair, s.cycleOf c⟩ :: s.seq.journal } })

/-- XADD, XCHG and CAS at an aligned address of shared or bulk data (R88, R125, Table 4-9): the old word goes to Xd, and the word
stored, where one is, is the only part of memory that changes. -/
def Obligations.atomic_result : Prop :=
  ∀ (s : State) (c : Nat) (d a b : Fin 16),
    let x := s.ctx c
    let ad := (x.reg a).toNat
    let old := memRead s.data ad 4
    let space := if s.variant.isX0 then 0x3400000 else 0x400000
    let stores (i : Instr) (v : Word) (y : Ctx) : Prop := s.executes c i = true →
      ∃ m, memRead m ad 4 = v.toNat ∧ (∀ k, k < ad ∨ ad + 4 ≤ k → tabGet (0 : Byte) m k = tabGet 0 s.data k) ∧
        exec i s = .next { s with
          data := m
          seq := { s.seq with ctx := s.seq.ctx.set c y, journal := ⟨none, ad, old, x.pair, s.cycleOf c⟩ :: s.seq.journal } }
    let got := x.result d (BitVec.ofNat 32 old) 6
    ad % 4 = 0 → ad + 4 ≤ space →
    stores (.xadd c d a b) (BitVec.ofNat 32 old + x.reg b) got ∧
    stores (.xchg c d a b) (x.reg b) got ∧
    (BitVec.ofNat 32 old = x.reg d → stores (.cas c d a b) (x.reg b) { got with z := true }) ∧
    (BitVec.ofNat 32 old ≠ x.reg d → s.onlyCtx c (.cas c d a b) { got with z := false })

/-- WAIT, WAITE, WAITT, YIELD, its END form and HALT (R82, R96, R132 to R136): the flag is sampled as it was at the start of the cycle.
On a set flag the context goes on, and the flag is cleared where it is consumed, unless a SIG of the same cycle has set it: then it
stays set, and no second context of the cycle samples it as set. Otherwise the activation ends; where a SIG of the same cycle has set
the flag, the context is READY at once. What becomes of WAIT and SIG in one cycle beyond R132 is the model's choice (log entry 8). -/
def Obligations.wait_result : Prop :=
  ∀ (s : State) (c imm flag : Nat) (reg consume abs use : Bool) (a : Fin 16), c < s.seq.ctx.length →
    let x := s.ctx c
    let f := if reg then (x.reg a).toNat else flag
    let lim := (x.reg a).toNat % 2 ^ 24
    let hasSig (g : Nat) : Bool := s.seq.sigs.any (fun r => r.flag == g && r.cyc == s.cycleOf c)
    let goesOn (i : Instr) (g : Nat) (y : Ctx) : Prop := s.executes c i = true → ∃ t, exec i s = .next t ∧
      t = { s with regs := t.regs, seq := { s.seq with ctx := s.seq.ctx.set c y, sigs := t.seq.sigs } } ∧
      s.regsApart (fun r => consume = true ∧ r = R.SEQ_EV.addr (g / 32) 0) t ∧
      t.flag g = (s.flag g && (!consume || hasSig g)) ∧ (∀ h, h ≠ g → t.flag h = s.flag h) ∧
      t.seq.sigs = s.seq.sigs.map (fun r => if consume = true ∧ r.flag = g ∧ r.cyc = s.cycleOf c then { r with old := false } else r)
    let readied (i : Instr) (g : Nat) (y : Ctx) : Prop := s.executes c i = true → ∃ t, exec i s = .next t ∧
      (t.ctx c = { y with st := .ready } ∨ t.ctx c = { y with st := .running, acts := y.acts + 1 }) ∧
      (∀ k, k ≠ c → t.ctx k = s.ctx k ∨
        ((s.ctx k).st = .ready ∧ (s.ctx k).pair = y.pair ∧ t.ctx k = { s.ctx k with st := .running, acts := (s.ctx k).acts + 1 })) ∧
      t = { s with regs := t.regs, seq := { s.seq with ctx := t.seq.ctx, pairCyc := t.seq.pairCyc } } ∧
      s.regsApart (fun r => consume = true ∧ r = R.SEQ_EV.addr (g / 32) 0) t ∧ t.flag g = !consume ∧ (∀ h, h ≠ g → t.flag h = s.flag h)
    (∀ g, hasSig g = false → s.sampled c g = s.flag g) ∧
    (f ≤ 1023 → s.sampled c f = true → goesOn (.wait c reg consume a flag) f (x.past 2)) ∧
    (f ≤ 1023 → s.sampled c f = false → (hasSig f && s.flag f) = false → s.onlyEnds c (.wait c reg consume a flag)
      { x.past 2 with st := .waiting, waitFlag := f, waitConsume := consume, waitTimed := false, expired := false }) ∧
    (f ≤ 1023 → s.sampled c f = false → (hasSig f && s.flag f) = true → readied (.wait c reg consume a flag) f (x.past 2)) ∧
    (s.sampled c flag = true → goesOn (.waite c consume a flag) flag { x.past 2 with cy := false }) ∧
    (s.sampled c flag = false → lim = 0 → s.onlyCtx c (.waite c consume a flag) { x.past 2 with cy := true }) ∧
    (s.sampled c flag = false → 0 < lim → (hasSig flag && s.flag flag) = false → s.onlyEnds c (.waite c consume a flag)
      { x.past 2 with
        st := .waiting
        waitFlag := flag
        waitConsume := consume
        waitTimed := true
        expired := false
        wake := (s.tick + lim) % 2 ^ 32 }) ∧
    (s.sampled c flag = false → 0 < lim → (hasSig flag && s.flag flag) = true →
      readied (.waite c consume a flag) flag { x.past 2 with cy := false, wake := (s.tick + lim) % 2 ^ 32 }) ∧
    s.onlyEnds c (.waitt c abs use a imm)
      { x.past 2 with st := .sleeping, wake := ((if abs then 0 else s.tick) + (if use then (x.reg a).toNat else 0) + imm) % 2 ^ 32 } ∧
    s.onlyEnds c (.yield c) { x.past 1 with st := .yielded } ∧
    s.onlyEnds c (.yieldEnd c) { x.past 1 with st := .done } ∧
    (s.executes c (.halt c) = true → ∃ t, exec (.halt c) s = .next t ∧
      State.endsAs { s with seq := { s.seq with commitRecs := s.seq.commitRecs ++ [(0x6041, [c])] } } t c { x.past 1 with st := .halted })

/-- IOW.AT, MSG, DMAGO, LAWSET and REC (R85, R129, R137 to R145): within the limits of R144 each queues its deferred action, and
nothing else in the module changes. -/
def Obligations.deferred_result : Prop :=
  ∀ (s : State) (c n param exp woff len i : Nat) (a b v : Fin 16) (auth : Bool),
    let x := s.ctx c
    let ad := (x.reg a + BitVec.ofNat 32 (4 * woff)).toNat
    let va := (x.reg a).toNat
    let body := (x.reg b).toNat
    let words (k : Nat) : List Nat := (List.range k).map (fun j => memRead x.loc (body + 4 * j) 4)
    (n < 5 → ad < 0x180000 → ad % 4 = 0 → s.absentAt ad = false → s.lawOwned ad = false → x.twSlot (2 * n + 2) ad = some i →
      s.onlyQueues c (.iowAt c v a n woff) { x.past 2 with twUsed := x.twUsed.set i (nth x.twUsed i 0 + 1) }
        (.iowAt c ad (x.reg v).toNat (2 * n + 2))) ∧
    (body % 4 = 0 → body + 4 * (len + 1) ≤ 1024 → bits va 23 16 < 0xF0 → x.nMsg < 4 →
      s.onlyQueues c (.msg c a b auth len) { x.past (5 + len) with nMsg := x.nMsg + 1 }
        (.msg c (va % 1024) (va.testBit 10) (bits va 23 16) auth (words (len + 1)))) ∧
    (s.dmaSeq (va % 64) = true → x.nDma < 4 →
      s.onlyQueues c (.dmago c a b) { x.past 2 with nDma := x.nDma + 1 } (.dmago c (va % 64) body)) ∧
    ((s.law va).writable param = true → x.nLaw < 16 →
      s.onlyQueues c (.lawset c v a param exp) { x.past 2 with nLaw := x.nLaw + 1 }
        (.lawset c va param (x.reg v).toInt (signed 8 exp))) ∧
    (len ≤ 4 → (len = 0 ∨ body % 4 = 0 ∧ body + 4 * len ≤ 1024) → 0x8000 ≤ va % 2 ^ 16 → x.nRec < 4 →
      s.onlyQueues c (.recI c a b len) { x.past (4 + len) with nRec := x.nRec + 1 } (.rcd c (va % 2 ^ 16) (words len) s.tick))

/-- SIG of a flag up to 767 (R80, R81, R83): the flag reads 1 unless a waiter consumes it, every context that waits on it without
the consume option is READY, every other flag and register stays. IOR (R126 to R128) and LAWGET (R142) give their value to the
register, and change nothing else but the counter of free values that IOR reads. -/
def Obligations.signal_and_read : Prop :=
  ∀ (s : State) (c flag off param exp : Nat) (reg : Bool) (a t : Fin 16), c < s.seq.ctx.length →
    let x := s.ctx c
    let f := if reg then (x.reg a).toNat else flag
    let ad := x.addrM a off
    let n := (x.reg a).toNat
    let got := (s.lawCommitted n).get param (signed 8 exp)
    (f ≤ 767 → s.executes c (.sig c reg a flag) = true → ∃ u, exec (.sig c reg a flag) s = .next u ∧
      u = { s with regs := u.regs, seq := { s.seq with ctx := u.seq.ctx, sigs := u.seq.sigs } } ∧
      s.regsApart (fun r => r = R.SEQ_EV.addr (f / 32) 0) u ∧ (∀ h, h ≠ f → u.flag h = s.flag h) ∧
      u.ctx c = x.past 2 ∧
      (∀ k, k ≠ c → (s.ctx k).waitsOn f = false → u.ctx k = s.ctx k) ∧
      (∀ k, k ≠ c → (s.ctx k).waitsOn f = true → (s.ctx k).waitConsume = false → u.ctx k = (s.ctx k).wakeUp false) ∧
      ((∀ k, ((s.ctx k).waitsOn f && (s.ctx k).waitConsume) = false) → u.flag f = true) ∧
      (∃ r ∈ u.seq.sigs, r.flag = f ∧ r.cyc = s.cycleOf c) ∧ (∀ r ∈ u.seq.sigs, r.cyc = s.cycleOf c ∧ (r ∈ s.seq.sigs ∨ r = ⟨f, s.cycleOf c, s.flag f⟩))) ∧
    (ad < 0x180000 → ad % 4 = 0 → s.absentAt ad = false → s.executes c (.ior c t a off) = true →
      exec (.ior c t a off) s = .next { s.setCtx c (x.result t (BitVec.ofNat 32 (s.readReg ad)) 6) with free := s.free + 1 }) ∧
    ((s.law n).readable param = true →
      s.onlyCtx c (.lawget c t a param exp) { x.result t (BitVec.ofNat 32 got.1) 4 with v := got.2 })

/-- The faults of Table 4-13 that an instruction meets on its operands (R117, R146): the context is FAULTED with the code, charged
the full count, and nothing else changes but what the dispatch point starts. -/
def Obligations.instruction_faults : Prop :=
  ∀ (s : State) (c w off k woff len w32 : Nat) (reg consume auth : Bool) (t a b d : Fin 16), c < s.seq.ctx.length →
    let x := s.ctx c
    let ad := x.addrM a off
    let va := (x.reg a).toNat
    let vb := (x.reg b).toNat
    let io := (x.reg a + BitVec.ofNat 32 (4 * woff)).toNat
    let space := if s.variant.isX0 then 0x3400000 else 0x400000
    let f := if reg then va else k
    s.onlyFaults c (.illegal c w32) 1 (illegalCycles w32) ∧
    (w < 3 → 1024 < ad + 2 ^ w → s.onlyFaults c (.ldl c w t a off) 2 2 ∧ s.onlyFaults c (.ldlx c w t a off) 2 2 ∧
      s.onlyFaults c (.stl c w t a off) 2 2) ∧
    (w < 3 → ad + 2 ^ w ≤ 1024 → ad % 2 ^ w ≠ 0 → s.onlyFaults c (.ldl c w t a off) 3 2 ∧ s.onlyFaults c (.ldlx c w t a off) 3 2 ∧
      s.onlyFaults c (.stl c w t a off) 3 2) ∧
    (w < 3 → space < ad + 2 ^ w → s.onlyFaults c (.lds c w t a off) 2 8 ∧ s.onlyFaults c (.ldsx c w t a off) 2 8 ∧
      s.onlyFaults c (.sts c w t a off) 2 2) ∧
    (w < 3 → ad + 2 ^ w ≤ space → ad % 2 ^ w ≠ 0 → s.onlyFaults c (.lds c w t a off) 3 8 ∧ s.onlyFaults c (.ldsx c w t a off) 3 8 ∧
      s.onlyFaults c (.sts c w t a off) 3 2) ∧
    (space < va + 4 → s.onlyFaults c (.xadd c d a b) 2 6 ∧ s.onlyFaults c (.xchg c d a b) 2 6 ∧ s.onlyFaults c (.cas c d a b) 2 6) ∧
    (va + 4 ≤ space → va % 4 ≠ 0 → s.onlyFaults c (.xadd c d a b) 3 6 ∧ s.onlyFaults c (.xchg c d a b) 3 6 ∧
      s.onlyFaults c (.cas c d a b) 3 6) ∧
    (0x180000 ≤ ad → s.onlyFaults c (.ior c t a off) 2 6) ∧
    (ad < 0x180000 → ad % 4 ≠ 0 → s.onlyFaults c (.ior c t a off) 3 6) ∧
    (ad < 0x180000 → ad % 4 = 0 → s.absentAt ad = true → s.onlyFaults c (.ior c t a off) 4 6) ∧
    (k < 5 → 0x180000 ≤ io → s.onlyFaults c (.iowAt c t a k woff) 2 2) ∧
    (k < 5 → io < 0x180000 → io % 4 ≠ 0 → s.onlyFaults c (.iowAt c t a k woff) 3 2) ∧
    (k < 5 → io < 0x180000 → io % 4 = 0 → s.absentAt io = true → s.onlyFaults c (.iowAt c t a k woff) 4 2) ∧
    (k < 5 → io < 0x180000 → io % 4 = 0 → s.absentAt io = false → (s.lawOwned io = true ∨ x.twSlot (2 * k + 2) io = none) →
      s.onlyFaults c (.iowAt c t a k woff) 5 2) ∧
    (767 < f → s.onlyFaults c (.sig c reg a k) 6 2) ∧
    (1023 < f → s.onlyFaults c (.wait c reg consume a k) 6 2) ∧
    ((s.law va).writable k = false → s.onlyFaults c (.lawset c d a k off) 7 2) ∧
    ((s.law va).readable k = false → s.onlyFaults c (.lawget c d a k off) 7 4) ∧
    (s.dmaSeq (va % 64) = false → s.onlyFaults c (.dmago c a b) 8 2) ∧
    (s.dmaSeq (va % 64) = true → 4 ≤ x.nDma → s.onlyFaults c (.dmago c a b) 9 2) ∧
    (1024 < vb + 4 * (len + 1) → s.onlyFaults c (.msg c a b auth len) 2 (5 + len)) ∧
    (vb + 4 * (len + 1) ≤ 1024 → vb % 4 ≠ 0 → s.onlyFaults c (.msg c a b auth len) 3 (5 + len)) ∧
    (vb + 4 * (len + 1) ≤ 1024 → vb % 4 = 0 → 0xF0 ≤ bits va 23 16 → s.onlyFaults c (.msg c a b auth len) 0x0B (5 + len)) ∧
    (len ≤ 4 → len ≠ 0 → 1024 < vb + 4 * len → s.onlyFaults c (.recI c a b len) 2 (4 + len)) ∧
    (len ≤ 4 → (len = 0 ∨ vb % 4 = 0 ∧ vb + 4 * len ≤ 1024) → va % 2 ^ 16 < 0x8000 → s.onlyFaults c (.recI c a b len) 0x0A (4 + len))

/-- CNTLATCH and COUNT_LO_READ (R32), EVENT_FLAG_CLEAR (R80), TIMER_WRITE (R84), CTX_ABORT (R97) and CTX_RESTART (R99): what each
leaves, and that nothing else changes. -/
def Obligations.sequencer_writes : Prop :=
  ∀ (s : State) (c g t val : Nat),
    let only (i : Instr) (p : State → Prop) : Prop := ∃ u, exec i s = .next u ∧ p u
    only .cntlatch (fun u => u = { s with regs := u.regs } ∧ u.rget R.TCK_COUNT_HI = s.tick / 2 ^ 32 % 2 ^ 16 ∧
      s.regsApart (fun a => a = R.TCK_COUNT_HI.addr 0 0) u) ∧
    only .countLoRead (fun u => u = { s with regs := u.regs, log := s.log ++ [.hostRead32 (R.TCK_COUNT_LO.addr 0 0) (s.tick % 2 ^ 32)] } ∧
      u.rget R.TCK_COUNT_HI = s.tick / 2 ^ 32 % 2 ^ 16 ∧ s.regsApart (fun a => a = R.TCK_COUNT_HI.addr 0 0) u) ∧
    (s.bivouac = false → g < 32 → only (.eventFlagClear g val) (fun u =>
      u = { s with regs := u.regs, seq := { s.seq with arrivals := u.seq.arrivals } } ∧
      u.seq.arrivals = s.seq.arrivals ++ (((List.range 32).filter (val.testBit ·)).map (fun b => .clear (32 * g + b))) ∧
      (∀ b, b < 32 → u.flag (32 * g + b) = (s.flag (32 * g + b) && !val.testBit b)) ∧
      s.regsApart (fun a => a = R.SEQ_EV.addr g 0) u)) ∧
    (s.bivouac = false → t < 64 → val < 2 ^ 32 → only (.timerWrite t val) (fun u => u = { s with regs := u.regs } ∧
      u.fget F.SEQ_T_CTRL_EN t = val / 2 ^ 31 ∧ u.fget F.SEQ_T_CTRL_PERIODIC t = val / 2 ^ 30 % 2 ∧
      u.fget F.SEQ_T_CTRL_RELOAD t = val % 2 ^ 24 ∧
      (val.testBit 31 = true → u.rget R.SEQ_T_CNT t = max (val % 2 ^ 24) 1) ∧
      (val.testBit 31 = false → u.rget R.SEQ_T_CNT t = s.rget R.SEQ_T_CNT t) ∧
      s.regsApart (fun a => a = R.SEQ_T_CTRL.addr t 0 ∨ a = R.SEQ_T_CNT.addr t 0) u)) ∧
    (s.bivouac = false → c < 512 → only (.ctxAbort c) (fun u =>
      u = { s with regs := u.regs, seq := { s.seq with abortPend := u.seq.abortPend } } ∧
      u.seq.abortPend = (if c ∈ s.seq.abortPend then s.seq.abortPend else s.seq.abortPend ++ [c]) ∧
      u.rget R.SEQ_CTXSEL = c ∧ s.regsApart (fun a => a = R.SEQ_CTXSEL.addr 0 0) u)) ∧
    (s.bivouac = false → c < 512 → only (.ctxRestart c) (fun u =>
      u = { s with regs := u.regs, seq := { s.seq with restartPend := u.seq.restartPend } } ∧
      u.seq.restartPend = (if c ∈ s.seq.restartPend then s.seq.restartPend else s.seq.restartPend ++ [c]) ∧
      u.rget R.SEQ_CTXSEL = c ∧ s.regsApart (fun a => a = R.SEQ_CTXSEL.addr 0 0) u))

/-- EVSET of a flag (R81): every context that waits on it without the consume option is READY; of those with the option exactly one
is, the one with the highest priority and of these the lowest number, and the flag is then cleared; with none the flag is set. Every
other context, flag and register stays. -/
def Obligations.flag_wakes_waiters : Prop :=
  ∀ (s : State) (f : Nat), s.bivouac = false → f < 768 →
    let waits (k : Nat) : Prop := (s.ctx k).st = .waiting ∧ (s.ctx k).waitFlag = f
    let keen (k : Nat) : Prop := waits k ∧ (s.ctx k).waitConsume = true
    ∃ t, exec (.evset f) s = .next t ∧
      t = { s with regs := t.regs, seq := { s.seq with ctx := t.seq.ctx, arrivals := s.seq.arrivals ++ [.set f] } } ∧
      s.regsApart (fun a => a = R.SEQ_EV.addr (f / 32) 0) t ∧ (∀ h, h ≠ f → t.flag h = s.flag h) ∧
      (∀ k, waits k → (s.ctx k).waitConsume = false → t.ctx k = (s.ctx k).wakeUp false ∧ (t.ctx k).st = .ready) ∧
      (∀ k, ¬ waits k → t.ctx k = s.ctx k) ∧
      ((∀ k, ¬ keen k) → t.flag f = true) ∧
      (∀ j, keen j → t.flag f = false ∧ ∃ k, keen k ∧ t.ctx k = (s.ctx k).wakeUp false ∧
        (∀ i, keen i → i ≠ k → t.ctx i = s.ctx i ∧ ((s.ctx i).prio < (s.ctx k).prio ∨ (s.ctx i).prio = (s.ctx k).prio ∧ k < i)))

/-- LOAD_GO, LOAD_COMPLETE, ACTIVATE, REPLACE and RETRY (R57, R106 to R108): what each does where its conditions hold, and that
nothing else changes. -/
def Obligations.loader_effects : Prop :=
  ∀ (s : State) (img : List Nat),
    let only (i : Instr) (p : State → Prop) : Prop := ∃ u, exec i s = .next u ∧ p u
    let ld (a : Nat) : Prop := a = R.SEQ_LDSTAT.addr 0 0
    (s.presence = true → s.loading = false → only .loadGo (fun u =>
      u = { s with regs := u.regs, log := s.log ++ [.hostRead (s.rget R.SEQ_LDADDR_LO + 2 ^ 32 * s.rget R.SEQ_LDADDR_HI) (s.fget F.SEQ_LDLEN_LEN)] } ∧
      u.fget F.SEQ_LDSTAT_STATE = 1 ∧ u.fget F.SEQ_LDSTAT_ERR = 0 ∧ s.regsApart ld u)) ∧
    (s.loading = true → (∀ b ∈ img, b < 256) → s.nvmHold = false → only (.loadComplete img false false) (fun u =>
      s.imageErr img (some (s.fget F.SEQ_LDLEN_LEN)) = 0 → u = { s with regs := u.regs, rcd := u.rcd, nvm := u.nvm } ∧
        u.fget F.SEQ_LDSTAT_STATE = 4 ∧ u.fget F.SEQ_LDSTAT_ERR = 0 ∧ u.nvm.pendOk = true ∧
        (if s.nvm.active = 1 then u.nvm.slot0 = img ∧ u.nvm.slot1 = s.nvm.slot1 else u.nvm.slot1 = img ∧ u.nvm.slot0 = s.nvm.slot0) ∧
        s.regsApart (fun a => ld a ∨ recTouched a) u)) ∧
    (s.presence = true → s.nvm.pendOk = true → s.bivouac = false → only .activate (fun u =>
      u = { s with regs := u.regs, rcd := u.rcd, nvm := { s.nvm with active := 1 - s.nvm.active, pendOk := false } } ∧ s.regsApart recTouched u)) ∧
    (s.presence = true → s.running = true → s.pageBusy = false →
      exec .replace s = .next { s with boot := { s.boot with replace := true } }) ∧
    (s.presence = true → s.running = true → s.pageBusy = true → only .replace (fun u =>
      u = { s with regs := u.regs, rcd := u.rcd, seq := { s.seq with retryArmed := true } } ∧ u.rget R.PLC_REFUSE = 0x0F ∧
      s.regsApart (fun a => a = R.PLC_REFUSE.addr 0 0 ∨ a = R.PLC_STAT.addr 0 0 ∨ recTouched a) u)) ∧
    (s.bivouac = false → s.running = true → s.pageBusy = false → s.seq.retryArmed = true → s.fget F.PLC_REFUSE_CODE = 0x0F →
      exec .retry s = .next { s with seq := { s.seq with retryArmed := false }, boot := { s.boot with replace := true } }) ∧
    (s.bivouac = false → s.seq.retryArmed = false → only .retry (fun u => u = { s with regs := u.regs, rcd := u.rcd } ∧ s.regsApart recTouched u))

/-- PAIR_SELF_TEST_END (R93), TIMER_EXPIRY (R84), WAKE_TICK_REACHED (R134, R135) and BUDGET_EXHAUSTED (R61, R63, R65) at the moments
the rules give them. -/
def Obligations.context_and_timer_events : Prop :=
  ∀ (s : State) (c p t : Nat) (pass : Bool),
    let x := s.ctx c
    let halts := s.ovrLim ≤ x.ovrRun + 1
    (s.seq.selfTest = some (p, 0) → p < 9 → s.boundary = true → ∃ u, exec (.pairSelfTestEnd pass) s = .next u ∧
      u = { s with regs := u.regs, seq := { s.seq with subst := none, selfTest := none } } ∧
      u.pairStat p = (if pass then 1 else 3) ∧ (∀ q, q < 9 → q ≠ p → u.pairStat q = s.pairStat q) ∧ u.fget F.PLC_STAT_PAIRSUB = 0 ∧
      s.regsApart (fun a => a = R.SEQ_PAIRSTAT.addr 0 0 ∨ a = R.PLC_STAT.addr 0 0) u) ∧
    (t < 64 → s.boundary = true → s.fget F.SEQ_T_CTRL_EN t = 1 → s.fget F.SEQ_T_CNT_COUNT t ≤ 1 → t ∉ s.seq.timersDone →
      s.pwr.asleep = false → ∃ u, exec (.timerExpiry t) s = .next u ∧
      u = { s with
        regs := u.regs
        rcd := u.rcd
        seq := { s.seq with
          ctx := u.seq.ctx
          rel := u.seq.rel
          arrivals := s.seq.arrivals ++ [.set (960 + t)]
          timersDone := t :: s.seq.timersDone } } ∧
      (s.fget F.SEQ_T_CTRL_PERIODIC t = 1 → u.fget F.SEQ_T_CNT_COUNT t = max (s.fget F.SEQ_T_CTRL_RELOAD t) 1 ∧ u.fget F.SEQ_T_CTRL_EN t = 1) ∧
      (s.fget F.SEQ_T_CTRL_PERIODIC t = 0 → u.fget F.SEQ_T_CTRL_EN t = 0 ∧ u.fget F.SEQ_T_CNT_COUNT t = 0) ∧
      ((∀ k, ((s.ctx k).waitsOn (960 + t) && (s.ctx k).waitConsume) = false) → u.flag (960 + t) = true) ∧
      s.regsApart (fun a => a = R.SEQ_T_CTRL.addr t 0 ∨ a = R.SEQ_T_CNT.addr t 0 ∨ a = R.SEQ_EV.addr (30 + t / 32) 0 ∨ recTouched a) u) ∧
    (s.boundary = true → s.running = true → s.coreRuns = true → s.gated = false →
      (x.st = .sleeping ∨ x.st = .waiting ∧ x.waitTimed = true) → (s.tick + 1 + 2 ^ 32 - x.wake) % 2 ^ 32 < 2 ^ 31 → x.wake < 2 ^ 32 →
      exec (.wakeTickReached c) s = .next (s.setCtx c { x with st := .ready, cy := if x.waitTimed then true else x.cy, waitTimed := false })) ∧
    (c < 512 → c < s.seq.ctx.length → s.running = true → s.phase < 14 → x.st = .running → x.budget = 0 → c ∈ s.seq.ovrSeen → ∃ u,
      exec (.budgetExhausted c) s = .next u ∧
      u.ctx c = { x with st := if halts then .halted else .preempted, overran := true, ovrRun := x.ovrRun + 1 } ∧
      (∀ k, k ≠ c → u.ctx k = s.ctx k ∨ (s.ctx k).st = .ready ∧ (s.ctx k).pair = x.pair ∧
        u.ctx k = { s.ctx k with st := .running, acts := (s.ctx k).acts + 1 }) ∧
      u = { s with
        regs := u.regs
        seq := { s.seq with
          ctx := u.seq.ctx
          pairCyc := u.seq.pairCyc
          commitRecs := if halts then s.seq.commitRecs ++ [(0x6041, [])] else s.seq.commitRecs } } ∧
      u.rget R.PLC_LASTOVR = s.tick % 2 ^ 16 * 2 ^ 16 + 1 * 2 ^ 12 + c ∧
      u.fget F.PLC_OVRCNT_COUNT = min (s.fget F.PLC_OVRCNT_COUNT + 1) (2 ^ 32 - 1) ∧
      s.regsApart (fun a => a = R.PLC_LASTOVR.addr 0 0 ∨ a = R.PLC_OVRCNT.addr 0 0) u)

/-- OUTPUT_PHASE (R36, R39, R131): at phases 6, 8 and 10 the timed writes released for it reach a plain register in ascending context
number, so that the last one stands, and two contexts at one register set PLC_STAT.WCOLL; PHASE14_PREEMPT with no output due and
no context running only ends the compute window. -/
def Obligations.output_phase : Prop :=
  (∀ (s : State) (p c d a v w i j : Nat) (r : RegDesc),
    (p = 6 ∨ p = 8 ∨ p = 10) → s.ticking = true → s.pwr.asleep = false → s.bivouac = false → s.phase + 2 = p → s.lpe.rel = [] →
    findReg a = some (r, i, j) → r.res.absent s.variant i j = false → r.base / 65536 ≠ 0x0D → writerOf false r = none →
    s.presence = true → s.unitIdle r i = true → r.addr i j = a → a ≠ R.PLC_STAT.addr 0 0 →
    let old := s.rget r i j
    (s.seq.rel = [.iowAt c a v p] → ∃ t, exec (.outputPhase p) s = .next t ∧
      t = { s with regs := t.regs, phase := p, seq := { s.seq with rel := [] } } ∧
      t.rget r i j = r.written true true old v % 2 ^ 32 ∧ s.regsApart (fun b => b = a) t) ∧
    (s.seq.rel = [.iowAt c a v p, .iowAt d a w p] → c < d → s.seq.collTold = true → r.written true true (r.written true true old v % 2 ^ 32) w < 2 ^ 32 →
      r.fields.all (fun f => f.acc != .rwi && f.acc != .rwp) = true → ∃ t, exec (.outputPhase p) s = .next t ∧
      t.rget r i j = r.written true true (r.written true true old v % 2 ^ 32) w ∧ t.fget F.PLC_STAT_WCOLL = 1)) ∧
  ∀ s : State, s.ticking = true → s.runningCtxs = [] → 10 ≤ s.phase → s.phase < 14 → exec .phase14Preempt s = .next { s with phase := 14 }

/-- PHASE_15_COMMIT with equal signatures (R85, R89): the output queues are released, the journals emptied, each context copied to its
checkpoint, and on an M variant the Guyline frame sent; while the core clock does not run there is nothing to commit, and in SLEEP the
tick only ends. With nothing else due at this phase 15, nothing else changes. -/
def Obligations.commit_of_a_tick : Prop :=
  ∀ (s : State),
    let dark : Prop := ∀ i, i < s.variant.stn → (s.stn i).bdLight = none ∧ (s.stn i).facet.hit = none ∧ s.stnImaging i = false
    let noWrap : Prop := ∀ p, p < 2 → s.fbit (wrapFld p) = false
    (s.ticking = false ∨ 15 ≤ s.phase → exec (.phase15Commit [] []) s = .next s) ∧
    (s.ticking = true → s.phase = 14 → s.pwr.asleep = true →
      exec (.phase15Commit [] []) s = .next { s with phase := 15, committed := true }) ∧
    (s.ticking = true → s.phase = 14 → s.pwr.asleep = false → s.running = true → s.coreRuns = false → s.boot.sramBad = none →
      s.boot.replace = false → noWrap → dark → ∃ t, exec (.phase15Commit [] []) s = .next t ∧ t.phase = 15 ∧ t.committed = true ∧
      t.seq = s.seq ∧ t.lpe.law = s.lpe.law ∧ t.data = s.data) ∧
    (s.ticking = true → s.phase = 14 → s.pwr.asleep = false → s.running = true → s.coreRuns = true → s.boot.sramBad = none →
      s.boot.replace = false → noWrap → ∃ t, exec (.phase15Commit [] []) s = .next t ∧
      t.phase = 15 ∧ t.committed = true ∧ t.seq.outq = [] ∧ t.seq.journal = [] ∧ t.seq.faults = [] ∧ t.seq.commitRecs = [] ∧
      t.seq.abortPend = [] ∧ t.seq.restartPend = [] ∧ t.seq.arrivals = [] ∧ (∀ d, d ∈ t.seq.rel ↔ d ∈ s.seq.outq) ∧
      t.seq.rel.Pairwise (fun a b => a.ctx ≤ b.ctx) ∧ t.seq.ckpt = t.seq.ctx ∧ t.lpe.ckpt = t.lpe.law ∧ t.lpe.outq = [] ∧
      t.lpe.mmLast = []) ∧
    (s.ticking = true → s.phase = 14 → s.pwr.asleep = false → s.running = true → s.coreRuns = true →
    s.boot.sramBad = none → s.boot.replace = false → s.critEnded = false → s.seq.faults = [] → s.seq.commitRecs = [] →
    s.seq.abortPend = [] → s.seq.restartPend = [] → noWrap → dark →
    (∀ d ∈ s.seq.outq, ∀ c k a, d ≠ .dmago c k a) → s.lpe.outq = [] →
    ∃ t, exec (.phase15Commit [] []) s = .next t ∧
      t.phase = 15 ∧ t.committed = true ∧ t.seq.outq = [] ∧ t.seq.journal = [] ∧ t.seq.arrivals = [] ∧
      (∀ d, d ∈ t.seq.rel ↔ d ∈ s.seq.outq) ∧ t.seq.rel.Pairwise (fun a b => a.ctx ≤ b.ctx) ∧
      t.seq.ctx = s.seq.ctx.map (fun x => { x with ovrRun := if x.overran then x.ovrRun else 0 }) ∧ t.seq.ckpt = t.seq.ctx ∧
      t.seq.flagCkpt = (List.range 32).map (fun g => BitVec.ofNat 32 (s.rget R.SEQ_EV g)) ∧ t.lpe.ckpt = s.lpe.law ∧
      (s.variant.mains = false → t.log = s.log) ∧
      (s.variant.mains = true → ∃ cmds hold cfg inven, t.log = s.log ++
        [.guyline ((s.power.sent.seq + 1) % 16) false inven s.power.linkloss cmds hold cfg]) ∧
      t.motion.foc = s.motion.foc.map (fun x => { x with enter := false }) ∧
      t = { s with
        regs := t.regs
        phase := 15
        committed := true
        log := t.log
        seq := t.seq
        lpe := t.lpe
        power := t.power
        motion := { s.motion with foc := t.motion.foc } } ∧
      s.regsApart (fun a => (∃ z, z < 4 ∧ a = R.FUS_Z_STAT.addr z 0) ∨ a = R.MNS_STAT.addr 0 0) t)

/-- PHASE_15_COMMIT when an active pair mismatches while a spare stands by (R16, R90 to R92): every output and deferred action of the
tick is withheld, the journals are replayed, every context and law returns to its checkpoint, and the spare takes over. -/
def Obligations.rollback_of_a_tick : Prop :=
  ∀ (s : State) (p l q : Nat), s.ticking = true → s.phase = 14 → s.pwr.asleep = false → s.running = true → s.coreRuns = true →
    s.boot.sramBad = none → s.seq.subst = none → p < 9 → s.seq.arrivals = [] → s.lpe.applied = [] → s.lpe.clears = [] →
    (∀ i, i < s.variant.stn → (s.stn i).bdLight = none ∧ (s.stn i).facet.hit = none ∧ s.stnImaging i = false) → s.pairFailed p = false →
    findBelow 8 (fun k => s.pairMap k == p) = some l → s.sparePair = some q → (∀ k, k < 2 → s.fbit (wrapFld k) = false) →
    s.seq.ckpt.length = s.seq.ctx.length → q ≠ p →
    ∃ t, exec (.phase15Commit [p] []) s = .next t ∧ t.phase = 15 ∧ t.committed = true ∧
      t.seq.outq = [] ∧ t.seq.rel = [] ∧ t.lpe.outq = [] ∧ t.lpe.rel = [] ∧ t.seq.journal = [] ∧
      t.data = (s.replay s.seq.journal).data ∧ t.lpe.law = s.lpe.ckpt ∧
      (∀ k, k < s.seq.ctx.length → t.ctx k = { nth s.seq.ckpt k Ctx.blank with loc := ((s.replay s.seq.journal).ctx k).loc }) ∧
      t.pairMap l = q ∧ t.pairStat q = 0 ∧ t.pairStat p = 2 ∧ t.seq.subst = some q ∧ t.seq.selfTest = some (p, 100) ∧
      t.fget F.SEQ_STAT_RB = 1 ∧ t.fget F.SEQ_RBCNT_COUNT = min (s.fget F.SEQ_RBCNT_COUNT + 1) (2 ^ 32 - 1) ∧
      t.prog = s.prog ∧ t.table = s.table ∧ t.dram = s.dram ∧ t.dma = s.dma ∧ t.tick = s.tick

/-- TICK_PHASE_0 (R14, R32, R33, R35, R538, R636). Outside a start, at the end of phase 15, the 48-bit tick count grows by 1 and by a
re-timing to the ring, the module stands at phase 0 of the new tick, page commands and timers have been served, and the levels of the
64 GPIO pins are latched: in IOX_GPIO_IN too unless a power state is being entered. So it is in a program, where no watchdog expiry and
no remote write is due, and in Bivouac mode. In SLEEP the tick count grows; at the root of a ring with no wake and no event posted
nothing else changes but the mains section, if there is one. A command in a start or before phase 15 is over does nothing. -/
def Obligations.tick_phase_0 : Prop :=
  ∀ (s : State) (inp : TickInputs),
    let next : Nat := (((s.tick : Int) + 1 + s.tickAdjust.2) % 2 ^ 48).toNat
    let newTick (t : State) : Prop := t.tick = next ∧ t.phase = 0 ∧ t.committed = false ∧ t.elapsed = s.elapsed + 1
    (s.ticking = false ∨ s.boundary = false → exec (.tickPhase0 inp) s = .next s) ∧
    (s.isRoot = true → s.tickAdjust.2 = 0) ∧
    (s.isRoot = false → s.ring.retime = none → s.tickAdjust.2 = 0) ∧
    (∀ d, s.isRoot = false → s.ring.retime = some d → s.pageBusy = false → s.tickAdjust.2 = d) ∧
    (s.ticking = true → s.boundary = true →
      (s.pwr.asleep = true → ∃ t, exec (.tickPhase0 inp) s = .next t ∧ newTick t) ∧
      (s.pwr.asleep = true → s.isRoot = true → s.seq.rel = [] → s.seq.selfTest = none → s.pwr.nextPend = [] → s.nextEvt = 0 →
        s.pwr.wakePend = none → s.variant.mains = false → ∃ t, exec (.tickPhase0 inp) s = .next t ∧
        t = { s with
          regs := t.regs
          tick := (s.tick + 1) % 2 ^ 48
          elapsed := s.elapsed + 1
          phase := 0
          committed := false
          rcd := { s.rcd with wrote := false }
          seq := { s.seq with collTold := false, pairCyc := List.replicate 8 0, sigs := [] } } ∧
        s.regsApart (fun a => a = R.TCK_ADJ.addr 0 0) t) ∧
      (s.pwr.asleep = false → s.boot.step = .running → s.boot.ready = true → (s.wdogRuns = true → 2 ≤ s.boot.wdog) → s.ring.writes = [] →
        ∃ t, exec (.tickPhase0 inp) s = .next t ∧ newTick t ∧ t.pins.gpio = s.gpioLevels inp.gpio ∧ t.fmt.cmds = [] ∧
          t.seq.timersDone = [] ∧ t.seq.collTold = false ∧
          (s.pwr.ackPend = none → t.rget R.IOX_GPIO_IN = s.gpioLevels inp.gpio % 2 ^ 32 ∧
            t.rget R.IOX_GPIO_IN 1 = s.gpioLevels inp.gpio / 2 ^ 32 % 2 ^ 32)) ∧
      (s.pwr.asleep = false → s.boot.step = .bivouac → s.running = false → ∃ t, exec (.tickPhase0 inp) s = .next t ∧ newTick t ∧
        t.pins.gpio = s.gpioLevels inp.gpio))

/-- The timers (R84): at phase 0 each enabled timer counts down by 1; one that reaches 0 sets flag 960 + t and reloads from RELOAD
where it is periodic, and clears EN where it is not; a timer that is not enabled stays; and a write with EN = 1 loads the count from
RELOAD, of which 0 counts as 1 (the register's field table). -/
def Obligations.timers_count_down : Prop :=
  ∀ (s : State) (t : Nat), t < 64 → s.seq.timersDone = [] →
    let u := s.timersPhase0
    let n := s.fget F.SEQ_T_CNT_COUNT t
    (s.fget F.SEQ_T_CTRL_EN t = 1 → 1 < n → u.fget F.SEQ_T_CNT_COUNT t = n - 1 ∧ u.fget F.SEQ_T_CTRL_EN t = 1) ∧
    (s.fget F.SEQ_T_CTRL_EN t = 1 → n ≤ 1 → .set (960 + t) ∈ u.seq.arrivals ∧
      (s.fget F.SEQ_T_CTRL_PERIODIC t = 1 → u.fget F.SEQ_T_CNT_COUNT t = max (s.fget F.SEQ_T_CTRL_RELOAD t) 1 ∧ u.fget F.SEQ_T_CTRL_EN t = 1) ∧
      (s.fget F.SEQ_T_CTRL_PERIODIC t = 0 → u.fget F.SEQ_T_CTRL_EN t = 0)) ∧
    (s.fget F.SEQ_T_CTRL_EN t = 0 → u.fget F.SEQ_T_CNT_COUNT t = n ∧ u.fget F.SEQ_T_CTRL_EN t = 0) ∧
    (∀ v, v < 2 ^ 24 → s.bivouac = false → ∃ w, exec (.timerWrite t (2 ^ 31 + v)) s = .next w ∧ w.fget F.SEQ_T_CNT_COUNT t = max v 1)

/-- PROGRAM_ADMISSION of an image that placement does not refuse (R55, R105): the whole program is admitted; and LANEMAP_WRITE of a
legal map while the codec is idle (R50). -/
def Obligations.program_admission : Prop :=
  ∀ (s : State) (v : Nat),
    (s.boot.step = .admission → s.refusal s.boot.image = none → ∃ t, exec .programAdmission s = .next t ∧
      t.boot = { s.boot with first := true, step := .running } ∧ t.seq.ctx = placedCtxs s.boot.image ∧ t.seq.ckpt = t.seq.ctx ∧
      t.fget F.PLC_STAT_RESULT = 1 ∧ t.rget R.PLC_REFUSE = 0 ∧ (∀ f, f < 1024 → t.flag f = false) ∧
      (∀ k, k < 64 → t.rget R.SEQ_T_CTRL k = 0) ∧
      t = { s with regs := t.regs, free := t.free, seq := t.seq, lpe := t.lpe, dma := t.dma, dmaShare := t.dmaShare, cdc := t.cdc, boot := t.boot }) ∧
    (s.bivouac = false → v < 2 ^ 28 → v ≠ s.rget R.PLC_LANEMAP → s.codecIdle = true → s.laneBad v = none →
      ∃ t, exec (.lanemapWrite v) s = .next t ∧ t = { s with regs := t.regs, cdc := { s.cdc with lanes := t.cdc.lanes } } ∧
        t.rget R.PLC_LANEMAP = v ∧ s.regsApart (fun a => a = R.PLC_LANEMAP.addr 0 0) t)

/-- REGISTER_WRITE (R2, R9, R11, R607, R617, R618): a write of any size but an aligned word, of an absent instance's register, of an
address where nothing lies, or in Bivouac mode outside its registers, changes nothing; a write of the image windows is ignored and
recorded; a word of the MSI-X table is stored; a write of a register whose access codes say all sets each field under its own code,
with at most one record; and where the table of commands has a row of its own for the write of a register, the write is that command. -/
def Obligations.register_write : Prop :=
  ∀ (s : State) (a size v i j : Nat) (r : RegDesc),
    let same (q : RegDesc) (k w : Nat) (c : Instr) : Prop := q.res.absent s.variant k 0 = false →
      exec (.registerWrite (q.addr k 0) 4 w) s = exec c s
    (s.ticking = false → exec (.registerWrite a size v) s = .next s) ∧
    (s.ticking = true →
    ((size ≠ 4 ∨ a % 4 ≠ 0) → imageWindow a = false → exec (.registerWrite a size v) s = .next s) ∧
    (imageWindow a = true → ∃ t, exec (.registerWrite a size v) s = .next t ∧ t = { s with regs := t.regs, rcd := t.rcd } ∧ s.regsApart recTouched t) ∧
    (findReg a = some (r, i, j) → r.res.absent s.variant i j = true → a % 4 = 0 → a < 0x180000 →
      exec (.registerWrite a 4 v) s = .next s) ∧
    (s.bivouac = true → bivouacReg a = false → imageWindow a = false → exec (.registerWrite a 4 v) s = .next s) ∧
    (findReg a = none → (a < 0x48000 ∨ 0x48400 ≤ a) → secWindow a = false → imageWindow a = false → exec (.registerWrite a 4 v) s = .next s) ∧
    (0x48000 ≤ a → a < 0x48400 → a % 4 = 0 → s.bivouac = false → findReg a = none → ∃ t, exec (.registerWrite a 4 v) s = .next t ∧
      t = { s with msixTab := memWrite s.msixTab (a - 0x48000) 4 (v % 2 ^ 32), msixPend := t.msixPend, log := t.log } ∧
      (∀ k, k ≠ (a - 0x48000) / 16 → (k ∈ t.msixPend ↔ k ∈ s.msixPend)) ∧ (t.log = s.log ∨ t.log = s.log ++ [.msix ((a - 0x48000) / 16)])) ∧
    (findReg a = some (r, i, j) → r.addr i j = a → r.res.absent s.variant i j = false → r.base / 65536 ≠ 0x0D → writerOf true r = none →
      a % 4 = 0 → a < 0x180000 → (s.bivouac = false ∨ bivouacReg a = true) → v < 2 ^ 32 → ¬ recTouched a →
      ∃ t, exec (.registerWrite a 4 v) s = .next t ∧
      t = { s with regs := t.regs, rcd := t.rcd } ∧ s.regsApart (fun b => b = a ∨ recTouched b) t ∧
      t.rget r i j = r.written s.presence (s.unitIdle r i) (s.rget r i j) v % 2 ^ 32 ∧
      ((s.presence = true ∨ r.differs .rwp (s.rget r i j) v = false) → (s.unitIdle r i = true ∨ r.differs .rwi (s.rget r i j) v = false) →
        t.rcd = s.rcd)) ∧
    (s.bivouac = false → v < 2 ^ 32 →
      same R.SYS_WDKICK 0 1 .kick ∧ same R.PLC_LANEMAP 0 v (.lanemapWrite v) ∧ same R.SEQ_EVSET 0 v (.evset v) ∧
      (i < 32 → same R.SEQ_EV i v (.eventFlagClear i v)) ∧ (i < 64 → same R.SEQ_T_CTRL i v (.timerWrite i v)) ∧
      same R.FMT_QUEUE 0 v (.queue v) ∧ same R.FMT_CMD 0 1 .cancel ∧ same R.FMT_CMD 0 2 .abandon ∧ same R.FMT_DONE_POP 0 1 .donePop ∧
      (i < 2 → same R.CDC_E_RDPTR i v (.rdptrWrite i v) ∧ same R.CDC_E_DPOP i 1 (.dpop i)) ∧ same R.BST_UPD 0 1 .arm ∧
      (i < 6 → same R.BST_S_CFG i v (.bstConfigWrite i 0 v) ∧ same R.BST_S_LPC i v (.bstConfigWrite i 1 v) ∧
        same R.BST_S_START i v (.bstConfigWrite i 2 v) ∧ same R.EXP_S_CTRL i v (.ldenWrite i (v % 2)) ∧ same R.EXP_S_PWR i v (.pwrWrite i v) ∧
        same R.CLK_S_PFREQ i v (.pfreqWrite i v) ∧ same R.EXP_S_SPICMD i 1 (.sendtrim i) ∧ same R.EXP_S_SPICMD i 2 (.raw i)) ∧
      same R.EXP_ILK 0 8 .rearm ∧ same R.CLK_CTRL 0 v (.sscWrite v) ∧ (i < 24 → same R.HVS_C_CFG i v (.hvCfgWrite i v)) ∧
      (i < 4 → same R.FUS_Z_CTRL i 1 (.zoneTripclr i)) ∧ same R.SEC_MINVER 0 v (.minverWrite v) ∧
      (i < 16 → same R.SEC_FRK_ADD i v (.frankingAdd i v)) ∧ (i < 2 → same R.IOX_SPI_TX i v (.spiTx i v) ∧ same R.IOX_U_TX i v (.uartTx i v)) ∧
      same R.EUN_CTRL 0 1 .enumW ∧ same R.EUN_RXPOP 0 1 .rxpop ∧ same R.EUN_ACKPOP 0 1 .ackpop ∧
      (i < 4 → same R.DRC_C_CTRL i 1 (.retrain i)) ∧ (i < 36 → same R.AXS_A_CMD i 3 (.axsAbort i))))

/-- INBOX_OPEN, INBOX_CLOSE, INBOX_WRITE, HANDLE_ISSUE and GRANULE_RESERVATION (R53, R154 to R164): what each does to its window, its
envelope and its block in every state of the window, and that nothing else changes. An accepted write of 64 bytes is followed through:
to the header with its checks, to the table, to the DRAM bytes of its block alone, and as the last bytes of a resend. Each of these
commands completes: inboxOpen, inboxClose, inboxWrite, handleIssue, granuleReservation. -/
def Obligations.window_effects : Prop :=
  ∀ (s : State) (w i p d : Nat) (e : Env) (b : Blk) (c : Nat) (gs data : List Nat),
    let x := s.win w
    let o := x.ack + (p + 2 ^ 26 - x.ack % 2 ^ 26) % 2 ^ 26
    let gone (y : Win) : Win :=
      { y with state := .idle, recv := [], buf := [], hdrOk := false, tblOk := false, slot := none, target := none, full := false }
    let next (k : Nat) : Option Blk := if (s.win k).state = .stream then
      (s.win k).slot.bind (fun j => (s.slotEnv j).bind (fun f => f.blks.find? (fun b => b.chan.isNone))) else none
    let others (t : State) : Prop := ∀ k, k ≠ w → t.win k = s.win k
    let opened (t : State) : Prop := t = { s with regs := t.regs, pwr := t.pwr, fmt := { s.fmt with wins := t.fmt.wins } } ∧
      others t ∧ s.woken t 2 ∧ s.regsApart (fun a => a = R.FMT_W_STAT.addr w 0) t
    let accepted : Prop := x.state ≠ .idle ∧ p % 64 = 0 ∧ data.length % 64 = 0 ∧ p + data.length ≤ 2 ^ 26 ∧ o + data.length ≤ x.limit
    let unit : Prop := accepted ∧ data.length = 64 ∧ o = x.ack ∧ x.recv = [] ∧ x.ack % 64 = 0
    let hdr := memBytes (memPutBytes x.buf x.ack data) 0 64
    let pos := o - b.off
    let m := min 64 (b.len - pos)
    let stored (t : State) : Prop := t.dramGet c (b.addr pos) m = (data.take m).map (· % 256) ∧
      ∀ k, k < dramKey c (b.addr pos) ∨ dramKey c (b.addr pos) + m ≤ k → tabGet (0 : Byte) t.dram k = tabGet 0 s.dram k
    w < 4 → s.fmt.wins.length = 4 → s.fmt.env.length = 64 →
    (x.state = .idle → s.fget F.FMT_W_CTRL_RESEND w = 0 → ∃ t, exec (.inboxOpen w) s = .next t ∧
      t.win w = { Win.blank with state := .header, limit := 64 } ∧ t.fget F.FMT_W_STAT_ERR w = 0 ∧ opened t) ∧
    (x.state = .idle → s.fget F.FMT_W_CTRL_RESEND w = 1 → s.resendTarget w = none → ∃ t, exec (.inboxOpen w) s = .next t ∧
      t.win w = { Win.blank with limit := 64 } ∧ t.fget F.FMT_W_STAT_ERR w = 11 ∧ s.vectored t 0 ∧ others t ∧ s.woken t 2 ∧
      s.regsApart (fun a => a = R.FMT_W_STAT.addr w 0) t ∧
      t = { s with regs := t.regs, log := t.log, msixPend := t.msixPend, pwr := t.pwr, fmt := { s.fmt with wins := t.fmt.wins } }) ∧
    (x.state = .idle → s.fget F.FMT_W_CTRL_RESEND w = 1 → s.resendTarget w = some (i, b) → i < 64 → s.slotEnv i = some e →
      ∃ t, exec (.inboxOpen w) s = .next t ∧
      t.win w = { Win.blank with state := .resend, limit := pad64 b.len, slot := some i, target := some (b.stn * 2 ^ 17 + b.idx) } ∧
      t.slotEnv i = some { e with blks := e.blks.map (fun f => if f.stn = b.stn ∧ f.idx = b.idx then { f with win := w } else f) } ∧
      (∀ k, k ≠ i → t.slotEnv k = s.slotEnv k) ∧ t.fget F.FMT_W_STAT_ERR w = 0 ∧ others t ∧ s.woken t 2 ∧
      s.regsApart (fun a => a = R.FMT_W_STAT.addr w 0) t ∧
      t = { s with regs := t.regs, pwr := t.pwr, fmt := { s.fmt with wins := t.fmt.wins, env := t.fmt.env } }) ∧
    (x.state ≠ .idle → ∃ t, exec (.inboxOpen w) s = .next t ∧ t = { s with pwr := t.pwr } ∧ s.woken t 2) ∧
    (x.state = .idle → exec (.inboxClose w) s = .next s) ∧
    (x.state = .header ∨ x.state = .resend → ∃ t, exec (.inboxClose w) s = .next t ∧ t.win w = gone x ∧ t.fget F.FMT_W_STAT_ERR w = 12 ∧
      s.vectored t 0 ∧ others t ∧ s.regsApart (fun a => a = R.FMT_W_STAT.addr w 0) t ∧
      t = { s with regs := t.regs, log := t.log, msixPend := t.msixPend, fmt := { s.fmt with wins := t.fmt.wins } }) ∧
    (x.state = .stream → x.slot = some i → s.slotEnv i = some e → i < 64 → ∃ t, exec (.inboxClose w) s = .next t ∧ t.win w = gone x ∧
      t.fget F.FMT_W_STAT_ERR w = 12 ∧ t.slotEnv i = none ∧ (∀ k, k ≠ i → t.slotEnv k = s.slotEnv k) ∧
      t.fmt.queue = s.fmt.queue.filter (· ≠ e.handle) ∧ s.vectored t 0 ∧ others t ∧ s.regsApart (fun a => a = R.FMT_W_STAT.addr w 0) t ∧
      t = { s with
        regs := t.regs
        log := t.log
        msixPend := t.msixPend
        fmt := { s.fmt with wins := t.fmt.wins, env := t.fmt.env, queue := t.fmt.queue }
        img := t.img
        cdc := t.cdc }) ∧
    (¬ accepted → p < 2 ^ 26 → ∃ t, exec (.inboxWrite (w * 2 ^ 26 + p) data) s = .next t ∧ t = { s with regs := t.regs } ∧
      t.fget F.FMT_W_DROP_COUNT w = min (s.fget F.FMT_W_DROP_COUNT w + 1) (2 ^ 32 - 1) ∧
      s.regsApart (fun a => a = R.FMT_W_DROP.addr w 0) t) ∧
    (unit → x.state = .header → x.hdrOk = false → x.ack = 0 → p < 2 ^ 26 → s.headerErr hdr = 0 →
      exec (.inboxWrite (w * 2 ^ 26 + p) data) s = .next (s.setWin w { x with
        ack := 64, buf := memPutBytes x.buf 0 data, hdrOk := true, limit := 64 + pad64 (8 * hdrBlocks hdr) })) ∧
    (unit → x.state = .header → x.hdrOk = false → x.ack = 0 → p < 2 ^ 26 → s.headerErr hdr ≠ 0 → s.headerErr hdr < 16 →
      ∃ t, exec (.inboxWrite (w * 2 ^ 26 + p) data) s = .next t ∧ t.win w = gone { x with ack := 64 } ∧
      t.fget F.FMT_W_STAT_ERR w = s.headerErr hdr ∧ s.vectored t 0 ∧ others t ∧
      s.regsApart (fun a => a = R.FMT_W_STAT.addr w 0 ∨ recTouched a) t ∧
      t = { s with regs := t.regs, log := t.log, msixPend := t.msixPend, rcd := t.rcd, fmt := { s.fmt with wins := t.fmt.wins } }) ∧
    (unit → x.state = .header → x.hdrOk = true → x.tblOk = false → p < 2 ^ 26 → x.ack + 64 < 64 + pad64 (8 * hdrBlocks hdr) →
      exec (.inboxWrite (w * 2 ^ 26 + p) data) s = .next (s.setWin w { x with ack := x.ack + 64, buf := memPutBytes x.buf x.ack data })) ∧
    (unit → x.state = .header → x.hdrOk = true → x.tblOk = false → p < 2 ^ 26 → 64 + pad64 (8 * hdrBlocks hdr) ≤ x.ack + 64 →
      s.tableErr hdr (memBytes (memPutBytes x.buf x.ack data) 64 (8 * hdrBlocks hdr)) = 0 → 
      exec (.inboxWrite (w * 2 ^ 26 + p) data) s = .next (s.setWin w { x with
        ack := x.ack + 64, buf := memPutBytes x.buf x.ack data, tblOk := true })) ∧
    (unit → x.state = .stream → x.slot = some i → i < 64 → s.slotEnv i = some e → e.blkAt o = some b → b.chan = some c → p < 2 ^ 26 →
      ∃ t, exec (.inboxWrite (w * 2 ^ 26 + p) data) s = .next t ∧ (t.win w).ack = x.ack + 64 ∧
      (t.win w).state = (if x.ack + 64 = e.envlen then .idle else .stream) ∧ stored t ∧ others t ∧ (∀ k, k ≠ i → t.slotEnv k = s.slotEnv k)) ∧
    (unit → x.state = .resend → s.resendBlk w = some (i, b) → b.off = 0 → b.chan = some c → i < 64 → p < 2 ^ 26 →
      ∃ t, exec (.inboxWrite (w * 2 ^ 26 + p) data) s = .next t ∧ (t.win w).ack = x.ack + 64 ∧
      (t.win w).state = (if pad64 b.len ≤ x.ack + 64 then .idle else .resend) ∧ stored t ∧ others t ∧ (∀ k, k ≠ i → t.slotEnv k = s.slotEnv k)) ∧
    (x.state = .header → x.tblOk = true → i < 64 → s.slotEnv i = none → (∀ k, k < i → s.slotEnv k ≠ none) →
      ∃ t, exec (.handleIssue w) s = .next t ∧
        let h := memBytes x.buf 0 64
        (∃ f, t.slotEnv i = some f ∧ f.handle = s.fmt.seqNo * 64 + i ∧ f.state = .received ∧ f.pageid = leAt h 0x10 4 ∧
          f.stnmask = leAt h 0x14 1 ∧ f.lines = leAt h 0x18 4 ∧ f.envlen = leAt h 8 8) ∧
        (∀ k, k ≠ i → t.slotEnv k = s.slotEnv k) ∧ (t.win w).state = .stream ∧ (t.win w).slot = some i ∧ (t.win w).ack = x.ack ∧
        t.rget R.FMT_W_HANDLE w = (s.fmt.seqNo * 64 + i) % 2 ^ 32 ∧ s.vectored t 0 ∧ others t ∧
        s.regsApart (fun a => a = R.FMT_W_HANDLE.addr w 0) t ∧
        t = { s with regs := t.regs, log := t.log, msixPend := t.msixPend, fmt := { s.fmt with wins := t.fmt.wins, env := t.fmt.env, seqNo := t.fmt.seqNo } }) ∧
    (x.state = .header → x.tblOk = true → (∀ k, k < 64 → s.slotEnv k ≠ none) → ∃ t, exec (.handleIssue w) s = .next t ∧ t.win w = gone x ∧
      t.fget F.FMT_W_STAT_ERR w = 10 ∧ s.vectored t 0 ∧ others t ∧ t.fmt.env = s.fmt.env) ∧
    (x.state ≠ .header ∨ x.tblOk = false → exec (.handleIssue w) s = .next s) ∧
    (w = (s.fmt.wasHold + d) % 4 → d < 4 → (∀ k, k < d → next ((s.fmt.wasHold + k) % 4) = none) → x.state = .stream → x.slot = some i →
      i < 64 → s.slotEnv i = some e → next w = some b → s.placeBlock b.stn b.idx b.len = some (c, gs) →
      let f : Env := { e with blks := e.blks.map (fun d => if d.stn = b.stn ∧ d.idx = b.idx then { d with chan := some c, grans := gs } else d) }
      ∃ t, exec .granuleReservation s = .next t ∧ t.slotEnv i = some f ∧ t.win w = { x with full := false, limit := f.limit x.ack } ∧
        (∀ k, k ≠ i → t.slotEnv k = s.slotEnv k) ∧ others t ∧ t.fmt.wasHold = (w + 1) % 4 ∧
        t = { s with fmt := { s.fmt with wins := t.fmt.wins, env := t.fmt.env, wasHold := t.fmt.wasHold } }) ∧
    (w = (s.fmt.wasHold + d) % 4 → d < 4 → (∀ k, k < d → next ((s.fmt.wasHold + k) % 4) = none) → next w = some b →
      s.placeBlock b.stn b.idx b.len = none → ∃ t, exec .granuleReservation s = .next t ∧ t.win w = { x with full := true } ∧
        (x.full = false → s.vectored t 0) ∧ t.fmt.env = s.fmt.env ∧ others t ∧ t.fmt.wasHold = (w + 1) % 4) ∧
    ((∀ k, k < 4 → next k = none) → exec .granuleReservation s = .next s)

/-- LINK_DOWN, PERST, PCIE_LINK_UP and BAR4_READ (R149, R151, R152, R597): what is lost and what is kept at the loss of the link and at
the entry of D3hot, and the answer of the data window. A link at a speed or width that Table 5-1 does not have does not come up: that
is a reading (log entry 144). Each of these commands completes: linkDown, perst, pcieLinkUp, bar4Read. -/
def Obligations.link_effects : Prop :=
  ∀ (s : State) (speed width o n : Nat) (msix bad : Bool),
    let gone (y : Win) : Win :=
      { y with state := .idle, recv := [], buf := [], hdrOk := false, tblOk := false, slot := none, target := none, full := false }
    let ch := s.fget F.FMT_DWIN_CH
    let a := s.fget F.FMT_DWIN_GRAN * 65536 + o
    let lost (t : State) : Prop := t.fmt.wins = s.fmt.wins.map gone ∧
      (∀ i, i < 64 → t.slotEnv i = (match s.slotEnv i with | some e => if e.state = .received then none else some e | none => none)) ∧
      t.fmt.done = s.fmt.done ∧ (∀ h, h ∈ t.fmt.queue ↔ h ∈ s.fmt.queue ∧ ∀ i e, i < 64 → s.slotEnv i = some e → e.state = .received → e.handle ≠ h)
    let down (t : State) : Prop := t.rget R.FMT_STAT = 0 ∧ s.regsApart (fun a => a = R.FMT_STAT.addr 0 0) t
    let known : Prop := speed ∈ [1, 2, 3, 4, 5] ∧ (width = 1 ∨ s.variant.pcix1 = false ∧ (width = 2 ∨ width = 4))
    (s.fmt.env.length = 64 → ∃ t, exec (.linkDown false) s = .next t ∧ lost t ∧ down t ∧
      t = { s with regs := t.regs, fmt := { s.fmt with wins := t.fmt.wins, env := t.fmt.env, queue := t.fmt.queue }, img := t.img, cdc := t.cdc }) ∧
    (s.fmt.env.length = 64 → ∃ t, exec (.linkDown true) s = .next t ∧ lost t ∧ t.fmt.d3hot = true ∧
      t = { s with
        fmt := { s.fmt with wins := t.fmt.wins, env := t.fmt.env, queue := t.fmt.queue, d3hot := true }
        img := t.img
        cdc := t.cdc }) ∧
    (s.fmt.env.length = 64 → ∃ t, exec .perst s = .next t ∧ lost t ∧ down t ∧ t.msixEn = false ∧ t.msixTab = msixReset ∧ t.msixPend = [] ∧
      t = { s with
        regs := t.regs
        msixEn := false
        msixTab := msixReset
        msixPend := []
        fmt := { s.fmt with wins := t.fmt.wins, env := t.fmt.env, queue := t.fmt.queue, d3hot := false }
        img := t.img
        cdc := t.cdc }) ∧
    (known → ∃ t, exec (.pcieLinkUp speed width msix) s = .next t ∧
      t = { s with regs := t.regs, msixEn := msix, fmt := { s.fmt with d3hot := false } } ∧
      t.fget F.FMT_STAT_LINKUP = 1 ∧ t.fget F.FMT_STAT_SPEED = speed ∧ t.fget F.FMT_STAT_WIDTH = width ∧
      s.regsApart (fun a => a = R.FMT_STAT.addr 0 0) t) ∧
    (¬ known → exec (.pcieLinkUp speed width msix) s = .next s) ∧
    (exec (.bar4Read o n bad) s = .next { s with log := s.log ++ [
      if s.bivouac = true ∨ s.dramCap ch * 65536 < a + n then .bar4 1 []
      else .bar4 (if bad then 2 else 0) (s.dramGet ch a n)] })

/-- QUEUE, CANCEL, ABANDON, DONE_POP, GAP_ACCEPT, GAP_GRACE_EXPIRY and SPD_WRITE (R11, R167, R169, R170, R174 to R177): what each does
where it is accepted and where it is not, and that nothing else changes. Each of these commands completes: queue, cancel, abandon,
donePop, gapAccept, gapGraceExpiry, spdWrite. -/
def Obligations.page_effects : Prop :=
  ∀ (s : State) (h k v : Nat) (d : Completion) (ds : List Completion),
    let accepted (t : State) : Prop := t = { s with regs := t.regs } ∧
      t.fget F.FMT_GAP_FLOOR = max (s.fget F.FMT_GAP_FLOOR) (s.fget F.FMT_GAPREQ_REQ) ∧ t.fget F.FMT_GAPREQ_PEND = 0 ∧
      t.fget F.FMT_GAPGRACE_TICKS = 0 ∧
      s.regsApart (fun a => a = R.FMT_GAP.addr 0 0 ∨ a = R.FMT_GAPREQ.addr 0 0 ∨ a = R.FMT_GAPGRACE.addr 0 0) t
    let commanded (t : State) (c a : Bool) : Prop := t.fget F.FMT_CMDSTAT_RESULT = 0 ∧
      t = { s with regs := t.regs, fmt := { s.fmt with cmds := s.fmt.cmds ++ [⟨s.rget R.FMT_CMDHDL, c, a, s.time16⟩] } } ∧
      s.regsApart (fun a => a = R.FMT_CMDSTAT.addr 0 0) t
    let held : Prop := ∃ e, s.envOf h = some e ∧ (e.state = .received ∨ e.state = .resident)
    let canQueue : Prop := held ∧ h ≠ 0 ∧ h ∉ s.fmt.queue ∧ s.fmt.queue.length < 64
    let inOrder : Prop := (v % 2048 = 0 ∨ 50 ≤ v % 2048 ∧ v % 2048 ≤ 1000) ∧ ascending (s.speeds k (v % 2048)) = true
    (canQueue → ∃ t, exec (.queue h) s = .next t ∧ t = { s with pwr := t.pwr, fmt := { s.fmt with queue := s.fmt.queue ++ [h] } } ∧
      s.woken t 2) ∧
    (¬ canQueue → ∃ t, exec (.queue h) s = .next t ∧ t = { s with regs := t.regs, pwr := t.pwr } ∧ s.woken t 2 ∧
      t.fget F.FMT_QSTAT_QERR = 1 ∧ s.regsApart (fun a => a = R.FMT_QSTAT.addr 0 0) t) ∧
    (∃ t, exec .cancel s = .next t ∧ commanded t true false) ∧
    (∃ t, exec .abandon s = .next t ∧ commanded t false true) ∧
    (s.fmt.done = d :: ds → s.fmt.env.length = 64 → ∃ t, exec .donePop s = .next t ∧ t.fmt.done = ds ∧ t.slotEnv (d.handle % 64) = none ∧
      (∀ i, i ≠ d.handle % 64 → t.slotEnv i = s.slotEnv i) ∧ t = { s with fmt := { s.fmt with done := ds, env := t.fmt.env } }) ∧
    (s.fmt.done = [] → exec .donePop s = .next s) ∧
    (s.fget F.FMT_GAPREQ_PEND = 1 → ∃ t, exec .gapAccept s = .next t ∧ accepted t) ∧
    (s.fget F.FMT_GAPREQ_PEND = 0 → exec .gapAccept s = .next s) ∧
    (s.atBoundary → s.ticking = true → s.fget F.FMT_GAPREQ_PEND = 1 → s.fget F.FMT_GAPGRACE_TICKS ≤ 1 →
      ∃ t, exec .gapGraceExpiry s = .next t ∧ accepted t) ∧
    (s.boundary = false ∨ s.fget F.FMT_GAPREQ_PEND = 0 ∨ 1 < s.fget F.FMT_GAPGRACE_TICKS → exec .gapGraceExpiry s = .next s) ∧
    (1 ≤ k → k ≤ 15 → s.pageBusy = false → inOrder → ∃ t, exec (.spdWrite k v) s = .next t ∧ t = { s with regs := t.regs } ∧
      t.fget F.FMT_SPD_MMS k = v % 2048 ∧ s.regsApart (fun a => a = R.FMT_SPD.addr k 0) t) ∧
    (1 ≤ k → k ≤ 15 → s.pageBusy = true ∨ ¬ inOrder → ∃ t, exec (.spdWrite k v) s = .next t ∧ t = { s with regs := t.regs, rcd := t.rcd } ∧
      s.regsApart recTouched t)

/-- BLOCK_DECODE_COMPLETE, DECODER_RESUME, REDECODE_START, REDECODE_COMPLETE and LANE_STATE_FAULT (R193 to R199, R306, Tables 6-6 and
6-7). Each of these commands completes: BLOCK_DECODE_COMPLETE on a lane that works, once the pigeonholes of the lines it has begun
are claimed, with its lines valid or the block failed; DECODER_RESUME on a lane that is stopped; REDECODE_START and REDECODE_COMPLETE on the
oldest failed block; LANE_STATE_FAULT on an idle lane, a working lane, the spare and the lane that re-decodes. Where there is nothing to
do they leave the state as it is. -/
def Obligations.decoder_effects : Prop :=
  ∀ (s : State) (l p err c : Nat) (e : Env) (ls : List (List Nat)) (r : Redec) (rs : List Redec),
    let x := s.lane l
    let y := s.stn x.stn
    let m := s.laneMap l
    let w := s.decodeOf x.handle x.stn x.blk err
    let v := s.decodeOf r.handle r.stn r.blk err
    let lines := e.blkLines x.blk
    let lastReg (a : Nat) : Prop := a = R.CDC_DEC_LAST.addr 0 0
    let failReg (a : Nat) : Prop := lastReg a ∨ a = R.CDC_DEC_FAILCNT.addr 0 0 ∨ a = R.SEQ_EV.addr 24 0 ∨ recTouched a
    let absReg (a : Nat) : Prop := a = F.SYS_ABS0_DECLANE.reg.addr 0 0 ∨ a = R.SEQ_EV.addr 29 0
    let mapReg (a : Nat) : Prop := a = R.PLC_LANEMAP.addr 0 0 ∨ a = F.PLC_STAT_LANESUB.reg.addr 0 0
    let last (t : State) (c l st o k : Nat) : Prop :=
      t.rget R.CDC_DEC_LAST = (c * 2 ^ 28 + l * 2 ^ 24 + st * 2 ^ 20 + o * 2 ^ 17 + k % 2 ^ 17) % 2 ^ 32
    let told (t : State) : Prop :=
      t.fget F.CDC_DEC_FAILCNT_COUNT = min (s.fget F.CDC_DEC_FAILCNT_COUNT + 1) (2 ^ 32 - 1) ∧ .set 776 ∈ t.seq.arrivals ∧ s.vectored t 7
    let valid (h k : Nat) (qs : List (List Nat)) (q : Hole) : Hole :=
      if q.handle = h ∧ q.blk = k then { q with pix := nth qs (q.line - k * e.blklines) [], valid := !q.lost } else q
    let same (q : List Redec) : List Redec := q.map (fun r => { r with held := 0 })
    let kept (t : State) : Prop := t.dram = s.dram ∧ t.fmt = s.fmt
    l < 7 → s.cdc.lanes.length = 7 → s.img.stn.length = 6 → x.stn < 6 → (s.envOf x.handle = none ∨ s.envOf x.handle = some e) →
    -- a lane that does not work, or whose data waits for DRAM
    (x.busy = false ∨ s.pageKind x.handle = false ∧ s.dramWaits x.handle x.stn x.blk = true → exec (.blockDecodeComplete l err) s = .next s) ∧
    -- a decoded block
    (x.busy = true → s.envOf x.handle = some e → e.pattern = false → s.dramWaits x.handle x.stn x.blk = false → w.1 = .ok ls → w.2 ≤ x.held →
      ∃ t, exec (.blockDecodeComplete l err) s = .next t ∧
        (∃ more, (t.stn x.stn).holes = y.holes.map (valid x.handle x.blk ls) ++ more) ∧ (∀ i, i ≠ x.stn → t.stn i = s.stn i) ∧
        (∀ i, i ≠ l → t.lane i = s.lane i) ∧ (t.lane l).stn = x.stn ∧ same t.cdc.redq = same s.cdc.redq ∧
        same t.cdc.redec.toList = same s.cdc.redec.toList ∧
        t = { s with
          img := { s.img with stn := t.img.stn }
          cdc := { s.cdc with lanes := t.cdc.lanes, next := t.cdc.next, redq := t.cdc.redq, redec := t.cdc.redec } }) ∧
    -- a block of generated lines, which err plays no part in
    (x.busy = true → s.envOf x.handle = some e → e.pattern = true → s.dramWaits x.handle x.stn x.blk = false → lines ≤ x.held →
      ∃ t, exec (.blockDecodeComplete l err) s = .next t ∧
        (∃ more, (t.stn x.stn).holes =
          y.holes.map (valid x.handle x.blk ((s.genFix x.stn).genBlock x.handle x.stn x.blk)) ++ more) ∧
        (∀ i, i ≠ x.stn → t.stn i = s.stn i) ∧ (∀ i, i ≠ l → t.lane i = s.lane i) ∧
        t = { s with
          img := { s.img with stn := t.img.stn }
          cal := (s.genFix x.stn).cal
          cdc := { s.cdc with lanes := t.cdc.lanes, next := t.cdc.next, redq := t.cdc.redq, redec := t.cdc.redec } }) ∧
    -- a block that fails a check
    (x.busy = true → s.envOf x.handle = some e → e.pattern = false → s.dramWaits x.handle x.stn x.blk = false → w.1 = .error c → w.2 ≤ x.held →
      ∃ t, exec (.blockDecodeComplete l err) s = .next t ∧ last t c l x.stn (if s.laneWith 14 = none then 4 else 0) x.blk ∧ told t ∧
        same t.cdc.redq = same (if s.laneWith 14 = none then s.cdc.redq else s.cdc.redq ++ [⟨x.stn, x.handle, x.blk, l, c, 0⟩]) ∧
        (∃ more, (t.stn x.stn).holes = y.holes ++ more) ∧ (∀ i, i ≠ x.stn → t.stn i = s.stn i) ∧
        (∀ i, i ≠ l → t.lane i = s.lane i) ∧ t.seq.arrivals = s.seq.arrivals ++ [.set 776] ∧ s.regsApart failReg t ∧ kept t) ∧
    -- a lane that no free pigeonhole is left for
    (x.busy = true → s.envOf x.handle = some e → e.pattern = false → s.dramWaits x.handle x.stn x.blk = false → x.held < w.2 → w.2 ≤ lines →
      y.freeHoles = 0 → ∃ t, exec (.blockDecodeComplete l err) s = .next t ∧
        (t.lane l).st = 2 ∧ (t.lane l).handle = x.handle ∧ (t.lane l).blk = x.blk ∧ (t.lane l).held = x.held ∧
        (∀ i, i ≠ l → t.lane i = s.lane i) ∧ t.img = s.img ∧ t.regs = s.regs ∧ kept t) ∧
    -- a stopped lane
    (x.st ≠ 2 → exec (.decoderResume l) s = .next s) ∧
    (x.st = 2 → s.envOf x.handle = some e → s.dramWaits x.handle x.stn x.blk = true →
      exec (.decoderResume l) s = .next (s.setLane l { x with st := 3 })) ∧
    (x.st = 2 → s.envOf x.handle = some e → s.dramWaits x.handle x.stn x.blk = false → s.cdc.redq = [] → s.cdc.redec = none →
      x.held < lines → x.px = x.held * max e.ppl 1 →
      exec (.decoderResume l) s = .next (if y.freeHoles = 0 then s.setLane l { x with line := x.held } else
        (s.setStn x.stn { y with
          holes := y.holes ++ [⟨y.holeNo % 256, x.handle, x.blk * e.blklines + x.held, x.blk, [], false, false⟩]
          holeNo := (y.holeNo + 1) % 256 }).setLane l { x with st := 1, held := x.held + 1, line := x.held })) ∧
    -- the oldest failed block is re-decoded
    (s.redLane = none ∨ s.cdc.redq = [] ∨ s.cdc.redec ≠ none → exec .redecodeStart s = .next s) ∧
    (s.redLane = some l → s.cdc.redq = r :: rs → s.cdc.redec = none → x.st = 14 ∨ x.st = 0 → r.stn < 6 →
      ∃ t, exec .redecodeStart s = .next t ∧
        t.lane l = { DecLane.idle 4 r.stn with handle := r.handle, blk := r.blk } ∧ (∀ i, i ≠ l → t.lane i = s.lane i) ∧
        (∃ h, t.cdc.redec = some { r with held := h }) ∧ same t.cdc.redq = same rs ∧
        (∃ more, (t.stn r.stn).holes = (s.stn r.stn).holes ++ more) ∧ (∀ i, i ≠ r.stn → t.stn i = s.stn i) ∧
        t = { s with
          img := { s.img with stn := t.img.stn }
          cdc := { s.cdc with lanes := t.cdc.lanes, redq := t.cdc.redq, redec := t.cdc.redec } }) ∧
    (s.cdc.redec = none → exec (.redecodeComplete err) s = .next s) ∧
    (s.cdc.redec = some r → s.dramWaits r.handle r.stn r.blk = true → exec (.redecodeComplete err) s = .next s) ∧
    (s.cdc.redec = some r → s.dramWaits r.handle r.stn r.blk = false → v.1 = .error c → v.2 ≤ r.held → r.stn < 6 →
      m = 14 → s.redLane = some l → s.cdc.sub = none → ∃ t, exec (.redecodeComplete err) s = .next t ∧
        t.cdc.redec = none ∧ same t.cdc.redq = same s.cdc.redq ∧ (t.lane l).st = 14 ∧ last t c r.lane r.stn 3 r.blk ∧ told t ∧
        (∃ more, (t.stn r.stn).holes = (s.stn r.stn).holes ++ more) ∧ (∀ i, i ≠ r.stn → t.stn i = s.stn i) ∧
        t.seq.arrivals = s.seq.arrivals ++ [.set 776] ∧ (∀ i, i ≠ l → t.lane i = s.lane i) ∧ s.regsApart failReg t ∧ kept t) ∧
    (s.cdc.redec = some r → s.dramWaits r.handle r.stn r.blk = false → v.1 = .ok ls → v.2 ≤ r.held → s.envOf r.handle = some e → r.stn < 6 →
      r.cause = 5 ∨ r.cause = 6 → m = 14 → s.redLane = some l → s.cdc.sub = none → ∃ t, exec (.redecodeComplete err) s = .next t ∧
        t.cdc.redec = none ∧ same t.cdc.redq = same s.cdc.redq ∧ (t.lane l).st = 14 ∧
        last t r.cause r.lane r.stn (if r.cause = 5 then 2 else 1) r.blk ∧
        (∃ more, (t.stn r.stn).holes = (s.stn r.stn).holes.map (valid r.handle r.blk ls) ++ more) ∧ (∀ i, i ≠ r.stn → t.stn i = s.stn i) ∧
        (∀ i, i ≠ l → t.lane i = s.lane i) ∧ t.seq.arrivals = s.seq.arrivals ++ (if r.cause = 5 then [.set 929] else []) ∧
        s.regsApart (fun a => lastReg a ∨ absReg a) t ∧ kept t) ∧
    (s.cdc.redec = some r → s.dramWaits r.handle r.stn r.blk = false → v.1 = .ok ls → v.2 ≤ r.held → s.envOf r.handle = some e → r.stn < 6 →
      r.cause < 5 → s.laneMap r.lane = r.stn → r.lane < 7 → m = 14 → s.laneWith 14 = some l → s.cdc.sub = none → s.cdc.redq = [] →
      ∃ t, exec (.redecodeComplete err) s = .next t ∧
        t.cdc.redec = none ∧ t.laneMap r.lane = 15 ∧ (t.lane r.lane).st = 15 ∧ t.laneMap l = r.stn ∧
        (∀ i, i < 7 → i ≠ l → i ≠ r.lane → t.laneMap i = s.laneMap i ∧ t.lane i = s.lane i) ∧
        t.fget F.PLC_STAT_LANESUB = 1 ∧ last t r.cause r.lane r.stn 1 r.blk ∧ t.seq.arrivals = s.seq.arrivals ++ [.set 929] ∧
        (∀ i, i ≠ r.stn → i ≠ (s.lane r.lane).stn → t.stn i = s.stn i) ∧
        s.regsApart (fun a => lastReg a ∨ absReg a ∨ mapReg a) t ∧ kept t) ∧
    -- a lane's state check fails
    (m = 15 ∨ x.busy = true ∧ s.pageKind x.handle = true → exec (.laneStateFault l) s = .next s) ∧
    (m < 6 → s.laneWith 14 = some p → p < 7 → (s.lane p).st = 14 → x.st ≠ 4 → x.busy = false ∨ s.pageKind x.handle = false →
      ∃ t, exec (.laneStateFault l) s = .next t ∧
        t.laneMap l = 15 ∧ t.laneMap p = m ∧ (∀ i, i < 7 → i ≠ l → i ≠ p → t.laneMap i = s.laneMap i ∧ t.lane i = s.lane i) ∧
        (t.lane l).st = 15 ∧ (t.lane p).stn = m ∧ t.fget F.PLC_STAT_LANESUB = 1 ∧
        last t 6 l m (if x.busy then 0 else 1) (if x.busy then x.blk else 0x1FFFF) ∧
        same t.cdc.redq = same (s.cdc.redq ++ if x.busy then [⟨m, x.handle, x.blk, l, 6, 0⟩] else []) ∧
        t.seq.arrivals = s.seq.arrivals ++ [.set 929, .set 776] ∧ told t ∧ (∀ i, i ≠ m → t.stn i = s.stn i) ∧
        s.regsApart (fun a => failReg a ∨ absReg a ∨ mapReg a) t ∧ kept t) ∧
    (m < 6 → s.laneWith 14 = none → s.cdc.sub ≠ some l → x.st ≠ 4 → x.busy = false ∨ s.pageKind x.handle = false →
      ∃ t, exec (.laneStateFault l) s = .next t ∧
        t.laneMap l = 15 ∧ (t.lane l).st = 15 ∧ (∀ i, i < 7 → i ≠ l → t.laneMap i = s.laneMap i ∧ t.lane i = s.lane i) ∧
        last t 6 l m 4 (if x.busy then x.blk else 0x1FFFF) ∧ told t ∧ t.cdc.redq = s.cdc.redq ∧
        t.seq.arrivals = s.seq.arrivals ++ [.set 776] ∧ t.img = s.img ∧ s.regsApart (fun a => failReg a ∨ mapReg a) t ∧ kept t) ∧
    (m = 14 → x.st = 14 → s.cdc.redq = [] → s.cdc.redec = none → s.cdc.sub = none → ∃ t, exec (.laneStateFault l) s = .next t ∧
        t.laneMap l = 15 ∧ (t.lane l).st = 15 ∧ (∀ i, i < 7 → i ≠ l → t.laneMap i = s.laneMap i ∧ t.lane i = s.lane i) ∧
        last t 6 l 0 4 0x1FFFF ∧ told t ∧ t.img = s.img ∧ s.regsApart (fun a => failReg a ∨ mapReg a) t ∧ kept t) ∧
    (m = 14 → x.st = 4 → s.cdc.redec = some r → s.cdc.redq = [] → s.cdc.sub = none → ∃ t, exec (.laneStateFault l) s = .next t ∧
        t.laneMap l = 15 ∧ (t.lane l).st = 15 ∧ (∀ i, i < 7 → i ≠ l → t.laneMap i = s.laneMap i ∧ t.lane i = s.lane i) ∧
        t.cdc.redec = none ∧ last t 6 l r.stn 3 r.blk ∧ told t ∧ t.img = s.img ∧ s.regsApart (fun a => failReg a ∨ mapReg a) t ∧ kept t)

/-- The encoder's commands (R201 to R212, R316): ENCODER_ENABLE and DISABLE, FLUSH, ENCODER_ABORT, RDPTR_WRITE, DPOP, FRAME_START,
SENSOR_LINE, FRAME_END, ENCODER_OUTPUT_RESUME and ENCODER_BLOCK_COMPLETE, each with what it leaves and its frame. Each of these commands
completes, and the forms that are refused or change nothing are stated beside. The bytes an encoder stores lie in its ring. -/
def Obligations.encoder_effects : Prop :=
  ∀ (s : State) (e c a v dt pt vc hdr pl : Nat) (b : EncBlk) (px : List Nat) (crc : Bool),
    let x := s.enc e
    let n := s.encUnits e
    let g := s.fget F.CDC_E_RING_GRAN e
    let st := s.fget F.CDC_E_STAT_STATE e
    let wp := s.fget F.CDC_E_WRPTR_PTR64 e
    let rp := s.fget F.CDC_E_RDPTR_PTR64 e
    let base := s.fget F.CDC_E_RINGLOC_GRAN e * 65536
    let ch := s.fget F.CDC_E_RINGLOC_CH e
    let encReg (r : Nat) : Prop := r = R.CDC_E_STAT.addr e 0 ∨ r = R.CDC_E_DLEN.addr e 0 ∨ r = R.CDC_E_DOFF.addr e 0
    let outReg (r : Nat) : Prop := encReg r ∨ r = R.CDC_E_WRPTR.addr e 0
    let portReg (r : Nat) : Prop := r = R.CAL_P_STAT.addr pt 0
    let only (t : State) : Prop := t = { s with regs := t.regs, cdc := { s.cdc with enc := t.cdc.enc } } ∧ (∀ i, i ≠ e → t.enc i = s.enc i)
    let inRing (t : State) : Prop := ∀ k i, (k ≠ ch ∨ i < base ∨ base + n * 64 ≤ i) → i < 2 ^ 36 → t.dramGet k i 1 = s.dramGet k i 1
    let writes (t : State) : Prop :=
      t = { s with regs := t.regs, dram := t.dram, cal := { s.cal with frames := t.cal.frames }, cdc := { s.cdc with enc := t.cdc.enc } } ∧
      (∀ i, i ≠ e → t.enc i = s.enc i) ∧ inRing t
    let good : Prop := 1 ≤ s.encBl e ∧ s.encBl e ≤ 64 ∧ (s.fget F.CDC_E_CFG_DT e = 3 → s.encBl e % 3 = 0) ∧ 16 ≤ g ∧ g ≤ 4096 ∧
      s.fget F.CDC_E_CFG_PORT e < s.variant.csi
    let run := (List.range s.variant.drch).findSome? (fun c => (s.freeRun c g).map (fun a => (c, a)))
    let read := v < 2 ^ 22 ∧ v < n ∧ (v + n - rp) % n ≤ (wp + n - rp) % n
    let ecc (t : State) : Prop := t.fget F.CAL_P_STAT_ECCCOR pt =
      if hdr = 1 then min (s.fget F.CAL_P_STAT_ECCCOR pt + 1) (2 ^ (F.CAL_P_STAT_ECCCOR.hi + 1 - F.CAL_P_STAT_ECCCOR.lo) - 1)
      else s.fget F.CAL_P_STAT_ECCCOR pt
    e < 2 → e < s.variant.encl → s.cdc.enc.length = 2 → (x.rings = [] ∨ 0 < n) →
    -- CDC_E_CTRL.EN
    (s.fget F.CDC_E_CTRL_EN e = 1 → exec (.encoderEnable e) s = .next s) ∧
    (s.fget F.CDC_E_CTRL_EN e = 0 → ¬ good ∨ run = none → exec (.encoderEnable e) s = .next (s.fset F.CDC_E_STAT_CFGERR 1 e)) ∧
    (s.fget F.CDC_E_CTRL_EN e = 0 → good → run = some (c, a) → ∃ t, exec (.encoderEnable e) s = .next t ∧
        t.fget F.CDC_E_CTRL_EN e = 1 ∧ t.fget F.CDC_E_STAT_STATE e = 1 ∧ t.fget F.CDC_E_STAT_CFGERR e = 0 ∧
        t.rget R.CDC_E_RINGLOC e = (c * 2 ^ 20 + a) % 2 ^ 32 ∧
        t.fget F.CDC_E_WRPTR_PTR64 e = 0 ∧ t.fget F.CDC_E_RDPTR_PTR64 e = 0 ∧
        t.enc e = { Enc.blank with rings := ⟨c, a, g⟩ :: x.rings, desc := x.desc } ∧ only t ∧
        s.regsApart (fun r => outReg r ∨ r = R.CDC_E_CTRL.addr e 0 ∨ r = R.CDC_E_RINGLOC.addr e 0 ∨ r = R.CDC_E_RDPTR.addr e 0) t) ∧
    (s.fget F.CDC_E_CTRL_EN e = 0 → exec (.encoderDisable e) s = .next (s.fset F.CDC_E_STAT_CFGERR 0 e)) ∧
    (s.fget F.CDC_E_CTRL_EN e = 1 → ∃ t, exec (.encoderDisable e) s = .next t ∧
      t.fget F.CDC_E_CTRL_EN e = 0 ∧ t.fget F.CDC_E_STAT_STATE e = 3 ∧ t.enc e = { x with stopping := true, flushPend := true } ∧ only t ∧
      s.regsApart (fun r => encReg r ∨ r = R.CDC_E_CTRL.addr e 0) t) ∧
    -- FLUSH and ABORT wait for phase 0
    (exec (.flush e) s = .next (s.setEnc e { x with flushPend := true })) ∧
    (exec (.encoderAbort e) s = .next (s.setEnc e { x with abortPend := true })) ∧
    -- RDPTR and DPOP
    (0 < n → read → ∃ t, exec (.rdptrWrite e v) s = .next t ∧
        t.fget F.CDC_E_RDPTR_PTR64 e = v ∧ only t ∧ t.enc e = x ∧ s.regsApart (fun r => encReg r ∨ r = R.CDC_E_RDPTR.addr e 0) t) ∧
    (0 < n → ¬ read → v < 2 ^ 22 → exec (.rdptrWrite e v) s = .next (s.recRule 204)) ∧
    (∃ t, exec (.dpop e) s = .next t ∧
      t.enc e = { x with desc := x.desc.drop 1, rings := if st = 0 ∧ x.desc.length ≤ 1 then [] else x.rings } ∧
      (x.desc.length ≤ 1 → t.rget R.CDC_E_DLEN e = 0 ∧ t.rget R.CDC_E_DOFF e = 0) ∧
      t.fget F.CDC_E_STAT_DCOUNT e = (x.desc.length - 1) % 32 ∧ only t ∧ s.regsApart encReg t) ∧
    -- frame packets
    (s.csiTakes pt hdr = false → exec (.frameStart pt vc hdr) s = .next s ∧ exec (.frameEnd pt vc hdr) s = .next s ∧
      exec (.sensorLine pt vc dt hdr crc px) s = .next s) ∧
    (s.csiTakes pt hdr = true → s.encsOf pt vc = [e] → st = 1 → ∃ t, exec (.frameStart pt vc hdr) s = .next t ∧
      t.fget F.CDC_E_STAT_STATE e = 2 ∧ t.fget F.CAL_P_STAT_ACTIVE pt = 1 ∧ ecc t ∧ (pt, vc) ∈ t.cal.frames ∧
      t.enc e = { x with nextLine := 0, ppl := none, origin := 0, skip := 0, inFrame := true } ∧ writes t ∧ t.dram = s.dram ∧
      s.regsApart (fun r => encReg r ∨ portReg r) t) ∧
    (s.csiTakes pt hdr = true → s.encsOf pt vc = [e] → st = 2 → x.fifo = [] → x.blk = some b → b.mark = 0 → b.lines ≠ [] →
      s.encDrained e b = true → ∃ t, exec (.frameStart pt vc hdr) s = .next t ∧
        t.fget F.CDC_E_STAT_STATE e = 2 ∧ t.fget F.CAL_P_STAT_ACTIVE pt = 1 ∧ ecc t ∧
        (∃ o, t.enc e = { x with
          nextLine := 0
          ppl := none
          origin := 0
          skip := 0
          inFrame := true
          blk := some { b with mark := 1, out := o } }) ∧ writes t ∧ s.regsApart (fun r => outReg r ∨ portReg r) t) ∧
    (s.csiTakes pt hdr = true → s.encsOf pt vc = [e] → st = 2 → s.cal.ladder = false → x.fifo = [] → x.blk = some b → b.mark = 0 →
      b.lines ≠ [] → s.encDrained e b = true → ∃ t, exec (.frameEnd pt vc hdr) s = .next t ∧
        t.fget F.CDC_E_STAT_STATE e = 1 ∧ ecc t ∧ (pt, vc) ∉ t.cal.frames ∧
        (∃ o, t.enc e = { x with inFrame := false, blk := some { b with mark := 1, out := o } }) ∧ writes t ∧
        s.regsApart (fun r => outReg r ∨ portReg r) t) ∧
    -- long packets
    (s.csiTakes pt hdr = true → csiLineMark dt = true → exec (.sensorLine pt vc dt hdr crc px) s = .next (s.csiHeader pt hdr)) ∧
    (s.csiTakes pt hdr = true → csiLineMark dt = false → csiType dt = none →
      exec (.sensorLine pt vc dt hdr crc px) s = .next ((s.csiHeader pt hdr).finc F.CAL_P_STAT_DTDROP 1 pt)) ∧
    (s.csiTakes pt hdr = true → csiLineMark dt = false → csiType dt ≠ none →
      exec (.sensorLine pt vc dt hdr false px) s = .next ((s.csiHeader pt hdr).finc F.CAL_P_STAT_CRCERR 1 pt)) ∧
    (s.csiTakes pt 0 = true → s.encsOf pt vc = [e] → st = 2 → csiLineMark dt = false → csiType dt = some 0 → s.fget F.CDC_E_CFG_DT e = 0 →
      s.cal.ladder = false → px ≠ [] → px.length ≤ 32768 → x.ppl = none ∨ x.ppl = some px.length → x.skip ≤ x.nextLine → x.fifo = [] →
      x.blk = some b → b.mark = 0 → s.encDrained e b = true →
      let b' : EncBlk := { b with lines := b.lines ++ [px.map (· % 256)] }
      s.encNeed e b' + 64 < s.encRing e → ∃ t, exec (.sensorLine pt vc dt 0 true px) s = .next t ∧
        (∃ o, t.enc e = { x with
          nextLine := x.nextLine + 1
          ppl := some px.length
          blk := some { b' with mark := if b.stop ≤ b.first + b'.lines.length then 1 else 0, out := o } }) ∧
        writes t ∧ s.regsApart outReg t) ∧
    (x.fifo = [.line c pl [px]] → x.blk = some b → b.mark = 0 → s.encDrained e b = true →
      let b' : EncBlk := { b with lines := b.lines ++ [px] }
      s.encNeed e b' + 64 < s.encRing e → ∃ t, exec (.encoderOutputResume e) s = .next t ∧
        (∃ o, t.enc e = { x with
          fifo := []
          blk := some { b' with mark := if b.stop ≤ b.first + b'.lines.length then 1 else 0, out := o } }) ∧
        t.fget F.CDC_E_STAT_FIFO e = 0 ∧ writes t ∧ s.regsApart outReg t) ∧
    -- the write response of a block
    (x.blk = none → exec (.encoderBlockComplete e true) s = .next s ∧ exec (.encoderBlockComplete e false) s = .next s) ∧
    (x.blk = some b → b.mark = 0 ∨ s.encDrained e b = false ∨ 16 ≤ x.desc.length → exec (.encoderBlockComplete e true) s = .next s) ∧
    (x.blk = some b → b.mark ≠ 0 → s.encDrained e b = true → x.desc.length < 16 → x.fifo = [] → x.stopping = false →
      ∃ t, exec (.encoderBlockComplete e true) s = .next t ∧
        t.enc e = { x with
          blk := none
          abortPend := false
          desc := x.desc ++ [⟨b.start, (s.encBytes e b).length, b.mark == 3, b.mark == 2, false⟩] } ∧
        t.dram = (s.ringPut e (64 * b.start) ((s.encBytes e b).take 16)).dram ∧ (x.abortPend = true → t.fget F.CDC_E_STAT_ABORT_LATE e = 1) ∧
        t.seq.arrivals = s.seq.arrivals ++ [.set (772 + e)] ∧ s.vectored t (5 + e) ∧ (∀ i, i ≠ e → t.enc i = s.enc i) ∧
        s.regsApart (fun r => encReg r ∨ r = R.SEQ_EV.addr 24 0) t ∧
        t = { s with
          regs := t.regs
          log := t.log
          msixPend := t.msixPend
          seq := t.seq
          dram := t.dram
          cdc := { s.cdc with enc := t.cdc.enc } }) ∧
    (x.blk = some b → x.fifo = [] → x.stopping = false → ∃ t, exec (.encoderBlockComplete e false) s = .next t ∧
        t.enc e = { x with
          blk := none
          skip := if b.mark = 0 then max x.skip b.stop else x.skip
          origin := if b.mark = 0 then b.stop else x.origin } ∧
        t.fget F.CDC_E_WRPTR_PTR64 e = b.start % 2 ^ 22 ∧
        t.fget (encDrop e) 0 = min (s.fget (encDrop e) 0 + b.lines.length / s.encPlanes e) (2 ^ 16 - 1) ∧ t.dram = s.dram ∧
        (∀ i, i ≠ e → t.enc i = s.enc i) ∧ s.regsApart (fun r => outReg r ∨ r = (encDrop e).reg.addr 0 0 ∨ recTouched r) t)

/-- Laser enables, the interlock and the band configuration (R233, R235, R261 to R268): LDEN_WRITE, LDEN_SETTLE_END,
LASER_INTERLOCK_OPEN, LASER_INTERLOCK_CLOSE, REARM, BST_CONFIG_WRITE, and ARM with what it does at phase 0 (R232). -/
def Obligations.laser_enable_effects : Prop :=
  ∀ (s : State) (i v : Nat) (e : Env),
    let ldReg (a : Nat) : Prop := ∃ k, k < 6 ∧ a = R.EXP_S_STAT.addr k 0
    let onlyRegs (t : State) : Prop := t = { s with regs := t.regs }
    let withStn (t : State) : Prop := t = { s with regs := t.regs, img := { s.img with stn := t.img.stn } }
    let cut (x : Stn) : Stn := { x with
      facet := { x.facet with cut := some (match x.facet.cut with | some c => min c (s.subPos i s.time16) | none => s.subPos i s.time16) }
      bdLight := x.bdLight.map (fun b => { b with stop := b.stop.or (some s.time16) }) }
    i < s.variant.stn → s.img.stn.length = 6 →
    (v % 2 = 1 → s.fget F.EXP_ILK_TRIPPED = 0 → s.ilkGood = true → (s.stn i).hot = 0 → s.bivouac = false → s.fget F.EXP_S_STAT_LDOUT i = 0 →
      ∃ t, exec (.ldenWrite i v) s = .next t ∧ withStn t ∧ t.fget F.EXP_S_CTRL_LDEN i = 1 ∧ t.fget F.EXP_S_STAT_LDOUT i = 1 ∧
        t.fget F.EXP_S_STAT_SETTLE i = 1 ∧ t.fget F.EXP_S_STAT_REFUSE i = 0 ∧ t.stn i = { s.stn i with ldUp := s.time16 } ∧
        (∀ k, k ≠ i → t.stn k = s.stn k) ∧ s.regsApart (fun a => a = R.EXP_S_CTRL.addr i 0 ∨ a = R.EXP_S_STAT.addr i 0) t) ∧
    (v % 2 = 1 → s.fget F.EXP_ILK_TRIPPED = 1 ∨ s.ilkGood = false → s.fget F.EXP_S_STAT_LDOUT i = 0 →
      ∃ t, exec (.ldenWrite i v) s = .next t ∧ onlyRegs t ∧ t.fget F.EXP_S_CTRL_LDEN i = 1 ∧ t.fget F.EXP_S_STAT_LDOUT i = 0 ∧
        t.fget F.EXP_S_STAT_REFUSE i = 2 ∧ s.regsApart (fun a => a = R.EXP_S_CTRL.addr i 0 ∨ a = R.EXP_S_STAT.addr i 0) t) ∧
    (v % 2 = 0 → s.stnImaging i = false → ∃ t, exec (.ldenWrite i v) s = .next t ∧ withStn t ∧ t.fget F.EXP_S_CTRL_LDEN i = 0 ∧
      t.fget F.EXP_S_STAT_LDOUT i = 0 ∧ t.fget F.EXP_S_STAT_REFUSE i = 1 ∧
      t.stn i = (if s.fget F.EXP_S_STAT_LDOUT i = 1 then cut (s.stn i) else s.stn i) ∧ (∀ k, k ≠ i → t.stn k = s.stn k) ∧
      s.regsApart (fun a => a = R.EXP_S_CTRL.addr i 0 ∨ a = R.EXP_S_STAT.addr i 0) t) ∧
    (v % 2 = 0 → s.fget F.EXP_S_CTRL_LDEN i = 1 → s.images e → e.has i = true → ∃ t, exec (.ldenWrite i v) s = .next t ∧ s.abandons t e 8) ∧
    (s.fget F.EXP_S_STAT_SETTLE i = 1 → (s.stn i).ldUp + 5 * 128000 ≤ s.time16 → (s.stn i).winOpen = none →
      ∃ t, exec (.ldenSettleEnd i) s = .next t ∧ onlyRegs t ∧ t.fget F.EXP_S_STAT_SETTLE i = 0 ∧
        t.fget F.EXP_S_STAT_LDOUT i = s.fget F.EXP_S_STAT_LDOUT i ∧ s.regsApart (fun a => a = R.EXP_S_STAT.addr i 0) t) ∧
    (s.fget F.EXP_S_STAT_SETTLE i = 0 ∨ s.time16 < (s.stn i).ldUp + 5 * 128000 → exec (.ldenSettleEnd i) s = .next s) ∧
    (s.imagesNone → s.fget F.EXP_ILK_TRIPPED = 0 → ∃ t, exec .laserInterlockOpen s = .next t ∧ t.fget F.EXP_ILK_TRIPPED = 1 ∧ t.fget F.EXP_ILK_ILKOPEN = 1 ∧
      t.pins = { s.pins with ilkClosed := false } ∧ (∀ k, k < s.variant.stn → t.fget F.EXP_S_STAT_LDOUT k = 0) ∧
      t.seq.arrivals = s.seq.arrivals ++ [.set 782] ∧ s.vectored t 9 ∧ t.fmt = s.fmt ∧
      (∀ k, (t.stn k).holes = (s.stn k).holes ∧ (t.stn k).hot = (s.stn k).hot) ∧
      s.regsApart (fun a => a = R.EXP_ILK.addr 0 0 ∨ a = R.SEQ_EV.addr 24 0 ∨ ldReg a) t) ∧
    (s.imagingHandle = 0 → s.envOf 0 = none → s.fmt.lastAbn = some (v, s.elapsed, 8) → ∃ t, exec .laserInterlockOpen s = .next t ∧
      t.fget F.EXP_ILK_TRIPPED = 1 ∧ (s.rget R.SYS_BCHDL = v → t.fget F.SYS_BCCAUSE_CODE = 5) ∧
      t.fmt = { s.fmt with
        lastAbn := some (v, s.elapsed, 5)
        done := s.fmt.done.map (fun d => if d.handle = v ∧ d.state = 8 then { d with cause := 5 } else d) }) ∧
    (s.images e → ∃ t, exec .laserInterlockOpen s = .next t ∧ t.fget F.EXP_ILK_TRIPPED = 1 ∧ s.abandons t e 5) ∧
    (s.pins.ilkClosed = false → ∃ t, exec .laserInterlockClose s = .next t ∧ t.fget F.EXP_ILK_ILKOPEN = 0 ∧ t.fget F.EXP_ILK_TRIPPED = s.fget F.EXP_ILK_TRIPPED ∧
      t.pins = { s.pins with ilkClosed := true } ∧ t.img.ilkSince = s.time16 ∧
      t = { s with regs := t.regs, pins := t.pins, img := { s.img with stn := t.img.stn, ilkSince := t.img.ilkSince } } ∧
      s.regsApart (fun a => a = R.EXP_ILK.addr 0 0 ∨ ldReg a) t) ∧
    (s.ilkGood = true → s.img.ilkSince + 5000 * 128000 ≤ s.time16 → ∃ t, exec .rearm s = .next t ∧ t.fget F.EXP_ILK_TRIPPED = 0 ∧ withStn t ∧
      s.regsApart (fun a => a = R.EXP_ILK.addr 0 0 ∨ ldReg a) t) ∧
    (s.ilkGood = false ∨ s.time16 < s.img.ilkSince + 5000 * 128000 → ∃ t, exec .rearm s = .next t ∧ t = { s with regs := t.regs, rcd := t.rcd } ∧
      s.regsApart recTouched t) ∧
    (s.pageBusy = false → 0 < v → v < 2 ^ 32 → ∃ t, exec (.bstConfigWrite i 1 v) s = .next t ∧ onlyRegs t ∧ t.rget R.BST_S_LPC i = v ∧
      s.regsApart (fun a => a = R.BST_S_LPC.addr i 0) t) ∧
    (s.pageBusy = false → 1 ≤ bits v 5 0 → bits v 5 0 ≤ s.variant.beams → bits v 21 16 ≤ 35 → ∃ t, exec (.bstConfigWrite i 0 v) s = .next t ∧ onlyRegs t ∧ s.regsApart (fun a => a = R.BST_S_CFG.addr i 0) t ∧ t.fget F.BST_S_CFG_NB i = bits v 5 0 ∧
      t.fget F.BST_S_CFG_POSAX i = bits v 21 16) ∧
    (exec .arm s = .next { s with img := { s.img with armPend := true } }) ∧
    (s.img.armPend = true → (∀ k, k < s.variant.stn → s.armErr k = 0) → let t := s.armPhase0
      t.img.armPend = false ∧ t.fget F.BST_UPDSTAT_ARMED = 1 ∧ t.fget F.BST_UPDSTAT_ERR = 0 ∧
      (∀ j, j < 64 → t.armedVal F.BST_S_ZOFF_PEND i j = some (s.fget F.BST_S_ZOFF_PEND i j)) ∧ s.regsApart (fun a => a = R.BST_UPDSTAT.addr 0 0) t) ∧
    (s.img.armPend = true → (∀ k, k < i → s.armErr k = 0) → s.armErr i ≠ 0 → let t := s.armPhase0
      t.fget F.BST_UPDSTAT_REFUSED = 1 ∧ t.fget F.BST_UPDSTAT_ERR = s.armErr i ∧ t.fget F.BST_UPDSTAT_STN = i ∧ t.img.armed = s.img.armed ∧
      s.regsApart (fun a => a = R.BST_UPDSTAT.addr 0 0 ∨ recTouched a) t)

/-- Duty, APC and the laser driver SPI (R242, R249 to R251, R255 to R258): DUTY_CEILING, DUTY_WARNING, APC_SLOT, PWR_WRITE, SENDTRIM,
RAW and LASER_SPI_FRAME_DONE. -/
def Obligations.exposure_effects : Prop :=
  ∀ (s : State) (i b p v n time mon : Nat) (e : Env),
    let x := s.stn i
    let onlyStn (t : State) : Prop := t = { s with regs := t.regs, img := { s.img with stn := t.img.stn } } ∧ (∀ k, k ≠ i → t.stn k = s.stn k)
    let sends (t : State) (f : Nat) : Prop := t.log = s.log ++ [.laserSpi i f] ∧ t.fget F.EXP_S_STAT_SPIBUSY i = 1 ∧ (t.stn i).spiRun ≠ none ∧
      t = { s with regs := t.regs, log := t.log, img := { s.img with stn := t.img.stn } } ∧ (∀ k, k ≠ i → t.stn k = s.stn k)
    let frame (addr data : Nat) : Nat :=
      (if s.fget F.EXP_S_SPICFG_LEN32 i = 1 then s.fget F.EXP_S_SPICFG_CMD i * 2 ^ 24 else 0) + addr % 256 * 2 ^ 16 + data % 2 ^ 16
    let now := s.subPos i s.time16
    let ended := ((List.range 32).filter (fun b => !(nth x.facet.masks b []).isEmpty)).map
      (fun b => s.bdly i b + 8 * (nth x.facet.masks b []).length + 63)
    let slot := max (8 * s.fget F.EXP_S_APCCFG_APCSTART i) (ended.foldl max 0) + n * x.apcDone
    let fits := s.subPos i time = slot ∧ x.winOpen = none ∧
      time + s.slotTime i n + 6400 + s.winLen F.SCN_S_BDWIN_PRE i ≤ s.predicted i
    i < s.variant.stn → s.img.stn.length = 6 →
    -- a sub-slot that a ceiling refuses is told when the facet has reached it
    (x.bdLight = none → s.stnImaging i = false → (∀ q, x.facet.hit = some q → x.facet.told = true ∨ now ≤ q.2) →
      exec (.dutyCeiling i) s = .next s) ∧
    (x.bdLight = none → x.facet.hit = some (b, p) → p < now → x.facet.told = false → s.stnImaging i = false → x.facet.held = false →
      ∃ t, exec (.dutyCeiling i) s = .next t ∧
        t.fget F.EXP_S_DSTAT_HOLDCNT i = min (s.fget F.EXP_S_DSTAT_HOLDCNT i + 1) (2 ^ 16 - 1) ∧
        t.stn i = { x with facet := { x.facet with told := true, held := true } } ∧ onlyStn t ∧ s.regsApart (fun a => a = R.EXP_S_DSTAT.addr i 0) t) ∧
    (x.bdLight = none → x.facet.hit = some (b, p) → p < now → x.facet.told = false → s.images e → e.has i = true → b < 32 →
      ∃ t, exec (.dutyCeiling i) s = .next t ∧
        t.fget F.EXP_S_DSTAT_ECEIL i = 1 ∧ t.fget F.EXP_S_DSTAT_PBEAM i = b ∧ .set 781 ∈ t.seq.arrivals ∧ s.abandons t e 8) ∧
    (x.bdLight = none → x.facet.hit = some (32, p) → p < now → x.facet.told = false → s.images e → e.has i = true →
      ∃ t, exec (.dutyCeiling i) s = .next t ∧ t.fget F.EXP_S_DSTAT_SCEIL i = 1 ∧ .set 781 ∈ t.seq.arrivals ∧ s.abandons t e 8) ∧
    -- a window sum at the warning level, by the light up to now
    (x.bdLight = none → s.fget F.EXP_S_DCFG_WARN i = 0 ∨ s.stnImaging i = false → exec (.dutyWarning i) s = .next s) ∧
    (x.bdLight = none → s.stnImaging i = true → 0 < s.fget F.EXP_S_DCFG_WARN i → b < 32 →
      s.fget F.EXP_S_DCFG_WARN i * s.emax i ≤ 100 * s.beamSum i b (some now) → x.warned = [] → ∃ t, exec (.dutyWarning i) s = .next t ∧
        t.fget F.EXP_S_DSTAT_EWARN i = 1 ∧ 0 ∈ (t.stn i).warned ∧
        (t.fget F.EXP_S_DSTAT_SWARN i = 1 ∨ 100 * s.stnSum i (some now) < s.fget F.EXP_S_DCFG_WARN i * s.smax i) ∧
        t.seq.arrivals = s.seq.arrivals ++ [.set 780] ∧ (∀ k, k ≠ i → t.stn k = s.stn k) ∧
        s.regsApart (fun a => a = R.EXP_S_DSTAT.addr i 0 ∨ a = R.SEQ_EV.addr 24 0) t ∧
        t = { s with regs := t.regs, seq := t.seq, img := { s.img with stn := t.img.stn } }) ∧
    -- automatic power control
    (s.ldReady i = false ∨ s.fget F.EXP_S_APCCFG_APCN i ≤ x.apcDone ∨ n = 8 * s.fget F.EXP_S_APCCFG_APCSLOT i ∧ ¬ fits →
      exec (.apcSlot i time mon) s = .next s) ∧
    (b = x.apcNext → b + 1 < s.nb i → b < 32 → n = 8 * s.fget F.EXP_S_APCCFG_APCSLOT i → s.ldReady i = true →
      x.apcDone < s.fget F.EXP_S_APCCFG_APCN i → fits → x.facet.cut = none → x.facet.dark = [] →
      s.beamSum i b none + n ≤ s.emax i → s.stnSum i none + n ≤ s.smax i →
      ∃ t, exec (.apcSlot i time mon) s = .next t ∧ t.rget R.EXP_S_MON i b = mon % 4096 ∧ (t.stn i).apcNext = b + 1 ∧
        (t.stn i).apcDone = x.apcDone + 1 ∧ nth (t.stn i).facet.extra b 0 = nth x.facet.extra b 0 + n ∧ onlyStn t ∧
        s.regsApart (fun a => a = R.EXP_S_MON.addr i b) t) ∧
    (x.apcNext < s.nb i → s.nb i ≤ 32 → b = x.apcNext → n = 8 * s.fget F.EXP_S_APCCFG_APCSLOT i → s.ldReady i = true →
      x.apcDone < s.fget F.EXP_S_APCCFG_APCN i → fits → s.stnImaging i = false → x.facet.held = false → x.facet.cut = none → x.facet.dark = [] →
      s.emax i < s.beamSum i b none + n ∨ s.smax i < s.stnSum i none + n →
      ∃ t, exec (.apcSlot i time mon) s = .next t ∧ t.rget R.EXP_S_MON i b = s.rget R.EXP_S_MON i b ∧
        t.fget F.EXP_S_DSTAT_HOLDCNT i = min (s.fget F.EXP_S_DSTAT_HOLDCNT i + 1) (2 ^ 16 - 1) ∧
        (t.stn i).apcNext = (b + 1) % s.nb i ∧ (t.stn i).facet.extra = x.facet.extra ∧ onlyStn t ∧
        s.regsApart (fun a => a = R.EXP_S_DSTAT.addr i 0 ∨ a = R.EXP_S_MONAVG.addr i 0) t) ∧
    (x.spiRun = none → ∃ t, exec (.pwrWrite i v) s = .next t ∧ t.rget R.EXP_S_PWR i = v % 2 ^ 16 ∧
      sends t (frame (s.fget F.EXP_S_SPICFG_SCALEADDR i) v) ∧ s.regsApart (fun a => a = R.EXP_S_PWR.addr i 0 ∨ a = R.EXP_S_STAT.addr i 0) t) ∧
    (s.stnImaging i = false → x.spiRun = none → x.spiScale = none → x.spiTrims = [] → 0 < s.nb i → ∃ t, exec (.sendtrim i) s = .next t ∧ sends t (frame (s.fget F.EXP_S_SPICFG_TRIMBASE i) (s.fget F.EXP_S_TRIM_TRIM i 0)) ∧
      (t.stn i).spiTrims = (List.range (s.nb i)).drop 1 ∧ s.regsApart (fun a => a = R.EXP_S_STAT.addr i 0) t) ∧
    (s.stnImaging i = true → exec (.sendtrim i) s = .next (s.recRule 250)) ∧
    (x.spiRun = none → x.spiScale = none → x.spiTrims = [] → ∃ t, exec (.raw i) s = .next t ∧
      sends t (if s.fget F.EXP_S_SPICFG_LEN32 i = 1 then s.rget R.EXP_S_SPIRAW i else s.rget R.EXP_S_SPIRAW i % 2 ^ 24) ∧
      (t.stn i).spiRaw = x.spiRaw ∧ s.regsApart (fun a => a = R.EXP_S_STAT.addr i 0) t) ∧
    (x.spiRun = some true → x.spiScale = none → x.spiTrims = [] → x.spiRaw = 0 → ∃ t, exec (.laserSpiFrameDone i v) s = .next t ∧ t.rget R.EXP_S_SPIRD i = v % 2 ^ (if s.fget F.EXP_S_SPICFG_LEN32 i = 1 then 32 else 24) ∧ t.stn i = { x with spiRun := none } ∧
      t.fget F.EXP_S_STAT_SPIBUSY i = 0 ∧ onlyStn t ∧ s.regsApart (fun a => a = R.EXP_S_SPIRD.addr i 0 ∨ a = R.EXP_S_STAT.addr i 0) t)

/-- Beam detect (R241, R273 to R281): BEAM_DETECT_WINDOW_OPEN, BEAM_DETECT_EDGE, BEAM_DETECT_MISS and BEAM_DETECT_B_EDGE while no
page images and the pixel clock is not tracked. Each of these commands completes: BEAM_DETECT_WINDOW_OPEN in SEARCH and in TRACK;
BEAM_DETECT_EDGE as the third edge of a search, as another, and in TRACK inside the window; BEAM_DETECT_MISS as a first miss, as a
second, and with a B edge in A's place; BEAM_DETECT_B_EDGE in BDMODE 1 and in BDMODE 2. Edges that are not accepted leave the state as
it is. -/
def Obligations.beam_detect_effects : Prop :=
  ∀ (s : State) (i time phi w a b : Nat) (rising : Bool) (vs : List Nat),
    let x := s.stn i
    let st := s.scnState i
    let mode := s.fget F.SCN_S_CFG_BDMODE i
    let post := s.winLen F.SCN_S_BDWIN_POST i
    let pred := s.predicted i
    let quiet : Prop := s.imagesNone ∧ (∀ k, (s.stn k).endAt = none) ∧ x.facet.hit = none ∧
      s.fget F.SCN_S_CFG_TRACK i = 0 ∧ x.pfreqPend = none ∧ s.fget F.SCN_S_CFG_REFMODE i = 0
    let active : Prop := rising ≠ (s.fget F.SCN_S_CFG_BDPOL i == 1) ∧ 128 ≤ 10 * w
    let near (v w : Nat) : Prop := 100 * (max v w - min v w) < max v w
    let next (f : Nat) : Nat := (f + 1) % s.nf i
    let only (t : State) : Prop := t = { s with regs := t.regs, img := { s.img with stn := t.img.stn } } ∧ (∀ k, k ≠ i → t.stn k = s.stn k) ∧
      s.regsApart (fun r => r = R.SCN_S_STAT.addr i 0 ∨ r = R.SCN_S_PERIOD.addr i 0 ∨ r = R.SCN_S_ALIGN.addr i 0 ∨
        r = R.SCN_S_MISSCNT.addr i 0 ∨ r = R.EXP_S_DSTAT.addr i 0) t
    i < s.variant.stn → s.img.stn.length = 6 →
    -- the window opens
    (quiet → st ≠ 0 → x.winOpen = none →
      let at0 := if st = 2 then pred - s.winLen F.SCN_S_BDWIN_PRE i else s.time16
      exec (.beamDetectWindowOpen i) s = .next (s.setStn i { x with
        hist := ((List.range 32).map (fun b => s.beamLit i b none) :: x.hist).take 1023
        apcDone := 0
        facet := { Facet.blank with cut := if s.ldReady i then none else some 0 }
        winOpen := some at0
        bdLight := if s.ldReady i then some ⟨at0, none, 0⟩ else x.bdLight })) ∧
    (st = 0 ∨ x.winOpen ≠ none → exec (.beamDetectWindowOpen i) s = .next s) ∧
    -- an edge of input A
    (quiet → st = 1 → s.ldReady i = true → s.fget F.SCN_S_STAT_AFAIL i = 0 → mode ≠ 2 → active →
      x.lastEdge = some a → a ≤ time → x.ivals = b :: vs → ∃ t, exec (.beamDetectEdge i time phi w rising) s = .next t ∧
        (near (time - a) b → t.scnState i = 2 ∧ t.fget F.SCN_S_STAT_FACET i = 0 ∧ (t.stn i).winOpen = none) ∧
        (¬ near (time - a) b → t.scnState i = 1 ∧ (t.stn i).winOpen = some time) ∧
        (t.stn i).lastEdge = some time ∧ (t.stn i).ivals = ((time - a) :: x.ivals).take 32 ∧ (t.stn i).lastA = some time ∧
        t.fget F.SCN_S_PERIOD_PERIOD i = min (time - a) (2 ^ 24 - 1) ∧ t.fget F.SCN_S_ALIGN_N i = phi % 256 ∧
        t.fget F.SCN_S_STAT_LOCK i = 0 ∧ only t) ∧
    (quiet → st = 2 → s.ldReady i = true → s.fget F.SCN_S_STAT_AFAIL i = 0 → mode ≠ 2 → active →
      x.lastEdge = some a → a ≤ time → s.inWindow i time 0 = true → ∃ t, exec (.beamDetectEdge i time phi w rising) s = .next t ∧
        t.scnState i = 2 ∧ t.fget F.SCN_S_STAT_FACET i = next (s.fget F.SCN_S_STAT_FACET i) ∧ (t.stn i).lastEdge = some time ∧
        (t.stn i).lastA = some time ∧ (t.stn i).miss = 0 ∧ (t.stn i).trk = x.trk + 1 ∧ (t.stn i).winOpen = none ∧ (t.stn i).bdLight = none ∧
        t.fget F.SCN_S_PERIOD_PERIOD i = min (time - a) (2 ^ 24 - 1) ∧ t.fget F.SCN_S_ALIGN_N i = phi % 256 ∧ only t) ∧
    (st = 0 ∨ st = 2 ∧ s.inWindow i time 0 = false ∨ s.ldReady i = false ∨ s.fget F.SCN_S_STAT_AFAIL i = 1 ∨ ¬ active →
      exec (.beamDetectEdge i time phi w rising) s = .next s) ∧
    -- a window that closes without an edge of A
    (st ≠ 2 → exec (.beamDetectMiss i) s = .next s) ∧
    (quiet → st = 2 → mode ≠ 2 → x.lastEdge = some a → x.miss = 0 → ∃ t, exec (.beamDetectMiss i) s = .next t ∧
        t.scnState i = 2 ∧ t.fget F.SCN_S_MISSCNT_COUNT i = min (s.fget F.SCN_S_MISSCNT_COUNT i + 1) (2 ^ 32 - 1) ∧
        (t.stn i).lastEdge = some pred ∧ (t.stn i).ivals = ((pred - a) :: x.ivals).take 32 ∧ (t.stn i).miss = 1 ∧ (t.stn i).lastA = none ∧
        (t.stn i).facet.late = s.subSlots i post + 1088 - s.fget F.SCN_S_SOLDLY_SOLDLY i ∧
        t.fget F.SCN_S_STAT_FACET i = next (s.fget F.SCN_S_STAT_FACET i) ∧ only t) ∧
    (quiet → st = 2 → mode ≠ 2 → x.lastEdge = some a → x.miss = 1 → ∃ t, exec (.beamDetectMiss i) s = .next t ∧
        t.scnState i = 1 ∧ t.fget F.SCN_S_STAT_LOCK i = 0 ∧ (t.stn i).lastEdge = none ∧ (t.stn i).ivals = [] ∧ (t.stn i).miss = 0 ∧
        (t.stn i).winOpen = some (pred + post) ∧ t.seq.arrivals = s.seq.arrivals ++ [.set (784 + i)] ∧ s.vectored t 10 ∧ t.fmt = s.fmt) ∧
    (quiet → st = 2 → mode = 2 → s.fget F.SCN_S_STAT_AFAIL i = 0 → s.fget F.SCN_S_STAT_BFAIL i = 0 → x.bDone = true → x.aMiss < 3 →
      x.lastB = some b → x.lastEdge = some a → ∃ t, exec (.beamDetectMiss i) s = .next t ∧
        t.scnState i = 2 ∧ (t.stn i).lastEdge = some ((b : Int) - x.meanOff).toNat ∧ (t.stn i).aMiss = x.aMiss + 1 ∧ (t.stn i).miss = 0 ∧
        t.fget F.SCN_S_MISSCNT_COUNT i = s.fget F.SCN_S_MISSCNT_COUNT i ∧
        t.fget F.SCN_S_STAT_FACET i = next (s.fget F.SCN_S_STAT_FACET i) ∧ only t) ∧
    (st = 2 → mode = 2 → s.fget F.SCN_S_STAT_AFAIL i = 0 → s.fget F.SCN_S_STAT_BFAIL i = 0 → x.bDone = true →
      x.lastB = none → 0 < x.meanOff → x.aWait = false → exec (.beamDetectMiss i) s = .next (s.setStn i { x with aWait := true })) ∧
    -- an edge of input B
    (mode = 0 ∨ st = 0 ∨ s.ldReady i = false ∨ ¬ active → exec (.beamDetectBEdge i time w rising) s = .next s) ∧
    (st ≠ 0 → s.ldReady i = true → active → mode = 1 → x.lastA = some a → x.winOpen = none → a + s.slotTime i (s.solAt i) ≤ time →
      ∃ t, exec (.beamDetectBEdge i time w rising) s = .next t ∧ t = { s with regs := t.regs } ∧
        t.fget F.SCN_S_ABTIME_AB i = min (time - a) (2 ^ 24 - 1) ∧ s.regsApart (fun r => r = R.SCN_S_ABTIME.addr i 0) t) ∧
    (st = 2 → s.ldReady i = true → active → mode = 2 → s.fget F.SCN_S_STAT_BFAIL i = 0 → s.fget F.SCN_S_STAT_AFAIL i = 0 →
      x.lastA = some a → x.bDone = false → a ≤ time → (a : Int) + x.meanOff ≤ time + s.winLen F.SCN_S_BDWIN_PRE i →
      (time : Int) ≤ a + x.meanOff + post → exec (.beamDetectBEdge i time w rising) s = .next (s.setStn i { x with
        bDone := true
        bMiss := 0
        abOff := (((time : Int) - a) :: x.abOff).take 256 })) ∧
    (st = 2 → s.ldReady i = true → active → mode = 2 → s.fget F.SCN_S_STAT_BFAIL i = 0 → s.fget F.SCN_S_STAT_AFAIL i = 0 →
      x.bDone = true → x.aWait = false → s.inWindow i time x.meanOff = true →
      exec (.beamDetectBEdge i time w rising) s = .next (s.setStn i { x with lastB := some time })) ∧
    (quiet → st = 2 → s.ldReady i = true → active → mode = 2 → s.fget F.SCN_S_STAT_BFAIL i = 0 → s.fget F.SCN_S_STAT_AFAIL i = 1 →
      s.inWindow i time x.meanOff = true → ∃ t, exec (.beamDetectBEdge i time w rising) s = .next t ∧
        (t.stn i).lastEdge = some ((time : Int) - x.meanOff).toNat ∧ (t.stn i).miss = 0 ∧
        t.fget F.SCN_S_STAT_FACET i = next (s.fget F.SCN_S_STAT_FACET i) ∧ only t)

/-- The clocks and a page's start (R172, R271, R274, R282, R297 to R301): SCN_ENABLE, PFREQ_WRITE, SSC_WRITE, PIXEL_PLL_UNLOCK,
REFERENCE_LOST, COAST_LIMIT, REFERENCE_RESTORED and PGSTART. Each of these commands completes, and so do the writes that are refused or
ignored, stated beside. -/
def Obligations.clock_effects : Prop :=
  ∀ (s : State) (i v : Nat) (e : Env) (on : Bool),
    let x := s.stn i
    let cfg := s.rget R.SCN_S_CFG i
    let modes : Prop := bits cfg 28 27 ≠ 3 ∧ bits cfg 30 29 ≠ 3
    let quiet : Prop := s.imagesNone ∧ (∀ k, (s.stn k).endAt = none) ∧ x.facet.hit = none
    let onlyRegs (t : State) : Prop := t = { s with regs := t.regs }
    let withStn (t : State) : Prop := t = { s with regs := t.regs, img := { s.img with stn := t.img.stn } } ∧ (∀ k, k ≠ i → t.stn k = s.stn k)
    let clk (r : Nat) : Prop := r = R.CLK_STAT.addr 0 0 ∨ r = R.TCK_STAT.addr 0 0
    i < s.variant.stn → s.img.stn.length = 6 →
    -- SCN_S_CFG.EN
    (s.stnImaging i = true → exec (.scnEnable i on) s = .next (s.recRwi R.SCN_S_CFG (putBits cfg 31 31 (bit on)) i)) ∧
    (s.stnImaging i = false → ¬ modes → exec (.scnEnable i on) s = .next (s.recRule (if bits cfg 28 27 = 3 then 273 else 289))) ∧
    (quiet → modes → s.fget F.SCN_S_CFG_EN i = 0 → ∃ t, exec (.scnEnable i true) s = .next t ∧
      t.fget F.SCN_S_CFG_EN i = 1 ∧ t.scnState i = 1 ∧ (t.stn i).winOpen = some s.time16 ∧ withStn t ∧
        s.regsApart (fun r => r = R.SCN_S_CFG.addr i 0 ∨ r = R.SCN_S_STAT.addr i 0 ∨ r = R.SCN_S_PERR.addr i 0) t) ∧
    (s.stnImaging i = false → modes → s.fget F.SCN_S_CFG_EN i = 1 → ∃ t, exec (.scnEnable i false) s = .next t ∧
      t.fget F.SCN_S_CFG_EN i = 0 ∧ t.scnState i = 0 ∧ t.fget F.SCN_S_STAT_LOCK i = 0 ∧ withStn t ∧
        (t.stn i).lastEdge = none ∧ (t.stn i).pfreqPend = none ∧ (t.stn i).winOpen = none ∧
        (∀ f, x.pfreqPend = some f → s.fget F.SCN_S_CFG_TRACK i = 0 → t.rget R.CLK_S_PFREQ i = f % 2 ^ 32) ∧
        s.regsApart (fun r => r = R.SCN_S_CFG.addr i 0 ∨ r = R.SCN_S_STAT.addr i 0 ∨ r = R.SCN_S_PERR.addr i 0 ∨
          r = R.CLK_S_PFREQ.addr i 0 ∨ r = R.EXP_S_DSTAT.addr i 0) t) ∧
    -- the pixel clock's word
    (s.fget F.SCN_S_CFG_TRACK i = 1 → exec (.pfreqWrite i v) s = .next (s.recRule 282)) ∧
    (s.fget F.SCN_S_CFG_TRACK i = 0 → s.scnState i ≠ 2 → v < 2 ^ 32 → ∃ t, exec (.pfreqWrite i v) s = .next t ∧
      t.rget R.CLK_S_PFREQ i = v ∧ (53687092 ≤ v → v ≤ 1610612736 → t.fget F.SCN_S_STAT_PLLLOCK i = 1) ∧
      t.stn i = { x with pfreqPend := none } ∧ withStn t ∧ s.regsApart (fun r => r = R.CLK_S_PFREQ.addr i 0 ∨ r = R.SCN_S_STAT.addr i 0) t) ∧
    (s.fget F.SCN_S_CFG_TRACK i = 0 → s.scnState i = 2 → exec (.pfreqWrite i v) s = .next (s.setStn i { x with pfreqPend := some (v % 2 ^ 32) })) ∧
    -- the spread and the references
    (s.pageBusy = true → exec (.sscWrite v) s = .next (s.recRwi R.CLK_CTRL v)) ∧
    (s.pageBusy = false → ∃ t, exec (.sscWrite v) s = .next t ∧ t = { s with regs := t.regs, img := { s.img with sscPend := some (v % 4) } } ∧
      t.fget F.CLK_CTRL_SSC = v % 4 ∧ s.regsApart (fun r => r = R.CLK_CTRL.addr 0 0) t) ∧
    (s.stnImaging i = false → ∃ t, exec (.pixelPllUnlock i) s = .next t ∧ onlyRegs t ∧ t.fget F.SCN_S_STAT_PLLLOCK i = 0 ∧
      s.regsApart (fun r => r = R.SCN_S_STAT.addr i 0) t) ∧
    (s.images e → e.has i = true → ∃ t, exec (.pixelPllUnlock i) s = .next t ∧ t.fget F.SCN_S_STAT_PLLLOCK i = 0 ∧ s.abandons t e 8) ∧
    (s.fget F.CLK_STAT_COAST = 0 → ∃ t, exec .referenceLost s = .next t ∧ t.fget F.CLK_STAT_COAST = 1 ∧ t.fget F.CLK_STAT_REFLOST = 1 ∧
      t.fget F.CLK_STAT_REFOK = 0 ∧ t.fget F.CLK_COAST_ELAPSED = 0 ∧ t.img.coast = 0 ∧
      t.fget F.SYS_ABS1_REFLOSS = min (s.fget F.SYS_ABS1_REFLOSS + 1) 255 ∧ t.seq.arrivals = s.seq.arrivals ++ [.set 929, .set 790] ∧
      s.vectored t 11 ∧ s.regsApart (fun r => clk r ∨ r = R.CLK_COAST.addr 0 0 ∨ r = R.SYS_ABS1.addr 0 0 ∨ r = R.SEQ_EV.addr 24 0 ∨
        r = R.SEQ_EV.addr 29 0 ∨ recTouched r) t ∧
      t = { s with
        regs := t.regs
        log := t.log
        msixPend := t.msixPend
        seq := t.seq
        rcd := t.rcd
        img := { s.img with coast := 0 } }) ∧
    (s.fget F.CLK_STAT_COAST = 1 → exec .referenceLost s = .next s) ∧
    (s.fget F.CLK_STAT_COAST = 0 ∨ s.fget F.CLK_COAST_ELAPSED < max (s.fget F.CLK_COAST_LIM) 1 → exec .coastLimit s = .next s) ∧
    (s.fget F.CLK_STAT_COAST = 1 → max (s.fget F.CLK_COAST_LIM) 1 ≤ s.fget F.CLK_COAST_ELAPSED → ∃ t, exec .coastLimit s = .next t ∧ onlyRegs t ∧
      t.fget F.CLK_STAT_COASTEXP = 1 ∧ s.regsApart (fun r => r = R.CLK_STAT.addr 0 0) t) ∧
    (s.fget F.CLK_STAT_COAST = 0 ∨ s.anyImaging = true → exec .referenceRestored s = .next s) ∧
    (s.fget F.CLK_STAT_COAST = 1 → s.anyImaging = false → ∃ t, exec .referenceRestored s = .next t ∧ t.fget F.CLK_STAT_COAST = 0 ∧ t.fget F.CLK_STAT_COASTEXP = 0 ∧
      t.fget F.CLK_STAT_REFOK = 1 ∧ t.seq.arrivals = s.seq.arrivals ++ [.set 791] ∧ s.vectored t 11 ∧
      s.regsApart (fun r => clk r ∨ r = R.SEQ_EV.addr 24 0 ∨ recTouched r) t ∧
      t = { s with regs := t.regs, log := t.log, msixPend := t.msixPend, seq := t.seq, rcd := t.rcd }) ∧
    (s.fget F.FMT_HEADSTAT_READY = 1 → e.handle ≠ 0 → s.headHandle = e.handle → s.envOf e.handle = some e → e.state = .admitted →
      s.fmt.env.length = 64 → ∃ t, exec (.pgstart e.handle) s = .next t ∧ t.envOf e.handle = some { e with state := .imaging, dropped := 0, blank := 0 } ∧ t.fget F.FMT_HEADSTAT_READY = 0 ∧ e.handle ∉ t.fmt.queue ∧
        (e.has i = true → (t.stn i).page = e.handle ∧ (t.stn i).pcommit = s.drumPos i ∧ t.rget R.BST_S_SCAN i = 0) ∧
        (e.has i = false → t.stn i = x ∧ t.rget R.BST_S_SCAN i = s.rget R.BST_S_SCAN i) ∧
        (∀ k, k ≠ e.handle % 64 → t.slotEnv k = s.slotEnv k) ∧
        s.regsApart (fun r => r = R.FMT_HEADSTAT.addr 0 0 ∨ ∃ k, k < 6 ∧ (r = R.BST_S_SCAN.addr k 0 ∨ r = R.SCN_S_STAT.addr k 0)) t ∧
        t = { s with regs := t.regs, fmt := { s.fmt with env := t.fmt.env, queue := t.fmt.queue }, img := { s.img with stn := t.img.stn } }) ∧
    (s.fget F.FMT_HEADSTAT_READY = 0 ∨ v = 0 ∨ s.headHandle ≠ v → exec (.pgstart v) s = .next (s.recRule 172))

/-- A calibration run (R304, R305, R308 to R311, R318, R320): CAL_RUN with what it does at phase 0, MARK_EDGE, MARK_MEASURE_END and
CAL_RESULT. Each of these commands completes: MARK_EDGE where the comparator turns over and where it does not; MARK_MEASURE_END for a lane
that is over and for one that is not; CAL_RESULT with a result of either kind and with a failure. -/
def Obligations.calibration_run : Prop :=
  ∀ (s : State) (k time i v : Nat) (m : List (Nat × Word)),
    let c := s.cal
    let was := nth c.onMark k false
    let now := c.compare k v was
    let past := c.laneOver k (s.axRaw c.posax * 256)
    let measures : Prop := c.laneOn k = true ∧ c.ladder = false ∧ (s.calState = 1 ∨ s.calState = 2)
    let c' : Cal := { c with runPend := false, cfg := s.rget R.CAL_CFG, geom := s.rget R.CAL_GEOM, lpc := s.rget R.CAL_LPC,
                             lane := (List.range 4).map (fun k => s.rget R.CAL_M_CFG k) }
    let ends (t : State) : Prop := t.seq.arrivals = s.seq.arrivals ++ [.set 793] ∧ s.vectored t 12 ∧
      t = { s with regs := t.regs, seq := t.seq, log := t.log, msixPend := t.msixPend, free := t.free, cal := t.cal }
    (exec .calRun s = .next { s with cal := { c with runPend := true } }) ∧
    (c.runPend = true → s.calRefusal c' = 0 → i < 64 → s.slotEnv i = none → (∀ j, j < i → s.slotEnv j ≠ none) → s.fmt.env.length = 64 →
      let t := s.calRunPhase0
      ∃ e, t.slotEnv i = some e ∧ e.handle = s.fmt.seqNo * 64 + i ∧ e.state = .resident ∧ e.pattern = true ∧ e.stnmask = c'.mask ∧
        e.lines = s.calLines c' ∧ e.pageid = 0xCA1B0000 + (s.fget F.CAL_STAT_RUN + 1) % 256 ∧ t.rget R.CAL_HANDLE = e.handle % 2 ^ 32 ∧
        t.calState = 1 ∧ t.fget F.CAL_STAT_RUN = (s.fget F.CAL_STAT_RUN + 1) % 256 ∧ (∀ j, j ≠ i → t.slotEnv j = s.slotEnv j) ∧
        s.regsApart (fun a => a = R.CAL_HANDLE.addr 0 0 ∨ a = R.CAL_STAT.addr 0 0) t) ∧
    (c.runPend = true → s.calRefusal c' ≠ 0 → let t := s.calRunPhase0
      t.fget F.CAL_STAT_ERR = s.calRefusal c' ∧ t.calState = s.calState ∧ t.fmt = s.fmt ∧
      s.regsApart (fun a => a = R.CAL_STAT.addr 0 0 ∨ recTouched a) t) ∧
    -- a lane's comparator turns over
    (k < 4 → ¬ measures ∨ now = was → exec (.markEdge k time v) s = .next s) ∧
    (k < 4 → measures → now ≠ was → c.old = some m → k ∉ c.laneDone → now = true ∨ nth c.edges k [] ≠ [] →
      exec (.markEdge k time v) s = .next { s with cal := { c with
        onMark := c.onMark.set k now
        edges := c.edges.set k (nth c.edges k [] ++ [(now, s.markPos time)]) } }) ∧
    (k < 4 → measures → now ≠ was → c.old = none ∨ k ∈ c.laneDone ∨ now = false ∧ nth c.edges k [] = [] →
      exec (.markEdge k time v) s = .next { s with cal := { c with onMark := c.onMark.set k now } }) ∧
    -- a lane's last window is past
    (k < 4 → ¬ measures ∨ c.old = none ∨ past = false → exec (.markMeasureEnd k) s = .next s) ∧
    (k < 4 → measures → c.old = some m → past = true → c.ended = none →
      exec (.markMeasureEnd k) s = .next { s with cal := { c with laneDone := k :: c.laneDone.filter (· ≠ k) } }) ∧
    (k < 4 → measures → c.old = some m → past = true → c.ended = some true → c.isStale = false → (∀ l ∈ c.lanes, l = k ∨ l ∈ c.laneDone) →
      ∃ t, exec (.markMeasureEnd k) s = .next t ∧ t.calState = 3 ∧
        t = { s with regs := t.regs, cal := { c with laneDone := k :: c.laneDone.filter (· ≠ k), ticks := 0 } } ∧
        s.regsApart (fun a => a = R.CAL_STAT.addr 0 0) t) ∧
    (k < 4 → measures → c.old = some m → past = true → c.ended ≠ none → c.isStale = true → (∀ l ∈ c.lanes, l = k ∨ l ∈ c.laneDone) →
      ∃ t, exec (.markMeasureEnd k) s = .next t ∧ t.calState = 5 ∧ t.fget F.CAL_STAT_ERR = 0x13 ∧ ends t ∧
        t.cal = { c with laneDone := k :: c.laneDone.filter (· ≠ k) } ∧ s.regsApart (fun a => a = R.CAL_STAT.addr 0 0 ∨ a = R.SEQ_EV.addr 24 0) t) ∧
    -- the computation ends
    (s.calState ≠ 3 → exec .calResult s = .next s) ∧
    (s.calState = 3 → c.old = none → ∃ t, exec .calResult s = .next t ∧ t.calState = 5 ∧ t.fget F.CAL_STAT_ERR = 0x10 ∧ t.cal = c ∧ ends t ∧
      s.regsApart (fun a => a = R.CAL_STAT.addr 0 0 ∨ a = R.SEQ_EV.addr 24 0) t) ∧
    (s.calState = 3 → c.old = some m → c.ladder = true → c.rows.length ≠ c.ns * s.nb c.ref → ∃ t, exec .calResult s = .next t ∧
      t.calState = 5 ∧ t.fget F.CAL_STAT_ERR = 0x11 ∧ t.cal = c ∧ ends t ∧
      s.regsApart (fun a => a = R.CAL_STAT.addr 0 0 ∨ a = R.SEQ_EV.addr 24 0) t) ∧
    (s.calState = 3 → c.old = some m → c.ladder = false ∨ c.rows.length = c.ns * s.nb c.ref → ∃ t, exec .calResult s = .next t ∧
      t.calState = 4 ∧ ends t ∧ t.cal = { c with result := t.cal.result } ∧
      t.cal.result.take 10 = leBytes 4 0x4C414359 ++ leBytes 2 1 ++ [4, if c.ladder then 2 else 1] ++ (t.cal.result.drop 8).take 1 ++ [c.ref] ∧
      (t.cal.result.drop 0x40) = ((List.range 6).map (fun i => (s.stnResult m i).1.bytes)).flatten ∧
      s.regsApart (fun a => a = R.CAL_STAT.addr 0 0 ∨ a = R.SEQ_EV.addr 24 0 ∨ ∃ k, k < 4 ∧ a = R.CAL_M_LAST.addr k 0) t)

/-- Calibration sets and the law parameters (R142, R321 to R323, R344): APPLY, APPLY_EFFECT, STORE, STORE_DONE, PCMD_WRITE and
PCMD_READ. Each of these commands completes, and so do the forms that are refused. -/
def Obligations.parameter_sets : Prop :=
  ∀ (s : State) (b : List Nat) (d : Nat) (okA okB : Bool),
    let c := s.cal
    let l := s.lawCommitted (s.fget F.LPE_PACC_LAW)
    let p := s.fget F.LPE_PACC_PARAM
    (s.calSource (s.fget F.CAL_SET_SRC) = some b → ∃ t, exec .apply s = .next t ∧ t.fget F.CAL_STAT_APPLYPEND = 1 ∧
      t = { s with regs := t.regs, cal := { c with applySet := some b } } ∧ s.regsApart (fun a => a = R.CAL_STAT.addr 0 0) t) ∧
    (s.calSource (s.fget F.CAL_SET_SRC) = none → ∃ t, exec .apply s = .next t ∧ t.fget F.CAL_STAT_ERR = 0x12 ∧ t = { s with regs := t.regs } ∧
      s.regsApart (fun a => a = R.CAL_STAT.addr 0 0) t) ∧
    (s.boundary = false ∨ c.applySet = none ∧ s.atBoundary → ∃ t, exec .applyEffect s = .next t ∧ t.regs = s.regs ∧ t.cal = c ∧ t.img = s.img) ∧
    (s.atBoundary → s.ticking = true → c.applySet = some b → s.anyImaging = false → (∀ n, n < s.variant.stn → (leAt b 8 1).testBit n = true) →
      ∃ t, exec .applyEffect s = .next t ∧ t.fget F.CAL_STAT_APPLYPEND = 0 ∧ t = { s with
          regs := t.regs
          rcd := t.rcd
          seq := { s.seq with rel := t.seq.rel }
          img := { s.img with armed := t.img.armed }
          cal := { c with applySet := none } } ∧
        (∀ n z, n < s.variant.stn → z < 64 → t.fget F.BST_S_ZOFF_PEND n z = leAt b (0x40 + 256 * n + z) 1 ∧
          t.fget F.SCN_S_LIN_PEND n z = leAt b (0x40 + 256 * n + (0x40 + z)) 1) ∧
        (t.fget F.BST_UPDSTAT_ARMED = 1 ∨ t.fget F.CAL_STAT_ERR = 0x14)) ∧
    (s.presence = true → s.fget F.CAL_STAT_STBUSY = 0 → s.calState = 4 → s.pwr.holdTemp = false → ∃ t, exec .store s = .next t ∧ t.fget F.CAL_STAT_STBUSY = 1 ∧ 
      t.cal = { c with store := t.cal.store } ∧ (∃ r, t.cal.store = some r ∧ r.1 = s.fget F.CAL_SET_DST ∧ r.2.drop 0x40 = c.result.drop 0x40) ∧
      t = { s with regs := t.regs, rcd := t.rcd, cal := t.cal } ∧ s.regsApart (fun a => a = R.CAL_STAT.addr 0 0 ∨ recTouched a) t) ∧
    (s.presence = true → s.fget F.CAL_STAT_STBUSY = 0 → s.calState ≠ 4 → ∃ t, exec .store s = .next t ∧ t.fget F.CAL_STAT_ERR = 0x12 ∧
      t = { s with regs := t.regs } ∧ s.regsApart (fun a => a = R.CAL_STAT.addr 0 0) t) ∧
    (s.presence = true → s.fget F.CAL_STAT_STBUSY = 1 → exec .store s = .next (s.calErr 0x01)) ∧
    (s.presence = true → s.fget F.CAL_STAT_STBUSY = 0 → s.calState = 4 → s.pwr.holdTemp = true → exec .store s = .next (s.calErr 0x15)) ∧
    (c.store = none ∨ s.pwr.holdSup = true → exec (.storeDone okA okB) s = .next s) ∧
    (s.presence = false → ∃ t, exec .store s = .next t ∧ t = { s with regs := t.regs, rcd := t.rcd } ∧ s.regsApart recTouched t) ∧
    (c.store = some (d, b) → s.pwr.holdSup = false → ∃ t, exec (.storeDone okA okB) s = .next t ∧ t.nvm = { s.nvm with cal := s.nvm.cal.set d ⟨if okA then b else [], if okB then b else []⟩ } ∧ t.cal = { c with store := none } ∧
      t.fget F.CAL_STAT_STBUSY = 0 ∧ t.fget F.CAL_SETSTAT_VALID = t.nvm.calValid % 256 ∧
      t = { s with regs := t.regs, rcd := t.rcd, nvm := t.nvm, cal := t.cal } ∧
      s.regsApart (fun a => a = R.CAL_STAT.addr 0 0 ∨ a = R.CAL_SETSTAT.addr 0 0 ∨ recTouched a) t) ∧
    (s.fget F.LPE_PSTAT_BUSY = 0 → ∃ t, exec .pcmdWrite s = .next t ∧ t.fget F.LPE_PSTAT_BUSY = 1 ∧
      t = { s with regs := t.regs, lpe := { s.lpe with host := s.lpe.host ++
        [.host (s.fget F.LPE_PACC_LAW) p (signed 32 (s.rget R.LPE_PDATA)) (s.fsigned F.LPE_PACC_EXP)] } } ∧
      s.regsApart (fun a => a = R.LPE_PSTAT.addr 0 0) t) ∧
    (s.fget F.LPE_PSTAT_BUSY = 1 → ∃ t, exec .pcmdWrite s = .next t ∧ t = { s with regs := t.regs, rcd := t.rcd } ∧ s.regsApart recTouched t) ∧
    (l.readable p = true → ∃ t, exec .pcmdRead s = .next t ∧ t.rget R.LPE_PRD = (l.get p (s.fsigned F.LPE_PACC_EXP)).1 % 2 ^ 32 ∧
      t.fget F.LPE_PSTAT_RESULT = (if (l.get p (s.fsigned F.LPE_PACC_EXP)).2 then 3 else 1) ∧ t = { s with regs := t.regs } ∧
      s.regsApart (fun a => a = R.LPE_PRD.addr 0 0 ∨ a = R.LPE_PSTAT.addr 0 0) t) ∧
    (l.readable p = false → ∃ t, exec .pcmdRead s = .next t ∧ t.fget F.LPE_PSTAT_RESULT = 2 ∧ t = { s with regs := t.regs } ∧
      s.regsApart (fun a => a = R.LPE_PSTAT.addr 0 0) t)

/-- High voltage and fuser (R349 to R355, R361, R363, R364): HV_TRIP, HV_TRIPCLR, HV_CFG_WRITE, FUSER_INPUT_CLR, ZONE_TRIPCLR and
DISAGREE. Each of these commands completes: HV_TRIP with two current samples at or above ITRIP, and with others, which change nothing;
HV_TRIPCLR on a tripped channel; HV_CFG_WRITE of each TYPE that its channel allows, and refused; the others as they stand. -/
def Obligations.high_voltage_and_fuser : Prop :=
  ∀ (s : State) (n v i z a b : Nat) (e : Env),
    let trips : Prop := s.hvPresent n = true ∧ s.fget F.HVS_C_STAT_STATE n ≠ 3 ∧ s.hvOver n a = true ∧ s.hvOver n b = true
    let ty := bits v 18 16
    let typeOk : Prop := ty ≤ 4 ∧ (ty = 3 → n % 2 = 0) ∧ (ty = 4 → n % 2 = 1 ∧ s.hvType (n - 1) = 3) ∧
      (n % 2 = 0 → ty ≠ 3 → s.hvPresent (n + 1) = false ∨ s.hvType (n + 1) ≠ 4)
    let told (t : State) : Prop := t.fget F.HVS_C_STAT_STATE n = 3 ∧ t.fget F.HVS_C_CTRL_EN n = 0 ∧ (t.rget R.HVS_TRIP).testBit n = true ∧
      (t.hv n).hold = none ∧ .set 795 ∈ t.seq.arrivals
    (¬ trips → exec (.hvTrip n a b) s = .next s) ∧
    (trips → s.fget F.HVS_C_CFG_CRIT n = 0 → s.power.hv.length = 24 → ∃ t, exec (.hvTrip n a b) s = .next t ∧ told t ∧
      s.vectored t 13 ∧ t.seq.arrivals = s.seq.arrivals ++ [.set 795] ∧ t.hv n = { s.hv n with hold := none } ∧ (∀ k, k ≠ n → t.hv k = s.hv k) ∧
      s.regsApart (fun a => a = R.HVS_C_CTRL.addr n 0 ∨ a = R.HVS_C_STAT.addr n 0 ∨ a = R.HVS_TRIP.addr 0 0 ∨ a = R.SEQ_EV.addr 24 0 ∨ recTouched a) t ∧
      t = { s with
        regs := t.regs
        seq := t.seq
        log := t.log
        msixPend := t.msixPend
        rcd := t.rcd
        power := { s.power with hv := t.power.hv } }) ∧
    (trips → s.fget F.HVS_C_CFG_CRIT n = 1 → s.power.hv.length = 24 → s.images e → ∃ t, exec (.hvTrip n a b) s = .next t ∧ told t ∧ s.abandons t e 8) ∧
    (s.hvPresent n = true → s.fget F.HVS_C_STAT_STATE n ≠ 3 → exec (.hvTripclr n) s = .next s) ∧
    (s.hvPresent n = true → s.fget F.HVS_C_STAT_STATE n = 3 → ∃ t, exec (.hvTripclr n) s = .next t ∧
      t = { s with regs := t.regs, power := { s.power with hv := t.power.hv } } ∧
      (s.fget F.HVS_C_CTRL_EN n = 0 → t.fget F.HVS_C_STAT_STATE n = 0) ∧ t.fget F.HVS_C_STAT_STATE n ≠ 3 ∧
      s.regsApart (fun a => a = R.HVS_C_STAT.addr n 0) t) ∧
    (s.hvPresent n = true → s.fget F.HVS_C_CTRL_EN n = 1 → exec (.hvCfgWrite n v) s = .next (s.recRwi R.HVS_C_CFG v n)) ∧
    (s.hvPresent n = true → s.fget F.HVS_C_CTRL_EN n = 0 → ¬ typeOk → exec (.hvCfgWrite n v) s = .next (s.recRule 351)) ∧
    (s.hvPresent n = true → s.fget F.HVS_C_CTRL_EN n = 0 → s.fget F.HVS_C_STAT_STATE n = 0 → typeOk → v < 2 ^ 32 → ∃ t, exec (.hvCfgWrite n v) s = .next t ∧
      t = { s with regs := t.regs, power := { s.power with hv := t.power.hv } } ∧ t.rget R.HVS_C_CFG n = v &&& 0x1F07FFFF ∧
      t.fget F.HVS_C_CFG_TYPE n = ty ∧ t.fget F.HVS_C_STAT_STATE n = 0 ∧
      (ty = 1 ∨ ty = 3 → t.fget F.HVS_C_STAT_POLNOW n = t.fget F.HVS_C_CFG_NEG n) ∧ (ty = 0 → t.hvPol n = false) ∧ t.hvDrive n = 0 ∧
      s.regsApart (fun a => a = R.HVS_C_CFG.addr n 0 ∨ a = R.HVS_C_STAT.addr n 0) t) ∧
    (exec (.fuserInputClr i) s = .next { s with power := { s.power with fus := { s.power.fus with clr := s.power.fus.clr.set i true } } }) ∧
    (z < 4 → s.fsigned F.FUS_Z_TEMP_TEMP z < s.fsigned F.FUS_Z_TRIP_TRIP z - 160 → s.fget F.FUS_Z_STAT_FAULT z = 0 →
      ∃ t, exec (.zoneTripclr z) s = .next t ∧ t = { s with regs := t.regs } ∧ t.fget F.FUS_Z_STAT_OVT z = 0 ∧ (t.rget R.FUS_STAT).testBit (8 + z) = false ∧
        s.regsApart (fun a => a = R.FUS_Z_STAT.addr z 0 ∨ a = R.FUS_STAT.addr 0 0) t) ∧
    (z < 4 → s.fsigned F.FUS_Z_TRIP_TRIP z - 160 ≤ s.fsigned F.FUS_Z_TEMP_TEMP z ∨ s.fget F.FUS_Z_STAT_FAULT z = 1 →
      ∃ t, exec (.zoneTripclr z) s = .next t ∧ t = { s with regs := t.regs, rcd := t.rcd } ∧ s.regsApart recTouched t) ∧
    (s.boundary = false ∨ nth s.power.fus.dis z 0 < 50 ∨ nth s.power.fus.disTold z false = true → exec (.disagree z) s = .next s) ∧
    (z < 4 → s.atBoundary → s.ticking = true → 50 ≤ nth s.power.fus.dis z 0 → nth s.power.fus.disTold z false = false → s.power.fus.disTold.length = 4 →
      ∃ t, exec (.disagree z) s = .next t ∧ t.fget F.FUS_Z_STAT_DISAGREE z = 1 ∧ nth t.power.fus.disTold z false = true ∧
        (∀ k, k ≠ z → nth t.power.fus.disTold k false = nth s.power.fus.disTold k false) ∧
        s.regsApart (fun a => a = R.FUS_Z_STAT.addr z 0 ∨ recTouched a) t ∧
        t = { s with regs := t.regs, rcd := t.rcd, power := { s.power with fus := { s.power.fus with disTold := t.power.fus.disTold } } })

/-- The line in the mains section (R373 to R378, R386, R388, R389, R396, Table 13-4): ZERO_CROSS, MISSING_ZERO_CROSS,
BRIDGE_CURRENT_LIMIT, MAINS_SECTION_POWER_UP and the standby converter's events. Each changes the mains section alone. Each of these
commands completes: ZERO_CROSS in every state and of every length; MISSING_ZERO_CROSS when one is missing; BRIDGE_CURRENT_LIMIT of a bridge
that runs; STANDBY_CONVERTER_START, STOP of each kind, and RETRY. On an L variant, which has no mains section, nothing happens. -/
def Obligations.mains_section : Prop :=
  ∀ (s : State) (rms len k run why : Nat),
    let m := s.power.mns
    let only (t : State) : Prop := t = s.setMns t.power.mns
    let good : Prop := 7900 ≤ len ∧ len ≤ 10700
    (s.variant.mains = false → exec (.zeroCross rms len) s = .next s ∧ exec (.missingZeroCross rms) s = .next s ∧
      exec (.bridgeCurrentLimit k run) s = .next s ∧ exec .mainsSectionPowerUp s = .next s ∧ exec .standbyConverterStart s = .next s ∧
      exec (.standbyConverterStop why) s = .next s ∧ exec .standbyConverterRetry s = .next s) ∧
    (s.variant.mains = true → good → ∃ t, exec (.zeroCross rms len) s = .next t ∧ let u := t.power.mns
      only t ∧ u.rms = rms ∧ u.len = len ∧ u.lens = (len :: m.lens).take 8 ∧ u.missRun = 0 ∧ u.zcAt = some s.time16 ∧ u.zcMiss = false ∧ u.papp = m.total ∧ u.cmds = m.cmds ∧ u.cfg = m.cfg ∧
      (m.st = 0 ∨ m.st = 4 → u.st = if 850 ≤ rms then 1 else m.st) ∧
      (m.st = 1 → rmsRow rms = m.row → m.row ≠ 0 → 31 ≤ m.count → u.st = 2 ∧ u.nom = m.row ∧ u.rsrc = max (m.cget F.MNS_FLK_RREF) 1) ∧
      (m.st = 1 → (rmsRow rms ≠ m.row ∨ m.count < 31) → u.st = 1 ∧ u.nom = m.nom) ∧
      (m.st = 2 → m.nom ≠ 0 → 60 * m.unom ≤ 10 * rms → 10 * rms < 85 * m.unom → rms ≤ 3000 → u.st = 3 ∧ u.nom = m.nom) ∧
      (m.st = 3 → m.nom ≠ 0 → 60 * m.unom ≤ 10 * rms → 90 * m.unom ≤ 10 * rms → rms ≤ 3000 → u.st = 2 ∧ u.nom = m.nom) ∧
      (m.st = 2 ∨ m.st = 3 → m.nom ≠ 0 → 10 * rms < 60 * m.unom → 1 ≤ m.lowRun → u.st = 4 ∧ u.nom = 0 ∧ u.applied = [0, 0, 0, 0]) ∧
      (m.st = 2 ∨ m.st = 3 → 3000 < rms → u.st = m.st ∧ u.ov = true ∧ u.applied = [0, 0, 0, 0]) ∧
      (m.ramp = none → u.total ≤ u.pflk ∧ u.total ≤ u.pcap ∧ u.total ≤ m.total + max (m.cget F.MNS_FLK_FSTEP) 1)) ∧
    (s.variant.mains = true → ¬ good → ∃ t, exec (.zeroCross rms len) s = .next t ∧ only t ∧ t.power.mns.missRun = min 255 (m.missRun + 1) ∧
      t.power.mns.lens = (len :: m.lens).take 8) ∧
    (s.variant.mains = true → m.crossMissing s.time16 = false → exec (.missingZeroCross rms) s = .next s) ∧
    (s.variant.mains = true → m.crossMissing s.time16 = true → ∃ t, exec (.missingZeroCross rms) s = .next t ∧ let u := t.power.mns
      only t ∧ u.missRun = min 255 (m.missRun + 1) ∧ u.rms = rms ∧ u.len = m.len ∧ u.lens = m.lens.take 8 ∧ u.zcAt = some s.time16 ∧ u.zcMiss = true ∧
      u.triac = [(if u.runs then (nth m.triac 0 (0, false)).1 else 0, false), (if u.runs then (nth m.triac 1 (0, false)).1 else 0, false)] ∧
      (m.st = 2 ∨ m.st = 3 → 2 ≤ m.missRun → rms ≤ 3000 → u.st = 4 ∧ u.nom = 0 ∧ u.applied = [0, 0, 0, 0])) ∧
    (s.variant.mains = true → 2 ≤ k ∨ m.runs = false ∨ (m.br k).stopped = true ∨ run < 8 → exec (.bridgeCurrentLimit k run) s = .next s) ∧
    (s.variant.mains = true → k < 2 → m.bridge.length = 2 → m.runs = true → (m.br k).stopped = false → 8 ≤ run → ∃ t, exec (.bridgeCurrentLimit k run) s = .next t ∧ let u := t.power.mns
      only t ∧ (u.br k).stopped = true ∧ (u.br k).freq = 0 ∧ (u.br k).halves = (m.br k).halves + 1 ∧
      u.invflt = decide (15 ≤ (m.br k).halves) ∧ u.cmds = m.cmds ∧ u.st = m.st) ∧
    (s.variant.mains = true → exec .mainsSectionPowerUp s = .next (s.setMns { Mns.blank with sby := m.sby })) ∧
    (s.variant.mains = true → exec .standbyConverterStart s = .next (if m.sby = 0 then s.setMns { m with sby := 1 } else s)) ∧
    (s.variant.mains = true → exec (.standbyConverterStop 0) s = .next (s.setMns { m with sby := 0 })) ∧
    (s.variant.mains = true → exec (.standbyConverterStop 1) s = .next (if m.sby = 1 then s.setMns { m with sby := 3 } else s)) ∧
    (s.variant.mains = true → exec (.standbyConverterStop 2) s = .next (if m.sby = 1 ∨ m.sby = 3 then s.setMns { m with sby := 2 } else s)) ∧
    (s.variant.mains = true → exec (.standbyConverterStop 3) s = .next (if m.sby = 3 then s.setMns { m with sby := 1 } else s)) ∧
    (s.variant.mains = true → exec .standbyConverterRetry s = .next (if m.sby = 2 then s.setMns { m with sby := 1 } else s))

/-- The Guyline and the configuration of the mains section (R386, R387, R391 to R395): GUYLINE_FRAME, GUYLINE_LOSS, RETURN_FRAME_LOSS,
MNS_CONFIG_WRITE, INVEN_WRITE and INVFCLR. Each of these commands completes, also where it finds nothing to do or the write is
refused. -/
def Obligations.guyline_effects : Prop :=
  ∀ (s : State) (f : GlFrame) (off v i j : Nat) (r : RegDesc),
    let m := s.power.mns
    let w := v &&& r.fields.foldl (fun a f => a ||| ((2 ^ (f.hi + 1 - f.lo) - 1) * 2 ^ f.lo)) 0
    let queued (o x : Nat) (q : List (Nat × Nat)) : Prop :=
      (o, x) ∈ q ∧ (∀ e, e ∈ q → e.1 ≠ o → e ∈ s.power.cfgq) ∧ (∀ e, e ∈ s.power.cfgq → e.1 ≠ o → e ∈ q)
    let onlyCfg (t : State) : Prop := t = { s with regs := t.regs, power := { s.power with cfgq := t.power.cfgq } }
    let missed (t : State) : Prop := t.power.mns = { m with
      missing := min 255 (m.missing + 1)
      goodRun := 0
      heard := true
      ramp := if 1 ≤ m.missing ∧ m.ramp = none then some (0, m.applied) else m.ramp
      glfault := if 1 ≤ m.missing ∧ m.ramp = none then true else m.glfault }
    let sentLost (t : State) : Prop :=
      t.fget F.MNS_EVCNT_GLMISS = min (s.fget F.MNS_EVCNT_GLMISS + 1) 255 ∧
      t = { s with regs := t.regs, power := { s.power with flight := none, mns := t.power.mns } } ∧
      s.regsApart (fun a => a = R.MNS_EVCNT.addr 0 0 ∨ a = R.MNS_STAT.addr 0 0) t
    s.variant.mains = true →
    (s.phase ≠ 2 ∨ s.power.flight = none ∨ m.heard = true → exec .guylineFrame s = .next s) ∧
    (s.phase = 2 → s.power.flight = some f → m.heard = false → f.linkloss = false → f.cfg = none → m.ramp = none →
      ∃ t, exec .guylineFrame s = .next t ∧ let u := t.power.mns
        u.cmds = f.cmds ∧ u.hold = f.hold ∧ u.inven = f.inven ∧ u.seq = some f.seq ∧ u.missing = 0 ∧ u.heard = true ∧ u.total ≤ m.lim ∧ u.st = m.st ∧
        t = { s with regs := t.regs, power := { s.power with flight := none, mns := u } } ∧ s.regsApart (fun a => a = R.MNS_EVCNT.addr 0 0) t) ∧
    (s.phase = 2 → s.power.flight = some f → m.heard = false → f.linkloss = true → f.cfg = none → ∃ t, exec .guylineFrame s = .next t ∧
      missed t ∧ sentLost t) ∧
    (s.ticking = true → s.phase = 2 → s.pwr.asleep = false → s.power.flight = some f → f.cfg = none → m.heard = false → 1 ≤ m.missing →
      ∃ t, exec .guylineLoss s = .next t ∧ missed t ∧ sentLost t) ∧
    (s.ticking = true → s.phase ≠ 2 ∨ s.pwr.asleep = true ∨ m.heard = true ∨ m.missing = 0 → exec .guylineLoss s = .next s) ∧
    (s.ticking = false → s.power.flight = none → m.heard = false → 1 ≤ m.missing → m.ramp = none → ∃ t, exec .guylineLoss s = .next t ∧
      t = s.setMns t.power.mns ∧ t.power.mns.missing = min 255 (m.missing + 1) ∧ t.power.mns.ramp = some (1, m.applied) ∧
      t.power.mns.glfault = true ∧ t.power.mns.heard = false ∧ (∀ z, nth t.power.mns.applied z 0 ≤ nth m.applied z 0)) ∧
    (s.boundary = false ∨ s.power.retMiss ≠ 1 → exec .returnFrameLoss s = .next s) ∧
    (s.atBoundary → s.ticking = true → s.power.retMiss = 1 → ∃ t, exec .returnFrameLoss s = .next t ∧
      t.fget F.MNS_STAT_LINK = 0 ∧ t.power = { s.power with linkloss := true, retMiss := 2 } ∧
      (s.fget F.MNS_STAT_LINK = 0 → t.seq = s.seq ∧ t.log = s.log ∧ t.msixPend = s.msixPend) ∧
      (s.fget F.MNS_STAT_LINK = 1 → t.seq.arrivals = s.seq.arrivals ++ [.set 802] ∧ s.vectored t 15) ∧
      s.regsApart (fun a => a = R.MNS_STAT.addr 0 0 ∨ a = R.SEQ_EV.addr 25 0 ∨ recTouched a) t ∧
      t = { s with
        regs := t.regs
        seq := t.seq
        log := t.log
        msixPend := t.msixPend
        rcd := t.rcd
        power := t.power }) ∧
    (mnsConfig off = false → exec (.mnsConfigWrite off v) s = .next s) ∧
    (mnsConfig off = true → off ≠ 0x08 → findReg (R.MNS_STAT.addr 0 0 + off) = some (r, i, j) → r.addr i j = R.MNS_STAT.addr 0 0 + off →
      ∃ t, exec (.mnsConfigWrite off v) s = .next t ∧ t.rget r i j = w % 2 ^ 32 ∧ queued off w t.power.cfgq ∧ onlyCfg t ∧
        s.regsApart (fun a => a = r.addr i j ∨ a = R.MNS_STAT.addr 0 0) t) ∧
    (s.invenOk false = true → ∃ t, exec (.invenWrite 1) s = .next t ∧ t.fget F.MNS_CTRL_INVEN = 1 ∧ t.fget F.MNS_CTRL_FULL = 0 ∧ queued 8 0 t.power.cfgq ∧
      onlyCfg t ∧ s.regsApart (fun a => a = R.MNS_CTRL.addr 0 0 ∨ a = R.MNS_STAT.addr 0 0) t) ∧
    (s.invenOk false = false → ∃ t, exec (.invenWrite 1) s = .next t ∧ t.fget F.MNS_CTRL_INVEN = 0 ∧
      t = { s with regs := t.regs, rcd := t.rcd, power := { s.power with cfgq := t.power.cfgq } } ∧
      s.regsApart (fun a => a = R.MNS_CTRL.addr 0 0 ∨ a = R.MNS_STAT.addr 0 0 ∨ recTouched a) t) ∧
    (s.rget R.MNS_CTRL = 4 → ∃ t, exec .invfclr s = .next t ∧ t.rget R.MNS_CTRL = 4 ∧ queued 8 6 t.power.cfgq ∧ onlyCfg t ∧
      s.regsApart (fun a => a = R.MNS_CTRL.addr 0 0 ∨ a = R.MNS_STAT.addr 0 0) t) ∧
    (s.rget R.MNS_CTRL = 0 → ∃ t, exec .invfclr s = .next t ∧ t.rget R.MNS_CTRL = 0 ∧ queued 8 2 t.power.cfgq ∧ onlyCfg t ∧
      s.regsApart (fun a => a = R.MNS_CTRL.addr 0 0 ∨ a = R.MNS_STAT.addr 0 0) t)

/-- The states of a FOC channel (R407 to R415, Table 14-3): FOC_START, FOC_STOP and FLTCLR with what they do at phase 0, OBSERVE_END,
BRAKE_TIMEOUT, ALIGN_END, HFI_HANDOVER and OBS_RETURN. Each of these commands completes: FOC_START, FOC_STOP and FLTCLR in every state; the
others at the boundary at which what they tell of is due, and at any other moment, where they change nothing. -/
def Obligations.motor_states : Prop :=
  ∀ (s : State) (n amp ld lq : Nat) (speed : Int),
    let x := s.foc n
    let only (t : State) : Prop := (∀ k, k ≠ n → t.foc k = s.foc k) ∧
      t = { s with
        regs := t.regs
        seq := t.seq
        log := t.log
        msixPend := t.msixPend
        motion := { s.motion with foc := t.motion.foc } } ∧
      s.regsApart (fun a => a = R.FOC_C_STAT.addr n 0 ∨ a = R.FOC_C_SPEED.addr n 0 ∨ a = R.SEQ_EV.addr 25 0) t
    let enters (t : State) (st : Nat) : Prop := t.focState n = st ∧ (t.foc n).ticks = 0 ∧ only t ∧ t.log = s.log ∧ t.msixPend = s.msixPend
    let runs (t : State) (st : Nat) : Prop := enters t st ∧ (t.foc n).enter = true ∧ (t.foc n).fw = 0 ∧ t.seq.arrivals = s.seq.arrivals ++ [.set 804]
    let faults (t : State) (code : Nat) : Prop := t.focState n = 6 ∧ t.fget F.FOC_C_STAT_FAULT n = code ∧ only t ∧ s.vectored t 16 ∧
      t.seq.arrivals = s.seq.arrivals ++ [.set 805]
    let strong : Prop := s.fget F.FOC_C_MOTOR_KE n * s.fget F.FOC_C_MOTOR_RATED n ≤ amp * 20000 ∧
      48000 ≤ speed.natAbs * max 1 (s.fget F.FOC_C_CFG_PP n)
    let due : Prop := s.atBoundary ∧ s.ticking = true ∧ x.stop = false
    let ready : Bool := s.boundary && !x.stop
    s.focPresent n = true → s.motion.foc.length = 12 →
    (exec (.focStart n) s = .next (s.setFoc n { x with start := true })) ∧
    (exec (.focStop n) s = .next (s.setFoc n { x with stop := true })) ∧
    (exec (.fltclr n) s = .next (s.setFoc n { x with fltclr := true })) ∧
    (x.start = true → x.stop = false → x.fltclr = false → s.focStartable n = true →
      let t := s.focCommands n; t.focState n = 1 ∧ (t.foc n).start = false ∧ t.fget F.FOC_C_STAT_REV n = 0) ∧
    (x.stop = true → x.fltclr = false → s.focState n ≠ 0 → s.focState n ≠ 6 →
      let t := s.focCommands n; t.focState n = 0 ∧ (t.foc n).stop = false ∧ (t.foc n).start = false) ∧
    (x.fltclr = true → x.stop = false → x.start = false → s.focState n = 6 →
      let t := s.focCommands n; t.focState n = 0 ∧ t.fget F.FOC_C_STAT_FAULT n = 0) ∧
    (due → s.focState n = 1 → ¬ strong → ∃ t, exec (.observeEnd n amp speed) s = .next t ∧ enters t 3 ∧ t.seq.arrivals = s.seq.arrivals) ∧
    (due → s.focState n = 1 → strong → speed < 0 → ∃ t, exec (.observeEnd n amp speed) s = .next t ∧ enters t 2 ∧ t.fget F.FOC_C_STAT_REV n = 1 ∧ t.rget R.FOC_C_SPEED n = unsign 32 speed ∧ t.seq.arrivals = s.seq.arrivals) ∧
    (due → s.focState n = 1 → strong → 0 ≤ speed → ∃ t, exec (.observeEnd n amp speed) s = .next t ∧ runs t (if (16 * s.fget F.FOC_C_HO_HOSPD n : Nat) ≤ speed then 5 else 4) ∧ t.rget R.FOC_C_SPEED n = unsign 32 speed) ∧
    (due → s.focState n = 2 → s.fget F.FOC_C_START_BRKTMO n * 50 ≤ x.ticks + 1 → ∃ t, exec (.brakeTimeout n) s = .next t ∧ faults t 6) ∧
    (due → s.focState n = 3 → 1100 ≤ x.ticks + 1 → max ld lq ≤ (max ld lq - min ld lq) * 20 → 0 < max ld lq →
      ∃ t, exec (.alignEnd n ld lq) s = .next t ∧ runs t 4) ∧
    (due → s.focState n = 3 → 1100 ≤ x.ticks + 1 → (max ld lq - min ld lq) * 20 < max ld lq →
      ∃ t, exec (.alignEnd n ld lq) s = .next t ∧ faults t 7) ∧
    (due → s.focState n = 4 → 16 ≤ x.hoRun → ∃ t, exec (.hfiHandover n) s = .next t ∧ enters t 5 ∧ (t.foc n).off = x.err ∧ (t.foc n).offN = 32 ∧ t.seq.arrivals = s.seq.arrivals) ∧
    (due → s.focState n = 5 → 16 ≤ x.retRun → ∃ t, exec (.obsReturn n) s = .next t ∧ enters t 4 ∧ t.seq.arrivals = s.seq.arrivals) ∧
    (ready = false ∨ s.focState n ≠ 1 → exec (.observeEnd n amp speed) s = .next s) ∧
    (ready = false ∨ s.focState n ≠ 2 ∨ x.ticks + 1 < s.fget F.FOC_C_START_BRKTMO n * 50 → exec (.brakeTimeout n) s = .next s) ∧
    (ready = false ∨ s.focState n ≠ 3 ∨ x.ticks + 1 < 1100 → exec (.alignEnd n ld lq) s = .next s) ∧
    (ready = false ∨ s.focState n ≠ 4 ∨ x.hoRun < 16 → exec (.hfiHandover n) s = .next s) ∧
    (ready = false ∨ s.focState n ≠ 5 ∨ x.retRun < 16 → exec (.obsReturn n) s = .next s)

/-- Motor protection, the buses and the brake chopper (R419 to R425, R418, R430): MOTOR_TRIP, BRAKE_CHOPPER_GATE, CHOPPER_FAULT,
CHFCLR, BUS_OVERVOLTAGE, OVCLR, BUS_UNDERVOLTAGE, BUS_UNDERVOLTAGE_CLEAR, VSAT and SPDIN_TIMEOUT. Each of these commands completes, with
samples that reach the level it tests and with others, which change nothing. -/
def Obligations.motor_protection : Prop :=
  ∀ (s : State) (n b c v w p i1 i2 i3 i4 : Nat) (driver : Bool) (e : Env),
    let brk (a : Nat) : Prop := a = R.FOC_BRKSTAT.addr 0 0
    let onlyRegs (t : State) : Prop := t = { s with regs := t.regs }
    let nom := if s.fget F.FOC_BRKCFG_BUS = 0 then 2400 else 3600
    let fld (w : Bool) : FldDesc := if w then (if b = 0 then F.FOC_BRKSTAT_OVA else F.FOC_BRKSTAT_OVB) else (if b = 0 then F.FOC_BRKSTAT_UVA else F.FOC_BRKSTAT_UVB)
    let busFault (t : State) (code : Nat) : Prop :=
      (∀ k, k < s.variant.focch → s.focBus k = b → s.focRunning k = true → t.focState k = 6 ∧ t.fget F.FOC_C_STAT_FAULT k = code) ∧
      (∀ k, k < s.variant.focch → s.focBus k ≠ b ∨ s.focRunning k = false → t.rget R.FOC_C_STAT k = s.rget R.FOC_C_STAT k) ∧
      (∀ k, k < s.variant.stpch → s.fget F.FOC_ST_CFG_BUS k = b → t.fget F.FOC_ST_CTRL_EN k = 0) ∧ .set 806 ∈ t.seq.arrivals
    let busRegs (a : Nat) : Prop := brk a ∨ a = R.SEQ_EV.addr 25 0 ∨ recTouched a ∨ (∃ k, k < 64 ∧
      (a = R.FOC_C_STAT.addr k 0 ∨ a = R.FOC_ST_CTRL.addr k 0 ∨ a = R.FOC_ST_STAT.addr k 0))
    let trip : Prop := driver = true ∨ s.fget F.FOC_C_LIMIT_IMAX n ≤ (s.focShunt n c).natAbs
    let against (i : Nat) : Prop := s.fget F.FOC_BRKSTAT_GATE = 1 ↔ i < s.fget F.FOC_BRKCFG_IMIN
    let high : Prop := 5 * busNominal b ≤ 4 * v ∧ 5 * busNominal b ≤ 4 * w
    let trips (t : State) : Prop := t.focState n = 6 ∧ t.fget F.FOC_C_STAT_FAULT n = (if driver then 2 else 1) ∧ .set 805 ∈ t.seq.arrivals
    (s.focPresent n = false ∨ s.focState n = 6 ∨ ¬ trip → exec (.motorTrip n c driver) s = .next s) ∧
    (s.focPresent n = true → s.focState n ≠ 6 → trip → s.fget F.FOC_C_CFG_CRIT n = 0 → ∃ t, exec (.motorTrip n c driver) s = .next t ∧
      trips t ∧ s.vectored t 16 ∧ t.fmt = s.fmt ∧ (∀ k, k ≠ n → t.foc k = s.foc k) ∧
      s.regsApart (fun a => a = R.FOC_C_STAT.addr n 0 ∨ a = R.SEQ_EV.addr 25 0 ∨ recTouched a) t) ∧
    (s.focPresent n = true → s.focState n ≠ 6 → trip → s.fget F.FOC_C_CFG_CRIT n = 1 → s.images e → ∃ t, exec (.motorTrip n c driver) s = .next t ∧
      trips t ∧ s.abandons t e 8) ∧
    (s.fget F.FOC_BRKSTAT_CHFLT = 0 → s.bivouac = false → s.fget F.FOC_BRKCFG_CHON * nom ≤ 100 * v → ∃ t, exec (.brakeChopperGate v) s = .next t ∧ onlyRegs t ∧
      t.fget F.FOC_BRKSTAT_GATE = 1 ∧ s.regsApart brk t) ∧
    (s.fget F.FOC_BRKSTAT_CHFLT = 1 ∨ s.bivouac = true ∨ (100 * v < s.fget F.FOC_BRKCFG_CHON * nom ∧ 100 * v < s.fget F.FOC_BRKCFG_CHOFF * nom) →
      ∃ t, exec (.brakeChopperGate v) s = .next t ∧ onlyRegs t ∧ t.fget F.FOC_BRKSTAT_GATE = 0 ∧ s.regsApart brk t) ∧
    (s.fget F.FOC_BRKSTAT_CHFLT = 1 ∨ ¬ against i1 ∨ ¬ against i2 ∨ ¬ against i3 ∨ ¬ against i4 →
      exec (.chopperFault [i1, i2, i3, i4]) s = .next { s with motion := { s.motion with brkIsns := i4 } }) ∧
    (s.fget F.FOC_BRKSTAT_CHFLT = 0 → against i1 → against i2 → against i3 → against i4 → ∃ t, exec (.chopperFault [i1, i2, i3, i4]) s = .next t ∧
      t.fget F.FOC_BRKSTAT_CHFLT = 1 ∧ t.fget F.FOC_BRKSTAT_GATE = 0 ∧ t.fget F.FOC_BRKSTAT_FTYPE = (if s.fget F.FOC_BRKSTAT_GATE = 1 then 1 else 2) ∧
      t.motion = { s.motion with brkIsns := i4 } ∧ t.seq.arrivals = s.seq.arrivals ++ [.set 806] ∧ s.vectored t 16 ∧
      s.regsApart (fun a => brk a ∨ a = R.SEQ_EV.addr 25 0 ∨ recTouched a) t) ∧
    (s.motion.brkIsns < s.fget F.FOC_BRKCFG_IMIN → ∃ t, exec .chfclr s = .next t ∧ onlyRegs t ∧ t.fget F.FOC_BRKSTAT_CHFLT = 0 ∧ s.regsApart brk t) ∧
    (s.fget F.FOC_BRKCFG_IMIN ≤ s.motion.brkIsns → exec .chfclr s = .next s) ∧
    (¬ high → exec (.busOvervoltage b v w) s = .next s) ∧
    (b < 2 → high → s.anyImaging = false → ∃ t, exec (.busOvervoltage b v w) s = .next t ∧ t.fget (fld true) = 1 ∧ busFault t 3 ∧ t.fmt = s.fmt ∧ s.regsApart busRegs t) ∧
    (b < 2 → high → s.images e → ∃ t, exec (.busOvervoltage b v w) s = .next t ∧ t.fget (fld true) = 1 ∧ busFault t 3 ∧ s.abandons t e 6) ∧
    (∃ t, exec .ovclr s = .next t ∧ onlyRegs t ∧ (10 * s.fget F.FOC_VBUS_VA < 11 * 2400 → t.fget F.FOC_BRKSTAT_OVA = 0) ∧
      (11 * 2400 ≤ 10 * s.fget F.FOC_VBUS_VA → t.fget F.FOC_BRKSTAT_OVA = s.fget F.FOC_BRKSTAT_OVA) ∧
      (10 * s.fget F.FOC_VBUS_VB < 11 * 3600 → t.fget F.FOC_BRKSTAT_OVB = 0) ∧ s.regsApart brk t) ∧
    (7 * busNominal b ≤ 10 * v → exec (.busUndervoltage b v) s = .next s) ∧
    (b < 2 → 10 * v < 7 * busNominal b → s.anyImaging = false → ∃ t, exec (.busUndervoltage b v) s = .next t ∧ t.fget (fld false) = 1 ∧ busFault t 4 ∧ t.fmt = s.fmt ∧ s.regsApart busRegs t) ∧
    (10 * v ≤ 8 * busNominal b → exec (.busUndervoltageClear b v) s = .next s) ∧
    (b < 2 → 8 * busNominal b < 10 * v → ∃ t, exec (.busUndervoltageClear b v) s = .next t ∧ onlyRegs t ∧ t.fget (fld false) = 0 ∧ s.regsApart brk t) ∧
    (s.boundary = false ∨ (s.foc n).satRun < 63 ∨ s.focLimited n = false ∨ s.focAtLimit n = false → exec (.vsat n) s = .next s) ∧
    (s.atBoundary → s.ticking = true → s.focPresent n = true → 63 ≤ (s.foc n).satRun → s.focLimited n = true → s.focAtLimit n = true → ∃ t, exec (.vsat n) s = .next t ∧ t.fget F.FOC_C_STAT_VSAT n = 1 ∧ t.seq.arrivals = s.seq.arrivals ++ [.set 807] ∧ t.tick = s.tick ∧
      s.regsApart (fun a => a = R.FOC_C_STAT.addr n 0 ∨ a = R.SEQ_EV.addr 25 0 ∨ recTouched a) t) ∧
    (s.boundary = false ∨ s.fget F.FOC_SPD_CFG_MODE p < 2 ∨ s.spdAge p + 1 < max 1 (s.fget F.FOC_SPD_CFG_TMO p) →
      exec (.spdinTimeout p) s = .next s) ∧
    (s.atBoundary → s.ticking = true → p < 4 → 2 ≤ s.fget F.FOC_SPD_CFG_MODE p → max 1 (s.fget F.FOC_SPD_CFG_TMO p) ≤ s.spdAge p + 1 → s.fget F.FOC_SPD_VAL_LOST p = 0 →
      ∃ t, exec (.spdinTimeout p) s = .next t ∧ t.fget F.FOC_SPD_VAL_VALUE p = 0 ∧ t.fget F.FOC_SPD_VAL_LOST p = 1 ∧
        t.seq.arrivals = s.seq.arrivals ++ [.set 808] ∧ t = { s with regs := t.regs, seq := t.seq } ∧
        s.regsApart (fun a => a = R.FOC_SPD_VAL.addr p 0 ∨ a = R.SEQ_EV.addr 25 0) t)

/-- ESTOP and ESTOP_N_RISE (R263, R264, R353, R366, R420): lasers, motors, HV drives and fuser commands stop at once; the rise
lets the HV drives return and begins the 100 ms of the interlock. Both commands complete. -/
def Obligations.emergency_stop : Prop :=
  ∀ (s : State) (e : Env),
    let driven (k : Nat) : Prop := s.fget F.HVS_C_CTRL_EN k = 1 ∧ s.hvType k ≠ 0 ∧ s.fget F.HVS_C_STAT_STATE k ≠ 3
    let turns (k : Nat) : Prop := s.hvType k = 2 ∧ (s.hv k).duty ≠ 0 ∧ decide ((s.hv k).duty < 0) ≠ (s.fget F.HVS_C_STAT_POLNOW k == 1)
    let stopped (t : State) : Prop := t.pins = { s.pins with estopN := false } ∧ t.fget F.EXP_ILK_ESTOP = 1 ∧ t.fget F.EXP_ILK_TRIPPED = 1 ∧
      (∀ k, k < s.variant.stn → t.fget F.EXP_S_STAT_LDOUT k = 0) ∧
      (∀ k, k < s.variant.focch → s.focRunning k = true → t.focState k = 6 ∧ t.fget F.FOC_C_STAT_FAULT k = 5) ∧
      (∀ k, k < s.variant.stpch → t.fget F.FOC_ST_CTRL_EN k = 0) ∧
      (∀ k, k < s.variant.hvch → driven k → t.fget F.HVS_C_STAT_STATE k = 5) ∧
      t.power.fus.zeroed = [true, true, true, true] ∧ t.power.fus.high = 0
    (s.pins.estopN = true → s.imagesNone → s.power.fus.zeroed.length = 4 → ∃ t, exec .estop s = .next t ∧ stopped t ∧ t.fmt = s.fmt) ∧
    (s.pins.estopN = true → s.images e → s.power.fus.zeroed.length = 4 → ∃ t, exec .estop s = .next t ∧ stopped t ∧ s.abandons t e 5) ∧
    (s.pins.estopN = false → exec .estop s = .next s) ∧
    (s.pins.estopN = true → exec .estopNRise s = .next s) ∧
    (s.pins.estopN = false → s.bivouac = false → ∃ t, exec .estopNRise s = .next t ∧ t.pins = { s.pins with estopN := true } ∧ t.fget F.EXP_ILK_ESTOP = 0 ∧
      t.fget F.EXP_ILK_TRIPPED = s.fget F.EXP_ILK_TRIPPED ∧ t.img.ilkSince = s.time16 ∧
      (∀ k, k < s.variant.hvch → driven k → t.fget F.HVS_C_STAT_STATE k =
        if (s.hv k).refused then 4 else if (s.hv k).hold.isSome ∨ turns k then 2 else 1) ∧
      (∀ k, k < s.variant.hvch → driven k → (s.hv k).refused = false → (s.hv k).hold = none → turns k → (t.hv k).hold = some 0) ∧
      s.regsApart (fun a => a = R.EXP_ILK.addr 0 0 ∨ (∃ k, k < 6 ∧ a = R.EXP_S_STAT.addr k 0) ∨ (∃ k, k < 24 ∧ a = R.HVS_C_STAT.addr k 0)) t ∧
      t = { s with regs := t.regs, pins := t.pins, img := { s.img with stn := t.img.stn, ilkSince := t.img.ilkSince }, power := { s.power with hv := t.power.hv } })

/-- The axis commands (R437, R438, R441, R443, R446, R457): AXS_MOVE, AXS_VEL, AXS_ABORT, AXS_QSTOP, AXS_HOME, AXS_SETPOS and
AXS_CLRFLT wait for phase 0 with their operands; what each does there; and LIMIT_PAIR_WRITE. Each of these commands completes, with an axis
in any state. -/
def Obligations.axis_commands : Prop :=
  ∀ (s : State) (n w : Nat) (v : Int),
    let x := s.axis n
    let tgt := s.pair48 R.AXS_A_TGT_LO R.AXS_A_TGT_HI n
    let inRange : Prop := -(2 ^ 47) ≤ v ∧ v < 2 ^ 47
    let waits (t : State) (code : Nat) : Prop := t.axis n = { x with cmd := some code } ∧ (∀ k, k ≠ n → t.axis k = s.axis k) ∧
      t = { s with regs := t.regs, motion := { s.motion with axis := t.motion.axis } }
    let tgtReg (a : Nat) : Prop := a = R.AXS_A_TGT_LO.addr n 0 ∨ a = R.AXS_A_TGT_HI.addr n 0
    let st := s.axState n
    let mayPlan : Prop := 2 ≤ s.axMode n ∧ s.axPlannable n = true ∧ s.fget F.AXS_A_CFG_LIMEN n = 0
    let from_ (y : Axis) : Prop := y.p0 = x.p * 2 ^ 48 ∧ y.v0 = x.v * 2 ^ 48 ∧ y.a0 = x.a * 2 ^ 32 ∧ y.t = 0 ∧ y.p = x.p
    let refused (t : State) : Prop := t.fget F.AXS_A_STAT_CMDERR n = 1 ∧ t.motion = s.motion ∧
      s.regsApart (fun a => a = R.AXS_A_STAT.addr n 0 ∨ recTouched a) t
    n < 36 → s.motion.axis.length = 36 →
    (inRange → ∃ t, exec (.axsMove n v) s = .next t ∧ waits t 1 ∧ t.pair48 R.AXS_A_TGT_LO R.AXS_A_TGT_HI n = v ∧ s.regsApart tgtReg t) ∧
    (inRange → ∃ t, exec (.axsSetpos n v) s = .next t ∧ waits t 6 ∧ t.pair48 R.AXS_A_TGT_LO R.AXS_A_TGT_HI n = v ∧ s.regsApart tgtReg t) ∧
    (∃ t, exec (.axsVel n v) s = .next t ∧ waits t 2 ∧ t.rget R.AXS_A_VTGT n = unsign 32 v ∧ s.regsApart (fun a => a = R.AXS_A_VTGT.addr n 0) t) ∧
    (exec (.axsAbort n) s = .next (s.setAxis n { x with cmd := some 3 })) ∧
    (exec (.axsQstop n) s = .next (s.setAxis n { x with cmd := some 4 })) ∧
    (exec (.axsHome n) s = .next (s.setAxis n { x with cmd := some 5 })) ∧
    (exec (.axsClrflt n) s = .next (s.setAxis n { x with cmd := some 7 })) ∧
    (mayPlan → st ≤ 3 ∨ st = 5 ∨ st = 6 → s.axBlocked n (tgt - x.cmdPos) = false → let t := s.axCommand n 1
      t.axState n = 1 ∧ (t.axis n).endP = some tgt ∧ (t.axis n).goal = .move ∧ from_ (t.axis n)) ∧
    (mayPlan → st = 4 ∨ st = 7 → refused (s.axCommand n 1)) ∧
    (mayPlan → st ≤ 3 ∨ st = 5 ∨ st = 6 → s.axBlocked n (s.fsigned ⟨R.AXS_A_VTGT, 31, 0⟩ n) = false → let t := s.axCommand n 2
      t.axState n = 2 ∧ (t.axis n).endP = none ∧ (t.axis n).hold = true ∧ from_ (t.axis n)) ∧
    (2 ≤ s.axMode n → st = 1 ∨ st = 2 ∨ st = 3 → s.fget F.AXS_A_CFG_LIMEN n = 0 → ∀ code, code = 3 ∨ code = 4 → let t := s.axCommand n code
      t.axState n = 3 ∧ (t.axis n).goal = .stop ∧ from_ (t.axis n)) ∧
    (mayPlan → st = 0 ∨ st = 5 ∨ st = 6 → s.homeConfigured n = true → let t := s.axCommand n 5
      t.axState n = 4 ∧ t.fget F.AXS_A_STAT_HOMED n = 0 ∧ (t.axis n).goal = .search ∧ (t.axis n).hold = true ∧ from_ (t.axis n)) ∧
    (1 ≤ s.axMode n → st = 0 ∨ st = 5 ∨ st = 6 → let t := s.axCommand n 6
      (t.axis n).cmdPos = tgt ∧ t.axState n = st) ∧
    (2 ≤ s.axMode n → st = 7 → let t := s.axCommand n 7; t.axState n = 0 ∧ t.fget F.AXS_A_STAT_FLT n = 0) ∧
    (inRange → w < 2 → ∃ t, exec (.limitPairWrite n w v) s = .next t ∧ t.axis n = { x with pairs := w :: x.pairs } ∧ (∀ k, k ≠ n → t.axis k = s.axis k) ∧
      (w = 0 → t.pair48 R.AXS_A_LIMLO_LO R.AXS_A_LIMLO_HI n = v) ∧ (w = 1 → t.pair48 R.AXS_A_LIMHI_LO R.AXS_A_LIMHI_HI n = v) ∧
      t = { s with regs := t.regs, motion := { s.motion with axis := t.motion.axis } } ∧
      s.regsApart (fun a => a = R.AXS_A_LIMLO_LO.addr n 0 ∨ a = R.AXS_A_LIMLO_HI.addr n 0 ∨ a = R.AXS_A_LIMHI_LO.addr n 0 ∨ a = R.AXS_A_LIMHI_HI.addr n 0) t)

/-- The events of an axis (R436, R442, R449 to R456): MOVE_COMPLETION, SWITCH_QUALIFIED, SWITCH_EDGE, HOME_EVENT, HOMING_TIMEOUT, STALL,
ENCODER_COUNT and INDEX_EDGE. Each of these commands completes: the first seven at the boundary at which what they tell of is due, and at
any other moment, where they change nothing; ENCODER_COUNT with a count up or down, an error, levels as before, and a pulse that the filter
drops. -/
def Obligations.axis_events : Prop :=
  ∀ (s : State) (n k e w : Nat) (c : Int) (a b rising : Bool),
    let x := s.axis n
    let calm : Prop := s.axState n ≠ 4 ∧ s.axState n ≠ 7
    let others (t : State) : Prop := ∀ j, j ≠ n → t.axis j = s.axis j
    let faults (t : State) (code : Nat) : Prop := t.axState n = 7 ∧ t.fget F.AXS_A_STAT_FLT n = code ∧ s.vectored t 17 ∧
      t.seq.arrivals = s.seq.arrivals ++ [.set (809 + n), .set 845] ∧
      (if n < 32 then (t.rget R.AXS_FLT0).testBit n = true else (t.rget R.AXS_FLT1).testBit (n - 32) = true) ∧ others t ∧ t.tick = s.tick
    let homeFails (t : State) (code : Nat) : Prop := t.axState n = 3 ∧ t.fget F.AXS_A_STAT_HFAIL n = code ∧ t.fget F.AXS_A_STAT_HOMED n = 0 ∧
      t.seq.arrivals = s.seq.arrivals ++ [.set 845] ∧ s.vectored t 17 ∧ (t.axis n).goal = .stop ∧ others t ∧ t.tick = s.tick
    let was := quadPlace (nth s.motion.encAB e 0)
    let now := quadPlace (bit a + 2 * bit b)
    let levels (s : State) : State := { s with motion := { s.motion with encAB := s.motion.encAB.set e (bit a + 2 * bit b) } }
    n < 36 → s.motion.axis.length = 36 → s.motion.enc.length = 24 →
    (s.atBoundary → s.ticking = true → x.goal = .move → x.segs ≠ [] → x.ended (x.t + 1) = true → x.endP = some c → 2 ≤ s.axMode n → ∃ t, exec (.moveCompletion n) s = .next t ∧ (t.axis n).p = c * 65536 ∧ (t.axis n).v = 0 ∧ (t.axis n).a = 0 ∧ (t.axis n).segs = [] ∧ t.axState n = 5 ∧
      t.seq.arrivals = s.seq.arrivals ++ [.set (809 + n)] ∧ others t ∧
      s.regsApart (fun a => a = R.AXS_A_STAT.addr n 0 ∨ a = R.SEQ_EV.addr ((809 + n) / 32) 0) t ∧
      t = { s with regs := t.regs, seq := t.seq, motion := { s.motion with axis := t.motion.axis } }) ∧
    (s.atBoundary → s.ticking = true → k < 2 → (x.swOf k).active = true → max (s.fget F.AXS_A_CFG_QUAL n) 1 ≤ (x.swOf k).run → s.fget (swBit k) n = 0 →
      s.swPin n k ≠ 0x7F → 2 ≤ s.axMode n → calm → s.fget F.AXS_A_CFG_CRIT n = 0 → ∃ t, exec (.switchQualified n k) s = .next t ∧ t.fget (swBit k) n = 1 ∧ faults t 1) ∧
    (s.atBoundary → s.ticking = true → s.axState n = 4 → x.goal = .search → s.homeCapture n = some c → x.rev = false → ∃ t, exec (.homeEvent n) s = .next t ∧ (t.axis n).p = x.p + (x.homePos - c) * 65536 ∧ (t.axis n).endP = some x.homePos ∧ (t.axis n).goal = .homing ∧
      (t.axis n).off = x.off + (x.homePos - c) ∧ t.axState n = 4 ∧ others t ∧ t.tick = s.tick ∧
      (-(2 ^ 47) ≤ c → c < 2 ^ 47 → t.pair48 R.AXS_A_HCAP_LO R.AXS_A_HCAP_HI n = c)) ∧
    (s.atBoundary → s.ticking = true → s.axState n = 4 → x.goal ≠ .homing → max (s.fget F.AXS_A_HOME_HTMO n) 1 * 50000 ≤ x.ticks →
      ∃ t, exec (.homingTimeout n) s = .next t ∧ homeFails t 2) ∧
    (s.atBoundary → s.ticking = true → calm → max (s.fget F.AXS_A_STALL_STALLN n) 1 ≤ x.stall → s.fget F.AXS_A_CFG_CRIT n = 0 → ∃ t, exec (.stall n) s = .next t ∧ faults t 2 ∧ (t.axis n).stall = 0) ∧
    (s.boundary = false → exec (.moveCompletion n) s = .next s ∧ exec (.switchQualified n k) s = .next s ∧ exec (.homeEvent n) s = .next s ∧
      exec (.homingTimeout n) s = .next s ∧ exec (.stall n) s = .next s) ∧
    (w < s.fget F.AXS_E_CFG_FILT e → exec (.encoderCount e a b w) s = .next s) ∧
    (e < 24 → s.fget F.AXS_E_CFG_FILT e ≤ w → s.fget F.AXS_E_CFG_EN e = 0 ∨ now = was → exec (.encoderCount e a b w) s = .next (levels s)) ∧
    (e < 24 → s.fget F.AXS_E_CFG_FILT e ≤ w → s.fget F.AXS_E_CFG_EN e = 1 → now = (was + 1) % 4 ∨ was = (now + 1) % 4 →
      ∃ t, exec (.encoderCount e a b w) s = .next t ∧
        nth t.motion.enc e 0 = nth s.motion.enc e 0 + (if now = (was + 1) % 4 then 1 else -1) ∧
        (∀ j, j ≠ e → nth t.motion.enc j 0 = nth s.motion.enc j 0) ∧ t.motion.encAB = (levels s).motion.encAB ∧
        (∀ j, s.fget F.AXS_A_CFG_ENC j ≠ e → t.axis j = s.axis j) ∧
        t = { s with regs := t.regs, motion := { s.motion with enc := t.motion.enc, encAB := t.motion.encAB, axis := t.motion.axis } } ∧
        s.regsApart (fun a => ∃ j, j < 36 ∧ (a = R.AXS_A_STAT.addr j 0 ∨ a = R.AXS_A_FILT_LO.addr j 0 ∨ a = R.AXS_A_FILT_HI.addr j 0)) t) ∧
    (e < 24 → s.fget F.AXS_E_CFG_FILT e ≤ w → s.fget F.AXS_E_CFG_EN e = 1 → (now + 2) % 4 = was →
      exec (.encoderCount e a b w) s = .next ((levels s).finc F.AXS_E_ERR_COUNT 1 e)) ∧
    (s.fget F.AXS_E_CFG_EN e = 0 ∨ rising = (s.fget F.AXS_E_CFG_ZPOL e == 1) → exec (.indexEdge e rising) s = .next s) ∧
    (e < 24 → s.fget F.AXS_E_CFG_EN e = 1 → rising ≠ (s.fget F.AXS_E_CFG_ZPOL e == 1) → ∃ t, exec (.indexEdge e rising) s = .next t ∧
      (s.fget F.AXS_A_CFG_ENC n = e → s.axState n = 4 → t.axis n = { x with idx := x.idx ++ [s.axRaw n] }) ∧
      (s.fget F.AXS_A_CFG_ENC n ≠ e ∨ s.axState n ≠ 4 → t.axis n = x) ∧ t = { s with motion := { s.motion with axis := t.motion.axis } }) ∧
    (k < 64 → ∀ level, ∃ t, exec (.switchEdge k level) s = .next t ∧ t.pins = { s.pins with gpio := putBits s.pins.gpio k k (bit level) } ∧
      t = { s with pins := t.pins, motion := { s.motion with axis := t.motion.axis } } ∧
      (∀ j, j < 3 → x.sw.length = 3 → s.swPin n j = k → s.swActive n j s.pins.gpio = false → s.swActive n j t.pins.gpio = true →
        ((t.axis n).swOf j).edge = s.axRaw n ∧ ((t.axis n).swOf j).active = (x.swOf j).active))

/-- The DRAM controller's service (R462 to R464, R469 to R474, R476 to R480): DRAM_REQUEST, BURST_GRANT with the choice of the burst of least
key, DRAM_READ_COMPLETE, DRAM_WRITE_COMPLETE and REFRESH. Each of these commands completes: DRAM_REQUEST of a read and of a write;
BURST_GRANT with a burst whose reads are good and with one that fails; a completion with a request that is done, and of a write on a
channel FAILED; REFRESH that issues and that waits. Where there is nothing to do they leave the state as it is. -/
def Obligations.dram_service : Prop :=
  ∀ (s : State) (c port addr sub i k rank : Nat) (wr : Bool) (data : List Nat) (r : DramReq),
    let x := s.chan c
    let now := s.drcNow sub
    let cyc := s.cycNow sub
    let ready : Prop := s.fget F.DRC_C_STAT_STATE c = 3
    let others (t : State) : Prop := ∀ k, k ≠ c → t.chan k = s.chan k
    let lo := max r.addr (k * 64)
    let hi := min (r.addr + r.data.length) (k * 64 + 64)
    let fits : Prop := s.bivouac = false ∧ portDir port wr = true ∧ data ≠ [] ∧ (burstsOf addr data.length).length ≤ 64 ∧
      addr + data.length ≤ s.dramCap c * 65536
    let o := x.owedOf rank cyc
    let urgent := s.rankUrgent c rank now
    let waiting : Prop := ∃ q ∈ x.reqs, ∃ b ∈ q.left, (s.burstMap c b).rank = rank
    let issues : Prop := nth x.stall rank 0 ≤ cyc ∧ (nth x.forced rank false = true ∨ 8 ≤ o ∨ 0 < o ∧ urgent = false ∨ ¬ waiting ∧ -8 < o)
    c < s.variant.drch → s.dramCh.length = 4 →
    (fits → exec (.dramRequest c port wr addr data sub) s = .next (s.setChan c { x with reqs := x.reqs ++ [
        { port := port, wr := wr, addr := addr, data := if wr then data else List.replicate data.length 0
          left := burstsOf addr data.length, bad := [], issue := now, dl := (now + s.drcLat port) % 2 ^ 32 }] })) ∧
    (¬ fits → exec (.dramRequest c port wr addr data sub) s = .next s) ∧
    -- the burst of least key
    (¬ ready ∨ s.candidates c sub true = [] → exec (.burstGrant c sub []) s = .next s) ∧
    (s.candidates c sub true ≠ [] → s.chooseBurst c sub true ≠ none) ∧
    (s.chooseBurst c sub true = some (i, k) → (i, k) ∈ s.candidates c sub true ∧
      ∀ q ∈ s.candidates c sub true, s.burstKey c now i k ≤ s.burstKey c now q.1 q.2) ∧
    (ready → s.chooseBurst c sub true = some (i, k) → x.reqs[i]? = some r → ∃ t, exec (.burstGrant c sub []) s = .next t ∧
      (t.chan c).reqs = x.reqs.set i { r with
        left := r.left.filter (· ≠ k)
        data := if r.wr then r.data else r.data.take (lo - r.addr) ++ s.dramGet c lo (hi - lo) ++ r.data.drop (hi - r.addr) } ∧
      (t.chan c).grants = (r.port :: x.grants).take 63 ∧
      (r.wr = false → t.dram = s.dram) ∧ (r.wr = true → t.dram = (s.dramPut c lo ((r.data.drop (lo - r.addr)).take (hi - lo))).dram) ∧
      (3 ≤ s.reqUrg r now → t.fget F.DRC_P_STAT_LATE r.port = min (s.fget F.DRC_P_STAT_LATE r.port + 1) 65535) ∧ others t ∧
      t = { s with regs := t.regs, dram := t.dram, dramCh := t.dramCh, log := t.log } ∧
      s.regsApart (fun a => a = R.DRC_P_STAT.addr r.port 0 ∨ a = R.DRC_C_LINKCE.addr c 0) t) ∧
    (ready → s.chooseBurst c sub true = some (i, k) → x.reqs[i]? = some r → r.wr = false → x.link = false → r.port < 10 →
      ∃ t, exec (.burstGrant c sub (List.replicate 8 2)) s = .next t ∧
        (t.chan c).reqs = x.reqs.set i { r with left := r.left.filter (· ≠ k), bad := r.bad ++ [k] } ∧
        t.fget F.DRC_C_ECC_UE c = min (s.fget F.DRC_C_ECC_UE c + 1) 65535 ∧ t.rget R.DRC_C_ERRADDR c = 2 ^ 31 + k % 2 ^ 27 ∧
        t.seq.arrivals = s.seq.arrivals ++ [.set 847] ∧ (∃ l, t.log = s.log ++ l) ∧ t.dram = s.dram ∧ others t) ∧
    -- answers
    (s.doneReq c false = none → exec (.dramReadComplete c) s = .next s) ∧
    (s.doneReq c false = some (i, r) → ∃ t, exec (.dramReadComplete c) s = .next t ∧ (t.chan c).reqs = x.reqs.eraseIdx i ∧
      t.log = s.log ++ [.dramDone c r.port false r.bad r.data] ∧ others t ∧ t = { s with log := t.log, dramCh := t.dramCh }) ∧
    (s.doneReq c true = none → s.fget F.DRC_C_STAT_STATE c ≠ 7 → x.retrainAt = none → exec (.dramWriteComplete c) s = .next s) ∧
    (s.doneReq c true = some (i, r) → r.port ≠ 3 ∨ r.bad = [] → ∃ t, exec (.dramWriteComplete c) s = .next t ∧
      (t.chan c).reqs = x.reqs.eraseIdx i ∧ t.log = s.log ++ [.dramDone c r.port true r.bad []] ∧ others t ∧
      t = { s with log := t.log, dramCh := t.dramCh }) ∧
    (s.doneReq c true = none → s.fget F.DRC_C_STAT_STATE c = 7 → x.reqs = r :: x.reqs.drop 1 → r.wr = true → r.port ≠ 3 →
      ∃ t, exec (.dramWriteComplete c) s = .next t ∧ (t.chan c).reqs = x.reqs.drop 1 ∧
        t.log = s.log ++ [.dramDone c r.port true (r.bad ++ r.left) []] ∧ others t ∧ t = { s with log := t.log, dramCh := t.dramCh }) ∧
    -- a refresh
    (¬ ready ∨ s.fget F.DRC_C_STAT_RANKS c ≤ rank → exec (.refresh c rank sub) s = .next s) ∧
    (ready → rank < s.fget F.DRC_C_STAT_RANKS c → rank < 2 → x.owed.length = 2 → x.refDue.length = 2 → 0 < nth x.refInt rank 0 → ¬ issues →
      ∃ t, exec (.refresh c rank sub) s = .next t ∧ (t.chan c).owedOf rank cyc = o ∧ (t.chan c).rows = x.rows ∧ (t.chan c).stall = x.stall ∧
        others t ∧ t = { s with dramCh := t.dramCh }) ∧
    (ready → rank < s.fget F.DRC_C_STAT_RANKS c → rank < 2 → x.owed.length = 2 → x.forced.length = 2 → x.refDue.length = 2 → x.refInt.length = 2 →
      x.stall.length = 2 → x.rows.length = 32 → 0 < nth x.refInt rank 0 → issues → ∃ t, exec (.refresh c rank sub) s = .next t ∧
        (t.chan c).owedOf rank cyc = o - 1 ∧ (t.chan c).reqs = x.reqs ∧
        (nth (t.chan c).forced rank false = true ↔ (nth x.forced rank false = true ∨ 8 ≤ o) ∧ 4 < o - 1) ∧
        nth (t.chan c).refInt rank 0 = refInterval (s.fget F.DRC_C_STAT_REFX c) ∧
        nth (t.chan c).stall rank 0 = cyc + refStall (s.fget F.DRC_C_STAT_DENS c) ∧
        (∀ b, b < 16 → nth (t.chan c).rows (16 * rank + b) none = none ∧
          nth (t.chan c).rows (16 * (1 - rank) + b) none = nth x.rows (16 * (1 - rank) + b) none) ∧
        t.log = s.log ++ [.dramCmd c 1] ∧ others t ∧ t = { s with log := t.log, dramCh := t.dramCh })

/-- The DRAM controller's upkeep (R460, R465 to R468, R477, R481): MR4_READ, WCK_OSCILLATOR_READ, RETRAIN, DRAM_TRAINING and SCRUB. Each of
these commands completes: a reading when it is due, and when it is not; RETRAIN while no page is in progress, and refused; DRAM_TRAINING
with a try that succeeds, with none, and with devices outside Table 16-1; SCRUB with a good, a corrected and a failed burst. -/
def Obligations.dram_upkeep : Prop :=
  ∀ (s : State) (c rate step ranks dens : Nat) (drift : Int) (bitv bytes rates errs : List Nat) (tries : List TrainTry),
    let x := s.chan c
    let others (t : State) : Prop := ∀ k, k ≠ c → t.chan k = s.chan k
    let stat (a : Nat) : Prop := a = R.DRC_C_STAT.addr c 0
    let ready : Prop := s.fget F.DRC_C_STAT_STATE c = 3
    let told (t : State) : Prop := t.seq.arrivals = s.seq.arrivals ++ [.set 848] ∧ s.vectored t 18
    let okDev : Prop := (ranks = 1 ∨ ranks = 2) ∧ (dens = 1 ∨ dens = 2 ∨ dens = 4) ∧ ¬ (ranks = 1 ∧ dens = 1)
    let trains : Prop := s.fget F.DRC_C_STAT_STATE c = 2 ∧ s.boot.ready = true
    let devs (t : State) : Prop := t.fget F.DRC_C_STAT_RANKS c = ranks ∧ t.fget F.DRC_C_STAT_DENS c = dens ∧ t.fget F.DRC_C_STAT_TRERR c = step
    let highest := (rates.take (s.fget F.DRC_C_STAT_RANKS c)).foldl max 0
    let scrubs : Prop := ready ∧ s.fget F.DRC_SCRUB_EN = 1 ∧ s.scrubDue c = true ∧ s.rankHeld c (s.burstMap c x.scrub).rank 0 = false
    let scrubbed (t : State) : Prop := (t.chan c).scrub = (if s.dramCap c * 1024 ≤ x.scrub + 1 then 0 else x.scrub + 1) ∧
      (t.chan c).reqs = x.reqs ∧ (t.chan c).grants = (8 :: x.grants).take 63 ∧ others t
    c < s.variant.drch → s.dramCh.length = 4 →
    (¬ ready ∨ s.elapsed < x.mr4Due → exec (.mr4Read c rates) s = .next s) ∧
    (ready → x.mr4Due ≤ s.elapsed → highest < 5 → ∃ t, exec (.mr4Read c rates) s = .next t ∧ t.fget F.DRC_C_STAT_REFX c = highest ∧
      t.chan c = { x with mr4Due := s.elapsed + 50 } ∧ others t ∧ t = { s with regs := t.regs, dramCh := t.dramCh } ∧ s.regsApart stat t) ∧
    (ready → x.mr4Due ≤ s.elapsed → 5 ≤ highest → ∃ t, exec (.mr4Read c rates) s = .next t ∧ t.fget F.DRC_C_STAT_REFX c = 5 ∧ told t ∧
      t.chan c = { x with mr4Due := s.elapsed + 50 } ∧ others t ∧ s.regsApart (fun a => stat a ∨ a = R.SEQ_EV.addr 26 0 ∨ recTouched a) t) ∧
    (¬ ready ∨ s.elapsed < x.oscDue → exec (.wckOscillatorRead c drift) s = .next s) ∧
    (ready → x.oscDue ≤ s.elapsed → -8 ≤ x.drift + drift → x.drift + drift ≤ 8 → ∃ t, exec (.wckOscillatorRead c drift) s = .next t ∧
      t.chan c = { x with drift := x.drift + drift, oscDue := s.elapsed + 5000 } ∧ others t ∧
      (∀ i, i < 16 → t.fget F.DRC_C_BIT_WDSK c i = unsign 8 (s.fget F.DRC_C_BIT_WDSK c i + drift)) ∧
      t = { s with regs := t.regs, dramCh := t.dramCh } ∧ s.regsApart (fun a => ∃ i, i < 16 ∧ a = R.DRC_C_BIT.addr c i) t) ∧
    (ready → x.oscDue ≤ s.elapsed → 8 < x.drift + drift ∨ x.drift + drift < -8 → ∃ t, exec (.wckOscillatorRead c drift) s = .next t ∧
      t.fget F.DRC_C_STAT_DRIFT c = 1 ∧ told t) ∧
    (s.bivouac = true → exec (.retrain c) s = .next s) ∧
    (s.bivouac = false → s.pageBusy = true → exec (.retrain c) s = .next (s.recRule 468)) ∧
    (s.bivouac = false → s.pageBusy = false → ∃ t, exec (.retrain c) s = .next t ∧ t.fget F.DRC_C_STAT_STATE c = 2 ∧
      t.chan c = { x with rows := List.replicate 32 none, passes := List.replicate 32 0, drift := 0, retrainAt := some s.elapsed } ∧ others t ∧
      t = { s with regs := t.regs, dramCh := t.dramCh } ∧ s.regsApart (fun a => stat a ∨ a = R.DRC_STAT.addr 0 0) t) ∧
    -- training
    (s.fget F.DRC_C_STAT_STATE c ≠ 2 → exec (.dramTraining c tries ranks dens bitv bytes) s = .next s) ∧
    (s.fget F.DRC_C_STAT_STATE c = 2 → okDev → s.trainEnd c tries = none → exec (.dramTraining c tries ranks dens bitv bytes) s = .next s) ∧
    (trains → okDev → s.trainEnd c tries = some (rate, 0) → step = 0 → ∃ t, exec (.dramTraining c tries ranks dens bitv bytes) s = .next t ∧
      t.fget F.DRC_C_STAT_STATE c = 3 ∧ devs t ∧ t.dramCap c = ranks * dens * 14336 ∧ (t.chan c).reqs = x.reqs ∧ others t ∧
      (rate = s.trainRate c → t.fget F.DRC_C_STAT_DOWNRATE c = 0) ∧
      (rate < s.trainRate c → t.fget F.DRC_C_STAT_DOWNRATE c = 1 ∧ .set 848 ∈ t.seq.arrivals)) ∧
    (trains → okDev → s.trainEnd c tries = some (rate, step) → 0 < step → step < 8 →
      ∃ t, exec (.dramTraining c tries ranks dens bitv bytes) s = .next t ∧ t.fget F.DRC_C_STAT_STATE c = 7 ∧ devs t ∧ others t) ∧
    (trains → ¬ okDev → ranks < 4 → dens < 8 → step = 1 → ∃ t, exec (.dramTraining c tries ranks dens bitv bytes) s = .next t ∧
      t.fget F.DRC_C_STAT_STATE c = 7 ∧ t.fget F.DRC_C_STAT_TRERR c = 1 ∧ others t) ∧
    -- the patrol scrubber
    (¬ scrubs → exec (.scrub c errs) s = .next s) ∧
    (scrubs → x.link = false → ∃ t, exec (.scrub c []) s = .next t ∧ scrubbed t ∧ t = { s with dramCh := t.dramCh, log := t.log }) ∧
    (scrubs → x.link = false → ∃ t, exec (.scrub c [1]) s = .next t ∧ scrubbed t ∧
      t.fget F.DRC_C_ECC_CE c = min (s.fget F.DRC_C_ECC_CE c + 1) 65535 ∧ t.rget R.DRC_C_ERRADDR c = x.scrub % 2 ^ 27 ∧
      t.seq.arrivals = s.seq.arrivals ++ [.set 929] ∧ t.dram = s.dram) ∧
    (scrubs → x.link = false → ∃ t, exec (.scrub c (List.replicate 8 2)) s = .next t ∧ scrubbed t ∧
      t.fget F.DRC_C_ECC_UE c = min (s.fget F.DRC_C_ECC_UE c + 1) 65535 ∧ t.rget R.DRC_C_ERRADDR c = 2 ^ 31 + x.scrub % 2 ^ 27 ∧
      t.seq.arrivals = s.seq.arrivals ++ [.set 847] ∧ t.dram = s.dram)

/-- The control of a DMA channel (R489 to R491, R505, R506, Table 17-2): DMA_GO, DMA_START, DMA_ABORT with what it does at phase 0,
DMA_ENABLE, DMA_DISABLE and SLOTS_WRITE. Each of these commands completes: DMA_START with starts of which the first is made, refused and
with none due; DMA_ENABLE and DMA_DISABLE of a channel that is and is not in the other state; SLOTS_WRITE of 0, of a number that
fits, that does not, and out of range, on a busy and on a sequencer-owned channel. -/
def Obligations.dma_control : Prop :=
  ∀ (s : State) (c n b : Nat) (k : DmaStart) (ks : List DmaStart),
    let x := s.dmaCh c
    let sums (a : Nat) : Prop := a = R.DMA_STAT.addr 0 0 ∨ a = R.PLC_DMASLOT.addr 0 0
    let own (a : Nat) : Prop := sums a ∨ a = R.DMA_C_STAT.addr c 0
    let others (t : State) : Prop := ∀ d, d ≠ c → t.dmaCh d = s.dmaCh d
    let onlyDma (t : State) : Prop := t = { s with regs := t.regs, dma := t.dma } ∧ others t
    let v := putBits (s.rget R.DMA_C_CFG c) 26 20 n
    c < 64 → s.dma.length = 64 →
    (exec (.dmaGo c) s = .next (s.setDma c { x with go := true })) ∧
    (exec (.dmaAbort c) s = .next (s.setDma c { x with abort := true })) ∧
    (s.phase ≠ 0 ∨ x.starts = [] → exec (.dmaStart c) s = .next s) ∧
    (s.phase = 0 → x.starts = [.host] → s.dmaRefuse c .host = 0 → ∃ t, exec (.dmaStart c) s = .next t ∧ t.dmaSt c = 2 ∧ t.fget F.DMA_C_STAT_PC c = 0 ∧
      t.fget F.DMA_C_STAT_ERRCODE c = 0 ∧ t.rget R.DMA_C_LC c = 0 ∧ t.rget R.DMA_C_REM c = 0 ∧ t.dmaCh c = { x with starts := [], move := none } ∧
      onlyDma t ∧ s.regsApart (fun a => own a ∨ a = R.DMA_C_LC.addr c 0 ∨ a = R.DMA_C_REM.addr c 0) t) ∧
    (s.phase = 0 → x.starts = k :: ks → s.dmaRefuse c k = 0 → ∃ t, exec (.dmaStart c) s = .next t ∧ t.dmaSt c = 2 ∧
      t.dmaCh c = { x with starts := [], move := none } ∧ others t ∧
      (ks ≠ [] → t.fget F.DMA_C_STAT_REFUSED c = 1 ∧ t.fget F.DMA_C_STAT_REFCODE c = 1)) ∧
    (s.phase = 0 → x.starts = [k] → s.dmaRefuse c k ≠ 0 → ∃ t, exec (.dmaStart c) s = .next t ∧ t.dmaSt c = s.dmaSt c ∧
      t.fget F.DMA_C_STAT_REFUSED c = 1 ∧ t.fget F.DMA_C_STAT_REFCODE c = s.dmaRefuse c k ∧ t.dmaCh c = { x with starts := [] } ∧ others t ∧
      t = { s with regs := t.regs, dma := t.dma, rcd := t.rcd } ∧ s.regsApart (fun a => a = R.DMA_C_STAT.addr c 0 ∨ recTouched a) t) ∧
    (s.dmaSt c = 5 → let t := s.dmaAbortAt c; t.fget F.DMA_C_STAT_ABORT_LATE c = 1 ∧ t.dmaSt c = 5 ∧ t.dmaCh c = { x with abort := false }) ∧
    (s.dmaSt c = 2 ∨ s.dmaSt c = 3 → x.move = none → let t := s.dmaAbortAt c; t.dmaSt c = 6 ∧ t.dmaCh c = { x with abort := false }) ∧
    (s.fget F.DMA_C_CTRL_EN c ≠ 0 → exec (.dmaEnable c) s = .next s) ∧
    (s.fget F.DMA_C_CTRL_EN c = 0 → ∃ t, exec (.dmaEnable c) s = .next t ∧ t.dmaSt c = 1 ∧ t.fget F.DMA_C_CTRL_EN c = 1 ∧ t = { s with regs := t.regs } ∧
      s.regsApart (fun a => own a ∨ a = R.DMA_C_CTRL.addr c 0) t) ∧
    (s.fget F.DMA_C_CTRL_EN c = 0 → exec (.dmaDisable c) s = .next s) ∧
    (s.fget F.DMA_C_CTRL_EN c = 1 → (∀ m, x.move = some m → m.ssp ≠ 3) → ∃ t, exec (.dmaDisable c) s = .next t ∧ t.dmaSt c = 0 ∧
      t.fget F.DMA_C_CTRL_EN c = 0 ∧ t.dmaCh c = { x with move := none } ∧
      others t ∧ t = { s with regs := t.regs, dma := t.dma, free := s.free + 11 } ∧
      s.regsApart (fun a => own a ∨ a = R.DMA_C_CTRL.addr c 0 ∨ a = R.DMA_C_REM.addr c 0 ∨ a = R.DMA_C_LC.addr c 0 ∨
        ∃ i, i < 4 ∧ (a = R.DMA_C_A_LO.addr c i ∨ a = R.DMA_C_A_HI.addr c i)) t) ∧
    (s.dmaSeq c = false → s.dmaBusy c = false → n = 0 → ∃ t, exec (.slotsWrite c n) s = .next t ∧ t = { s with regs := t.regs } ∧ t.dmaSlots c = 0 ∧
      t.fget F.DMA_C_CFG_CFGERR c = 0 ∧ s.regsApart (fun a => sums a ∨ a = R.DMA_C_CFG.addr c 0 ∨ a = R.DMA_C_SLOT.addr c 0) t) ∧
    (s.dmaSeq c = false → s.dmaBusy c = false → n = 1 ∨ (64 < n ∧ n < 128) → ∃ t, exec (.slotsWrite c n) s = .next t ∧ t = { s with regs := t.regs } ∧ t.dmaSlots c = 0 ∧
      t.fget F.DMA_C_CFG_CFGERR c = 1) ∧
    (s.dmaSeq c = false → s.dmaBusy c = false → 2 ≤ n → n ≤ 64 →
      (((s.fset F.DMA_C_CFG_PRIO (bits v 29 28) c).fset F.DMA_C_CFG_CLAT (bits v 15 0) c).freeSlots c).slotRun n false = some b →
      ∃ t, exec (.slotsWrite c n) s = .next t ∧ t = { s with regs := t.regs } ∧ t.dmaSlots c = n ∧
        t.fget F.DMA_C_SLOT_BASE c = b ∧
        t.fget F.DMA_C_CFG_CFGERR c = 0 ∧ s.regsApart (fun a => sums a ∨ a = R.DMA_C_CFG.addr c 0 ∨ a = R.DMA_C_SLOT.addr c 0) t) ∧
    (s.dmaSeq c = false → s.dmaBusy c = false → 2 ≤ n → n ≤ 64 →
      (((s.fset F.DMA_C_CFG_PRIO (bits v 29 28) c).fset F.DMA_C_CFG_CLAT (bits v 15 0) c).freeSlots c).slotRun n false = none →
      ∃ t, exec (.slotsWrite c n) s = .next t ∧ t = { s with regs := t.regs } ∧ t.dmaSlots c = 0 ∧ t.fget F.DMA_C_CFG_CFGERR c = 1) ∧
    (s.dmaSeq c = false → s.dmaBusy c = true → exec (.slotsWrite c n) s = .next (s.recRwi R.DMA_C_CFG v c)) ∧
    (s.dmaSeq c = true → ∃ t, exec (.slotsWrite c n) s = .next t ∧ t = { s with regs := t.regs, rcd := t.rcd } ∧ s.regsApart recTouched t)

/-- The instructions of a DMA program (R494 to R500, R503, R504): DMA_MOVE, DMA_CHUNK_READ, DMA_WRITE_RESPONSE, DMA_LOOP, DMA_WAIT,
DMA_WAIT_END, DMA_SIGNAL and DMA_END. Each of these commands completes: DMA_MOVE of one chunk, outside its space and of a ring without a
descriptor; a chunk's read that is good, retried and failed; a write's response; and a command whose instruction is not the one at PC. -/
def Obligations.dma_program : Prop :=
  ∀ (s : State) (c : Nat) (data : List Nat) (m : DmaMove) (k : DmaChunk),
    let x := s.dmaCh c
    let w := s.dmaInstr c
    let pc := s.fget F.DMA_C_STAT_PC c
    let own (a : Nat) : Prop := a = R.DMA_STAT.addr 0 0 ∨ a = R.PLC_DMASLOT.addr 0 0 ∨ a = R.DMA_C_STAT.addr c 0
    let others (t : State) : Prop := ∀ d, d ≠ c → t.dmaCh d = s.dmaCh d
    let next (t : State) : Prop := t.dmaSt c = 2 ∧ t.fget F.DMA_C_STAT_PC c = (pc + 1) % 64
    let src := s.dmaA c (bits w 55 54)
    let ssp := bits w 59 58
    let len := bits w 47 24
    let whole : Prop := x.move = some m ∧ m.chunks = [k] ∧ k.off = 0 ∧ k.len = m.len ∧ m.issued = m.len ∧ m.len < 2 ^ 24 ∧ 0 < m.len ∧ m.ssp ≠ 3 ∧ m.enc < 2
    c < 64 → s.dma.length = 64 →
    (s.dmaRuns c 1 = false → exec (.dmaMove c) s = .next s) ∧ (s.dmaRuns c 2 = false → exec (.dmaLoop c) s = .next s) ∧
    (s.dmaRuns c 3 = false → exec (.dmaWait c) s = .next s) ∧ (s.dmaRuns c 4 = false → exec (.dmaSignal c) s = .next s) ∧
    (s.dmaRuns c 5 = false → exec (.dmaEnd c) s = .next s) ∧ (s.dmaSt c ≠ 3 → exec (.dmaWaitEnd c) s = .next s) ∧
    (x.move = none → exec (.dmaChunkRead c true data) s = .next s ∧ exec (.dmaWriteResponse c true) s = .next s) ∧
    (s.dmaRuns c 1 = true → ssp ≠ 3 → 0 < len → 0 < s.dmaSlots c → s.inSpace ssp src (min len (4096 - src % 4096)) = false →
      ∃ t, exec (.dmaMove c) s = .next t ∧ t.dmaSt c = 7 ∧ t.fget F.DMA_C_STAT_ERRCODE c = 1 ∧ (t.dmaCh c).move = none ∧ others t ∧
        t.rget R.DMA_ERRADDR_LO = src % 2 ^ 32 ∧ t.rget R.DMA_ERRADDR_HI = src / 2 ^ 32 % 2 ^ 32 ∧ t.rget R.DMA_ERRINFO = 2 ^ 28 + ssp * 2 ^ 26 + c) ∧
    (s.dmaRuns c 1 = true → ssp = 3 → (∀ d ∈ (s.enc (bits w 49 49)).desc, d.taken = true) → ∃ t, exec (.dmaMove c) s = .next t ∧ t.dmaSt c = 3 ∧
      t = { s with regs := t.regs } ∧ t.fget F.DMA_C_STAT_PC c = pc ∧ s.regsApart own t) ∧
    (s.dmaRuns c 1 = true → ssp ≠ 3 → 0 < len → len ≤ 4096 - src % 4096 → s.inSpace ssp src len = true → 0 < s.dmaSlots c → ∃ t, exec (.dmaMove c) s = .next t ∧ ∃ u, (t.dmaCh c).move = some u ∧ u.src = src ∧ u.dst = s.dmaA c (bits w 53 52) ∧ u.len = len ∧ u.issued = len ∧ u.given = 0 ∧
        u.chunks = [{ off := 0, len := len, data := none, tries := 0, slot := true, ready := s.drcNow 0 }] ∧ t.rget R.DMA_C_REM c = len ∧ t.dmaSt c = 2 ∧
        t.log = s.log ++ (if ssp = 1 then [.hostRead src len] else []) ∧ others t ∧ t = { s with regs := t.regs, log := t.log, dma := t.dma } ∧
        s.regsApart (fun a => a = R.DMA_C_REM.addr c 0) t) ∧
    (whole → k.data = none → m.ssp = 1 → m.dsp = 0 → m.given = 0 → s.dmaSt c = 2 → data.length = k.len → (∀ b ∈ data, b < 256) → s.dstErr 0 m.dst m.len = 0 →
      ∃ t, exec (.dmaChunkRead c true data) s = .next t ∧ t.rget R.DMA_C_REM c = 0 ∧ others t ∧ t = { s with regs := t.regs, dma := t.dma } ∧
        (t.dmaCh c).move = some { m with given := m.len, chunks := [{ k with data := some data, tries := 0, ready := s.drcNow 0 }] } ∧
        s.regsApart (fun a => a = R.DMA_C_REM.addr c 0) t) ∧
    (whole → k.data = none → m.ssp = 0 → s.fget F.DMA_RETRY_RETRY ≤ k.tries → ∃ t, exec (.dmaChunkRead c false data) s = .next t ∧ t.dmaSt c = 7 ∧
      t.fget F.DMA_C_STAT_ERRCODE c = 3 ∧ t.rget R.DMA_ERRADDR_LO = m.src % 2 ^ 32 ∧ t.rget R.DMA_ERRADDR_HI = m.src / 2 ^ 32 % 2 ^ 32 ∧
      t.rget R.DMA_ERRINFO = 3 * 2 ^ 28 + c ∧ (t.dmaCh c).move = none ∧ t.seq.arrivals = s.seq.arrivals ++ [.set 913] ∧ s.vectored t 19 ∧ others t) ∧
    (whole → k.data = none → m.ssp = 0 → k.tries < s.fget F.DMA_RETRY_RETRY → exec (.dmaChunkRead c false data) s =
      .next (s.setDma c { x with move := some { m with chunks := [{ k with data := none, tries := k.tries + 1 }] } })) ∧
    (whole → k.data = some data → m.dsp = 0 → m.given = m.len → m.sinc = false → m.dinc = false → s.dmaSt c = 2 → ∃ t, exec (.dmaWriteResponse c true) s = .next t ∧ next t ∧ t.dram = (s.dramPut (bits m.dst 41 40) (bits m.dst 32 0) data).dram ∧ (t.dmaCh c).move = none ∧ others t ∧
      t = { s with regs := t.regs, dma := t.dma, dram := t.dram } ∧ s.regsApart (fun a => own a ∨ a = R.DMA_C_REM.addr c 0) t) ∧
    (s.dmaRuns c 2 = true → bits w 47 32 = 0 → bits w 5 0 ≤ pc → ∃ t, exec (.dmaLoop c) s = .next t ∧ t.fget F.DMA_C_STAT_PC c = pc - bits w 5 0 ∧
      t = { s with regs := t.regs } ∧ s.regsApart (fun a => a = R.DMA_C_STAT.addr c 0) t) ∧
    (s.dmaRuns c 2 = true → w.testBit 59 = false → 1 < bits w 47 32 → bits w 5 0 ≤ pc → s.fget F.DMA_C_LC_LC0 c = 0 → ∃ t, exec (.dmaLoop c) s = .next t ∧ t.fget F.DMA_C_LC_LC0 c = bits w 47 32 - 1 ∧ t.fget F.DMA_C_STAT_PC c = pc - bits w 5 0 ∧ t = { s with regs := t.regs } ∧
      s.regsApart (fun a => a = R.DMA_C_STAT.addr c 0 ∨ a = R.DMA_C_LC.addr c 0) t) ∧
    (s.dmaRuns c 2 = true → w.testBit 59 = true → bits w 47 32 ≠ 0 → s.fget F.DMA_C_LC_LC1 c = 1 → ∃ t, exec (.dmaLoop c) s = .next t ∧ t.fget F.DMA_C_LC_LC1 c = 0 ∧ next t ∧ t = { s with regs := t.regs }) ∧
    (s.dmaRuns c 3 = true → ∃ t, exec (.dmaWait c) s = .next t ∧ t.dmaSt c = 3 ∧ t.dmaCh c = { x with waitTick := s.elapsed + bits w 23 0 } ∧ others t ∧
      t = { s with regs := t.regs, dma := t.dma } ∧ t.fget F.DMA_C_STAT_PC c = pc ∧ s.regsApart own t) ∧
    (s.dmaSt c = 3 → dmaOp w = 3 → bits w 59 58 = 1 → x.waitTick ≤ s.elapsed → ∃ t, exec (.dmaWaitEnd c) s = .next t ∧ next t ∧ t = { s with regs := t.regs } ∧
      s.regsApart own t) ∧
    (s.dmaSt c = 3 → dmaOp w = 3 → bits w 59 58 = 1 → s.elapsed < x.waitTick → exec (.dmaWaitEnd c) s = .next s) ∧
    (s.dmaOnFlag (bits w 33 24) true c = true → s.phase = 0 → s.flag (bits w 33 24) = true →
      (∀ d, d < 64 → d ≠ c → s.dmaOnFlag (bits w 33 24) true d = false ∧ s.dmaOnFlag (bits w 33 24) false d = false) →
      ∃ t, exec (.dmaWaitEnd c) s = .next t ∧ next t ∧ t.flag (bits w 33 24) = false ∧ t.seq.arrivals = s.seq.arrivals ++ [.clear (bits w 33 24)] ∧
        t = { s with regs := t.regs, seq := { s.seq with arrivals := t.seq.arrivals } }) ∧
    (s.dmaRuns c 4 = true → w.testBit 59 = true → w.testBit 58 = true → w.testBit 57 = false → ∃ t, exec (.dmaSignal c) s = .next t ∧ next t ∧
      t.seq.arrivals = s.seq.arrivals ++ [.set (bits w 41 32), .set (849 + c)] ∧ t.log = s.log ∧ t = { s with regs := t.regs, seq := t.seq }) ∧
    (s.dmaRuns c 4 = true → w.testBit 59 = false → w.testBit 58 = false → w.testBit 57 = true → ∃ t, exec (.dmaSignal c) s = .next t ∧ next t ∧
      s.vectored t (bits w 5 0) ∧ t.seq = s.seq ∧ t = { s with regs := t.regs, log := t.log, msixPend := t.msixPend } ∧ s.regsApart own t) ∧
    (s.dmaRuns c 5 = true → ∃ t, exec (.dmaEnd c) s = .next t ∧ t.dmaSt c = 5 ∧ t = { s with regs := t.regs } ∧ s.regsApart own t)

/-- The links, the wrapping, the shared tick and the enumeration of the ring (R508 to R522): PORT_TRAINED, PORT_DOWN, RING_UNWRAP,
LINK_REQUEST, LINK_FRAME, LINK_TIMEOUT, TICK_SET, NOTICK, ENUM, ENUM_FRAME and ENUM_TIMEOUT. Each of these commands completes: with the
effect that its condition calls for (a port that trains, that is lost, that unwraps; a request, a reply, a set that is followed; an ENUM
that goes round), and without one where its condition does not hold. -/
def Obligations.ring_links : Prop :=
  ∀ (s : State) (p at' turn n align chars r tickno acc dep : Nat) (viol : List Nat) (arr : Int) (inv reply : Bool) (f : RingFrame),
    let x := s.port p
    let w := nth f.payload 0 0
    let eid := bits w 23 16
    let count := bits w 10 0
    let only (t : State) : Prop := t = { s with
      regs := t.regs
      seq := { s.seq with ctx := t.seq.ctx, arrivals := t.seq.arrivals }
      log := t.log
      msixPend := t.msixPend
      rcd := t.rcd
      ring := t.ring }
    let event (t : State) : Prop := .set 920 ∈ t.seq.arrivals ∧ s.vectored t 20
    let evreg (a : Nat) : Prop := a = R.SEQ_EV.addr 28 0 ∨ recTouched a
    let lost : Prop := 400 ≤ align ∨ 400 ≤ chars ∨ ∃ i ∈ List.range viol.length, i + 15 < viol.length ∧ nth viol (i + 15) 0 ≤ nth viol i 0 + 400
    let asks : Prop := x.trained = true ∧ (x.due = true ∨ s.portUp p = true ∧ x.reqTick + 1024 ≤ s.elapsed)
    let late : Prop := x.trained = true ∧ x.req = some r ∧ r + 64000 ≤ at'
    let dly := s.fget F.EUN_P_DLY_DLY p
    let e : Int := (acc : Int) + dly - arr
    let src := s.fget F.EUN_STAT_TICKSRC
    let switch : Prop := src ≠ p ∧ nth s.ring.lastSet src none ≠ none
    let passed (t : State) : Prop := t.log = s.log ++ (if s.portUp (1 - p) then [.tickSet (1 - p) tickno ((acc + dly + dep) % 2 ^ 32)] else [])
    p < 2 → s.ring.ports.length = 2 → s.ring.lastSet.length = 2 → s.bivouac = false →
    (n < 128 ∨ x.trained = true → exec (.portTrained p n inv) s = .next s) ∧
    (128 ≤ n → x.trained = false → ∃ t, exec (.portTrained p n inv) s = .next t ∧ t.fget F.EUN_P_STAT_INV p = bit inv ∧
      t = { s with regs := t.regs, ring := { s.ring with ports := s.ring.ports.set p { x with trained := true, due := true, req := none } } } ∧
      s.regsApart (fun a => a = R.EUN_P_STAT.addr p 0) t) ∧
    (¬ lost → ∃ t, exec (.portDown p viol align chars) s = .next t ∧ t = { s with regs := t.regs } ∧
      t.fget F.EUN_P_STAT_CODEERR p = min (s.fget F.EUN_P_STAT_CODEERR p + viol.length) 65535 ∧ s.regsApart (fun a => a = R.EUN_P_STAT.addr p 0) t) ∧
    (lost → s.portUp p = false → ∃ t, exec (.portDown p viol align chars) s = .next t ∧
      t = { s with regs := t.regs, ring := { s.ring with ports := s.ring.ports.set p { x with trained := false, due := false, req := none } } } ∧
      t.fget F.EUN_P_STAT_CODEERR p = min (s.fget F.EUN_P_STAT_CODEERR p + viol.length) 65535 ∧ s.regsApart (fun a => a = R.EUN_P_STAT.addr p 0) t) ∧
    (lost → s.portUp p = true → ∃ t, exec (.portDown p viol align chars) s = .next t ∧ only t ∧ s.vectored t 20 ∧
      t.seq.arrivals = s.seq.arrivals ++ [.set 920, .set 929] ∧ t.portUp p = false ∧ t.fget (linkFld p) = 0 ∧ t.fget (wrapFld p) = 1 ∧
      t.ring = { s.ring with ports := s.ring.ports.set p { x with trained := false, due := false, req := none } } ∧
      t.fget F.EUN_P_STAT_CODEERR p = min (s.fget F.EUN_P_STAT_CODEERR p + viol.length) 65535 ∧
      t.fget F.EUN_P_CNT_DOWN p = min (s.fget F.EUN_P_CNT_DOWN p + 1) 65535 ∧
      s.regsApart (fun a => a = R.EUN_P_STAT.addr p 0 ∨ a = R.EUN_P_CNT.addr p 0 ∨ a = R.EUN_STAT.addr 0 0 ∨ a = R.SYS_ABS1.addr 0 0 ∨
        a = R.SEQ_EV.addr 29 0 ∨ evreg a) t) ∧
    (s.phase ≠ 15 → exec .ringUnwrap s = .next s) ∧
    (s.phase = 15 → ∃ t, exec .ringUnwrap s = .next t ∧ only t ∧ t.ring = s.ring ∧ t.rcd = s.rcd ∧
      t.fget (wrapFld p) = (if s.unwrapDue p then 0 else s.fget (wrapFld p)) ∧ (s.unwrapDue p = true → .set 920 ∈ t.seq.arrivals) ∧
      s.regsApart (fun a => a = R.EUN_STAT.addr 0 0 ∨ a = R.SEQ_EV.addr 28 0) t) ∧
    (¬ asks → exec (.linkRequest p at') s = .next s) ∧
    (asks → exec (.linkRequest p at') s = .next { s with
      ring := { s.ring with ports := s.ring.ports.set p { x with due := false, req := some at', reqTick := s.elapsed } }
      log := s.log ++ [.link p false at' 0] }) ∧
    (x.trained = false → exec (.linkFrame p reply at' turn true) s = .next s) ∧
    (x.trained = true → ∃ t, exec (.linkFrame p reply at' turn false) s = .next t ∧ t = { s with regs := t.regs } ∧
      t.fget F.EUN_P_CNT_CRCERR p = min (s.fget F.EUN_P_CNT_CRCERR p + 1) 65535 ∧ s.regsApart (fun a => a = R.EUN_P_CNT.addr p 0) t) ∧
    (x.trained = true → x.req = none → exec (.linkFrame p true at' turn true) s = .next s) ∧
    (x.trained = true → exec (.linkFrame p false at' turn true) s = .next { s with log := s.log ++ [.link p true at' turn] }) ∧
    (x.trained = true → x.req = some r → ∃ t, exec (.linkFrame p true at' turn true) s = .next t ∧ only t ∧ t.portUp p = true ∧
      t.fget F.EUN_P_DLY_DLY p = min ((at' - r - turn) / 2) 16777215 ∧ (t.port p).req = none ∧ t.port (1 - p) = s.port (1 - p) ∧
      (s.portUp p = false → t.fget (linkFld p) = 1 ∧ event t ∧ (t.port p).upTick = s.elapsed) ∧
      (s.portUp p = true → t.seq = s.seq ∧ t.log = s.log) ∧
      s.regsApart (fun a => a = R.EUN_P_DLY.addr p 0 ∨ a = R.EUN_P_STAT.addr p 0 ∨ a = R.EUN_STAT.addr 0 0 ∨ a = R.SEQ_EV.addr 28 0) t) ∧
    (x.trained = false ∨ x.req = none ∨ x.req = some r ∧ at' < r + 64000 → exec (.linkTimeout p at') s = .next s) ∧
    (late → exec (.linkTimeout p at') s = .next { s with
      ring := { s.ring with ports := s.ring.ports.set p { x with req := some at' } }
      log := s.log ++ [.link p false at' 0] }) ∧
    (s.portUp p = false ∨ s.isRoot = true → exec (.tickSet p tickno acc arr dep false) s = .next s) ∧
    (s.portUp p = true → s.isRoot = false → s.tickPort p ≠ p → ∃ t, exec (.tickSet p tickno acc arr dep false) s = .next t ∧ passed t ∧
      t = { s with log := t.log, ring := { s.ring with lastSet := s.ring.lastSet.set p (some s.elapsed), noTick := 0 } }) ∧
    (s.portUp p = true → s.isRoot = false → s.tickPort p = p → ∃ t, exec (.tickSet p tickno acc arr dep false) s = .next t ∧
      t = { s with regs := t.regs, log := t.log, ring := t.ring } ∧ passed t ∧
      t.rget R.EUN_TICKERR = unsign 32 e ∧ t.fget F.TCK_STAT_RINGSYNC = bit (decide (e.natAbs ≤ 64)) ∧
      t.fget F.EUN_STAT_TICKSRC = p ∧ t.fget F.EUN_STAT_NOTICK = 0 ∧
      t.ring = { s.ring with
        lastSet := s.ring.lastSet.set p (some s.elapsed)
        noTick := 0
        adj := if e.natAbs < 16 then 0 else if 0 < e then -1 else 1
        retime := if switch ∨ e.natAbs ≤ 6400 then none else some ((tickno : Int) + ((acc + dly) / 128000 : Nat) - s.tick) } ∧
      s.regsApart (fun a => a = R.EUN_TICKERR.addr 0 0 ∨ a = R.TCK_STAT.addr 0 0 ∨ a = R.EUN_STAT.addr 0 0) t) ∧
    (s.portUp p = true → s.isRoot = true → ∃ t, exec (.tickSet p tickno acc arr dep true) s = .next t ∧ only t ∧ event t ∧ t.ring = s.ring ∧
      t.fget F.EUN_STAT_ROOTERR = 1 ∧ s.regsApart (fun a => a = R.EUN_STAT.addr 0 0 ∨ evreg a) t) ∧
    (s.boundary = false ∨ s.isRoot = true ∨ s.ring.noTick ≠ 63 → exec .notick s = .next s) ∧
    (s.atBoundary → s.ticking = true → s.isRoot = false → s.ring.noTick = 63 → ∃ t, exec .notick s = .next t ∧ only t ∧ event t ∧
      t.ring = { s.ring with noTick := 65, adj := 0 } ∧ t.fget F.TCK_STAT_RINGSYNC = 0 ∧ t.fget F.EUN_STAT_NOTICK = 1 ∧
      s.regsApart (fun a => a = R.TCK_STAT.addr 0 0 ∨ a = R.EUN_STAT.addr 0 0 ∨ evreg a) t) ∧
    exec .enumW s = .next (if s.isRoot then { s with ring := { s.ring with enumPend := true } } else s) ∧
    (s.portUp p = false ∨ f.ft ≠ 1 → exec (.enumFrame p f true) s = .next s) ∧
    (s.portUp p = true → f.ft = 1 → (f.lenOk = false → ∃ t, exec (.enumFrame p f true) s = .next t ∧ t = { s with regs := t.regs } ∧
      t.fget F.EUN_P_CNT_CRCERR p = min (s.fget F.EUN_P_CNT_CRCERR p + 1) 65535 ∧ s.regsApart (fun a => a = R.EUN_P_CNT.addr p 0) t) ∧
    (f.lenOk = true → s.arrives p = false → exec (.enumFrame p f true) s = .next (s.forward p f)) ∧
    (f.lenOk = true → s.arrives p = true →
      (s.isRoot = true → s.ring.eid ≠ some eid → ∃ t, exec (.enumFrame p f true) s = .next t ∧ only t ∧ event t ∧ t.ring = s.ring ∧
        t.fget F.EUN_STAT_ROOTERR = 1 ∧ s.regsApart (fun a => a = R.EUN_STAT.addr 0 0 ∨ evreg a) t) ∧
      (s.isRoot = false → s.ring.eid ≠ some eid → 1024 ≤ count → ∃ t, exec (.enumFrame p f true) s = .next t ∧ t.fget F.EUN_STAT_ADDRV = 0 ∧
        t = { s with regs := t.regs, log := t.log } ∧ s.regsApart (fun a => a = R.EUN_STAT.addr 0 0) t ∧
        (p = 0 → s.portUp 1 = true → s.fget F.EUN_STAT_WRAPB = 0 →
          t.log = s.log ++ [.ring 1 ({ f with payload := [putBits w 11 11 1] } : RingFrame).bytes])) ∧
      (s.isRoot = false → s.ring.eid ≠ some eid → count < 1024 → ∃ t, exec (.enumFrame p f true) s = .next t ∧ t.fget F.EUN_STAT_ADDR = count ∧ t.fget F.EUN_STAT_ADDRV = 1 ∧
        t = { s with regs := t.regs, log := t.log, ring := { s.ring with eid := some eid } } ∧
        (p = 0 → s.portUp 1 = true → s.fget F.EUN_STAT_WRAPB = 0 →
          t.log = s.log ++ [.ring 1 ({ f with payload := [putBits w 10 0 (count + 1)] } : RingFrame).bytes]) ∧
        s.regsApart (fun a => a = R.EUN_STAT.addr 0 0) t) ∧
      (s.isRoot = false → s.ring.eid = some eid → exec (.enumFrame p f true) s = .next (s.forward p f)) ∧
      (s.isRoot = true → s.ring.eid = some eid → s.ring.enumAt ≠ none → ∃ t, exec (.enumFrame p f true) s = .next t ∧ only t ∧ event t ∧
        t.fget F.EUN_STAT_NODES = count ∧ t.fget F.EUN_STAT_CLOSED = bit (!f.wrap) ∧ t.fget F.EUN_STAT_ENUMDONE = 1 ∧
        t.fget F.EUN_STAT_ENUMFAIL = bits w 11 11 ∧ t.ring = { s.ring with enumAt := none } ∧
        s.regsApart (fun a => a = R.EUN_STAT.addr 0 0 ∨ evreg a) t))) ∧
    (s.boundary = false → exec .enumTimeout s = .next s) ∧
    (s.atBoundary → s.ticking = true → s.ring.enumAt = some r → r + 1000 ≤ s.elapsed + 1 → ∃ t, exec .enumTimeout s = .next t ∧ only t ∧ event t ∧
      t.fget F.EUN_STAT_ENUMFAIL = 1 ∧ t.ring = { s.ring with enumAt := none } ∧
      s.regsApart (fun a => a = R.EUN_STAT.addr 0 0 ∨ evreg a) t)

/-- What a frame does at the node that it is for (R511, R513, R523 to R527, R530 to R532): MSG_FRAME, RRD_FRAME, RWR_FRAME,
RSP_FRAME, ACK_FRAME and SHEET_FRAME from another node, new to this one and without AUTH. Each of these commands completes: a bad frame, one
that is passed on, one that is served, and one seen before. -/
def Obligations.ring_frames : Prop :=
  ∀ (s : State) (f : RingFrame) (n : Nat) (i : Instr) (x : RingTx) (c k : Nat) (ok : Bool),
    let w := nth f.payload 0 0
    let fits : Prop := (n, i) ∈ [(2, Instr.msgFrame 0 f ok), (3, .rrdFrame 0 f ok), (4, .rwrFrame 0 f ok), (5, .rspFrame 0 f ok),
      (6, .ackFrame 0 f ok), (7, .sheetFrame 0 f ok)] ∧ f.ft = n
    let answer (ft : Nat) (l : List Nat) : Emit := .ring 1 ({ ft := ft, dst := f.src, src := s.ownAddr, payload := l } : RingFrame).bytes
    let kept (t : State) (ans : Option (Nat × List Nat)) : Prop :=
      t.ring.srcs = { src := f.src, hi := f.seq, seen := [(f.seq, ans)], ctr := none } :: s.ring.srcs.filter (fun y => y.src != f.src)
    let onlyRing (t : State) : Prop := t = { s with log := t.log, ring := t.ring }
    let mine : Prop := f.dst = s.ownAddr ∧ f.src ≠ s.ownAddr ∧ f.bcast = false ∧ f.auth = false
    s.bivouac = false → fits →
    (s.portUp 0 = false → exec i s = .next s) ∧
    (s.portUp 0 = true → ok = false ∨ f.lenOk = false → ∃ t, exec i s = .next t ∧ t = { s with regs := t.regs } ∧
      t.fget F.EUN_P_CNT_CRCERR 0 = min (s.fget F.EUN_P_CNT_CRCERR 0 + 1) 65535 ∧ s.regsApart (fun a => a = R.EUN_P_CNT.addr 0 0) t) ∧
    (s.portUp 0 = true → ok = true → f.lenOk = true → (s.addrValid = false ∨ f.bcast = false ∧ f.src ≠ s.ownAddr ∧ f.dst ≠ s.ownAddr) → exec i s = .next (s.forward 0 f)) ∧
    (s.portUp 0 = true → ok = true → f.lenOk = true → s.addrValid = true → s.portUp 1 = true → s.fget F.EUN_STAT_WRAPB = 0 → mine →
      (s.ringSrc f.src = none →
        (n = 2 → bits w 7 0 ≠ 0xF1 → s.ring.fifo.length < 32 → ∃ t, exec i s = .next t ∧ kept t (some (6, [1 + f.seq % 256 * 256])) ∧
          t.ring = { s.ring with
            fifo := s.ring.fifo ++ [⟨f.src, false, false, bits w 7 0, (f.payload.drop 1).take (bits w 11 8 + 1)⟩]
            srcs := t.ring.srcs } ∧
          t.seq.arrivals = s.seq.arrivals ++ [.set 914] ∧ answer 6 [1 + f.seq % 256 * 256] ∈ t.log ∧
          (s.ring.fifo ≠ [] → t.log = s.log ++ [answer 6 [1 + f.seq % 256 * 256]] ∧ t.msixPend = s.msixPend) ∧
          (s.ring.fifo = [] → .msix 21 ∈ t.log ∨ 21 ∈ t.msixPend) ∧ s.regsApart (fun a => a = R.SEQ_EV.addr 28 0) t ∧
          t = { s with
            regs := t.regs
            seq := { s.seq with ctx := t.seq.ctx, arrivals := t.seq.arrivals }
            log := t.log
            msixPend := t.msixPend
            pwr := { s.pwr with wakePend := t.pwr.wakePend }
            ring := t.ring }) ∧
        (n = 2 → bits w 7 0 ≠ 0xF1 → 32 ≤ s.ring.fifo.length → ∃ t, exec i s = .next t ∧ onlyRing t ∧
          kept t (some (6, [2 + f.seq % 256 * 256])) ∧ t.ring = { s.ring with srcs := t.ring.srcs } ∧
          t.log = s.log ++ [answer 6 [2 + f.seq % 256 * 256]]) ∧
        (n = 3 → raOk w = true → ∃ t, exec i s = .next t ∧ onlyRing t ∧ kept t (some (5, [1 + f.seq % 256 * 256, s.readReg w])) ∧
          t.ring = { s.ring with srcs := t.ring.srcs } ∧ t.log = s.log ++ [answer 5 [1 + f.seq % 256 * 256, s.readReg w]]) ∧
        (n = 3 → raOk w = false → ∃ t, exec i s = .next t ∧ t = { s with regs := t.regs, rcd := t.rcd, log := t.log, ring := t.ring } ∧
          kept t (some (5, [4 + f.seq % 256 * 256, 0])) ∧ t.log = s.log ++ [answer 5 [4 + f.seq % 256 * 256, 0]] ∧ s.regsApart recTouched t) ∧
        (n = 4 → ∃ t, exec i s = .next t ∧ onlyRing t ∧ kept t none ∧ t.log = s.log ∧
          t.ring = { s.ring with writes := s.ring.writes ++ [⟨f.src, f.seq, w, nth f.payload 1 0, false⟩], srcs := t.ring.srcs }) ∧
        (n = 7 → ∃ t, exec i s = .next t ∧ onlyRing t ∧ kept t (some (6, [1 + f.seq % 256 * 256])) ∧
          t.log = s.log ++ [answer 6 [1 + f.seq % 256 * 256]] ∧ t.ring = { s.ring with
            sheets := s.ring.sheets ++ [⟨bits w 1 0, bits w 31 16, nth f.payload 1 0, nth f.payload 2 0, f.src⟩]
            srcs := t.ring.srcs })) ∧
      (n = 2 ∨ n = 3 ∨ n = 4 ∨ n = 7 → s.ringSrc f.src = some ⟨f.src, k, [(f.seq, some (6, [c]))], none⟩ →
        exec i s = .next { s with log := s.log ++ [answer 6 [c]] })) ∧
    (s.portUp 0 = true → ok = true → f.lenOk = true → s.addrValid = true → mine → s.ring.pend = [x] → x.frame.seq = bits w 15 8 →
      (n = 5 → x.kind = .access → ∃ t, exec i s = .next t ∧ t.ring = { s.ring with pend := [] } ∧ t = { s with regs := t.regs, ring := t.ring } ∧
        t.fget F.EUN_RA_STAT_BUSY = 0 ∧ t.fget F.EUN_RA_STAT_RESULT = bits w 2 0 ∧
        (x.frame.ft = 3 → bits w 7 0 = 1 → t.rget R.EUN_RA_DATA = nth f.payload 1 0 % 2 ^ 32) ∧
        s.regsApart (fun a => a = R.EUN_RA_STAT.addr 0 0 ∨ (a = R.EUN_RA_DATA.addr 0 0 ∧ x.frame.ft = 3)) t) ∧
      (n = 6 → x.kind = .msg c → s.ring.acks.length < 32 → ∃ t, exec i s = .next t ∧ t.ring = { s.ring with pend := [], acks := s.ring.acks ++ [(c, x.frame.seq, bits w 2 0)] } ∧
        t = { s with regs := t.regs, ring := t.ring, seq := { s.seq with ctx := t.seq.ctx, arrivals := s.seq.arrivals ++ [.set 915] } } ∧
        s.regsApart (fun a => a = R.SEQ_EV.addr 28 0) t))

/-- The sending side of the ring (R524, R526, R527, R530, R531): ACK_TIMEOUT, RXPOP, ACKPOP, REMOTE_READ, REMOTE_WRITE and
SHEET_EDGE. Each of these commands completes: a frame sent again or given up; a remote access that goes out, that is refused and that has no
address; a sheet edge that is sent, one of the other polarity or of a channel that is off, and one without an address. -/
def Obligations.ring_requests : Prop :=
  ∀ (s : State) (x : RingTx) (dst k sub c : Nat) (fall auth : Bool) (key : List Nat),
    let q := (s.ring.seq + 1) % 256
    let ready : Prop := s.addrValid = true ∧ s.portUp 1 = true ∧ s.fget F.EUN_STAT_WRAPB = 0
    let sent (t : State) (f : RingFrame) (kind : RingKind) : Prop :=
      t.log = s.log ++ [.ring 1 f.bytes] ∧ t.ring.pend = s.ring.pend ++ [⟨f, kind, 0, s.elapsed⟩] ∧ t.ring.seq = q
    let off := s.rget R.EUN_RA_OFF
    (s.boundary = false → exec .ackTimeout s = .next s) ∧
    (s.atBoundary → s.ticking = true → s.ring.pend = [x] → x.sent + max (s.fget F.EUN_CFG_ACKTMO) 1 ≤ s.elapsed + 1 → x.frame.dst ≠ s.ownAddr →
      (x.tries < s.fget F.EUN_CFG_RETRY → s.portUp 1 = true → s.fget F.EUN_STAT_WRAPB = 0 → ∃ t, exec .ackTimeout s = .next t ∧ t = { s with
          regs := t.regs
          log := s.log ++ [.ring 1 x.frame.bytes]
          ring := { s.ring with pend := [{ x with tries := x.tries + 1, sent := s.elapsed + 1 }] } } ∧
        t.fget F.EUN_TXCNT_RESENT = min (s.fget F.EUN_TXCNT_RESENT + 1) 65535 ∧ s.regsApart (fun a => a = R.EUN_TXCNT.addr 0 0) t) ∧
      (s.fget F.EUN_CFG_RETRY ≤ x.tries → x.kind = .msg c → s.ring.acks.length < 32 → ∃ t, exec .ackTimeout s = .next t ∧ t = { s with
          regs := t.regs
          seq := { s.seq with ctx := t.seq.ctx, arrivals := s.seq.arrivals ++ [.set 915] }
          ring := { s.ring with pend := [], acks := s.ring.acks ++ [(c, x.frame.seq, 5)] } } ∧
        s.regsApart (fun a => a = R.SEQ_EV.addr 28 0) t)) ∧
    exec .rxpop s = .next { s with ring := { s.ring with fifo := s.ring.fifo.drop 1 } } ∧
    exec .ackpop s = .next { s with ring := { s.ring with acks := s.ring.acks.drop 1 } } ∧
    (s.fget F.EUN_RA_STAT_BUSY = 0 → dst < 1024 → dst ≠ s.ownAddr → ready → ∃ t, exec (.remoteRead dst) s = .next t ∧ sent t ⟨3, false, false, false, dst, s.ownAddr, q, [off]⟩ .access ∧ t.rget R.EUN_RA_CMD = dst ∧ t.fget F.EUN_RA_STAT_BUSY = 1 ∧
      t = { s with regs := t.regs, log := t.log, ring := { s.ring with pend := t.ring.pend, seq := q } } ∧
      s.regsApart (fun a => a = R.EUN_RA_CMD.addr 0 0 ∨ a = R.EUN_RA_STAT.addr 0 0) t) ∧
    (s.fget F.EUN_RA_STAT_BUSY = 0 → dst < 1024 → dst ≠ s.ownAddr → ready → ∃ t, exec (.remoteWrite dst false) s = .next t ∧ sent t ⟨4, false, false, false, dst, s.ownAddr, q, [off, s.rget R.EUN_RA_DATA]⟩ .access ∧ t.fget F.EUN_RA_STAT_BUSY = 1 ∧
      t.rget R.EUN_RA_CMD = 2 ^ 30 + dst ∧
      t = { s with regs := t.regs, log := t.log, ring := { s.ring with pend := t.ring.pend, seq := q } } ∧
      s.regsApart (fun a => a = R.EUN_RA_CMD.addr 0 0 ∨ a = R.EUN_RA_STAT.addr 0 0) t) ∧
    (s.fget F.EUN_RA_STAT_BUSY = 1 → dst < 1024 → ∃ t, exec (.remoteRead dst) s = .next t ∧ t.rget R.EUN_RA_CMD = dst ∧
      t = { s with regs := t.regs, rcd := t.rcd } ∧ s.regsApart (fun a => a = R.EUN_RA_CMD.addr 0 0 ∨ recTouched a) t) ∧
    (s.fget F.EUN_RA_STAT_BUSY = 0 → dst < 1024 → dst ≠ s.ownAddr → ready → s.nvm.ringKey = some key →
      ∃ t, exec (.remoteWrite dst true) s = .next t ∧ t.fget F.EUN_RA_STAT_BUSY = 1 ∧ t.ring.ctr = s.ring.ctr + 1 ∧
        sent t ((⟨4, false, false, false, dst, s.ownAddr, q, [off, s.rget R.EUN_RA_DATA]⟩ : RingFrame).sign key (s.ring.ctr + 1)) .access ∧
        t = { s with regs := t.regs, log := t.log, ring := { s.ring with pend := t.ring.pend, seq := q, ctr := t.ring.ctr } }) ∧
    (s.fget F.EUN_RA_STAT_BUSY = 0 → dst < 1024 → s.addrValid = true → s.nvm.ringKey = none → ∃ t, exec (.remoteWrite dst true) s = .next t ∧
      t.fget F.EUN_RA_STAT_BUSY = 0 ∧ t.fget F.EUN_RA_STAT_RESULT = 3 ∧ t = { s with regs := t.regs }) ∧
    (s.fget F.EUN_RA_STAT_BUSY = 1 → dst < 1024 → ∃ t, exec (.remoteWrite dst auth) s = .next t ∧
      t.rget R.EUN_RA_CMD = 2 ^ 30 + bit auth * 2 ^ 29 + dst ∧ t = { s with regs := t.regs, rcd := t.rcd } ∧
      s.regsApart (fun a => a = R.EUN_RA_CMD.addr 0 0 ∨ recTouched a) t) ∧
    (s.fget F.EUN_RA_STAT_BUSY = 0 → s.addrValid = false → dst < 1024 → ∃ t, exec (.remoteRead dst) s = .next t ∧ t.rget R.EUN_RA_CMD = dst ∧
      t.fget F.EUN_RA_STAT_BUSY = 0 ∧ t.fget F.EUN_RA_STAT_RESULT = 5 ∧ t = { s with regs := t.regs } ∧
      s.regsApart (fun a => a = R.EUN_RA_CMD.addr 0 0 ∨ a = R.EUN_RA_STAT.addr 0 0) t) ∧
    (s.fget F.EUN_RA_STAT_BUSY = 0 → s.addrValid = false → dst < 1024 → ∃ t, exec (.remoteWrite dst false) s = .next t ∧ t.rget R.EUN_RA_CMD = 2 ^ 30 + dst ∧ t.fget F.EUN_RA_STAT_BUSY = 0 ∧ t.fget F.EUN_RA_STAT_RESULT = 5 ∧ t = { s with regs := t.regs } ∧
      s.regsApart (fun a => a = R.EUN_RA_CMD.addr 0 0 ∨ a = R.EUN_RA_STAT.addr 0 0) t) ∧
    (s.fbit F.EUN_SH_CFG_EN k = false ∨ s.fbit F.EUN_SH_CFG_FALL k ≠ fall ∨ s.bivouac = true → exec (.sheetEdge k sub fall) s = .next s) ∧
    (k < 4 → s.ring.sheetNo.length = 4 → s.bivouac = false → s.fbit F.EUN_SH_CFG_EN k = true → s.fbit F.EUN_SH_CFG_FALL k = fall →
      s.addrValid = false → ∃ t, exec (.sheetEdge k sub fall) s = .next t ∧ t.fget F.EUN_SH_CFG_TXFAIL k = 1 ∧
        t.ring = { s.ring with sheetNo := s.ring.sheetNo.set k (nth s.ring.sheetNo k 0 % 65535 + 1) } ∧ .set 920 ∈ t.seq.arrivals ∧ s.vectored t 20) ∧
    (k < 4 → s.ring.sheetNo.length = 4 → s.bivouac = false → s.fbit F.EUN_SH_CFG_EN k = true → s.fbit F.EUN_SH_CFG_FALL k = fall → ready →
      s.fget F.EUN_SH_CFG_DST k ≠ s.ownAddr → ∃ t, exec (.sheetEdge k sub fall) s = .next t ∧ let no := nth s.ring.sheetNo k 0 % 65535 + 1
      sent t ⟨7, false, false, false, s.fget F.EUN_SH_CFG_DST k, s.ownAddr, q,
        [k + no * 2 ^ 16, (s.tick * 8000 + s.phase * 500 + sub) % 2 ^ 32, unsign 32 (s.axRaw (s.fget F.EUN_SH_CFG_AXIS k))]⟩ (.sheet k) ∧
      t = { s with log := t.log, ring := { s.ring with pend := t.ring.pend, seq := q, sheetNo := s.ring.sheetNo.set k no } })

/-- Power states (R534 to R537, R541 to R545, Tables 19-1 and 19-2): STATE_CHOICE, PWR_ACK, WAKE, SLEEP_RESUME, HEARTBEAT_TICK and
NEXTEVT_WRITE. Each of these commands completes: with the effect that its condition calls for, and without one where the condition does
not hold. -/
def Obligations.power_states : Prop :=
  ∀ (s : State) (k c low code t' : Nat),
    let stat (a : Nat) : Prop := a = R.PWR_STAT.addr 0 0 ∨ a = R.SEQ_EV.addr 28 0
    let d : Int := (s.nextEvt : Int) - (s.tick + 1)
    let pays (j : Nat) : Prop := s.nextEvt = 0 ∨
      (((s.fget F.PWR_S_CFG_EXIT j : Int) + s.fget F.PWR_MARGIN_MS) * 50 ≤ d ∧ (500000 : Int) * s.fget F.PWR_S_COST_COST j <
        ((s.fget F.PWR_S_CFG_DRAW 1 : Int) - s.fget F.PWR_S_CFG_DRAW j) * (d - 50 * s.fget F.PWR_S_CFG_EXIT j))
    let fit (j : Nat) : Prop := 2 ≤ j ∧ j ≤ s.deepest ∧ pays j ∧ (3 ≤ j → s.quiet = true) ∧ (j = 4 → s.sleepable = true)
    let arises : Prop := s.ptgt = s.pst ∧ ((s.pst = 2 ∧ (c = 2 ∨ c = 3 ∨ c = 5)) ∨ (s.pst = 3 ∧ 2 ≤ c ∧ c ≤ 6) ∨
      (s.pst = 4 ∧ (c = 4 ∨ c = 6 ∨ c = 5 ∧ s.fget F.PWR_CTRL_RINGSLEEP = 1)))
    (s.boundary = false → exec .stateChoice s = .next s) ∧
    (s.atBoundary → (s.tick + 1) % 50 ≠ 0 ∨ s.running = false ∨ s.pst ≠ 1 ∨ s.ptgt ≠ 1 → exec .stateChoice s = .next s) ∧
    (s.atBoundary → (s.tick + 1) % 50 = 0 → s.running = true → s.pst = 1 → s.ptgt = 1 →
      (fit k → (∀ j, k < j → ¬ fit j) → ∃ t, exec .stateChoice s = .next t ∧ t.ptgt = k ∧ t.pst = 1 ∧
        t = { s with
          regs := t.regs
          seq := { s.seq with ctx := t.seq.ctx, arrivals := s.seq.arrivals ++ [.set 921] }
          pwr := { s.pwr with choiceRef := false } } ∧ s.regsApart stat t) ∧
      ((∀ j, ¬ fit j) → exec .stateChoice s = .next s)) ∧
    exec (.pwrAck code) s = .next (if code % 8 = s.ptgt then { s with pwr := { s.pwr with ackPend := some (code % 8) } } else s) ∧
    (c = 4 → low < 50 → exec (.wake c low) s = .next s) ∧
    (c ≠ 1 → c ≠ 4 ∨ 50 ≤ low → s.pwr.ackPend = none → (arises → exec (.wake c low) s = .next { s with pwr := { s.pwr with wakePend := s.pwr.wakePend.or (some c) } }) ∧
      (¬ arises → exec (.wake c low) s = .next s)) ∧
    (s.boundary = false → exec (.wake 1 low) s = .next s) ∧
    (s.boundary = true → s.pwr.ackPend = none → s.ptgt = s.pst → 2 ≤ s.pst → s.pst ≤ 4 → s.nextEvt ≠ 0 →
      exec (.wake 1 low) s = .next (if s.nextEvt ≤ s.tick + 1 + (s.fget F.PWR_S_CFG_EXIT s.pst + s.fget F.PWR_MARGIN_MS) * 50 then
        { s with pwr := { s.pwr with wakePend := s.pwr.wakePend.or (some 1) } } else s)) ∧
    let trained : Prop := s.fget F.DRC_C_STAT_STATE 0 = 3 ∧ ∀ d ∈ List.range s.variant.drch, s.fget F.DRC_C_STAT_STATE d ≠ 2
    (s.pwr.asleep = false ∨ s.ptgt ≠ 1 ∨ ¬ trained → exec (.sleepResume true) s = .next s) ∧
    (s.pwr.asleep = true → s.ptgt = 1 → trained →
      (4 ≤ s.fget F.CAL_SET_BOOT → ∃ t, exec (.sleepResume true) s = .next t ∧ t = { s with
          regs := t.regs
          seq := { s.seq with ctx := t.seq.ctx, arrivals := s.seq.arrivals ++ [.set 921] }
          pwr := { s.pwr with asleep := false }
          boot := { s.boot with wdog := max (s.fget F.SYS_WDOG_TMO) 1 + 1 } } ∧ s.regsApart (fun a => a = R.SEQ_EV.addr 28 0) t) ∧
      ∃ t, exec (.sleepResume false) s = .next t ∧ t.boot.step = .locking ∧ t.boot.src = 7 ∧ t.ptgt = 1 ∧ t.nvm = s.nvm ∧ t.pending = s.pending ∧
        t.dram = [] ∧ (s.regsOk = true → t.rget R.SYS_PCYC = (s.rget R.SYS_PCYC + 1) % 2 ^ 32) ∧ .set 921 ∈ t.seq.arrivals) ∧
    (s.phase ≠ 0 ∨ s.pst ≠ 3 ∨ s.ptgt ≠ 3 ∨ s.pwr.sbTick ≠ 50 → exec .heartbeatTick s = .next s) ∧
    (s.phase = 0 → s.pst = 3 → s.ptgt = 3 → s.pwr.sbTick = 50 → s.fget F.PWR_CTRL_HBCTX < s.seq.ctx.length →
      ∃ t, exec .heartbeatTick s = .next t ∧ let h := s.fget F.PWR_CTRL_HBCTX
        let x := (s.ctx h).beginTick s.tick
        (∀ j, j ≠ h → t.ctx j = s.ctx j) ∧ (t.ctx h = x ∨ x.st = .ready ∧ t.ctx h = { x with st := .running, acts := 1 }) ∧
        t = { s with pwr := { s.pwr with sbTick := 51 }, seq := { s.seq with ctx := t.seq.ctx, pairCyc := t.seq.pairCyc } }) ∧
    exec (.nextevtWrite t') s = .next { s with pwr := { s.pwr with nextLo := t' % 2 ^ 32, nextPend := s.pwr.nextPend ++ [t' % 2 ^ 48] } }

/-- Supplies, temperatures and throttling (R546, R548 to R550, R553, R573, R591, R596, R598, R631): HOUSEKEEPING_SAMPLE,
SUPPLY_WARNING, SUPPLY_RECOVERY, SUPPLY_RESET, THRCLR, VSTBY_LOSS and RTC_SECOND. Each of these commands completes: a reading of the core
die, of the mains section and of none; a rail that reaches a level, that leaves it and that does neither; the others with their effect. -/
def Obligations.power_supervision : Prop :=
  ∀ (s : State) (i rail ns us : Nat) (v dev : Int) (ok : Bool),
    let line : Prop := i = 3 ∨ i = 23 ∨ i = 24
    let warned (t : State) : Prop := t = { s with
        regs := t.regs
        seq := { s.seq with ctx := t.seq.ctx, arrivals := s.seq.arrivals ++ [.set 922] }
        log := t.log
        msixPend := t.msixPend
        boot := { s.boot with frkHeld := t.boot.frkHeld }
        pwr := { s.pwr with holdSup := t.pwr.holdSup } } ∧ s.vectored t 22 ∧ s.regsApart (fun a => a = R.PWR_SUP.addr 0 0 ∨ a = R.SEQ_EV.addr 28 0) t
    let amounts (t : State) : Prop := ∀ k a, (k, a) ∈ t.boot.frkHeld ↔ k < 16 ∧ a = s.frankVal k - (s.frank k).committed ∧ a ≠ 0
    let higher : Prop := s.pwr.holdSup = true ∧ -30 < dev ∧ 1000 ≤ us
    let out : Prop := rail < 7 ∧ s.boot.step ≠ .off ∧ 1000 ≤ ns ∧ (dev ≤ -80 ∨ 80 < dev)
    let sup (a : Nat) : Prop := a = R.PWR_SUP.addr 0 0 ∨ a = R.SEQ_EV.addr 28 0
    (32 ≤ i → exec (.housekeepingSample i v ok) s = .next s) ∧
    (i < 32 → (line → s.variant.mains = false → exec (.housekeepingSample i v ok) s = .next { s with
          pwr := { s.pwr with hkPend := s.pwr.hkPend ++ [(i, 0, true)] } }) ∧
      (line → s.variant.mains = true → exec (.housekeepingSample i v ok) s = .next { s with power := { s.power with mns := { s.power.mns with
          hk := s.power.mns.hk.filter (fun r => r.1 != i) ++ [(i, unsign 16 v, ok)] } } }) ∧
      (¬ line → exec (.housekeepingSample i v ok) s = .next { s with pwr := { s.pwr with hkPend := s.pwr.hkPend ++ [(i, unsign 16 v, ok)] } })) ∧
    (7 ≤ rail ∨ s.ticking = false ∨ ns < 1000 → exec (.supplyWarning rail dev ns) s = .next s) ∧
    (rail < 7 → s.ticking = true → 1000 ≤ ns → dev ≤ -40 → (s.fget F.PWR_SUP_WARN).testBit rail = false →
      ∃ t, exec (.supplyWarning rail dev ns) s = .next t ∧ t.fget F.PWR_SUP_WARN = s.fget F.PWR_SUP_WARN ||| 2 ^ rail ∧ t.pwr.holdSup = true ∧
        t.nvmHold = true ∧ amounts t ∧ warned t) ∧
    (rail < 7 → s.ticking = true → 1000 ≤ ns → dev ≤ -40 → (s.fget F.PWR_SUP_WARN).testBit rail = true →
      ∃ t, exec (.supplyWarning rail dev ns) s = .next t ∧ t.pwr.holdSup = true ∧ amounts t ∧
        t = { s with boot := { s.boot with frkHeld := t.boot.frkHeld }, pwr := { s.pwr with holdSup := true } }) ∧
    (rail < 7 → s.ticking = true → 1000 ≤ ns → -40 < dev → (s.fget F.PWR_SUP_WARN).testBit rail = true →
      ∃ t, exec (.supplyWarning rail dev ns) s = .next t ∧ t.fget F.PWR_SUP_WARN = s.fget F.PWR_SUP_WARN - 2 ^ rail ∧ t.boot = s.boot ∧
        t.pwr = s.pwr ∧ warned t) ∧
    (rail < 7 → s.ticking = true → 1000 ≤ ns → -40 < dev → (s.fget F.PWR_SUP_WARN).testBit rail = false →
      exec (.supplyWarning rail dev ns) s = .next s) ∧
    (¬ higher → exec (.supplyRecovery dev us) s = .next s) ∧
    (higher → ∃ t, exec (.supplyRecovery dev us) s = .next t ∧ t.pwr.holdSup = false ∧ t.boot.frkHeld = [] ∧ t.fget F.PWR_SUP_WARN = 0) ∧
    (higher → s.fget F.PWR_SUP_WARN ≠ 0 → (s.pwr.holdTemp = true ∨ s.sec.minPend ≤ s.nvm.minver ∧ s.sec.rollPend = none) →
      ∃ t, exec (.supplyRecovery dev us) s = .next t ∧ t.fget F.PWR_SUP_WARN = 0 ∧ s.vectored t 22 ∧
        t.rcd.queue = (if s.pwr.holdTemp then s.rcd.queue
          else s.rcd.queue.map (fun r => { r with flags := if r.flags.testBit 3 then r.flags else r.flags + 8 })) ∧
        t = { s with
          regs := t.regs
          seq := { s.seq with ctx := t.seq.ctx, arrivals := s.seq.arrivals ++ [.set 922] }
          log := t.log
          msixPend := t.msixPend
          rcd := { s.rcd with queue := t.rcd.queue }
          sec := { s.sec with minPend := t.sec.minPend }
          boot := { s.boot with frkHeld := [] }
          pwr := { s.pwr with holdSup := false } } ∧ s.regsApart sup t) ∧
    (¬ out → exec (.supplyReset rail dev ns) s = .next s) ∧
    (out → ∃ t, exec (.supplyReset rail dev ns) s = .next t ∧ t.boot.step = .locking ∧ t.boot.src = 3 ∧ t.nvm = s.nvm ∧
      t.pending = s.pending ∧ t.pwr.lastRail = rail ∧ t.pwr.lastRailPm = s.postmarkNow ∧
      (s.regsOk = true → t.rget R.SYS_PCYC = (s.rget R.SYS_PCYC + 1) % 2 ^ 32) ∧
      (s.rcd.bank.length < 8 → ∃ b, t.rcd.bank = s.rcd.bank ++ [b] ∧ leAt b 0 2 = 0x6000 + 550 ∧ b.getD 2 0 = 4)) ∧
    exec .thrclr s = (if s.fget F.PWR_STAT_THR = 3 ∧ s.tj < 1680 then .next { s with pwr := { s.pwr with thrClr := true } }
      else .next (s.recRule 553 [2])) ∧
    (∃ t, exec (.vstbyLoss true) s = .next t ∧ t.pst = 5 ∧ t.boot.step = .off ∧ t.pins.vstby = false ∧ t.pins.mainps = false ∧ t.nvm = s.nvm ∧
      t.rcd.bank = s.rcd.bank ∧ t.rcd.gen = s.rcd.gen ∧ t.pending = s.pending ∧ t.boot.fscnt = s.boot.fscnt ∧
      (s.regsOk = true → t.rget R.SYS_PCYC = s.rget R.SYS_PCYC ∧ t.rget R.SYS_RTC = s.rget R.SYS_RTC)) ∧
    (∃ t, exec (.vstbyLoss false) s = .next t ∧ t.pst = 5 ∧ t.boot.step = .off ∧ t.pins.vstby = false ∧ t.nvm = s.nvm ∧
      t.rcd.bank = [] ∧ t.rcd.gen = s.rcd.gen ∧ t.pending = s.pending ∧ t.boot.fscnt = 0 ∧ t.boot.frkHeld = [] ∧
      t.rget R.SYS_PCYC = (State.initial s.variant).rget R.SYS_PCYC ∧ t.rget R.SYS_RTC = (State.initial s.variant).rget R.SYS_RTC) ∧
    ∃ t, exec .rtcSecond s = .next t ∧ t = { s with regs := t.regs } ∧ t.rget R.SYS_RTC = (s.rget R.SYS_RTC + 1) % 2 ^ 32 ∧
      t.rget R.SYS_OPSEC = (if s.boot.step = .off ∨ s.pwr.asleep = true then s.rget R.SYS_OPSEC else (s.rget R.SYS_OPSEC + 1) % 2 ^ 32) ∧
      s.regsApart (fun a => a = R.SYS_RTC.addr 0 0 ∨ a = R.SYS_OPSEC.addr 0 0) t

/-- The security functions (R11, R557 to R563, R565, R567 to R575, R577): PRESENCE_BUTTON, PRESENCE_EXPIRY, PRESFWD, PRESCLR,
SEAL_PULSE, MINVER_WRITE, KEY_SET, KEY_REVOKE, FRANKING_ADD, FRANKING_BATCH, FRKINIT, CHAL and UNLOCK. Each of these commands completes: with its effect where presence, the NVM and the state of
what it acts on allow it, refused or without an effect where they do not, and without one in Bivouac mode. -/
def Obligations.security_effects : Prop :=
  ∀ (s : State) (v k a level : Nat) (n : List Nat),
    let noted (code : Nat) (t : State) : Prop := s.rcd.queue.length < 256 → ∃ r, t.rcd.queue = s.rcd.queue ++ [r] ∧ r.code = code
    let event (f code : Nat) (t : State) : Prop := t.seq.arrivals = s.seq.arrivals ++ [.set f] ∧ s.vectored t 23 ∧ noted code t
    let only (t : State) : Prop := t = { s with
      regs := t.regs
      seq := { s.seq with ctx := t.seq.ctx, arrivals := t.seq.arrivals }
      log := t.log
      msixPend := t.msixPend
      rcd := t.rcd
      sec := t.sec }
    let onlyNvm (t : State) : Prop := t = { s with regs := t.regs, rcd := t.rcd, nvm := t.nvm }
    let evreg (b : Nat) : Prop := b = R.SEQ_EV.addr 28 0 ∨ recTouched b
    let refused (i : Instr) : Prop := ∃ t, exec i s = .next t ∧ t = { s with regs := t.regs, rcd := t.rcd } ∧ s.regsApart recTouched t ∧ noted 0x500B t
    let errs (i : Instr) (code : Nat) : Prop := ∃ t, exec i s = .next t ∧ t.fget F.SEC_STAT_ERR = code ∧ t = { s with regs := t.regs } ∧
      s.regsApart (fun b => b = R.SEC_STAT.addr 0 0) t
    let sel := s.rget R.SEC_KEYSEL
    let key := s.secWin 0x1000 96
    let slot := s.custSlot sel
    (s.boundary = false ∨ s.sec.btnHigh = false ∨ s.sec.btnLow ≠ 99999 → exec .presenceButton s = .next s) ∧
    (s.boundary = false → exec .presenceExpiry s = .next s) ∧
    (s.atBoundary → s.ticking = true → s.sec.btnHigh = true → s.sec.btnLow = 99999 → ∃ t, exec .presenceButton s = .next t ∧ only t ∧
      t.sec = { s.sec with remBtn := 1500001, btnHigh := false } ∧ s.regsApart evreg t ∧
      (s.presence = false → event 925 0x522D t) ∧ (s.presence = true → t = { s with sec := t.sec })) ∧
    (s.atBoundary → s.ticking = true → ∃ t, exec .presenceExpiry s = .next t ∧ only t ∧ s.regsApart evreg t ∧
      t.sec = { s.sec with
        remBtn := if s.sec.remBtn = 1 then 0 else s.sec.remBtn
        remRing := if s.sec.remRing = 1 then 0 else s.sec.remRing } ∧
      (s.presence = true → t.presence = false → event 925 0x522D t) ∧ (s.presence = t.presence → t = { s with sec := t.sec })) ∧
    (s.bivouac = true → ∀ i ∈ [Instr.presfwd, .presclr, .minverWrite v, .keySet, .keyRevoke, .frankingAdd k v, .frkinit k, .chal, .unlock level],
      exec i s = .next s) ∧
    (s.bivouac = false → exec .presfwd s = .next { s with sec := { s.sec with fwdPend := true } }) ∧
    (s.bivouac = false → exec .presclr s = .next { s with sec := { s.sec with clrPend := true } }) ∧
    (s.fget F.SEC_SEAL_BROKEN = 0 → exec (.sealPulse true) s = .next { s with sec := { s.sec with sealFail := 0, sealGood := 0 } }) ∧
    (s.fget F.SEC_SEAL_BROKEN = 1 → ∃ t, exec (.sealPulse true) s = .next t ∧ t.fget F.SEC_SEAL_BROKEN = (if 99 ≤ s.sec.sealGood then 0 else 1) ∧
      t = { s with
        regs := t.regs
        sec := { s.sec with sealFail := 0, sealGood := if 99 ≤ s.sec.sealGood then 0 else s.sec.sealGood + 1 } } ∧
      s.regsApart (fun b => b = R.SEC_SEAL.addr 0 0) t) ∧
    (s.sec.sealFail = 0 ∨ s.fget F.SEC_SEAL_BROKEN = 1 →
      exec (.sealPulse false) s = .next { s with sec := { s.sec with sealFail := min 2 (s.sec.sealFail + 1), sealGood := 0 } }) ∧
    (1 ≤ s.sec.sealFail → s.fget F.SEC_SEAL_BROKEN = 0 → s.ticking = true → ∃ t, exec (.sealPulse false) s = .next t ∧ only t ∧ event 926 0x5233 t ∧
      t.fget F.SEC_SEAL_BROKEN = 1 ∧ t.fget F.SEC_SEAL_COUNT = min (s.fget F.SEC_SEAL_COUNT + 1) 65535 ∧
      t.sec = { s.sec with sealFail := 2, sealGood := 0, sealNote := false } ∧
      s.regsApart (fun b => b = R.SEC_SEAL.addr 0 0 ∨ evreg b) t) ∧
    (1 ≤ s.sec.sealFail → s.fget F.SEC_SEAL_BROKEN = 0 → s.ticking = false → ∃ t, exec (.sealPulse false) s = .next t ∧
      t = { s with regs := t.regs, sec := { s.sec with sealFail := 2, sealGood := 0, sealNote := true } } ∧ t.fget F.SEC_SEAL_BROKEN = 1 ∧
      t.fget F.SEC_SEAL_COUNT = min (s.fget F.SEC_SEAL_COUNT + 1) 65535 ∧ s.regsApart (fun b => b = R.SEC_SEAL.addr 0 0) t) ∧
    (s.bivouac = false → v < 2 ^ 32 →
      (v = s.nvm.minver → s.nvmHold = false ∨ s.presence = false → exec (.minverWrite v) s = .next s) ∧
      (s.presence = false → v ≠ s.nvm.minver → refused (.minverWrite v)) ∧
      (s.presence = true → s.nvmHold = true → s.nvm.minver ≤ v →
        exec (.minverWrite v) s = .next { s with sec := { s.sec with minPend := max s.sec.minPend v } }) ∧
      (s.presence = true → s.nvmHold = false → s.nvm.minver < v → ∃ t, exec (.minverWrite v) s = .next t ∧ onlyNvm t ∧ noted 0x522D t ∧
        t.nvm = { s.nvm with minver := v } ∧ s.regsApart recTouched t) ∧
      (s.presence = true → v < s.nvm.minver → ∃ t, exec (.minverWrite v) s = .next t ∧ t = { s with regs := t.regs, rcd := t.rcd } ∧
        s.regsApart recTouched t)) ∧
    (s.bivouac = false → s.presence = false → refused .keySet ∧ refused .keyRevoke) ∧
    (s.bivouac = false → s.presence = true → s.nvmHold = true → errs .keySet 3 ∧ errs .keyRevoke 3) ∧
    (s.bivouac = false → s.presence = true → s.nvmHold = false →
      (3 ≤ sel → exec .keySet s = .next s ∧ exec .keyRevoke s = .next s) ∧
      (sel < 2 → slot.state = .revoked → errs .keySet 2) ∧
      (sel < 2 → slot.state ≠ .revoked → ∃ t, exec .keySet s = .next t ∧ let good := Config.ecdsaOk slot.key (Config.sha384 (sel :: (key ++ s.devid))) (s.secWin 0x1060 96)
        let err (code : Nat) : Prop := t.fget F.SEC_STAT_ERR = code ∧ t = { s with regs := t.regs } ∧ s.regsApart (fun b => b = R.SEC_STAT.addr 0 0) t
        (s.keyNew sel key = false → err 7) ∧ (s.keyNew sel key = true → slot.state = .set → good = false → err 1) ∧
        (s.keyNew sel key = true → (slot.state = .set → good = true) →
          onlyNvm t ∧ noted 0x522D t ∧ s.regsApart recTouched t ∧ t.nvm = { s.nvm with cust := s.nvm.cust.set sel ⟨.set, key⟩ })) ∧
      (sel = 2 → ∃ t, exec .keySet s = .next t ∧ onlyNvm t ∧ noted 0x522D t ∧ s.regsApart recTouched t ∧
        t.nvm = { s.nvm with ringKey := some (s.secWin 0x1100 32) }) ∧
      (sel < 2 → ∃ t, exec .keyRevoke s = .next t ∧ onlyNvm t ∧ noted 0x522D t ∧ s.regsApart recTouched t ∧
        t.nvm = { s.nvm with cust := s.nvm.cust.set sel { slot with state := .revoked } }) ∧
      (sel = 2 → ∃ t, exec .keyRevoke s = .next t ∧ onlyNvm t ∧ noted 0x522D t ∧ s.regsApart recTouched t ∧
        t.nvm = { s.nvm with ringKey := none })) ∧
    (k < 16 → s.bivouac = false → exec (.frankingAdd k v) s =
      .next (if v % 65536 = 0 then s else { s with sec := { s.sec with adds := s.sec.adds ++ [(k, v % 65536)] } })) ∧
    (16 ≤ k → exec (.frankingAdd k v) s = .next s) ∧
    (s.nvmHold = true ∨ s.fget F.SEC_STAT_FRKLOCK = 1 ∨ s.sec.batch = [] → exec .frankingBatch s = .next s) ∧
    (s.nvmHold = false → s.fget F.SEC_STAT_FRKLOCK = 0 → k < 16 → s.nvm.frank.length = 16 → s.sec.batch = [(k, a)] →
      ∃ t, exec .frankingBatch s = .next t ∧ let x := s.frank k
        let y := t.frank k
        y.committed = x.committed + a ∧ y.pend = x.pend ∧ y.bad = false ∧ y.copyA = y.copyB ∧ y.copyA.length = 192 ∧
        leAt y.copyA 0 4 = 0x4B524659 ∧ leAt y.copyA 8 8 = x.committed % 2 ^ 64 ∧ leAt y.copyA 0x10 8 = (x.committed + a) % 2 ^ 64 ∧
        leAt y.copyA 0x18 4 = s.nvm.frseq % 2 ^ 32 ∧ (∀ j, j ≠ k → t.frank j = s.frank j) ∧
        t = { s with
          regs := t.regs
          free := s.free + 1
          seq := { s.seq with ctx := t.seq.ctx, arrivals := s.seq.arrivals ++ [.set 927] }
          sec := { s.sec with batch := [] }
          nvm := { s.nvm with frank := t.nvm.frank, frseq := (s.nvm.frseq + 1) % 2 ^ 32 } } ∧
        s.regsApart (fun b => b = R.SEQ_EV.addr 28 0) t) ∧
    (s.bivouac = false → ∃ t, exec (.frkinit k) s = .next t ∧ t.rget R.SEC_FRKINIT = k % 16 ∧
      t = { s with
        regs := t.regs
        sec := { s.sec with initPend := some (k % 16, s.rget R.SEC_FRKIV_LO + s.rget R.SEC_FRKIV_HI % 65536 * 2 ^ 32) } } ∧
      s.regsApart (fun b => b = R.SEC_FRKINIT.addr 0 0) t) ∧
    (s.bivouac = false → ∃ t, exec .chal s = .next t ∧ let l := t.sec.challenge
      l.length = 48 ∧ (∀ b ∈ l, b < 256) ∧ t = { s with free := s.free + 48, sec := { s.sec with nonce := some l, challenge := l } }) ∧
    (s.bivouac = false → level < 4 → s.presence = false → refused (.unlock level)) ∧
    (s.bivouac = false → level < 4 → s.presence = true →
      (s.sec.nonce = none → ∃ t, exec (.unlock level) s = .next t ∧ t.fget F.SEC_STAT_ERR = 6 ∧ t = { s with regs := t.regs } ∧
        s.regsApart (fun b => b = R.SEC_STAT.addr 0 0 ∨ b = R.SEC_DBG.addr 0 0) t) ∧
      (s.sec.nonce = some n → ∃ t, exec (.unlock level) s = .next t ∧ (s.debugOk level n = false → t.fget F.SEC_STAT_ERR = 1 ∧ t.fget F.SEC_STAT_DBGUNL = s.fget F.SEC_STAT_DBGUNL ∧
          t = { s with regs := t.regs, sec := { s.sec with nonce := none } } ∧
          s.regsApart (fun b => b = R.SEC_STAT.addr 0 0 ∨ b = R.SEC_DBG.addr 0 0) t) ∧
        (s.debugOk level n = true → t.fget F.SEC_STAT_DBGUNL = 1 ∧ t.fget F.SEC_STAT_LEVEL = level ∧ t.fget F.SEC_STAT_FRKLOCK = 1 ∧ noted 0x5241 t ∧
          t = { s with regs := t.regs, rcd := t.rcd, sec := { s.sec with nonce := none } } ∧
          s.regsApart (fun b => b = R.SEC_STAT.addr 0 0 ∨ b = R.SEC_DBG.addr 0 0 ∨ recTouched b) t)))

/-- The event recorder (R582, R583, R585, R586, R589, R590, R593, R594): RECORD_WRITE, RATE_WINDOW_END, CLEAR, CLEAR_DONE and NEXT.
Each of these commands completes: RECORD_WRITE of a record that fits, that fills its area, that finds it full and whose comparison fails,
and with none ready; RATE_WINDOW_END of a window that has ended, that has not and of none; CLEAR under presence and without it. -/
def Obligations.recorder_effects : Prop :=
  ∀ (s : State) (step u : Nat) (r : Rec) (q : List Rec) (w : RlWin) (sec : Bool),
    let area := s.areaOf (secCode r.code)
    let p := area.1
    let bank (t : State) (l : List (List Nat)) : Prop := t.rcd.bank = s.rcd.bank ++ l
    let idx := s.cursor u
    (s.recReady = false → exec (.recordWrite step) s = .next s) ∧
    (s.recReady = true → s.rcd.queue = r :: q → 0 < s.rcd.lostNow → s.fget F.REC_STAT_LOGMEM_FAIL = 1 → s.rcd.bank.length < 8 → q.length < 256 →
      ∃ t, exec (.recordWrite step) s = .next t ∧ (∃ e, t.rcd.queue = q ++ [e] ∧ e.code = 0x5403 ∧ e.payload = [s.rcd.lostNow % 2 ^ 32]) ∧
        bank t [r.bytes] ∧ t.rcd.lostNow = 0 ∧ t.rcd.wrote = true ∧ t = { s with regs := t.regs, rcd := t.rcd } ∧ s.regsApart recTouched t) ∧
    (s.recReady = true → s.rcd.queue = r :: q → s.rcd.lostNow = 0 →
      (s.fget F.REC_STAT_LOGMEM_FAIL = 0 → (step = 2 ∨ step = 4) → p < area.2 → 7 ≤ s.rcd.bank.length → ∃ t, exec (.recordWrite step) s = .next t ∧
        t.fget F.REC_STAT_LOGMEM_FAIL = 1 ∧ bank t (if s.rcd.bank.length = 7 then [r.bytes] else []) ∧ s.vectored t 24) ∧
      (s.fget F.REC_STAT_LOGMEM_FAIL = 0 → step ≠ 2 → step ≠ 4 → p + 1 < area.2 → (p + 65 = area.2 → secCode r.code = true) →
        ∃ t, exec (.recordWrite step) s = .next t ∧ r.bytes.length = 128 ∧ slotMarked r.bytes = true ∧ slotCrcOk r.bytes = true ∧
          t = { s with rcd := { s.rcd with
            queue := q
            wrote := true
            gen := if secCode r.code then s.rcd.gen else (p, r.bytes) :: s.rcd.gen
            sec := if secCode r.code then (p, r.bytes) :: s.rcd.sec else s.rcd.sec } }) ∧
      (s.fget F.REC_STAT_LOGMEM_FAIL = 0 → step ≠ 2 → step ≠ 4 → secCode r.code = false → p + 65 = area.2 ∨ p + 1 = area.2 → q.length < 256 →
        ∃ t, exec (.recordWrite step) s = .next t ∧ t.rcd.gen = (p, r.bytes) :: s.rcd.gen ∧ s.vectored t 24 ∧
          t.seq.arrivals = s.seq.arrivals ++ [.set 928] ∧
          (∃ e, t.rcd.queue = q ++ [e] ∧ e.code = (if p + 1 = area.2 then 0x5405 else 0x5404)) ∧
          (p + 65 = area.2 → t.fget F.REC_STAT_NEARFULL = 1) ∧ (p + 1 = area.2 → t.fget F.REC_STAT_FULL = 1) ∧
          t.rcd.sec = s.rcd.sec ∧ t.rcd.bank = s.rcd.bank ∧ t.rcd.wrote = true ∧
          s.regsApart (fun a => a = R.REC_STAT.addr 0 0 ∨ a = R.SEQ_EV.addr 29 0 ∨ recTouched a) t) ∧
      (s.fget F.REC_STAT_LOGMEM_FAIL = 0 → step ≠ 2 → step ≠ 4 → secCode r.code = true → p + 1 = area.2 →
        ∃ t, exec (.recordWrite step) s = .next t ∧ t.fget F.REC_STAT_SECFULL = 1 ∧ s.vectored t 24 ∧
          t.seq.arrivals = s.seq.arrivals ++ [.set 928] ∧
          t.rcd = { s.rcd with queue := q, wrote := true, sec := (p, r.bytes) :: s.rcd.sec } ∧
          s.regsApart (fun a => a = R.REC_STAT.addr 0 0 ∨ a = R.SEQ_EV.addr 29 0) t) ∧
      (s.fget F.REC_STAT_LOGMEM_FAIL = 0 → area.2 ≤ p → ∃ t, exec (.recordWrite step) s = .next t ∧ t.rget R.REC_LOST = min (s.rget R.REC_LOST + 1) (2 ^ 32 - 1) ∧
        t = { s with regs := t.regs, rcd := { s.rcd with queue := q, wrote := true } } ∧
        s.regsApart (fun a => a = R.REC_LOST.addr 0 0) t) ∧
      (s.fget F.REC_STAT_LOGMEM_FAIL = 1 → s.rcd.bank.length < 8 → exec (.recordWrite step) s =
        .next { s with rcd := { s.rcd with queue := q, wrote := true, bank := s.rcd.bank ++ [r.bytes] } }) ∧
      (s.fget F.REC_STAT_LOGMEM_FAIL = 1 → 8 ≤ s.rcd.bank.length → ∃ t, exec (.recordWrite step) s = .next t ∧ t.rget R.REC_LOST = min (s.rget R.REC_LOST + 1) (2 ^ 32 - 1) ∧
        t = { s with regs := t.regs, rcd := { s.rcd with queue := q, wrote := true } } ∧
        s.regsApart (fun a => a = R.REC_LOST.addr 0 0) t) ∧
      (s.fget F.REC_STAT_LOGMEM_FAIL = 0 → (step = 2 ∨ step = 4) → p < area.2 → s.rcd.bank.length < 7 →
        ∃ t, exec (.recordWrite step) s = .next t ∧ t.fget F.REC_STAT_LOGMEM_FAIL = 1 ∧ (∃ b, t.rcd.bank = (s.rcd.bank ++ [r.bytes]) ++ [b] ∧ leAt b 0 2 = 0x5401) ∧
          t.rget R.REC_NEXTSEQ = (s.rget R.REC_NEXTSEQ + 1) % 2 ^ 32 ∧ s.vectored t 24 ∧
          t = { s with
            regs := t.regs
            free := s.free + 124
            seq := { s.seq with ctx := t.seq.ctx, arrivals := s.seq.arrivals ++ [.set 928] }
            log := t.log
            msixPend := t.msixPend
            rcd := { s.rcd with queue := q, wrote := true, bank := t.rcd.bank, gen := t.rcd.gen, sec := t.rcd.sec } } ∧
          s.regsApart (fun a => a = R.REC_STAT.addr 0 0 ∨ a = R.REC_NEXTSEQ.addr 0 0 ∨ a = R.SEQ_EV.addr 29 0) t)) ∧
    (s.boundary = false ∨ s.atBoundary ∧ s.rateWin u = none → exec (.rateWindowEnd u) s = .next s) ∧
    (s.atBoundary → s.ticking = true → s.rateWin w.key = some w →
      (s.tick + 1 < w.endTick → exec (.rateWindowEnd w.key) s = .next s) ∧
      (w.endTick ≤ s.tick + 1 → w.supp = 0 → exec (.rateWindowEnd w.key) s =
        .next { s with rcd := { s.rcd with wins := s.rcd.wins.filter (fun v => v.key != w.key) } }) ∧
      (w.endTick ≤ s.tick + 1 → w.supp ≠ 0 → s.rcd.queue.length < 256 → ∃ t, exec (.rateWindowEnd w.key) s = .next t ∧
          t.rcd = { s.rcd with wins := s.rcd.wins.filter (fun v => v.key != w.key), queue := t.rcd.queue } ∧ ∃ e, t.rcd.queue = s.rcd.queue ++ [e] ∧ e.code = w.firstCode ∧ e.flags = 1 ∧ e.origin = w.firstOrig ∧ e.tick = w.endTick ∧ e.payload.getD 0 0 = w.supp ∧
          e.rseq = s.rget R.REC_NEXTSEQ ∧ t.rget R.REC_NEXTSEQ = (s.rget R.REC_NEXTSEQ + 1) % 2 ^ 32 ∧
          t = { s with regs := t.regs, rcd := t.rcd } ∧ s.regsApart (fun a => a = R.REC_NEXTSEQ.addr 0 0) t)) ∧
    (s.presence = true → exec (.clear sec) s = .next { s with rcd := { s.rcd with clrPend := some sec } }) ∧
    (s.presence = false → ∃ t, exec (.clear sec) s = .next t ∧ t = { s with regs := t.regs, rcd := t.rcd } ∧ t.rcd.clrPend = s.rcd.clrPend ∧
      s.regsApart recTouched t) ∧
    (s.fget F.REC_STAT_CLRBUSY = 0 → exec .clearDone s = .next s) ∧
    (s.fget F.REC_STAT_CLRBUSY = 1 → ∃ t, exec .clearDone s = .next t ∧ t.fget F.REC_STAT_CLRBUSY = 0 ∧
      (s.rcd.queue.length < 256 → t.rcd = { s.rcd with queue := t.rcd.queue } ∧ ∃ e, t.rcd.queue = s.rcd.queue ++ [e] ∧ e.code = 0x5010) ∧ t = { s with regs := t.regs, rcd := t.rcd } ∧
      s.regsApart (fun a => a = R.REC_STAT.addr 0 0 ∨ recTouched a) t) ∧
    (2 ≤ u → exec (.recNext u) s = .next s) ∧
    (u < 2 → (∀ k, k ∈ s.recIndices → k < 12296) → ∃ t, exec (.recNext u) s = .next t ∧ let n := t.rget R.REC_C_IDX u
      ((n ∈ s.recIndices ∧ idx < n) ∨ (n = 12296 ∧ ∀ k, k ∈ s.recIndices → k ≤ idx)) ∧ (∀ k, k ∈ s.recIndices → idx < k → n ≤ k) ∧
      t = { s with regs := t.regs } ∧ s.regsApart (fun a => a = R.REC_C_IDX.addr u 0) t)

/-- Starts, failed starts and Basecamp's clock (R13, R566, R575, R596, R598 to R611, R643, Table 22-3): POWER_RELEASE, RESET_PIN,
SWRST, START_RETRY, PLL_LOCK, IMAGE_VERIFIED, START_STEP_OVERRUN, START_BUDGET_EXPIRY, WATCHDOG_EXPIRY, READY, KICK, BIVTRY,
SRAM_UNCORRECTABLE, SRAM_SINGLE_BIT and RTC_WRITE. Each of these commands completes: with its effect in the step of the start that it
belongs to, and without one in another. -/
def Obligations.start_sequence : Prop :=
  ∀ (s : State) (strap alarm : Bool) (us ns cause region word unit item v : Nat),
    let strapped : State := { s with pins := { s.pins with svcStrap := strap } }
    let powered : State := { s with pins := { s.pins with svcStrap := strap, vstby := true } }
    let oscillates (t : State) : Prop := t.boot.step = .bivouac ∧ t.fget F.SEQ_STAT_MODE = 4 ∧ t.fget F.TCK_STAT_LOCK = 0 ∧ t.tick = 0
    let failed (c : Nat) (t : State) : Prop := t.boot.step = .held ∧ t.boot.fscnt = min 7 (s.boot.fscnt + 1) ∧
      t.rget R.SYS_BIVC = s.rget R.SYS_BIVC ||| 2 ^ c ∧ t.nvm = s.nvm ∧ (∀ i, i < 6 → t.fget F.EXP_S_CTRL_LDEN i = 0)
    (s.boot.step = .off → ∃ t, exec (.powerRelease strap) s = .next t ∧ powered.starts t 1) ∧
    (s.boot.step ≠ .off → exec (.powerRelease strap) s = .next s) ∧
    (s.boot.step = .off ∨ ns < 1000 → exec (.resetPin strap ns) s = .next s) ∧
    (s.boot.step ≠ .off → 1000 ≤ ns → ∃ t, exec (.resetPin strap ns) s = .next t ∧ strapped.starts t 2) ∧
    (s.ticking = false → exec .swrst s = .next s ∧ exec .sramSingleBit s = .next s ∧ exec (.sramUncorrectable region word unit item) s = .next s) ∧
    (s.ticking = true → ∃ t, exec .swrst s = .next t ∧ s.starts t 5) ∧
    (s.boot.step ≠ .held ∨ us < 1000 → exec (.startRetry us) s = .next s) ∧
    (s.boot.step = .held → 1000 ≤ us → ∃ t, exec (.startRetry us) s = .next t ∧ s.starts t 6) ∧
    (s.boot.step ≠ .locking → exec (.pllLock us) s = .next s ∧ exec (.startStepOverrun 7) s = .next s) ∧
    (s.boot.step ≠ .image → exec .imageVerified s = .next s) ∧
    (s.boot.step = .locking →
      (s.boot.fscnt < 3 → (10000 < us → ∃ t, exec (.pllLock us) s = .next t ∧ failed 7 t) ∧ ∃ t, exec (.startStepOverrun 7) s = .next t ∧ failed 7 t) ∧
      (3 ≤ s.boot.fscnt → (10000 < us → ∃ t, exec (.pllLock us) s = .next t ∧ oscillates t) ∧ ∃ t, exec (.startStepOverrun 7) s = .next t ∧ oscillates t) ∧
      (us ≤ 10000 → ∃ t, exec (.pllLock us) s = .next t ∧ t.tick = 0 ∧ t.phase = 0 ∧ t.committed = false ∧
        t.fget F.TCK_STAT_LOCK = 1 ∧ t.fget F.CLK_STAT_CORELOCK = 1 ∧ t.fget F.CLK_STAT_REFOK = 1 ∧
        t.boot.lockUs = us ∧ t.boot.fscnt = s.boot.fscnt ∧
        (s.boot.fscnt < 3 → t.boot.step = .image ∧ t.fget F.SEQ_STAT_MODE = 1) ∧
        (3 ≤ s.boot.fscnt → t.boot.step = .bivouac ∧ t.fget F.SEQ_STAT_MODE = 4 ∧ t.fget F.SYS_START_STATE = 2) ∧
        (∀ k, k < 16 → s.nvm.frank.length = 16 → s.frkCopyOk (s.frank k).copyA = false → s.frkCopyOk (s.frank k).copyB = false →
          (t.frank k).bad = true ∧ (t.frank k).committed = 0))) ∧
    (s.boot.step = .image → ∃ t, exec .imageVerified s = .next t ∧ (s.imageErr s.activeImage none ≠ 0 → failed 0 t) ∧
      (s.imageErr s.activeImage none = 0 → t.boot.step = .admission ∧ t.boot.stepAt = s.elapsed ∧
        t.fget F.SEQ_STAT_MODE = 2 ∧ t.fget F.PLC_STAT_RESULT = 3 ∧ t.nvm.idPub ≠ none ∧ (s.nvm.idPub ≠ none → t.nvm = s.nvm))) ∧
    (s.boundary = false → cause ≠ 7 → exec (.startStepOverrun cause) s = .next s) ∧
    (s.boundary = false → exec .startBudgetExpiry s = .next s ∧ exec .watchdogExpiry s = .next s) ∧
    (s.atBoundary → s.ticking = true → cause < 3 → s.stepLate cause (s.elapsed + 1) = true → ∃ t, exec (.startStepOverrun cause) s = .next t ∧ failed cause t) ∧
    (s.atBoundary → s.boot.ready = false → (s.boot.step = .image ∨ s.boot.step = .admission ∨ s.boot.step = .running) →
      max (s.fget F.SYS_BCCFG_SBUDGET) 1 * 100000 ≤ s.boot.lockUs + 20 * (s.elapsed + 1) → ∃ t, exec .startBudgetExpiry s = .next t ∧ failed 3 t) ∧
    (s.atBoundary → s.wdogRuns = true → s.boot.wdog ≤ 1 →
      (s.boot.ready = false → ∃ t, exec .watchdogExpiry s = .next t ∧ failed 4 t) ∧
      (s.boot.ready = true → ∃ t, exec .watchdogExpiry s = .next t ∧ t.boot.step = .locking ∧ t.boot.src = 4 ∧ t.nvm = s.nvm ∧
        t.pending = s.pending ∧ t.boot.fscnt = s.boot.fscnt ∧
        t.rcd.queue.map (fun e => (e.code, e.tick, e.payload)) = [(0x0013, s.tick + 1, [s.fget F.SYS_WDOG_TMO])])) ∧
    (s.boot.ready = true → exec .ready s = .next (s.recRule 601)) ∧
    (s.running = false → s.boot.ready = false → exec .ready s = .next s) ∧
    (s.running = true → s.boot.ready = false → ∃ t, exec .ready s = .next t ∧ t.boot = { s.boot with ready := true, fscnt := 0 } ∧
      t.fget F.SYS_START_STATE = 1 ∧ t.fget F.SYS_START_MS = min s.startMs 32767 ∧ t.rget R.SYS_BIVC = 0 ∧
      t.nvm.minver = (if s.nvmHold then s.nvm.minver else max s.nvm.minver (imgSecver s.boot.image - s.nvm.rollwin)) ∧
      t = { s with regs := t.regs, boot := t.boot, nvm := { s.nvm with minver := t.nvm.minver }, sec := { s.sec with minPend := t.sec.minPend }, rcd := t.rcd } ∧
      s.regsApart (fun a => a = R.SYS_START.addr 0 0 ∨ a = R.SYS_BIVC.addr 0 0 ∨ recTouched a) t) ∧
    exec .kick s = .next (if s.running = true ∧ s.boot.first = false then
      { s with boot := { s.boot with wdog := max (s.fget F.SYS_WDOG_TMO) 1 } } else s) ∧
    (s.presence = true → exec .bivtry s = .next (if s.bivouac then { s with boot := { s.boot with fscnt := 2 } } else s)) ∧
    (s.presence = false → ∃ t, exec .bivtry s = .next t ∧ t = { s with regs := t.regs, rcd := t.rcd } ∧ s.regsApart recTouched t) ∧
    (9 < region → exec (.sramUncorrectable region word unit item) s = .next s) ∧
    (s.ticking = true → unit < 6 → s.img.stn.length = 6 → ∃ t, exec (.sramUncorrectable 0 word unit item) s = .next t ∧
      (t.stn unit).holes = (s.stn unit).holes.map (fun h => if h.no = item then { h with valid := false, lost := true } else h) ∧
      (∀ n, n ≠ unit → t.stn n = s.stn n) ∧ t = { s with regs := t.regs, rcd := t.rcd, img := t.img } ∧ s.regsApart recTouched t) ∧
    (s.ticking = true → ∃ t, exec (.sramUncorrectable 3 word 0 item) s = .next t ∧ t = { s with regs := t.regs, rcd := t.rcd } ∧
      t.fget F.EUN_P_CNT_CRCERR item = min (s.fget F.EUN_P_CNT_CRCERR item + 1) 65535 ∧
      s.regsApart (fun a => a = R.EUN_P_CNT.addr item 0 ∨ recTouched a) t) ∧
    (s.ticking = true → 4 ≤ region → region ≤ 9 → ∃ t, exec (.sramUncorrectable region word unit item) s = .next t ∧ t.boot = { s.boot with sramBad := s.boot.sramBad.or (some region) } ∧ t = { s with regs := t.regs, rcd := t.rcd, boot := t.boot } ∧
      s.regsApart recTouched t) ∧
    (s.ticking = true → ∃ t, exec .sramSingleBit s = .next t ∧ t.fget F.SYS_ABS0_SRAMCE = min (s.fget F.SYS_ABS0_SRAMCE + 1) 255 ∧
      t = { s with regs := t.regs, seq := { s.seq with ctx := t.seq.ctx, arrivals := s.seq.arrivals ++ [.set 929] } } ∧
      s.regsApart (fun a => a = R.SYS_ABS0.addr 0 0 ∨ a = R.SEQ_EV.addr 29 0) t) ∧
    (v < 2 ^ 32 → ∃ t, exec (.rtcWrite alarm v) s = .next t ∧ let now := if alarm then s.rget R.SYS_RTC else v
      let due := if alarm then v else s.rget R.SYS_RTCALM
      t.rget R.SYS_RTC = now ∧ t.rget R.SYS_RTCALM = due ∧
      t.pwr = { s.pwr with nextPend := s.pwr.nextPend ++ (if now < due then [(s.tick + (due - now) * 50000) % 2 ^ 48] else []) } ∧
      t = { s with regs := t.regs, pwr := t.pwr } ∧
      s.regsApart (fun a => a = R.SYS_RTC.addr 0 0 ∨ a = R.SYS_RTCALM.addr 0 0) t)

/-- General I/O (R637 to R640): EVENT_CAPTURE, SPI_TX, SPI_FRAME_DONE, I2C_GO, I2C_TRANSFER_END, UART_TX, UART_RECEIVE, UART_POP
and UART_BYTE_SENT. Each of these commands completes: with its effect, at a full or an empty queue, and while its unit is off or busy. -/
def Obligations.io_effects : Prop :=
  ∀ (s : State) (k sub x miso nw nr addr b : Nat) (q data : List Nat) (ns : Nat) (fall nack arb : Bool),
    let noted (t : State) : Prop := t = { s with regs := t.regs, rcd := t.rcd } ∧ s.regsApart recTouched t
    let spi (q' : List Nat) : Iox := { s.iox with spi := s.iox.spi.set k q' }
    let tx (q' : List Nat) : Iox := { s.iox with tx := s.iox.tx.set k q' }
    let rx (q' : List Nat) : Iox := { s.iox with rx := s.iox.rx.set k q' }
    let flagged (t : State) : Prop := t = { s with
      regs := t.regs
      seq := { s.seq with ctx := t.seq.ctx, arrivals := t.seq.arrivals }
      log := t.log
      msixPend := t.msixPend
      iox := t.iox }
    let edge : Prop := s.fget F.IOX_EVC_CFG_EN k = 1 ∧ (s.fget F.IOX_EVC_CFG_EDGE k = 2 ∨ s.fget F.IOX_EVC_CFG_EDGE k = bit fall) ∧ 10 ≤ ns
    let len := s.fget F.IOX_SPI_CFG_LEN k
    let spiOn := s.fget F.IOX_SPI_CFG_EN k = 1
    let uartOn := s.fget F.IOX_U_CFG_EN k = 1
    (k < 16 → edge → ∃ t, exec (.eventCapture k sub fall ns) s = .next t ∧ flagged t ∧ t.iox = s.iox ∧
      t.rget R.IOX_EVC_TIME k = (s.tick * 8000 + s.phase * 500 + sub) % 2 ^ 32 ∧
      t.rget R.IOX_EVC_CNT k = min (s.rget R.IOX_EVC_CNT k + 1) (2 ^ 32 - 1) ∧ t.seq.arrivals = s.seq.arrivals ++ [.set (930 + k)] ∧
      (s.fget F.IOX_EVC_CFG_IRQ k = 1 → s.vectored t 26) ∧ (s.fget F.IOX_EVC_CFG_IRQ k = 0 → t.log = s.log ∧ t.msixPend = s.msixPend) ∧
      s.regsApart (fun a => a = R.IOX_EVC_TIME.addr k 0 ∨ a = R.IOX_EVC_CNT.addr k 0 ∨ a = R.SEQ_EV.addr 29 0) t) ∧
    (16 ≤ k ∨ ¬ edge → exec (.eventCapture k sub fall ns) s = .next s) ∧
    (2 ≤ k → exec (.spiTx k x) s = .next s ∧ exec (.uartTx k b) s = .next s) ∧
    (¬ spiOn ∨ s.spiQ k = [] → exec (.spiFrameDone k miso) s = .next s) ∧
    (k < 2 → s.spiQ k = q → (8 ≤ q.length → ∃ t, exec (.spiTx k x) s = .next t ∧ noted t) ∧
      (q.length < 8 → (q ≠ [] ∨ s.fget F.IOX_SPI_CFG_EN k = 0) →
        exec (.spiTx k x) s = .next { s with iox := spi (q ++ [x % 2 ^ 32]) }) ∧
      (q = [] → spiOn → s.iox.spi.length = 2 → exec (.spiTx k x) s =
        .next { s with iox := spi [x % 2 ^ 32], log := s.log ++ [.spi k (x % 2 ^ 32 % 2 ^ len)] })) ∧
    (k < 2 → s.iox.spi.length = 2 → s.spiQ k = x :: q → spiOn → ∃ t, exec (.spiFrameDone k miso) s = .next t ∧ flagged t ∧ t.iox = spi q ∧
      t.msixPend = s.msixPend ∧ t.rget R.IOX_SPI_RXD k = miso % 2 ^ len % 2 ^ 32 ∧
      (q = [] → t.seq.arrivals = s.seq.arrivals ++ [.set (946 + k)] ∧ t.log = s.log) ∧
      (q ≠ [] → t.seq = s.seq ∧ t.log = s.log ++ [.spi k (nth q 0 0 % 2 ^ len)]) ∧
      s.regsApart (fun a => a = R.IOX_SPI_RXD.addr k 0 ∨ a = R.SEQ_EV.addr 29 0) t) ∧
    (k < 4 → s.fget F.IOX_I2C_STAT_BUSY k = 0 → exec (.i2cTransferEnd k data nack arb) s = .next s) ∧
    (k < 4 → nw < 8 → nr < 8 → addr < 128 →
      (s.fget F.IOX_I2C_STAT_BUSY k = 1 → ∃ t, exec (.i2cGo k nw nr addr) s = .next t ∧ t = { s with regs := t.regs, rcd := t.rcd } ∧
        s.regsApart (fun a => a = R.IOX_I2C_CMD.addr k 0 ∨ recTouched a) t) ∧
      (s.fget F.IOX_I2C_STAT_BUSY k = 0 → s.fget F.IOX_I2C_CFG_EN k = 0 → ∃ t, exec (.i2cGo k nw nr addr) s = .next t ∧
        t.fget F.IOX_I2C_CMD_NW k = nw ∧ t.fget F.IOX_I2C_CMD_NR k = nr ∧ t.fget F.IOX_I2C_CMD_ADDR k = addr ∧ t = { s with regs := t.regs } ∧
        s.regsApart (fun a => a = R.IOX_I2C_CMD.addr k 0) t) ∧
      (s.fget F.IOX_I2C_STAT_BUSY k = 0 → s.fget F.IOX_I2C_CFG_EN k = 1 → ∃ t, exec (.i2cGo k nw nr addr) s = .next t ∧ t.fget F.IOX_I2C_STAT_BUSY k = 1 ∧ t.fget F.IOX_I2C_CMD_NW k = nw ∧ t.fget F.IOX_I2C_CMD_NR k = nr ∧ t.fget F.IOX_I2C_CMD_ADDR k = addr ∧
        t = { s with
          regs := t.regs
          log := s.log ++ [.i2c k addr ((leBytes 4 (s.rget R.IOX_I2C_DATA k)).take nw) (min 4 nr)] } ∧
        s.regsApart (fun a => a = R.IOX_I2C_CMD.addr k 0 ∨ a = R.IOX_I2C_STAT.addr k 0) t)) ∧
    (k < 4 → s.fget F.IOX_I2C_STAT_BUSY k = 1 → ∃ t, exec (.i2cTransferEnd k data nack arb) s = .next t ∧ flagged t ∧ t.iox = s.iox ∧ t.log = s.log ∧
      t.msixPend = s.msixPend ∧ t.seq.arrivals = s.seq.arrivals ++ [.set (948 + k)] ∧ t.fget F.IOX_I2C_STAT_BUSY k = 0 ∧
      t.fget F.IOX_I2C_STAT_NACK k = (if nack then 1 else s.fget F.IOX_I2C_STAT_NACK k) ∧
      t.fget F.IOX_I2C_STAT_ARB k = (if arb then 1 else s.fget F.IOX_I2C_STAT_ARB k) ∧
      (nack = false → arb = false → data.length = 4 → (∀ y ∈ data, y < 256) → t.rget R.IOX_I2C_DATA k = leWord data) ∧
      (nack = true ∨ arb = true → t.rget R.IOX_I2C_DATA k = s.rget R.IOX_I2C_DATA k) ∧
      s.regsApart (fun a => a = R.IOX_I2C_STAT.addr k 0 ∨ a = R.IOX_I2C_DATA.addr k 0 ∨ a = R.SEQ_EV.addr 29 0) t) ∧
    (k < 2 → s.uartTx k = q → (16 ≤ q.length → ∃ t, exec (.uartTx k b) s = .next t ∧ noted t) ∧
      (q.length < 16 → (q ≠ [] ∨ s.fget F.IOX_U_CFG_EN k = 0) → exec (.uartTx k b) s = .next { s with iox := tx (q ++ [b % 256]) }) ∧
      (q = [] → uartOn → s.iox.tx.length = 2 → exec (.uartTx k b) s = .next { s with iox := tx [b % 256], log := s.log ++ [.uart k (b % 256)] })) ∧
    (k < 2 → ¬ uartOn ∨ s.uartTx k = [] → exec (.uartByteSent k) s = .next s) ∧
    (k < 2 → ¬ uartOn → exec (.uartReceive k b) s = .next s) ∧
    (k < 2 → s.iox.tx.length = 2 → s.uartTx k = x :: q → uartOn → exec (.uartByteSent k) s = .next { s with
      iox := tx q
      log := s.log ++ (match q with | [] => [] | y :: _ => [.uart k y]) }) ∧
    (k < 2 → uartOn → s.uartRx k = q →
      (16 ≤ q.length → ∃ t, exec (.uartReceive k b) s = .next t ∧ t.fget F.IOX_U_STAT_OVR k = 1 ∧ t = { s with regs := t.regs } ∧
        s.regsApart (fun a => a = R.IOX_U_STAT.addr k 0) t) ∧
      (q ≠ [] → q.length < 16 → exec (.uartReceive k b) s = .next { s with iox := rx (q ++ [b % 256]) }) ∧
      (q = [] → ∃ t, exec (.uartReceive k b) s = .next t ∧ flagged t ∧ t.iox = rx [b % 256] ∧ t.seq.arrivals = s.seq.arrivals ++ [.set (952 + k)] ∧
        s.vectored t 27 ∧ s.regsApart (fun a => a = R.SEQ_EV.addr 29 0) t)) ∧
    (k < 2 → exec (.uartPop k) s = .next { s with iox := rx ((s.uartRx k).drop 1) })
end

