-- ==== Sys2Proof/Laws/Store.lean ====
section
/-! SUPPORT. The laws of sparse tables and byte memories: a read after a write, the places a write leaves alone, and the
canonical form that every write keeps. -/

namespace Sys2Proof.Machine

/-- A read of the key just written gives the value written. -/
theorem tabGet_tabPut_same {α : Type} [DecidableEq α] (d v : α) (m : List (Nat × α)) (k : Nat) :
    tabGet d (tabPut d m k v) k = v := by
  induction m with
  | nil => by_cases h : v = d <;> simp [tabPut, tabGet, h]
  | cons x m ih =>
    obtain ⟨k', v'⟩ := x
    by_cases h1 : k < k'
    · by_cases h : v = d
      · simp [tabPut, h1, h, tabGet, Nat.ne_of_lt h1]
      · simp [tabPut, h1, h, tabGet]
    · by_cases h2 : k = k'
      · subst h2
        by_cases h : v = d
        · subst h
          cases m with
          | nil => simp [tabPut, tabAbove, tabGet]
          | cons y m =>
            obtain ⟨k2, v2⟩ := y
            by_cases h3 : k < k2
            · simp [tabPut, tabAbove, h3, tabGet, Nat.ne_of_lt h3]
            · simp [tabPut, tabAbove, h3, tabGet]
        · simp [tabPut, h, tabGet]
      · simp [tabPut, h1, h2, tabGet, ih]

/-- A write leaves every other key alone, whatever the reader's default. -/
theorem tabGet_tabPut_ne {α : Type} [DecidableEq α] (d e v : α) (m : List (Nat × α)) (k j : Nat) (h : j ≠ k) :
    tabGet e (tabPut d m k v) j = tabGet e m j := by
  induction m with
  | nil =>
    by_cases hv : v = d
    · simp [tabPut, hv, tabGet]
    · simp [tabPut, hv, tabGet, h]
  | cons x m ih =>
    obtain ⟨k', v'⟩ := x
    by_cases h1 : k < k'
    · by_cases hv : v = d
      · simp [tabPut, h1, hv]
      · by_cases h2 : j < k
        · simp [tabPut, h1, hv, tabGet, h, h2, Nat.lt_trans h2 h1, Nat.ne_of_lt (Nat.lt_trans h2 h1)]
        · simp [tabPut, h1, hv, tabGet, h, h2]
    · by_cases h2 : k = k'
      · subst h2
        by_cases hv : v = d && tabAbove k m
        · simp only [tabPut, Nat.lt_irrefl, ite_false, ite_true, hv, tabGet, h]
          cases m with
          | nil => simp [tabGet]
          | cons y m =>
            obtain ⟨k2, v2⟩ := y
            have h3 : k < k2 := by simp [tabAbove] at hv; exact hv.2
            by_cases h4 : j < k
            · have h5 := Nat.lt_trans h4 h3
              simp [tabGet, h4, h5, Nat.ne_of_lt h5]
            · simp [h4]
        · simp [tabPut, hv, tabGet, h]
      · simp [tabPut, h1, h2, tabGet, ih]

/-- A table in canonical form above a bound is one above any lower bound. -/
theorem tabWfFrom_weaken {α : Type} [DecidableEq α] (d : α) (m : List (Nat × α)) (lo : Option Nat) (h : tabWfFrom d lo m = true) :
    tabWfFrom d none m = true := by
  cases m with
  | nil => rfl
  | cons x m => obtain ⟨k, v⟩ := x; cases lo <;> simp [tabWfFrom] at h ⊢ <;> simp_all

/-- The first key of a table in canonical form above a bound lies above it. -/
theorem tabAbove_of_wf {α : Type} [DecidableEq α] (d : α) (m : List (Nat × α)) (k : Nat) (h : tabWfFrom d (some k) m = true) :
    tabAbove k m = true := by
  cases m with
  | nil => rfl
  | cons x m => obtain ⟨k', v⟩ := x; simp [tabWfFrom] at h; simpa [tabAbove] using h.1.1

/-- A table in canonical form whose first key lies above k is in canonical form above k. -/
theorem tabWfFrom_of_above {α : Type} [DecidableEq α] (d : α) (m : List (Nat × α)) (k k' : Nat) (hk : k < k')
    (h : tabWfFrom d (some k') m = true) : tabWfFrom d (some k) m = true := by
  cases m with
  | nil => rfl
  | cons x m =>
    obtain ⟨j, v⟩ := x
    simp [tabWfFrom] at h ⊢
    exact ⟨⟨Nat.lt_trans hk h.1.1, h.1.2⟩, h.2⟩

/-- A write keeps the canonical form, above a bound that the key keeps. -/
theorem tabWfFrom_tabPut {α : Type} [DecidableEq α] (d v : α) (m : List (Nat × α)) (k : Nat) (lo : Option Nat)
    (hl : ∀ l, lo = some l → l < k) (h : tabWfFrom d lo m = true) : tabWfFrom d lo (tabPut d m k v) = true := by
  induction m generalizing lo with
  | nil =>
    by_cases hv : v = d
    · simp [tabPut, hv, tabWfFrom]
    · cases lo with
      | none => simp [tabPut, hv, tabWfFrom]
      | some l => simp [tabPut, hv, tabWfFrom, hl l rfl]
  | cons x m ih =>
    obtain ⟨k', v'⟩ := x
    by_cases h1 : k < k'
    · by_cases hv : v = d
      · simpa [tabPut, h1, hv] using h
      · cases lo with
        | none => simp [tabPut, h1, hv, tabWfFrom] at h ⊢; exact h
        | some l => simp [tabPut, h1, hv, tabWfFrom, hl l rfl] at h ⊢; exact ⟨h.1.2, h.2⟩
    · by_cases h2 : k = k'
      · subst h2
        have hm : tabWfFrom d (some k) m = true := by
          cases lo <;> simp [tabWfFrom] at h <;> exact h.2
        by_cases hv : v = d
        · have ha := tabAbove_of_wf d m k hm
          have hr : tabPut d ((k, v') :: m) k v = m := by simp [tabPut, hv, ha]
          rw [hr]
          cases lo with
          | none => exact tabWfFrom_weaken d m _ hm
          | some l => exact tabWfFrom_of_above d m l k (hl l rfl) hm
        · have hr : tabPut d ((k, v') :: m) k v = (k, v) :: m := by simp [tabPut, hv]
          rw [hr]
          cases lo with
          | none => simp [tabWfFrom, hv, hm]
          | some l => simp [tabWfFrom, hv, hm, hl l rfl]
      · have hr : tabPut d ((k', v') :: m) k v = (k', v') :: tabPut d m k v := by simp [tabPut, h1, h2]
        rw [hr]
        have hm : tabWfFrom d (some k') m = true := by
          cases lo <;> simp [tabWfFrom] at h <;> exact h.2
        have := ih (some k') (by intro l hl'; cases hl'; omega) hm
        cases lo <;> simp [tabWfFrom] at h ⊢ <;> simp_all

/-- A write of one entry keeps the canonical form. -/
theorem tabWf_tabPut {α : Type} [DecidableEq α] (d v : α) (m : List (Nat × α)) (k : Nat) (h : tabWf d m = true) :
    tabWf d (tabPut d m k v) = true :=
  tabWfFrom_tabPut d v m k none (by intro l hl; cases hl) h

/-- Taking a suffix or a subset of the entries keeps the canonical form. -/
theorem tabWfFrom_filter {α : Type} [DecidableEq α] (d : α) (p : Nat × α → Bool) (m : List (Nat × α)) (lo : Option Nat)
    (h : tabWfFrom d lo m = true) : tabWfFrom d lo (m.filter p) = true := by
  induction m generalizing lo with
  | nil => rfl
  | cons x m ih =>
    obtain ⟨k, v⟩ := x
    have hm : tabWfFrom d (some k) m = true := by cases lo <;> simp [tabWfFrom] at h <;> exact h.2
    by_cases hp : p (k, v) = true
    · rw [List.filter_cons_of_pos hp]
      have := ih (some k) hm
      cases lo <;> simp [tabWfFrom] at h ⊢ <;> simp_all
    · rw [List.filter_cons_of_neg hp]
      cases lo with
      | none => exact tabWfFrom_weaken d _ (some k) (ih (some k) hm)
      | some l =>
        have hk : l < k := by simp [tabWfFrom] at h; exact h.1.1
        exact tabWfFrom_of_above d _ l k hk (ih (some k) hm)

/-- A write of bytes keeps a memory's canonical form. -/
theorem memPutBytes_wf (m : List Host.Cell) (a : Nat) (bs : List Nat) (h : Memory.wf m = true) :
    Memory.wf (memPutBytes m a bs) = true := by
  induction bs generalizing m a with
  | nil => exact h
  | cons b bs ih => exact ih _ _ (tabWf_tabPut 0 _ m a h)

/-- A store keeps a memory's canonical form. -/
theorem memWrite_wf (m : List Host.Cell) (a n v : Nat) (h : Memory.wf m = true) : Memory.wf (memWrite m a n v) = true :=
  memPutBytes_wf m a _ h

/-- A write of bytes leaves every byte outside it alone. -/
theorem memPutBytes_other (m : List Host.Cell) (a j : Nat) (bs : List Nat) (h : j < a ∨ a + bs.length ≤ j) :
    tabGet (0 : Byte) (memPutBytes m a bs) j = tabGet (0 : Byte) m j := by
  induction bs generalizing m a with
  | nil => rfl
  | cons b bs ih =>
    have hl : (b :: bs).length = bs.length + 1 := rfl
    rw [memPutBytes, ih _ _ (by omega), tabGet_tabPut_ne _ _ _ _ _ _ (by omega)]

/-- A written byte reads back. -/
theorem memPutBytes_get (m : List Host.Cell) (a : Nat) (bs : List Nat) (i : Nat) (h : i < bs.length) :
    tabGet (0 : Byte) (memPutBytes m a bs) (a + i) = BitVec.ofNat 8 bs[i] := by
  induction bs generalizing m a i with
  | nil => simp at h
  | cons b bs ih =>
    cases i with
    | zero =>
      rw [memPutBytes, memPutBytes_other _ _ _ _ (by omega), Nat.add_zero, tabGet_tabPut_same]
      rfl
    | succ i =>
      have := ih (tabPut (0 : Byte) m a (BitVec.ofNat 8 b)) (a + 1) i (by simpa using h)
      rw [memPutBytes, show a + (i + 1) = a + 1 + i by omega, this]
      rfl

/-- The low n bytes of a number have length n. -/
@[simp] theorem leBytes_length (n v : Nat) : (leBytes n v).length = n := by
  induction n generalizing v with
  | zero => rfl
  | succ n ih => simp [leBytes, ih]

/-- A store leaves every byte outside it alone. -/
theorem memWrite_other (m : List Host.Cell) (a n v j : Nat) (h : j < a ∨ a + n ≤ j) :
    tabGet (0 : Byte) (memWrite m a n v) j = tabGet (0 : Byte) m j :=
  memPutBytes_other m a j _ (by simpa using h)

/-- The bytes of a number make the number again, modulo 2^(8n). -/
theorem leWord_leBytes (n v : Nat) : leWord (leBytes n v) = v % 256 ^ n := by
  induction n generalizing v with
  | zero => simp [leBytes, leWord, Nat.mod_one]
  | succ n ih => rw [leBytes, leWord, ih, Nat.pow_succ, Nat.mul_comm (256 ^ n), Nat.mod_mul, Nat.mod_mod]

/-- Reading the bytes just written gives them, modulo 256. -/
theorem memBytes_memPutBytes (m : List Host.Cell) (a : Nat) (bs : List Nat) :
    memBytes (memPutBytes m a bs) a bs.length = bs.map (· % 256) := by
  apply List.ext_getElem
  · simp [memBytes]
  · intro i h1 h2
    simp only [memBytes, List.getElem_map, List.getElem_range]
    rw [memPutBytes_get m a bs i (by simpa using h2)]
    simp

/-- The bytes of a number are bytes. -/
theorem leBytes_mod (n v : Nat) : (leBytes n v).map (· % 256) = leBytes n v := by
  induction n generalizing v with
  | zero => rfl
  | succ n ih => simp [leBytes, ih]

/-- A load of what was just stored gives it, modulo 2^(8n). -/
theorem memRead_memWrite_same (m : List Host.Cell) (a n v : Nat) : memRead (memWrite m a n v) a n = v % 256 ^ n := by
  have := memBytes_memPutBytes m a (leBytes n v)
  rw [leBytes_length, leBytes_mod] at this
  rw [memRead, memWrite, this, leWord_leBytes]

/-- A load apart from a store gives what it gave before. -/
theorem memRead_memWrite_other (m : List Host.Cell) (a n v b k : Nat) (h : b + k ≤ a ∨ a + n ≤ b) :
    memRead (memWrite m a n v) b k = memRead m b k := by
  have : memBytes (memWrite m a n v) b k = memBytes m b k := by
    apply List.map_congr_left
    intro i hi
    rw [memWrite_other m a n v (b + i) (by have := List.mem_range.mp hi; omega)]
  rw [memRead, this, memRead]

end Sys2Proof.Machine
end

