-- ==== Sys2Proof/Laws/Regs.lean ====
section
/-! SUPPORT. The laws of registers and their fields: a read after a write, the registers and fields that a write leaves
alone, and the other parts of the state, which a register write never touches. -/

namespace Sys2Proof.Machine

/-! ### Bit fields -/

/-- A field of a number lies below its size. -/
theorem bits_lt (v hi lo : Nat) : bits v hi lo < 2 ^ (hi + 1 - lo) := Nat.mod_lt _ (by positivity)

/-- A field just put reads back, cut to its width. -/
theorem bits_putBits_same (v hi lo x : Nat) (h : lo ≤ hi + 1) : bits (putBits v hi lo x) hi lo = x % 2 ^ (hi + 1 - lo) := by
  unfold bits putBits
  rw [Nat.shiftRight_eq_div_pow, Nat.shiftRight_eq_div_pow]
  have e : 2 ^ (hi + 1) = 2 ^ (hi + 1 - lo) * 2 ^ lo := by rw [← Nat.pow_add]; congr 1; omega
  have hp : 0 < 2 ^ lo := by positivity
  rw [e, ← Nat.mul_assoc, ← Nat.add_mul, Nat.add_comm, Nat.add_mul_div_right _ _ hp, Nat.div_eq_of_lt (Nat.mod_lt _ hp),
    Nat.zero_add, Nat.add_comm, Nat.add_mul_mod_self_right, Nat.mod_mod]

/-- A bit of a number with a field put: the field's own bits inside it, the number's outside. -/
theorem testBit_putBits (v hi lo x k : Nat) (h : lo ≤ hi + 1) :
    (putBits v hi lo x).testBit k = if k < lo then v.testBit k else if k ≤ hi then x.testBit (k - lo) else v.testBit k := by
  have e : putBits v hi lo x = 2 ^ lo * (2 ^ (hi + 1 - lo) * (v >>> (hi + 1)) + x % 2 ^ (hi + 1 - lo)) + v % 2 ^ lo := by
    unfold putBits
    have : 2 ^ (hi + 1) = 2 ^ (hi + 1 - lo) * 2 ^ lo := by rw [← Nat.pow_add]; congr 1; omega
    rw [this]; ring
  rw [e, Nat.testBit_two_pow_mul_add _ (Nat.mod_lt _ (by positivity))]
  by_cases h1 : k < lo
  · simp [h1, Nat.testBit_mod_two_pow]
  · rw [if_neg h1, if_neg h1, Nat.testBit_two_pow_mul_add _ (Nat.mod_lt _ (by positivity))]
    by_cases h2 : k ≤ hi
    · rw [if_pos h2, if_pos (by omega), Nat.testBit_mod_two_pow]
      simp [show k - lo < hi + 1 - lo by omega]
    · rw [if_neg h2, if_neg (by omega), Nat.testBit_shiftRight]
      congr 1; omega

/-- A bit of a field. -/
theorem testBit_bits (v hi lo k : Nat) : (bits v hi lo).testBit k = (decide (k < hi + 1 - lo) && v.testBit (lo + k)) := by
  simp [bits, Nat.testBit_mod_two_pow, Nat.testBit_shiftRight]

/-- A field put leaves a field apart from it alone. -/
theorem bits_putBits_ne (v hi lo x h' l' : Nat) (h : lo ≤ hi + 1) (hd : h' < lo ∨ hi < l') :
    bits (putBits v hi lo x) h' l' = bits v h' l' := by
  apply Nat.eq_of_testBit_eq
  intro k
  rw [testBit_bits, testBit_bits, testBit_putBits _ _ _ _ _ h]
  by_cases hk : k < h' + 1 - l'
  · rcases hd with hd | hd
    · simp [show l' + k < lo by omega]
    · simp [show ¬ l' + k < lo by omega, show ¬ l' + k ≤ hi by omega]
  · simp [hk]

/-- A field within 32 bits put into a 32-bit number gives one. -/
theorem putBits_lt (v hi lo x : Nat) (h : lo ≤ hi + 1) (h32 : hi < 32) (hv : v < 2 ^ 32) : putBits v hi lo x < 2 ^ 32 := by
  apply Nat.lt_pow_two_of_testBit
  intro k hk
  rw [testBit_putBits _ _ _ _ _ h, if_neg (by omega), if_neg (by omega)]
  exact Nat.testBit_lt_two_pow (lt_of_lt_of_le hv (Nat.pow_le_pow_right (by decide) hk))

/-! ### Registers -/

/-- A register holds 32 bits. -/
theorem State.rget_lt (s : State) (r : RegDesc) (i j : Nat) : s.rget r i j < 2 ^ 32 := BitVec.isLt _

/-- A register just written reads back, cut to 32 bits. -/
@[simp] theorem State.rget_rset_same (s : State) (r : RegDesc) (v i j : Nat) : (s.rset r v i j).rget r i j = v % 2 ^ 32 := by
  simp [State.rget, State.rset, tabGet_tabPut_same]

/-- A register write leaves a register at another address alone. -/
theorem State.rget_rset_ne (s : State) (r r' : RegDesc) (v i j i' j' : Nat) (h : r'.addr i' j' ≠ r.addr i j) :
    (s.rset r v i j).rget r' i' j' = s.rget r' i' j' := by
  simp [State.rget, State.rset, tabGet_tabPut_ne _ _ _ _ _ _ h]

/-- A register write leaves the stored word of every other address alone. -/
theorem State.regs_rset_ne (s : State) (r : RegDesc) (v i j a : Nat) (d : Word) (h : a ≠ r.addr i j) :
    tabGet d (s.rset r v i j).regs a = tabGet d s.regs a := tabGet_tabPut_ne _ _ _ _ _ _ h

/-- A field just written reads back, cut to its width. -/
theorem State.fget_fset_same (s : State) (f : FldDesc) (v i j : Nat) (h : f.lo ≤ f.hi + 1) (h32 : f.hi < 32) :
    (s.fset f v i j).fget f i j = v % 2 ^ (f.hi + 1 - f.lo) := by
  have := putBits_lt (s.rget f.reg i j) f.hi f.lo v h h32 (s.rget_lt _ _ _)
  rw [State.fget, State.fset, State.rget_rset_same, Nat.mod_eq_of_lt this, bits_putBits_same _ _ _ _ h]

/-- A field write leaves a field of a register at another address alone. -/
theorem State.fget_fset_ne (s : State) (f g : FldDesc) (v i j i' j' : Nat) (h : g.reg.addr i' j' ≠ f.reg.addr i j) :
    (s.fset f v i j).fget g i' j' = s.fget g i' j' := by
  rw [State.fget, State.fset, State.rget_rset_ne _ _ _ _ _ _ _ _ h, State.fget]

/-- A field write leaves another field of its register alone. -/
theorem State.fget_fset_apart (s : State) (f g : FldDesc) (v i j : Nat) (hr : g.reg = f.reg) (h : f.lo ≤ f.hi + 1)
    (h32 : f.hi < 32) (hd : g.hi < f.lo ∨ f.hi < g.lo) : (s.fset f v i j).fget g i j = s.fget g i j := by
  have := putBits_lt (s.rget f.reg i j) f.hi f.lo v h h32 (s.rget_lt _ _ _)
  rw [State.fget, State.fset, hr, State.rget_rset_same, Nat.mod_eq_of_lt this, bits_putBits_ne _ _ _ _ _ _ h hd, State.fget, hr]

/-- A field of a register just written is that field of the value. -/
theorem State.fget_rset_same (s : State) (f : FldDesc) (v i j : Nat) (hr : f.hi < 32) :
    (s.rset f.reg v i j).fget f i j = bits v f.hi f.lo := by
  rw [State.fget, State.rget_rset_same]
  apply Nat.eq_of_testBit_eq
  intro k
  rw [testBit_bits, testBit_bits, Nat.testBit_mod_two_pow]
  by_cases hk : k < f.hi + 1 - f.lo
  · simp [show f.lo + k < 32 by omega]
  · simp [hk]

/-- A field write leaves a register at another address alone. -/
theorem State.rget_fset_ne (s : State) (f : FldDesc) (r : RegDesc) (v i j i' j' : Nat) (h : r.addr i' j' ≠ f.reg.addr i j) :
    (s.fset f v i j).rget r i' j' = s.rget r i' j' := State.rget_rset_ne _ _ _ _ _ _ _ _ h

/-- A field write leaves the stored word of every other address alone. -/
theorem State.regs_fset_ne (s : State) (f : FldDesc) (v i j a : Nat) (d : Word) (h : a ≠ f.reg.addr i j) :
    tabGet d (s.fset f v i j).regs a = tabGet d s.regs a := tabGet_tabPut_ne _ _ _ _ _ _ h

/-- A register write leaves a field of a register at another address alone. -/
theorem State.fget_rset_ne (s : State) (f : FldDesc) (r : RegDesc) (v i j i' j' : Nat) (h : f.reg.addr i' j' ≠ r.addr i j) :
    (s.rset r v i j).fget f i' j' = s.fget f i' j' := by
  rw [State.fget, State.rget_rset_ne _ _ _ _ _ _ _ _ h, State.fget]

end Sys2Proof.Machine
end

