-- ==== Sys2Proof/Laws/State.lean ====
section
/-! SUPPORT. What the shared operations leave alone: for each operation on the state, one lemma for each part of the state
that it does not touch. -/

namespace Sys2Proof.Machine

/-! ### A register write: `State.rset` -/

@[simp] theorem State.rset_pending (s : State) (r : RegDesc) (v i j : Nat) : (s.rset r v i j).pending = s.pending := rfl
@[simp] theorem State.rset_variant (s : State) (r : RegDesc) (v i j : Nat) : (s.rset r v i j).variant = s.variant := rfl
@[simp] theorem State.rset_stepping (s : State) (r : RegDesc) (v i j : Nat) : (s.rset r v i j).stepping = s.stepping := rfl
@[simp] theorem State.rset_fuseRev (s : State) (r : RegDesc) (v i j : Nat) : (s.rset r v i j).fuseRev = s.fuseRev := rfl
@[simp] theorem State.rset_tick (s : State) (r : RegDesc) (v i j : Nat) : (s.rset r v i j).tick = s.tick := rfl
@[simp] theorem State.rset_elapsed (s : State) (r : RegDesc) (v i j : Nat) : (s.rset r v i j).elapsed = s.elapsed := rfl
@[simp] theorem State.rset_phase (s : State) (r : RegDesc) (v i j : Nat) : (s.rset r v i j).phase = s.phase := rfl
@[simp] theorem State.rset_committed (s : State) (r : RegDesc) (v i j : Nat) : (s.rset r v i j).committed = s.committed := rfl
@[simp] theorem State.rset_free (s : State) (r : RegDesc) (v i j : Nat) : (s.rset r v i j).free = s.free := rfl
@[simp] theorem State.rset_prog (s : State) (r : RegDesc) (v i j : Nat) : (s.rset r v i j).prog = s.prog := rfl
@[simp] theorem State.rset_data (s : State) (r : RegDesc) (v i j : Nat) : (s.rset r v i j).data = s.data := rfl
@[simp] theorem State.rset_table (s : State) (r : RegDesc) (v i j : Nat) : (s.rset r v i j).table = s.table := rfl
@[simp] theorem State.rset_msixTab (s : State) (r : RegDesc) (v i j : Nat) : (s.rset r v i j).msixTab = s.msixTab := rfl
@[simp] theorem State.rset_msixPend (s : State) (r : RegDesc) (v i j : Nat) : (s.rset r v i j).msixPend = s.msixPend := rfl
@[simp] theorem State.rset_msixEn (s : State) (r : RegDesc) (v i j : Nat) : (s.rset r v i j).msixEn = s.msixEn := rfl
@[simp] theorem State.rset_log (s : State) (r : RegDesc) (v i j : Nat) : (s.rset r v i j).log = s.log := rfl
@[simp] theorem State.rset_seq (s : State) (r : RegDesc) (v i j : Nat) : (s.rset r v i j).seq = s.seq := rfl
@[simp] theorem State.rset_lpe (s : State) (r : RegDesc) (v i j : Nat) : (s.rset r v i j).lpe = s.lpe := rfl
@[simp] theorem State.rset_rcd (s : State) (r : RegDesc) (v i j : Nat) : (s.rset r v i j).rcd = s.rcd := rfl
@[simp] theorem State.rset_fmt (s : State) (r : RegDesc) (v i j : Nat) : (s.rset r v i j).fmt = s.fmt := rfl
@[simp] theorem State.rset_sec (s : State) (r : RegDesc) (v i j : Nat) : (s.rset r v i j).sec = s.sec := rfl
@[simp] theorem State.rset_nvm (s : State) (r : RegDesc) (v i j : Nat) : (s.rset r v i j).nvm = s.nvm := rfl
@[simp] theorem State.rset_boot (s : State) (r : RegDesc) (v i j : Nat) : (s.rset r v i j).boot = s.boot := rfl
@[simp] theorem State.rset_pins (s : State) (r : RegDesc) (v i j : Nat) : (s.rset r v i j).pins = s.pins := rfl
@[simp] theorem State.rset_pwr (s : State) (r : RegDesc) (v i j : Nat) : (s.rset r v i j).pwr = s.pwr := rfl
@[simp] theorem State.rset_cdc (s : State) (r : RegDesc) (v i j : Nat) : (s.rset r v i j).cdc = s.cdc := rfl
@[simp] theorem State.rset_img (s : State) (r : RegDesc) (v i j : Nat) : (s.rset r v i j).img = s.img := rfl
@[simp] theorem State.rset_dramCh (s : State) (r : RegDesc) (v i j : Nat) : (s.rset r v i j).dramCh = s.dramCh := rfl
@[simp] theorem State.rset_dram (s : State) (r : RegDesc) (v i j : Nat) : (s.rset r v i j).dram = s.dram := rfl
@[simp] theorem State.rset_dma (s : State) (r : RegDesc) (v i j : Nat) : (s.rset r v i j).dma = s.dma := rfl
@[simp] theorem State.rset_dmaShare (s : State) (r : RegDesc) (v i j : Nat) : (s.rset r v i j).dmaShare = s.dmaShare := rfl
@[simp] theorem State.rset_motion (s : State) (r : RegDesc) (v i j : Nat) : (s.rset r v i j).motion = s.motion := rfl
@[simp] theorem State.rset_cal (s : State) (r : RegDesc) (v i j : Nat) : (s.rset r v i j).cal = s.cal := rfl
@[simp] theorem State.rset_power (s : State) (r : RegDesc) (v i j : Nat) : (s.rset r v i j).power = s.power := rfl
@[simp] theorem State.rset_ring (s : State) (r : RegDesc) (v i j : Nat) : (s.rset r v i j).ring = s.ring := rfl
@[simp] theorem State.rset_iox (s : State) (r : RegDesc) (v i j : Nat) : (s.rset r v i j).iox = s.iox := rfl

/-! ### A field write: `State.fset` -/

@[simp] theorem State.fset_pending (s : State) (f : FldDesc) (v i j : Nat) : (s.fset f v i j).pending = s.pending := rfl
@[simp] theorem State.fset_variant (s : State) (f : FldDesc) (v i j : Nat) : (s.fset f v i j).variant = s.variant := rfl
@[simp] theorem State.fset_stepping (s : State) (f : FldDesc) (v i j : Nat) : (s.fset f v i j).stepping = s.stepping := rfl
@[simp] theorem State.fset_fuseRev (s : State) (f : FldDesc) (v i j : Nat) : (s.fset f v i j).fuseRev = s.fuseRev := rfl
@[simp] theorem State.fset_tick (s : State) (f : FldDesc) (v i j : Nat) : (s.fset f v i j).tick = s.tick := rfl
@[simp] theorem State.fset_elapsed (s : State) (f : FldDesc) (v i j : Nat) : (s.fset f v i j).elapsed = s.elapsed := rfl
@[simp] theorem State.fset_phase (s : State) (f : FldDesc) (v i j : Nat) : (s.fset f v i j).phase = s.phase := rfl
@[simp] theorem State.fset_committed (s : State) (f : FldDesc) (v i j : Nat) : (s.fset f v i j).committed = s.committed := rfl
@[simp] theorem State.fset_free (s : State) (f : FldDesc) (v i j : Nat) : (s.fset f v i j).free = s.free := rfl
@[simp] theorem State.fset_prog (s : State) (f : FldDesc) (v i j : Nat) : (s.fset f v i j).prog = s.prog := rfl
@[simp] theorem State.fset_data (s : State) (f : FldDesc) (v i j : Nat) : (s.fset f v i j).data = s.data := rfl
@[simp] theorem State.fset_table (s : State) (f : FldDesc) (v i j : Nat) : (s.fset f v i j).table = s.table := rfl
@[simp] theorem State.fset_msixTab (s : State) (f : FldDesc) (v i j : Nat) : (s.fset f v i j).msixTab = s.msixTab := rfl
@[simp] theorem State.fset_msixPend (s : State) (f : FldDesc) (v i j : Nat) : (s.fset f v i j).msixPend = s.msixPend := rfl
@[simp] theorem State.fset_msixEn (s : State) (f : FldDesc) (v i j : Nat) : (s.fset f v i j).msixEn = s.msixEn := rfl
@[simp] theorem State.fset_log (s : State) (f : FldDesc) (v i j : Nat) : (s.fset f v i j).log = s.log := rfl
@[simp] theorem State.fset_seq (s : State) (f : FldDesc) (v i j : Nat) : (s.fset f v i j).seq = s.seq := rfl
@[simp] theorem State.fset_lpe (s : State) (f : FldDesc) (v i j : Nat) : (s.fset f v i j).lpe = s.lpe := rfl
@[simp] theorem State.fset_rcd (s : State) (f : FldDesc) (v i j : Nat) : (s.fset f v i j).rcd = s.rcd := rfl
@[simp] theorem State.fset_fmt (s : State) (f : FldDesc) (v i j : Nat) : (s.fset f v i j).fmt = s.fmt := rfl
@[simp] theorem State.fset_sec (s : State) (f : FldDesc) (v i j : Nat) : (s.fset f v i j).sec = s.sec := rfl
@[simp] theorem State.fset_nvm (s : State) (f : FldDesc) (v i j : Nat) : (s.fset f v i j).nvm = s.nvm := rfl
@[simp] theorem State.fset_boot (s : State) (f : FldDesc) (v i j : Nat) : (s.fset f v i j).boot = s.boot := rfl
@[simp] theorem State.fset_pins (s : State) (f : FldDesc) (v i j : Nat) : (s.fset f v i j).pins = s.pins := rfl
@[simp] theorem State.fset_pwr (s : State) (f : FldDesc) (v i j : Nat) : (s.fset f v i j).pwr = s.pwr := rfl
@[simp] theorem State.fset_cdc (s : State) (f : FldDesc) (v i j : Nat) : (s.fset f v i j).cdc = s.cdc := rfl
@[simp] theorem State.fset_img (s : State) (f : FldDesc) (v i j : Nat) : (s.fset f v i j).img = s.img := rfl
@[simp] theorem State.fset_dramCh (s : State) (f : FldDesc) (v i j : Nat) : (s.fset f v i j).dramCh = s.dramCh := rfl
@[simp] theorem State.fset_dram (s : State) (f : FldDesc) (v i j : Nat) : (s.fset f v i j).dram = s.dram := rfl
@[simp] theorem State.fset_dma (s : State) (f : FldDesc) (v i j : Nat) : (s.fset f v i j).dma = s.dma := rfl
@[simp] theorem State.fset_dmaShare (s : State) (f : FldDesc) (v i j : Nat) : (s.fset f v i j).dmaShare = s.dmaShare := rfl
@[simp] theorem State.fset_motion (s : State) (f : FldDesc) (v i j : Nat) : (s.fset f v i j).motion = s.motion := rfl
@[simp] theorem State.fset_cal (s : State) (f : FldDesc) (v i j : Nat) : (s.fset f v i j).cal = s.cal := rfl
@[simp] theorem State.fset_power (s : State) (f : FldDesc) (v i j : Nat) : (s.fset f v i j).power = s.power := rfl
@[simp] theorem State.fset_ring (s : State) (f : FldDesc) (v i j : Nat) : (s.fset f v i j).ring = s.ring := rfl
@[simp] theorem State.fset_iox (s : State) (f : FldDesc) (v i j : Nat) : (s.fset f v i j).iox = s.iox := rfl

/-! ### A counter's increment: `State.finc` -/

@[simp] theorem State.finc_pending (s : State) (f : FldDesc) (n i j : Nat) : (s.finc f n i j).pending = s.pending := rfl
@[simp] theorem State.finc_variant (s : State) (f : FldDesc) (n i j : Nat) : (s.finc f n i j).variant = s.variant := rfl
@[simp] theorem State.finc_stepping (s : State) (f : FldDesc) (n i j : Nat) : (s.finc f n i j).stepping = s.stepping := rfl
@[simp] theorem State.finc_fuseRev (s : State) (f : FldDesc) (n i j : Nat) : (s.finc f n i j).fuseRev = s.fuseRev := rfl
@[simp] theorem State.finc_tick (s : State) (f : FldDesc) (n i j : Nat) : (s.finc f n i j).tick = s.tick := rfl
@[simp] theorem State.finc_elapsed (s : State) (f : FldDesc) (n i j : Nat) : (s.finc f n i j).elapsed = s.elapsed := rfl
@[simp] theorem State.finc_phase (s : State) (f : FldDesc) (n i j : Nat) : (s.finc f n i j).phase = s.phase := rfl
@[simp] theorem State.finc_committed (s : State) (f : FldDesc) (n i j : Nat) : (s.finc f n i j).committed = s.committed := rfl
@[simp] theorem State.finc_free (s : State) (f : FldDesc) (n i j : Nat) : (s.finc f n i j).free = s.free := rfl
@[simp] theorem State.finc_prog (s : State) (f : FldDesc) (n i j : Nat) : (s.finc f n i j).prog = s.prog := rfl
@[simp] theorem State.finc_data (s : State) (f : FldDesc) (n i j : Nat) : (s.finc f n i j).data = s.data := rfl
@[simp] theorem State.finc_table (s : State) (f : FldDesc) (n i j : Nat) : (s.finc f n i j).table = s.table := rfl
@[simp] theorem State.finc_msixTab (s : State) (f : FldDesc) (n i j : Nat) : (s.finc f n i j).msixTab = s.msixTab := rfl
@[simp] theorem State.finc_msixPend (s : State) (f : FldDesc) (n i j : Nat) : (s.finc f n i j).msixPend = s.msixPend := rfl
@[simp] theorem State.finc_msixEn (s : State) (f : FldDesc) (n i j : Nat) : (s.finc f n i j).msixEn = s.msixEn := rfl
@[simp] theorem State.finc_log (s : State) (f : FldDesc) (n i j : Nat) : (s.finc f n i j).log = s.log := rfl
@[simp] theorem State.finc_seq (s : State) (f : FldDesc) (n i j : Nat) : (s.finc f n i j).seq = s.seq := rfl
@[simp] theorem State.finc_lpe (s : State) (f : FldDesc) (n i j : Nat) : (s.finc f n i j).lpe = s.lpe := rfl
@[simp] theorem State.finc_rcd (s : State) (f : FldDesc) (n i j : Nat) : (s.finc f n i j).rcd = s.rcd := rfl
@[simp] theorem State.finc_fmt (s : State) (f : FldDesc) (n i j : Nat) : (s.finc f n i j).fmt = s.fmt := rfl
@[simp] theorem State.finc_sec (s : State) (f : FldDesc) (n i j : Nat) : (s.finc f n i j).sec = s.sec := rfl
@[simp] theorem State.finc_nvm (s : State) (f : FldDesc) (n i j : Nat) : (s.finc f n i j).nvm = s.nvm := rfl
@[simp] theorem State.finc_boot (s : State) (f : FldDesc) (n i j : Nat) : (s.finc f n i j).boot = s.boot := rfl
@[simp] theorem State.finc_pins (s : State) (f : FldDesc) (n i j : Nat) : (s.finc f n i j).pins = s.pins := rfl
@[simp] theorem State.finc_pwr (s : State) (f : FldDesc) (n i j : Nat) : (s.finc f n i j).pwr = s.pwr := rfl
@[simp] theorem State.finc_cdc (s : State) (f : FldDesc) (n i j : Nat) : (s.finc f n i j).cdc = s.cdc := rfl
@[simp] theorem State.finc_img (s : State) (f : FldDesc) (n i j : Nat) : (s.finc f n i j).img = s.img := rfl
@[simp] theorem State.finc_dramCh (s : State) (f : FldDesc) (n i j : Nat) : (s.finc f n i j).dramCh = s.dramCh := rfl
@[simp] theorem State.finc_dram (s : State) (f : FldDesc) (n i j : Nat) : (s.finc f n i j).dram = s.dram := rfl
@[simp] theorem State.finc_dma (s : State) (f : FldDesc) (n i j : Nat) : (s.finc f n i j).dma = s.dma := rfl
@[simp] theorem State.finc_dmaShare (s : State) (f : FldDesc) (n i j : Nat) : (s.finc f n i j).dmaShare = s.dmaShare := rfl
@[simp] theorem State.finc_motion (s : State) (f : FldDesc) (n i j : Nat) : (s.finc f n i j).motion = s.motion := rfl
@[simp] theorem State.finc_cal (s : State) (f : FldDesc) (n i j : Nat) : (s.finc f n i j).cal = s.cal := rfl
@[simp] theorem State.finc_power (s : State) (f : FldDesc) (n i j : Nat) : (s.finc f n i j).power = s.power := rfl
@[simp] theorem State.finc_ring (s : State) (f : FldDesc) (n i j : Nat) : (s.finc f n i j).ring = s.ring := rfl
@[simp] theorem State.finc_iox (s : State) (f : FldDesc) (n i j : Nat) : (s.finc f n i j).iox = s.iox := rfl

/-! ### Sending: `State.emit` -/

@[simp] theorem State.emit_pending (s : State) (e : Emit) : (s.emit e).pending = s.pending := rfl
@[simp] theorem State.emit_variant (s : State) (e : Emit) : (s.emit e).variant = s.variant := rfl
@[simp] theorem State.emit_stepping (s : State) (e : Emit) : (s.emit e).stepping = s.stepping := rfl
@[simp] theorem State.emit_fuseRev (s : State) (e : Emit) : (s.emit e).fuseRev = s.fuseRev := rfl
@[simp] theorem State.emit_regs (s : State) (e : Emit) : (s.emit e).regs = s.regs := rfl
@[simp] theorem State.emit_tick (s : State) (e : Emit) : (s.emit e).tick = s.tick := rfl
@[simp] theorem State.emit_elapsed (s : State) (e : Emit) : (s.emit e).elapsed = s.elapsed := rfl
@[simp] theorem State.emit_phase (s : State) (e : Emit) : (s.emit e).phase = s.phase := rfl
@[simp] theorem State.emit_committed (s : State) (e : Emit) : (s.emit e).committed = s.committed := rfl
@[simp] theorem State.emit_free (s : State) (e : Emit) : (s.emit e).free = s.free := rfl
@[simp] theorem State.emit_prog (s : State) (e : Emit) : (s.emit e).prog = s.prog := rfl
@[simp] theorem State.emit_data (s : State) (e : Emit) : (s.emit e).data = s.data := rfl
@[simp] theorem State.emit_table (s : State) (e : Emit) : (s.emit e).table = s.table := rfl
@[simp] theorem State.emit_msixTab (s : State) (e : Emit) : (s.emit e).msixTab = s.msixTab := rfl
@[simp] theorem State.emit_msixPend (s : State) (e : Emit) : (s.emit e).msixPend = s.msixPend := rfl
@[simp] theorem State.emit_msixEn (s : State) (e : Emit) : (s.emit e).msixEn = s.msixEn := rfl
@[simp] theorem State.emit_seq (s : State) (e : Emit) : (s.emit e).seq = s.seq := rfl
@[simp] theorem State.emit_lpe (s : State) (e : Emit) : (s.emit e).lpe = s.lpe := rfl
@[simp] theorem State.emit_rcd (s : State) (e : Emit) : (s.emit e).rcd = s.rcd := rfl
@[simp] theorem State.emit_fmt (s : State) (e : Emit) : (s.emit e).fmt = s.fmt := rfl
@[simp] theorem State.emit_sec (s : State) (e : Emit) : (s.emit e).sec = s.sec := rfl
@[simp] theorem State.emit_nvm (s : State) (e : Emit) : (s.emit e).nvm = s.nvm := rfl
@[simp] theorem State.emit_boot (s : State) (e : Emit) : (s.emit e).boot = s.boot := rfl
@[simp] theorem State.emit_pins (s : State) (e : Emit) : (s.emit e).pins = s.pins := rfl
@[simp] theorem State.emit_pwr (s : State) (e : Emit) : (s.emit e).pwr = s.pwr := rfl
@[simp] theorem State.emit_cdc (s : State) (e : Emit) : (s.emit e).cdc = s.cdc := rfl
@[simp] theorem State.emit_img (s : State) (e : Emit) : (s.emit e).img = s.img := rfl
@[simp] theorem State.emit_dramCh (s : State) (e : Emit) : (s.emit e).dramCh = s.dramCh := rfl
@[simp] theorem State.emit_dram (s : State) (e : Emit) : (s.emit e).dram = s.dram := rfl
@[simp] theorem State.emit_dma (s : State) (e : Emit) : (s.emit e).dma = s.dma := rfl
@[simp] theorem State.emit_dmaShare (s : State) (e : Emit) : (s.emit e).dmaShare = s.dmaShare := rfl
@[simp] theorem State.emit_motion (s : State) (e : Emit) : (s.emit e).motion = s.motion := rfl
@[simp] theorem State.emit_cal (s : State) (e : Emit) : (s.emit e).cal = s.cal := rfl
@[simp] theorem State.emit_power (s : State) (e : Emit) : (s.emit e).power = s.power := rfl
@[simp] theorem State.emit_ring (s : State) (e : Emit) : (s.emit e).ring = s.ring := rfl
@[simp] theorem State.emit_iox (s : State) (e : Emit) : (s.emit e).iox = s.iox := rfl

/-! ### Drawing a free value: `State.nextFree` -/

@[simp] theorem State.nextFree_pending (s : State) : (s.nextFree).pending = s.pending := rfl
@[simp] theorem State.nextFree_variant (s : State) : (s.nextFree).variant = s.variant := rfl
@[simp] theorem State.nextFree_stepping (s : State) : (s.nextFree).stepping = s.stepping := rfl
@[simp] theorem State.nextFree_fuseRev (s : State) : (s.nextFree).fuseRev = s.fuseRev := rfl
@[simp] theorem State.nextFree_regs (s : State) : (s.nextFree).regs = s.regs := rfl
@[simp] theorem State.nextFree_tick (s : State) : (s.nextFree).tick = s.tick := rfl
@[simp] theorem State.nextFree_elapsed (s : State) : (s.nextFree).elapsed = s.elapsed := rfl
@[simp] theorem State.nextFree_phase (s : State) : (s.nextFree).phase = s.phase := rfl
@[simp] theorem State.nextFree_committed (s : State) : (s.nextFree).committed = s.committed := rfl
@[simp] theorem State.nextFree_prog (s : State) : (s.nextFree).prog = s.prog := rfl
@[simp] theorem State.nextFree_data (s : State) : (s.nextFree).data = s.data := rfl
@[simp] theorem State.nextFree_table (s : State) : (s.nextFree).table = s.table := rfl
@[simp] theorem State.nextFree_msixTab (s : State) : (s.nextFree).msixTab = s.msixTab := rfl
@[simp] theorem State.nextFree_msixPend (s : State) : (s.nextFree).msixPend = s.msixPend := rfl
@[simp] theorem State.nextFree_msixEn (s : State) : (s.nextFree).msixEn = s.msixEn := rfl
@[simp] theorem State.nextFree_log (s : State) : (s.nextFree).log = s.log := rfl
@[simp] theorem State.nextFree_seq (s : State) : (s.nextFree).seq = s.seq := rfl
@[simp] theorem State.nextFree_lpe (s : State) : (s.nextFree).lpe = s.lpe := rfl
@[simp] theorem State.nextFree_rcd (s : State) : (s.nextFree).rcd = s.rcd := rfl
@[simp] theorem State.nextFree_fmt (s : State) : (s.nextFree).fmt = s.fmt := rfl
@[simp] theorem State.nextFree_sec (s : State) : (s.nextFree).sec = s.sec := rfl
@[simp] theorem State.nextFree_nvm (s : State) : (s.nextFree).nvm = s.nvm := rfl
@[simp] theorem State.nextFree_boot (s : State) : (s.nextFree).boot = s.boot := rfl
@[simp] theorem State.nextFree_pins (s : State) : (s.nextFree).pins = s.pins := rfl
@[simp] theorem State.nextFree_pwr (s : State) : (s.nextFree).pwr = s.pwr := rfl
@[simp] theorem State.nextFree_cdc (s : State) : (s.nextFree).cdc = s.cdc := rfl
@[simp] theorem State.nextFree_img (s : State) : (s.nextFree).img = s.img := rfl
@[simp] theorem State.nextFree_dramCh (s : State) : (s.nextFree).dramCh = s.dramCh := rfl
@[simp] theorem State.nextFree_dram (s : State) : (s.nextFree).dram = s.dram := rfl
@[simp] theorem State.nextFree_dma (s : State) : (s.nextFree).dma = s.dma := rfl
@[simp] theorem State.nextFree_dmaShare (s : State) : (s.nextFree).dmaShare = s.dmaShare := rfl
@[simp] theorem State.nextFree_motion (s : State) : (s.nextFree).motion = s.motion := rfl
@[simp] theorem State.nextFree_cal (s : State) : (s.nextFree).cal = s.cal := rfl
@[simp] theorem State.nextFree_power (s : State) : (s.nextFree).power = s.power := rfl
@[simp] theorem State.nextFree_ring (s : State) : (s.nextFree).ring = s.ring := rfl
@[simp] theorem State.nextFree_iox (s : State) : (s.nextFree).iox = s.iox := rfl

/-! ### Replacing a context: `State.setCtx` -/

@[simp] theorem State.setCtx_pending (s : State) (c : Nat) (x : Ctx) : (s.setCtx c x).pending = s.pending := rfl
@[simp] theorem State.setCtx_variant (s : State) (c : Nat) (x : Ctx) : (s.setCtx c x).variant = s.variant := rfl
@[simp] theorem State.setCtx_stepping (s : State) (c : Nat) (x : Ctx) : (s.setCtx c x).stepping = s.stepping := rfl
@[simp] theorem State.setCtx_fuseRev (s : State) (c : Nat) (x : Ctx) : (s.setCtx c x).fuseRev = s.fuseRev := rfl
@[simp] theorem State.setCtx_regs (s : State) (c : Nat) (x : Ctx) : (s.setCtx c x).regs = s.regs := rfl
@[simp] theorem State.setCtx_tick (s : State) (c : Nat) (x : Ctx) : (s.setCtx c x).tick = s.tick := rfl
@[simp] theorem State.setCtx_elapsed (s : State) (c : Nat) (x : Ctx) : (s.setCtx c x).elapsed = s.elapsed := rfl
@[simp] theorem State.setCtx_phase (s : State) (c : Nat) (x : Ctx) : (s.setCtx c x).phase = s.phase := rfl
@[simp] theorem State.setCtx_committed (s : State) (c : Nat) (x : Ctx) : (s.setCtx c x).committed = s.committed := rfl
@[simp] theorem State.setCtx_free (s : State) (c : Nat) (x : Ctx) : (s.setCtx c x).free = s.free := rfl
@[simp] theorem State.setCtx_prog (s : State) (c : Nat) (x : Ctx) : (s.setCtx c x).prog = s.prog := rfl
@[simp] theorem State.setCtx_data (s : State) (c : Nat) (x : Ctx) : (s.setCtx c x).data = s.data := rfl
@[simp] theorem State.setCtx_table (s : State) (c : Nat) (x : Ctx) : (s.setCtx c x).table = s.table := rfl
@[simp] theorem State.setCtx_msixTab (s : State) (c : Nat) (x : Ctx) : (s.setCtx c x).msixTab = s.msixTab := rfl
@[simp] theorem State.setCtx_msixPend (s : State) (c : Nat) (x : Ctx) : (s.setCtx c x).msixPend = s.msixPend := rfl
@[simp] theorem State.setCtx_msixEn (s : State) (c : Nat) (x : Ctx) : (s.setCtx c x).msixEn = s.msixEn := rfl
@[simp] theorem State.setCtx_log (s : State) (c : Nat) (x : Ctx) : (s.setCtx c x).log = s.log := rfl
@[simp] theorem State.setCtx_lpe (s : State) (c : Nat) (x : Ctx) : (s.setCtx c x).lpe = s.lpe := rfl
@[simp] theorem State.setCtx_rcd (s : State) (c : Nat) (x : Ctx) : (s.setCtx c x).rcd = s.rcd := rfl
@[simp] theorem State.setCtx_fmt (s : State) (c : Nat) (x : Ctx) : (s.setCtx c x).fmt = s.fmt := rfl
@[simp] theorem State.setCtx_sec (s : State) (c : Nat) (x : Ctx) : (s.setCtx c x).sec = s.sec := rfl
@[simp] theorem State.setCtx_nvm (s : State) (c : Nat) (x : Ctx) : (s.setCtx c x).nvm = s.nvm := rfl
@[simp] theorem State.setCtx_boot (s : State) (c : Nat) (x : Ctx) : (s.setCtx c x).boot = s.boot := rfl
@[simp] theorem State.setCtx_pins (s : State) (c : Nat) (x : Ctx) : (s.setCtx c x).pins = s.pins := rfl
@[simp] theorem State.setCtx_pwr (s : State) (c : Nat) (x : Ctx) : (s.setCtx c x).pwr = s.pwr := rfl
@[simp] theorem State.setCtx_cdc (s : State) (c : Nat) (x : Ctx) : (s.setCtx c x).cdc = s.cdc := rfl
@[simp] theorem State.setCtx_img (s : State) (c : Nat) (x : Ctx) : (s.setCtx c x).img = s.img := rfl
@[simp] theorem State.setCtx_dramCh (s : State) (c : Nat) (x : Ctx) : (s.setCtx c x).dramCh = s.dramCh := rfl
@[simp] theorem State.setCtx_dram (s : State) (c : Nat) (x : Ctx) : (s.setCtx c x).dram = s.dram := rfl
@[simp] theorem State.setCtx_dma (s : State) (c : Nat) (x : Ctx) : (s.setCtx c x).dma = s.dma := rfl
@[simp] theorem State.setCtx_dmaShare (s : State) (c : Nat) (x : Ctx) : (s.setCtx c x).dmaShare = s.dmaShare := rfl
@[simp] theorem State.setCtx_motion (s : State) (c : Nat) (x : Ctx) : (s.setCtx c x).motion = s.motion := rfl
@[simp] theorem State.setCtx_cal (s : State) (c : Nat) (x : Ctx) : (s.setCtx c x).cal = s.cal := rfl
@[simp] theorem State.setCtx_power (s : State) (c : Nat) (x : Ctx) : (s.setCtx c x).power = s.power := rfl
@[simp] theorem State.setCtx_ring (s : State) (c : Nat) (x : Ctx) : (s.setCtx c x).ring = s.ring := rfl
@[simp] theorem State.setCtx_iox (s : State) (c : Nat) (x : Ctx) : (s.setCtx c x).iox = s.iox := rfl

/-! ### Writing an event flag: `State.putFlag` -/

@[simp] theorem State.putFlag_pending (s : State) (f : Nat) (b : Bool) : (s.putFlag f b).pending = s.pending := rfl
@[simp] theorem State.putFlag_variant (s : State) (f : Nat) (b : Bool) : (s.putFlag f b).variant = s.variant := rfl
@[simp] theorem State.putFlag_stepping (s : State) (f : Nat) (b : Bool) : (s.putFlag f b).stepping = s.stepping := rfl
@[simp] theorem State.putFlag_fuseRev (s : State) (f : Nat) (b : Bool) : (s.putFlag f b).fuseRev = s.fuseRev := rfl
@[simp] theorem State.putFlag_tick (s : State) (f : Nat) (b : Bool) : (s.putFlag f b).tick = s.tick := rfl
@[simp] theorem State.putFlag_elapsed (s : State) (f : Nat) (b : Bool) : (s.putFlag f b).elapsed = s.elapsed := rfl
@[simp] theorem State.putFlag_phase (s : State) (f : Nat) (b : Bool) : (s.putFlag f b).phase = s.phase := rfl
@[simp] theorem State.putFlag_committed (s : State) (f : Nat) (b : Bool) : (s.putFlag f b).committed = s.committed := rfl
@[simp] theorem State.putFlag_free (s : State) (f : Nat) (b : Bool) : (s.putFlag f b).free = s.free := rfl
@[simp] theorem State.putFlag_prog (s : State) (f : Nat) (b : Bool) : (s.putFlag f b).prog = s.prog := rfl
@[simp] theorem State.putFlag_data (s : State) (f : Nat) (b : Bool) : (s.putFlag f b).data = s.data := rfl
@[simp] theorem State.putFlag_table (s : State) (f : Nat) (b : Bool) : (s.putFlag f b).table = s.table := rfl
@[simp] theorem State.putFlag_msixTab (s : State) (f : Nat) (b : Bool) : (s.putFlag f b).msixTab = s.msixTab := rfl
@[simp] theorem State.putFlag_msixPend (s : State) (f : Nat) (b : Bool) : (s.putFlag f b).msixPend = s.msixPend := rfl
@[simp] theorem State.putFlag_msixEn (s : State) (f : Nat) (b : Bool) : (s.putFlag f b).msixEn = s.msixEn := rfl
@[simp] theorem State.putFlag_log (s : State) (f : Nat) (b : Bool) : (s.putFlag f b).log = s.log := rfl
@[simp] theorem State.putFlag_seq (s : State) (f : Nat) (b : Bool) : (s.putFlag f b).seq = s.seq := rfl
@[simp] theorem State.putFlag_lpe (s : State) (f : Nat) (b : Bool) : (s.putFlag f b).lpe = s.lpe := rfl
@[simp] theorem State.putFlag_rcd (s : State) (f : Nat) (b : Bool) : (s.putFlag f b).rcd = s.rcd := rfl
@[simp] theorem State.putFlag_fmt (s : State) (f : Nat) (b : Bool) : (s.putFlag f b).fmt = s.fmt := rfl
@[simp] theorem State.putFlag_sec (s : State) (f : Nat) (b : Bool) : (s.putFlag f b).sec = s.sec := rfl
@[simp] theorem State.putFlag_nvm (s : State) (f : Nat) (b : Bool) : (s.putFlag f b).nvm = s.nvm := rfl
@[simp] theorem State.putFlag_boot (s : State) (f : Nat) (b : Bool) : (s.putFlag f b).boot = s.boot := rfl
@[simp] theorem State.putFlag_pins (s : State) (f : Nat) (b : Bool) : (s.putFlag f b).pins = s.pins := rfl
@[simp] theorem State.putFlag_pwr (s : State) (f : Nat) (b : Bool) : (s.putFlag f b).pwr = s.pwr := rfl
@[simp] theorem State.putFlag_cdc (s : State) (f : Nat) (b : Bool) : (s.putFlag f b).cdc = s.cdc := rfl
@[simp] theorem State.putFlag_img (s : State) (f : Nat) (b : Bool) : (s.putFlag f b).img = s.img := rfl
@[simp] theorem State.putFlag_dramCh (s : State) (f : Nat) (b : Bool) : (s.putFlag f b).dramCh = s.dramCh := rfl
@[simp] theorem State.putFlag_dram (s : State) (f : Nat) (b : Bool) : (s.putFlag f b).dram = s.dram := rfl
@[simp] theorem State.putFlag_dma (s : State) (f : Nat) (b : Bool) : (s.putFlag f b).dma = s.dma := rfl
@[simp] theorem State.putFlag_dmaShare (s : State) (f : Nat) (b : Bool) : (s.putFlag f b).dmaShare = s.dmaShare := rfl
@[simp] theorem State.putFlag_motion (s : State) (f : Nat) (b : Bool) : (s.putFlag f b).motion = s.motion := rfl
@[simp] theorem State.putFlag_cal (s : State) (f : Nat) (b : Bool) : (s.putFlag f b).cal = s.cal := rfl
@[simp] theorem State.putFlag_power (s : State) (f : Nat) (b : Bool) : (s.putFlag f b).power = s.power := rfl
@[simp] theorem State.putFlag_ring (s : State) (f : Nat) (b : Bool) : (s.putFlag f b).ring = s.ring := rfl
@[simp] theorem State.putFlag_iox (s : State) (f : Nat) (b : Bool) : (s.putFlag f b).iox = s.iox := rfl

/-! ### Setting an event flag with its waiters: `State.raiseFlag` -/

@[simp] theorem State.raiseFlag_pending (s : State) (f : Nat) : (s.raiseFlag f).pending = s.pending := rfl
@[simp] theorem State.raiseFlag_variant (s : State) (f : Nat) : (s.raiseFlag f).variant = s.variant := rfl
@[simp] theorem State.raiseFlag_stepping (s : State) (f : Nat) : (s.raiseFlag f).stepping = s.stepping := rfl
@[simp] theorem State.raiseFlag_fuseRev (s : State) (f : Nat) : (s.raiseFlag f).fuseRev = s.fuseRev := rfl
@[simp] theorem State.raiseFlag_tick (s : State) (f : Nat) : (s.raiseFlag f).tick = s.tick := rfl
@[simp] theorem State.raiseFlag_elapsed (s : State) (f : Nat) : (s.raiseFlag f).elapsed = s.elapsed := rfl
@[simp] theorem State.raiseFlag_phase (s : State) (f : Nat) : (s.raiseFlag f).phase = s.phase := rfl
@[simp] theorem State.raiseFlag_committed (s : State) (f : Nat) : (s.raiseFlag f).committed = s.committed := rfl
@[simp] theorem State.raiseFlag_free (s : State) (f : Nat) : (s.raiseFlag f).free = s.free := rfl
@[simp] theorem State.raiseFlag_prog (s : State) (f : Nat) : (s.raiseFlag f).prog = s.prog := rfl
@[simp] theorem State.raiseFlag_data (s : State) (f : Nat) : (s.raiseFlag f).data = s.data := rfl
@[simp] theorem State.raiseFlag_table (s : State) (f : Nat) : (s.raiseFlag f).table = s.table := rfl
@[simp] theorem State.raiseFlag_msixTab (s : State) (f : Nat) : (s.raiseFlag f).msixTab = s.msixTab := rfl
@[simp] theorem State.raiseFlag_msixPend (s : State) (f : Nat) : (s.raiseFlag f).msixPend = s.msixPend := rfl
@[simp] theorem State.raiseFlag_msixEn (s : State) (f : Nat) : (s.raiseFlag f).msixEn = s.msixEn := rfl
@[simp] theorem State.raiseFlag_log (s : State) (f : Nat) : (s.raiseFlag f).log = s.log := rfl
@[simp] theorem State.raiseFlag_lpe (s : State) (f : Nat) : (s.raiseFlag f).lpe = s.lpe := rfl
@[simp] theorem State.raiseFlag_rcd (s : State) (f : Nat) : (s.raiseFlag f).rcd = s.rcd := rfl
@[simp] theorem State.raiseFlag_fmt (s : State) (f : Nat) : (s.raiseFlag f).fmt = s.fmt := rfl
@[simp] theorem State.raiseFlag_sec (s : State) (f : Nat) : (s.raiseFlag f).sec = s.sec := rfl
@[simp] theorem State.raiseFlag_nvm (s : State) (f : Nat) : (s.raiseFlag f).nvm = s.nvm := rfl
@[simp] theorem State.raiseFlag_boot (s : State) (f : Nat) : (s.raiseFlag f).boot = s.boot := rfl
@[simp] theorem State.raiseFlag_pins (s : State) (f : Nat) : (s.raiseFlag f).pins = s.pins := rfl
@[simp] theorem State.raiseFlag_pwr (s : State) (f : Nat) : (s.raiseFlag f).pwr = s.pwr := rfl
@[simp] theorem State.raiseFlag_cdc (s : State) (f : Nat) : (s.raiseFlag f).cdc = s.cdc := rfl
@[simp] theorem State.raiseFlag_img (s : State) (f : Nat) : (s.raiseFlag f).img = s.img := rfl
@[simp] theorem State.raiseFlag_dramCh (s : State) (f : Nat) : (s.raiseFlag f).dramCh = s.dramCh := rfl
@[simp] theorem State.raiseFlag_dram (s : State) (f : Nat) : (s.raiseFlag f).dram = s.dram := rfl
@[simp] theorem State.raiseFlag_dma (s : State) (f : Nat) : (s.raiseFlag f).dma = s.dma := rfl
@[simp] theorem State.raiseFlag_dmaShare (s : State) (f : Nat) : (s.raiseFlag f).dmaShare = s.dmaShare := rfl
@[simp] theorem State.raiseFlag_motion (s : State) (f : Nat) : (s.raiseFlag f).motion = s.motion := rfl
@[simp] theorem State.raiseFlag_cal (s : State) (f : Nat) : (s.raiseFlag f).cal = s.cal := rfl
@[simp] theorem State.raiseFlag_power (s : State) (f : Nat) : (s.raiseFlag f).power = s.power := rfl
@[simp] theorem State.raiseFlag_ring (s : State) (f : Nat) : (s.raiseFlag f).ring = s.ring := rfl
@[simp] theorem State.raiseFlag_iox (s : State) (f : Nat) : (s.raiseFlag f).iox = s.iox := rfl

/-! ### A flag set that arrives: `State.setFlag` -/

@[simp] theorem State.setFlag_pending (s : State) (f : Nat) : (s.setFlag f).pending = s.pending := rfl
@[simp] theorem State.setFlag_variant (s : State) (f : Nat) : (s.setFlag f).variant = s.variant := rfl
@[simp] theorem State.setFlag_stepping (s : State) (f : Nat) : (s.setFlag f).stepping = s.stepping := rfl
@[simp] theorem State.setFlag_fuseRev (s : State) (f : Nat) : (s.setFlag f).fuseRev = s.fuseRev := rfl
@[simp] theorem State.setFlag_tick (s : State) (f : Nat) : (s.setFlag f).tick = s.tick := rfl
@[simp] theorem State.setFlag_elapsed (s : State) (f : Nat) : (s.setFlag f).elapsed = s.elapsed := rfl
@[simp] theorem State.setFlag_phase (s : State) (f : Nat) : (s.setFlag f).phase = s.phase := rfl
@[simp] theorem State.setFlag_committed (s : State) (f : Nat) : (s.setFlag f).committed = s.committed := rfl
@[simp] theorem State.setFlag_free (s : State) (f : Nat) : (s.setFlag f).free = s.free := rfl
@[simp] theorem State.setFlag_prog (s : State) (f : Nat) : (s.setFlag f).prog = s.prog := rfl
@[simp] theorem State.setFlag_data (s : State) (f : Nat) : (s.setFlag f).data = s.data := rfl
@[simp] theorem State.setFlag_table (s : State) (f : Nat) : (s.setFlag f).table = s.table := rfl
@[simp] theorem State.setFlag_msixTab (s : State) (f : Nat) : (s.setFlag f).msixTab = s.msixTab := rfl
@[simp] theorem State.setFlag_msixPend (s : State) (f : Nat) : (s.setFlag f).msixPend = s.msixPend := rfl
@[simp] theorem State.setFlag_msixEn (s : State) (f : Nat) : (s.setFlag f).msixEn = s.msixEn := rfl
@[simp] theorem State.setFlag_log (s : State) (f : Nat) : (s.setFlag f).log = s.log := rfl
@[simp] theorem State.setFlag_lpe (s : State) (f : Nat) : (s.setFlag f).lpe = s.lpe := rfl
@[simp] theorem State.setFlag_rcd (s : State) (f : Nat) : (s.setFlag f).rcd = s.rcd := rfl
@[simp] theorem State.setFlag_fmt (s : State) (f : Nat) : (s.setFlag f).fmt = s.fmt := rfl
@[simp] theorem State.setFlag_sec (s : State) (f : Nat) : (s.setFlag f).sec = s.sec := rfl
@[simp] theorem State.setFlag_nvm (s : State) (f : Nat) : (s.setFlag f).nvm = s.nvm := rfl
@[simp] theorem State.setFlag_boot (s : State) (f : Nat) : (s.setFlag f).boot = s.boot := rfl
@[simp] theorem State.setFlag_pins (s : State) (f : Nat) : (s.setFlag f).pins = s.pins := rfl
@[simp] theorem State.setFlag_pwr (s : State) (f : Nat) : (s.setFlag f).pwr = s.pwr := rfl
@[simp] theorem State.setFlag_cdc (s : State) (f : Nat) : (s.setFlag f).cdc = s.cdc := rfl
@[simp] theorem State.setFlag_img (s : State) (f : Nat) : (s.setFlag f).img = s.img := rfl
@[simp] theorem State.setFlag_dramCh (s : State) (f : Nat) : (s.setFlag f).dramCh = s.dramCh := rfl
@[simp] theorem State.setFlag_dram (s : State) (f : Nat) : (s.setFlag f).dram = s.dram := rfl
@[simp] theorem State.setFlag_dma (s : State) (f : Nat) : (s.setFlag f).dma = s.dma := rfl
@[simp] theorem State.setFlag_dmaShare (s : State) (f : Nat) : (s.setFlag f).dmaShare = s.dmaShare := rfl
@[simp] theorem State.setFlag_motion (s : State) (f : Nat) : (s.setFlag f).motion = s.motion := rfl
@[simp] theorem State.setFlag_cal (s : State) (f : Nat) : (s.setFlag f).cal = s.cal := rfl
@[simp] theorem State.setFlag_power (s : State) (f : Nat) : (s.setFlag f).power = s.power := rfl
@[simp] theorem State.setFlag_ring (s : State) (f : Nat) : (s.setFlag f).ring = s.ring := rfl
@[simp] theorem State.setFlag_iox (s : State) (f : Nat) : (s.setFlag f).iox = s.iox := rfl

/-! ### A flag clear that arrives: `State.clearFlag` -/

@[simp] theorem State.clearFlag_pending (s : State) (f : Nat) : (s.clearFlag f).pending = s.pending := rfl
@[simp] theorem State.clearFlag_variant (s : State) (f : Nat) : (s.clearFlag f).variant = s.variant := rfl
@[simp] theorem State.clearFlag_stepping (s : State) (f : Nat) : (s.clearFlag f).stepping = s.stepping := rfl
@[simp] theorem State.clearFlag_fuseRev (s : State) (f : Nat) : (s.clearFlag f).fuseRev = s.fuseRev := rfl
@[simp] theorem State.clearFlag_tick (s : State) (f : Nat) : (s.clearFlag f).tick = s.tick := rfl
@[simp] theorem State.clearFlag_elapsed (s : State) (f : Nat) : (s.clearFlag f).elapsed = s.elapsed := rfl
@[simp] theorem State.clearFlag_phase (s : State) (f : Nat) : (s.clearFlag f).phase = s.phase := rfl
@[simp] theorem State.clearFlag_committed (s : State) (f : Nat) : (s.clearFlag f).committed = s.committed := rfl
@[simp] theorem State.clearFlag_free (s : State) (f : Nat) : (s.clearFlag f).free = s.free := rfl
@[simp] theorem State.clearFlag_prog (s : State) (f : Nat) : (s.clearFlag f).prog = s.prog := rfl
@[simp] theorem State.clearFlag_data (s : State) (f : Nat) : (s.clearFlag f).data = s.data := rfl
@[simp] theorem State.clearFlag_table (s : State) (f : Nat) : (s.clearFlag f).table = s.table := rfl
@[simp] theorem State.clearFlag_msixTab (s : State) (f : Nat) : (s.clearFlag f).msixTab = s.msixTab := rfl
@[simp] theorem State.clearFlag_msixPend (s : State) (f : Nat) : (s.clearFlag f).msixPend = s.msixPend := rfl
@[simp] theorem State.clearFlag_msixEn (s : State) (f : Nat) : (s.clearFlag f).msixEn = s.msixEn := rfl
@[simp] theorem State.clearFlag_log (s : State) (f : Nat) : (s.clearFlag f).log = s.log := rfl
@[simp] theorem State.clearFlag_lpe (s : State) (f : Nat) : (s.clearFlag f).lpe = s.lpe := rfl
@[simp] theorem State.clearFlag_rcd (s : State) (f : Nat) : (s.clearFlag f).rcd = s.rcd := rfl
@[simp] theorem State.clearFlag_fmt (s : State) (f : Nat) : (s.clearFlag f).fmt = s.fmt := rfl
@[simp] theorem State.clearFlag_sec (s : State) (f : Nat) : (s.clearFlag f).sec = s.sec := rfl
@[simp] theorem State.clearFlag_nvm (s : State) (f : Nat) : (s.clearFlag f).nvm = s.nvm := rfl
@[simp] theorem State.clearFlag_boot (s : State) (f : Nat) : (s.clearFlag f).boot = s.boot := rfl
@[simp] theorem State.clearFlag_pins (s : State) (f : Nat) : (s.clearFlag f).pins = s.pins := rfl
@[simp] theorem State.clearFlag_pwr (s : State) (f : Nat) : (s.clearFlag f).pwr = s.pwr := rfl
@[simp] theorem State.clearFlag_cdc (s : State) (f : Nat) : (s.clearFlag f).cdc = s.cdc := rfl
@[simp] theorem State.clearFlag_img (s : State) (f : Nat) : (s.clearFlag f).img = s.img := rfl
@[simp] theorem State.clearFlag_dramCh (s : State) (f : Nat) : (s.clearFlag f).dramCh = s.dramCh := rfl
@[simp] theorem State.clearFlag_dram (s : State) (f : Nat) : (s.clearFlag f).dram = s.dram := rfl
@[simp] theorem State.clearFlag_dma (s : State) (f : Nat) : (s.clearFlag f).dma = s.dma := rfl
@[simp] theorem State.clearFlag_dmaShare (s : State) (f : Nat) : (s.clearFlag f).dmaShare = s.dmaShare := rfl
@[simp] theorem State.clearFlag_motion (s : State) (f : Nat) : (s.clearFlag f).motion = s.motion := rfl
@[simp] theorem State.clearFlag_cal (s : State) (f : Nat) : (s.clearFlag f).cal = s.cal := rfl
@[simp] theorem State.clearFlag_power (s : State) (f : Nat) : (s.clearFlag f).power = s.power := rfl
@[simp] theorem State.clearFlag_ring (s : State) (f : Nat) : (s.clearFlag f).ring = s.ring := rfl
@[simp] theorem State.clearFlag_iox (s : State) (f : Nat) : (s.clearFlag f).iox = s.iox := rfl

/-! ### An absorbed fault: `State.absorb` -/

@[simp] theorem State.absorb_pending (s : State) (f : FldDesc) : (s.absorb f).pending = s.pending := rfl
@[simp] theorem State.absorb_variant (s : State) (f : FldDesc) : (s.absorb f).variant = s.variant := rfl
@[simp] theorem State.absorb_stepping (s : State) (f : FldDesc) : (s.absorb f).stepping = s.stepping := rfl
@[simp] theorem State.absorb_fuseRev (s : State) (f : FldDesc) : (s.absorb f).fuseRev = s.fuseRev := rfl
@[simp] theorem State.absorb_tick (s : State) (f : FldDesc) : (s.absorb f).tick = s.tick := rfl
@[simp] theorem State.absorb_elapsed (s : State) (f : FldDesc) : (s.absorb f).elapsed = s.elapsed := rfl
@[simp] theorem State.absorb_phase (s : State) (f : FldDesc) : (s.absorb f).phase = s.phase := rfl
@[simp] theorem State.absorb_committed (s : State) (f : FldDesc) : (s.absorb f).committed = s.committed := rfl
@[simp] theorem State.absorb_free (s : State) (f : FldDesc) : (s.absorb f).free = s.free := rfl
@[simp] theorem State.absorb_prog (s : State) (f : FldDesc) : (s.absorb f).prog = s.prog := rfl
@[simp] theorem State.absorb_data (s : State) (f : FldDesc) : (s.absorb f).data = s.data := rfl
@[simp] theorem State.absorb_table (s : State) (f : FldDesc) : (s.absorb f).table = s.table := rfl
@[simp] theorem State.absorb_msixTab (s : State) (f : FldDesc) : (s.absorb f).msixTab = s.msixTab := rfl
@[simp] theorem State.absorb_msixPend (s : State) (f : FldDesc) : (s.absorb f).msixPend = s.msixPend := rfl
@[simp] theorem State.absorb_msixEn (s : State) (f : FldDesc) : (s.absorb f).msixEn = s.msixEn := rfl
@[simp] theorem State.absorb_log (s : State) (f : FldDesc) : (s.absorb f).log = s.log := rfl
@[simp] theorem State.absorb_lpe (s : State) (f : FldDesc) : (s.absorb f).lpe = s.lpe := rfl
@[simp] theorem State.absorb_rcd (s : State) (f : FldDesc) : (s.absorb f).rcd = s.rcd := rfl
@[simp] theorem State.absorb_fmt (s : State) (f : FldDesc) : (s.absorb f).fmt = s.fmt := rfl
@[simp] theorem State.absorb_sec (s : State) (f : FldDesc) : (s.absorb f).sec = s.sec := rfl
@[simp] theorem State.absorb_nvm (s : State) (f : FldDesc) : (s.absorb f).nvm = s.nvm := rfl
@[simp] theorem State.absorb_boot (s : State) (f : FldDesc) : (s.absorb f).boot = s.boot := rfl
@[simp] theorem State.absorb_pins (s : State) (f : FldDesc) : (s.absorb f).pins = s.pins := rfl
@[simp] theorem State.absorb_pwr (s : State) (f : FldDesc) : (s.absorb f).pwr = s.pwr := rfl
@[simp] theorem State.absorb_cdc (s : State) (f : FldDesc) : (s.absorb f).cdc = s.cdc := rfl
@[simp] theorem State.absorb_img (s : State) (f : FldDesc) : (s.absorb f).img = s.img := rfl
@[simp] theorem State.absorb_dramCh (s : State) (f : FldDesc) : (s.absorb f).dramCh = s.dramCh := rfl
@[simp] theorem State.absorb_dram (s : State) (f : FldDesc) : (s.absorb f).dram = s.dram := rfl
@[simp] theorem State.absorb_dma (s : State) (f : FldDesc) : (s.absorb f).dma = s.dma := rfl
@[simp] theorem State.absorb_dmaShare (s : State) (f : FldDesc) : (s.absorb f).dmaShare = s.dmaShare := rfl
@[simp] theorem State.absorb_motion (s : State) (f : FldDesc) : (s.absorb f).motion = s.motion := rfl
@[simp] theorem State.absorb_cal (s : State) (f : FldDesc) : (s.absorb f).cal = s.cal := rfl
@[simp] theorem State.absorb_power (s : State) (f : FldDesc) : (s.absorb f).power = s.power := rfl
@[simp] theorem State.absorb_ring (s : State) (f : FldDesc) : (s.absorb f).ring = s.ring := rfl
@[simp] theorem State.absorb_iox (s : State) (f : FldDesc) : (s.absorb f).iox = s.iox := rfl

/-! ### Opening a rate window: `State.putRateWin` -/

@[simp] theorem State.putRateWin_pending (s : State) (w : RlWin) : (s.putRateWin w).pending = s.pending := rfl
@[simp] theorem State.putRateWin_variant (s : State) (w : RlWin) : (s.putRateWin w).variant = s.variant := rfl
@[simp] theorem State.putRateWin_stepping (s : State) (w : RlWin) : (s.putRateWin w).stepping = s.stepping := rfl
@[simp] theorem State.putRateWin_fuseRev (s : State) (w : RlWin) : (s.putRateWin w).fuseRev = s.fuseRev := rfl
@[simp] theorem State.putRateWin_regs (s : State) (w : RlWin) : (s.putRateWin w).regs = s.regs := rfl
@[simp] theorem State.putRateWin_tick (s : State) (w : RlWin) : (s.putRateWin w).tick = s.tick := rfl
@[simp] theorem State.putRateWin_elapsed (s : State) (w : RlWin) : (s.putRateWin w).elapsed = s.elapsed := rfl
@[simp] theorem State.putRateWin_phase (s : State) (w : RlWin) : (s.putRateWin w).phase = s.phase := rfl
@[simp] theorem State.putRateWin_committed (s : State) (w : RlWin) : (s.putRateWin w).committed = s.committed := rfl
@[simp] theorem State.putRateWin_free (s : State) (w : RlWin) : (s.putRateWin w).free = s.free := rfl
@[simp] theorem State.putRateWin_prog (s : State) (w : RlWin) : (s.putRateWin w).prog = s.prog := rfl
@[simp] theorem State.putRateWin_data (s : State) (w : RlWin) : (s.putRateWin w).data = s.data := rfl
@[simp] theorem State.putRateWin_table (s : State) (w : RlWin) : (s.putRateWin w).table = s.table := rfl
@[simp] theorem State.putRateWin_msixTab (s : State) (w : RlWin) : (s.putRateWin w).msixTab = s.msixTab := rfl
@[simp] theorem State.putRateWin_msixPend (s : State) (w : RlWin) : (s.putRateWin w).msixPend = s.msixPend := rfl
@[simp] theorem State.putRateWin_msixEn (s : State) (w : RlWin) : (s.putRateWin w).msixEn = s.msixEn := rfl
@[simp] theorem State.putRateWin_log (s : State) (w : RlWin) : (s.putRateWin w).log = s.log := rfl
@[simp] theorem State.putRateWin_seq (s : State) (w : RlWin) : (s.putRateWin w).seq = s.seq := rfl
@[simp] theorem State.putRateWin_lpe (s : State) (w : RlWin) : (s.putRateWin w).lpe = s.lpe := rfl
@[simp] theorem State.putRateWin_fmt (s : State) (w : RlWin) : (s.putRateWin w).fmt = s.fmt := rfl
@[simp] theorem State.putRateWin_sec (s : State) (w : RlWin) : (s.putRateWin w).sec = s.sec := rfl
@[simp] theorem State.putRateWin_nvm (s : State) (w : RlWin) : (s.putRateWin w).nvm = s.nvm := rfl
@[simp] theorem State.putRateWin_boot (s : State) (w : RlWin) : (s.putRateWin w).boot = s.boot := rfl
@[simp] theorem State.putRateWin_pins (s : State) (w : RlWin) : (s.putRateWin w).pins = s.pins := rfl
@[simp] theorem State.putRateWin_pwr (s : State) (w : RlWin) : (s.putRateWin w).pwr = s.pwr := rfl
@[simp] theorem State.putRateWin_cdc (s : State) (w : RlWin) : (s.putRateWin w).cdc = s.cdc := rfl
@[simp] theorem State.putRateWin_img (s : State) (w : RlWin) : (s.putRateWin w).img = s.img := rfl
@[simp] theorem State.putRateWin_dramCh (s : State) (w : RlWin) : (s.putRateWin w).dramCh = s.dramCh := rfl
@[simp] theorem State.putRateWin_dram (s : State) (w : RlWin) : (s.putRateWin w).dram = s.dram := rfl
@[simp] theorem State.putRateWin_dma (s : State) (w : RlWin) : (s.putRateWin w).dma = s.dma := rfl
@[simp] theorem State.putRateWin_dmaShare (s : State) (w : RlWin) : (s.putRateWin w).dmaShare = s.dmaShare := rfl
@[simp] theorem State.putRateWin_motion (s : State) (w : RlWin) : (s.putRateWin w).motion = s.motion := rfl
@[simp] theorem State.putRateWin_cal (s : State) (w : RlWin) : (s.putRateWin w).cal = s.cal := rfl
@[simp] theorem State.putRateWin_power (s : State) (w : RlWin) : (s.putRateWin w).power = s.power := rfl
@[simp] theorem State.putRateWin_ring (s : State) (w : RlWin) : (s.putRateWin w).ring = s.ring := rfl
@[simp] theorem State.putRateWin_iox (s : State) (w : RlWin) : (s.putRateWin w).iox = s.iox := rfl

/-! ### Writing PWR_STAT.TARGET: `State.setTarget` -/

@[simp] theorem State.setTarget_pending (s : State) (t : Nat) : (s.setTarget t).pending = s.pending := rfl
@[simp] theorem State.setTarget_variant (s : State) (t : Nat) : (s.setTarget t).variant = s.variant := rfl
@[simp] theorem State.setTarget_stepping (s : State) (t : Nat) : (s.setTarget t).stepping = s.stepping := rfl
@[simp] theorem State.setTarget_fuseRev (s : State) (t : Nat) : (s.setTarget t).fuseRev = s.fuseRev := rfl
@[simp] theorem State.setTarget_tick (s : State) (t : Nat) : (s.setTarget t).tick = s.tick := rfl
@[simp] theorem State.setTarget_elapsed (s : State) (t : Nat) : (s.setTarget t).elapsed = s.elapsed := rfl
@[simp] theorem State.setTarget_phase (s : State) (t : Nat) : (s.setTarget t).phase = s.phase := rfl
@[simp] theorem State.setTarget_committed (s : State) (t : Nat) : (s.setTarget t).committed = s.committed := rfl
@[simp] theorem State.setTarget_free (s : State) (t : Nat) : (s.setTarget t).free = s.free := rfl
@[simp] theorem State.setTarget_prog (s : State) (t : Nat) : (s.setTarget t).prog = s.prog := rfl
@[simp] theorem State.setTarget_data (s : State) (t : Nat) : (s.setTarget t).data = s.data := rfl
@[simp] theorem State.setTarget_table (s : State) (t : Nat) : (s.setTarget t).table = s.table := rfl
@[simp] theorem State.setTarget_msixTab (s : State) (t : Nat) : (s.setTarget t).msixTab = s.msixTab := rfl
@[simp] theorem State.setTarget_msixPend (s : State) (t : Nat) : (s.setTarget t).msixPend = s.msixPend := rfl
@[simp] theorem State.setTarget_msixEn (s : State) (t : Nat) : (s.setTarget t).msixEn = s.msixEn := rfl
@[simp] theorem State.setTarget_log (s : State) (t : Nat) : (s.setTarget t).log = s.log := rfl
@[simp] theorem State.setTarget_lpe (s : State) (t : Nat) : (s.setTarget t).lpe = s.lpe := rfl
@[simp] theorem State.setTarget_rcd (s : State) (t : Nat) : (s.setTarget t).rcd = s.rcd := rfl
@[simp] theorem State.setTarget_fmt (s : State) (t : Nat) : (s.setTarget t).fmt = s.fmt := rfl
@[simp] theorem State.setTarget_sec (s : State) (t : Nat) : (s.setTarget t).sec = s.sec := rfl
@[simp] theorem State.setTarget_nvm (s : State) (t : Nat) : (s.setTarget t).nvm = s.nvm := rfl
@[simp] theorem State.setTarget_boot (s : State) (t : Nat) : (s.setTarget t).boot = s.boot := rfl
@[simp] theorem State.setTarget_pins (s : State) (t : Nat) : (s.setTarget t).pins = s.pins := rfl
@[simp] theorem State.setTarget_pwr (s : State) (t : Nat) : (s.setTarget t).pwr = s.pwr := rfl
@[simp] theorem State.setTarget_cdc (s : State) (t : Nat) : (s.setTarget t).cdc = s.cdc := rfl
@[simp] theorem State.setTarget_img (s : State) (t : Nat) : (s.setTarget t).img = s.img := rfl
@[simp] theorem State.setTarget_dramCh (s : State) (t : Nat) : (s.setTarget t).dramCh = s.dramCh := rfl
@[simp] theorem State.setTarget_dram (s : State) (t : Nat) : (s.setTarget t).dram = s.dram := rfl
@[simp] theorem State.setTarget_dma (s : State) (t : Nat) : (s.setTarget t).dma = s.dma := rfl
@[simp] theorem State.setTarget_dmaShare (s : State) (t : Nat) : (s.setTarget t).dmaShare = s.dmaShare := rfl
@[simp] theorem State.setTarget_motion (s : State) (t : Nat) : (s.setTarget t).motion = s.motion := rfl
@[simp] theorem State.setTarget_cal (s : State) (t : Nat) : (s.setTarget t).cal = s.cal := rfl
@[simp] theorem State.setTarget_power (s : State) (t : Nat) : (s.setTarget t).power = s.power := rfl
@[simp] theorem State.setTarget_ring (s : State) (t : Nat) : (s.setTarget t).ring = s.ring := rfl
@[simp] theorem State.setTarget_iox (s : State) (t : Nat) : (s.setTarget t).iox = s.iox := rfl

/-! ### Replacing a decoder lane: `State.setLane` -/

@[simp] theorem State.setLane_pending (s : State) (l : Nat) (x : DecLane) : (s.setLane l x).pending = s.pending := rfl
@[simp] theorem State.setLane_variant (s : State) (l : Nat) (x : DecLane) : (s.setLane l x).variant = s.variant := rfl
@[simp] theorem State.setLane_stepping (s : State) (l : Nat) (x : DecLane) : (s.setLane l x).stepping = s.stepping := rfl
@[simp] theorem State.setLane_fuseRev (s : State) (l : Nat) (x : DecLane) : (s.setLane l x).fuseRev = s.fuseRev := rfl
@[simp] theorem State.setLane_regs (s : State) (l : Nat) (x : DecLane) : (s.setLane l x).regs = s.regs := rfl
@[simp] theorem State.setLane_tick (s : State) (l : Nat) (x : DecLane) : (s.setLane l x).tick = s.tick := rfl
@[simp] theorem State.setLane_elapsed (s : State) (l : Nat) (x : DecLane) : (s.setLane l x).elapsed = s.elapsed := rfl
@[simp] theorem State.setLane_phase (s : State) (l : Nat) (x : DecLane) : (s.setLane l x).phase = s.phase := rfl
@[simp] theorem State.setLane_committed (s : State) (l : Nat) (x : DecLane) : (s.setLane l x).committed = s.committed := rfl
@[simp] theorem State.setLane_free (s : State) (l : Nat) (x : DecLane) : (s.setLane l x).free = s.free := rfl
@[simp] theorem State.setLane_prog (s : State) (l : Nat) (x : DecLane) : (s.setLane l x).prog = s.prog := rfl
@[simp] theorem State.setLane_data (s : State) (l : Nat) (x : DecLane) : (s.setLane l x).data = s.data := rfl
@[simp] theorem State.setLane_table (s : State) (l : Nat) (x : DecLane) : (s.setLane l x).table = s.table := rfl
@[simp] theorem State.setLane_msixTab (s : State) (l : Nat) (x : DecLane) : (s.setLane l x).msixTab = s.msixTab := rfl
@[simp] theorem State.setLane_msixPend (s : State) (l : Nat) (x : DecLane) : (s.setLane l x).msixPend = s.msixPend := rfl
@[simp] theorem State.setLane_msixEn (s : State) (l : Nat) (x : DecLane) : (s.setLane l x).msixEn = s.msixEn := rfl
@[simp] theorem State.setLane_log (s : State) (l : Nat) (x : DecLane) : (s.setLane l x).log = s.log := rfl
@[simp] theorem State.setLane_seq (s : State) (l : Nat) (x : DecLane) : (s.setLane l x).seq = s.seq := rfl
@[simp] theorem State.setLane_lpe (s : State) (l : Nat) (x : DecLane) : (s.setLane l x).lpe = s.lpe := rfl
@[simp] theorem State.setLane_rcd (s : State) (l : Nat) (x : DecLane) : (s.setLane l x).rcd = s.rcd := rfl
@[simp] theorem State.setLane_fmt (s : State) (l : Nat) (x : DecLane) : (s.setLane l x).fmt = s.fmt := rfl
@[simp] theorem State.setLane_sec (s : State) (l : Nat) (x : DecLane) : (s.setLane l x).sec = s.sec := rfl
@[simp] theorem State.setLane_nvm (s : State) (l : Nat) (x : DecLane) : (s.setLane l x).nvm = s.nvm := rfl
@[simp] theorem State.setLane_boot (s : State) (l : Nat) (x : DecLane) : (s.setLane l x).boot = s.boot := rfl
@[simp] theorem State.setLane_pins (s : State) (l : Nat) (x : DecLane) : (s.setLane l x).pins = s.pins := rfl
@[simp] theorem State.setLane_pwr (s : State) (l : Nat) (x : DecLane) : (s.setLane l x).pwr = s.pwr := rfl
@[simp] theorem State.setLane_img (s : State) (l : Nat) (x : DecLane) : (s.setLane l x).img = s.img := rfl
@[simp] theorem State.setLane_dramCh (s : State) (l : Nat) (x : DecLane) : (s.setLane l x).dramCh = s.dramCh := rfl
@[simp] theorem State.setLane_dram (s : State) (l : Nat) (x : DecLane) : (s.setLane l x).dram = s.dram := rfl
@[simp] theorem State.setLane_dma (s : State) (l : Nat) (x : DecLane) : (s.setLane l x).dma = s.dma := rfl
@[simp] theorem State.setLane_dmaShare (s : State) (l : Nat) (x : DecLane) : (s.setLane l x).dmaShare = s.dmaShare := rfl
@[simp] theorem State.setLane_motion (s : State) (l : Nat) (x : DecLane) : (s.setLane l x).motion = s.motion := rfl
@[simp] theorem State.setLane_cal (s : State) (l : Nat) (x : DecLane) : (s.setLane l x).cal = s.cal := rfl
@[simp] theorem State.setLane_power (s : State) (l : Nat) (x : DecLane) : (s.setLane l x).power = s.power := rfl
@[simp] theorem State.setLane_ring (s : State) (l : Nat) (x : DecLane) : (s.setLane l x).ring = s.ring := rfl
@[simp] theorem State.setLane_iox (s : State) (l : Nat) (x : DecLane) : (s.setLane l x).iox = s.iox := rfl

/-! ### Replacing an encoder: `State.setEnc` -/

@[simp] theorem State.setEnc_pending (s : State) (e : Nat) (x : Enc) : (s.setEnc e x).pending = s.pending := rfl
@[simp] theorem State.setEnc_variant (s : State) (e : Nat) (x : Enc) : (s.setEnc e x).variant = s.variant := rfl
@[simp] theorem State.setEnc_stepping (s : State) (e : Nat) (x : Enc) : (s.setEnc e x).stepping = s.stepping := rfl
@[simp] theorem State.setEnc_fuseRev (s : State) (e : Nat) (x : Enc) : (s.setEnc e x).fuseRev = s.fuseRev := rfl
@[simp] theorem State.setEnc_regs (s : State) (e : Nat) (x : Enc) : (s.setEnc e x).regs = s.regs := rfl
@[simp] theorem State.setEnc_tick (s : State) (e : Nat) (x : Enc) : (s.setEnc e x).tick = s.tick := rfl
@[simp] theorem State.setEnc_elapsed (s : State) (e : Nat) (x : Enc) : (s.setEnc e x).elapsed = s.elapsed := rfl
@[simp] theorem State.setEnc_phase (s : State) (e : Nat) (x : Enc) : (s.setEnc e x).phase = s.phase := rfl
@[simp] theorem State.setEnc_committed (s : State) (e : Nat) (x : Enc) : (s.setEnc e x).committed = s.committed := rfl
@[simp] theorem State.setEnc_free (s : State) (e : Nat) (x : Enc) : (s.setEnc e x).free = s.free := rfl
@[simp] theorem State.setEnc_prog (s : State) (e : Nat) (x : Enc) : (s.setEnc e x).prog = s.prog := rfl
@[simp] theorem State.setEnc_data (s : State) (e : Nat) (x : Enc) : (s.setEnc e x).data = s.data := rfl
@[simp] theorem State.setEnc_table (s : State) (e : Nat) (x : Enc) : (s.setEnc e x).table = s.table := rfl
@[simp] theorem State.setEnc_msixTab (s : State) (e : Nat) (x : Enc) : (s.setEnc e x).msixTab = s.msixTab := rfl
@[simp] theorem State.setEnc_msixPend (s : State) (e : Nat) (x : Enc) : (s.setEnc e x).msixPend = s.msixPend := rfl
@[simp] theorem State.setEnc_msixEn (s : State) (e : Nat) (x : Enc) : (s.setEnc e x).msixEn = s.msixEn := rfl
@[simp] theorem State.setEnc_log (s : State) (e : Nat) (x : Enc) : (s.setEnc e x).log = s.log := rfl
@[simp] theorem State.setEnc_seq (s : State) (e : Nat) (x : Enc) : (s.setEnc e x).seq = s.seq := rfl
@[simp] theorem State.setEnc_lpe (s : State) (e : Nat) (x : Enc) : (s.setEnc e x).lpe = s.lpe := rfl
@[simp] theorem State.setEnc_rcd (s : State) (e : Nat) (x : Enc) : (s.setEnc e x).rcd = s.rcd := rfl
@[simp] theorem State.setEnc_fmt (s : State) (e : Nat) (x : Enc) : (s.setEnc e x).fmt = s.fmt := rfl
@[simp] theorem State.setEnc_sec (s : State) (e : Nat) (x : Enc) : (s.setEnc e x).sec = s.sec := rfl
@[simp] theorem State.setEnc_nvm (s : State) (e : Nat) (x : Enc) : (s.setEnc e x).nvm = s.nvm := rfl
@[simp] theorem State.setEnc_boot (s : State) (e : Nat) (x : Enc) : (s.setEnc e x).boot = s.boot := rfl
@[simp] theorem State.setEnc_pins (s : State) (e : Nat) (x : Enc) : (s.setEnc e x).pins = s.pins := rfl
@[simp] theorem State.setEnc_pwr (s : State) (e : Nat) (x : Enc) : (s.setEnc e x).pwr = s.pwr := rfl
@[simp] theorem State.setEnc_img (s : State) (e : Nat) (x : Enc) : (s.setEnc e x).img = s.img := rfl
@[simp] theorem State.setEnc_dramCh (s : State) (e : Nat) (x : Enc) : (s.setEnc e x).dramCh = s.dramCh := rfl
@[simp] theorem State.setEnc_dram (s : State) (e : Nat) (x : Enc) : (s.setEnc e x).dram = s.dram := rfl
@[simp] theorem State.setEnc_dma (s : State) (e : Nat) (x : Enc) : (s.setEnc e x).dma = s.dma := rfl
@[simp] theorem State.setEnc_dmaShare (s : State) (e : Nat) (x : Enc) : (s.setEnc e x).dmaShare = s.dmaShare := rfl
@[simp] theorem State.setEnc_motion (s : State) (e : Nat) (x : Enc) : (s.setEnc e x).motion = s.motion := rfl
@[simp] theorem State.setEnc_cal (s : State) (e : Nat) (x : Enc) : (s.setEnc e x).cal = s.cal := rfl
@[simp] theorem State.setEnc_power (s : State) (e : Nat) (x : Enc) : (s.setEnc e x).power = s.power := rfl
@[simp] theorem State.setEnc_ring (s : State) (e : Nat) (x : Enc) : (s.setEnc e x).ring = s.ring := rfl
@[simp] theorem State.setEnc_iox (s : State) (e : Nat) (x : Enc) : (s.setEnc e x).iox = s.iox := rfl

/-! ### Replacing a DMA channel: `State.setDma` -/

@[simp] theorem State.setDma_pending (s : State) (c : Nat) (x : DmaChan) : (s.setDma c x).pending = s.pending := rfl
@[simp] theorem State.setDma_variant (s : State) (c : Nat) (x : DmaChan) : (s.setDma c x).variant = s.variant := rfl
@[simp] theorem State.setDma_stepping (s : State) (c : Nat) (x : DmaChan) : (s.setDma c x).stepping = s.stepping := rfl
@[simp] theorem State.setDma_fuseRev (s : State) (c : Nat) (x : DmaChan) : (s.setDma c x).fuseRev = s.fuseRev := rfl
@[simp] theorem State.setDma_regs (s : State) (c : Nat) (x : DmaChan) : (s.setDma c x).regs = s.regs := rfl
@[simp] theorem State.setDma_tick (s : State) (c : Nat) (x : DmaChan) : (s.setDma c x).tick = s.tick := rfl
@[simp] theorem State.setDma_elapsed (s : State) (c : Nat) (x : DmaChan) : (s.setDma c x).elapsed = s.elapsed := rfl
@[simp] theorem State.setDma_phase (s : State) (c : Nat) (x : DmaChan) : (s.setDma c x).phase = s.phase := rfl
@[simp] theorem State.setDma_committed (s : State) (c : Nat) (x : DmaChan) : (s.setDma c x).committed = s.committed := rfl
@[simp] theorem State.setDma_free (s : State) (c : Nat) (x : DmaChan) : (s.setDma c x).free = s.free := rfl
@[simp] theorem State.setDma_prog (s : State) (c : Nat) (x : DmaChan) : (s.setDma c x).prog = s.prog := rfl
@[simp] theorem State.setDma_data (s : State) (c : Nat) (x : DmaChan) : (s.setDma c x).data = s.data := rfl
@[simp] theorem State.setDma_table (s : State) (c : Nat) (x : DmaChan) : (s.setDma c x).table = s.table := rfl
@[simp] theorem State.setDma_msixTab (s : State) (c : Nat) (x : DmaChan) : (s.setDma c x).msixTab = s.msixTab := rfl
@[simp] theorem State.setDma_msixPend (s : State) (c : Nat) (x : DmaChan) : (s.setDma c x).msixPend = s.msixPend := rfl
@[simp] theorem State.setDma_msixEn (s : State) (c : Nat) (x : DmaChan) : (s.setDma c x).msixEn = s.msixEn := rfl
@[simp] theorem State.setDma_log (s : State) (c : Nat) (x : DmaChan) : (s.setDma c x).log = s.log := rfl
@[simp] theorem State.setDma_seq (s : State) (c : Nat) (x : DmaChan) : (s.setDma c x).seq = s.seq := rfl
@[simp] theorem State.setDma_lpe (s : State) (c : Nat) (x : DmaChan) : (s.setDma c x).lpe = s.lpe := rfl
@[simp] theorem State.setDma_rcd (s : State) (c : Nat) (x : DmaChan) : (s.setDma c x).rcd = s.rcd := rfl
@[simp] theorem State.setDma_fmt (s : State) (c : Nat) (x : DmaChan) : (s.setDma c x).fmt = s.fmt := rfl
@[simp] theorem State.setDma_sec (s : State) (c : Nat) (x : DmaChan) : (s.setDma c x).sec = s.sec := rfl
@[simp] theorem State.setDma_nvm (s : State) (c : Nat) (x : DmaChan) : (s.setDma c x).nvm = s.nvm := rfl
@[simp] theorem State.setDma_boot (s : State) (c : Nat) (x : DmaChan) : (s.setDma c x).boot = s.boot := rfl
@[simp] theorem State.setDma_pins (s : State) (c : Nat) (x : DmaChan) : (s.setDma c x).pins = s.pins := rfl
@[simp] theorem State.setDma_pwr (s : State) (c : Nat) (x : DmaChan) : (s.setDma c x).pwr = s.pwr := rfl
@[simp] theorem State.setDma_cdc (s : State) (c : Nat) (x : DmaChan) : (s.setDma c x).cdc = s.cdc := rfl
@[simp] theorem State.setDma_img (s : State) (c : Nat) (x : DmaChan) : (s.setDma c x).img = s.img := rfl
@[simp] theorem State.setDma_dramCh (s : State) (c : Nat) (x : DmaChan) : (s.setDma c x).dramCh = s.dramCh := rfl
@[simp] theorem State.setDma_dram (s : State) (c : Nat) (x : DmaChan) : (s.setDma c x).dram = s.dram := rfl
@[simp] theorem State.setDma_dmaShare (s : State) (c : Nat) (x : DmaChan) : (s.setDma c x).dmaShare = s.dmaShare := rfl
@[simp] theorem State.setDma_motion (s : State) (c : Nat) (x : DmaChan) : (s.setDma c x).motion = s.motion := rfl
@[simp] theorem State.setDma_cal (s : State) (c : Nat) (x : DmaChan) : (s.setDma c x).cal = s.cal := rfl
@[simp] theorem State.setDma_power (s : State) (c : Nat) (x : DmaChan) : (s.setDma c x).power = s.power := rfl
@[simp] theorem State.setDma_ring (s : State) (c : Nat) (x : DmaChan) : (s.setDma c x).ring = s.ring := rfl
@[simp] theorem State.setDma_iox (s : State) (c : Nat) (x : DmaChan) : (s.setDma c x).iox = s.iox := rfl

/-! ### Replacing a DRAM channel: `State.setChan` -/

@[simp] theorem State.setChan_pending (s : State) (c : Nat) (x : DramChan) : (s.setChan c x).pending = s.pending := rfl
@[simp] theorem State.setChan_variant (s : State) (c : Nat) (x : DramChan) : (s.setChan c x).variant = s.variant := rfl
@[simp] theorem State.setChan_stepping (s : State) (c : Nat) (x : DramChan) : (s.setChan c x).stepping = s.stepping := rfl
@[simp] theorem State.setChan_fuseRev (s : State) (c : Nat) (x : DramChan) : (s.setChan c x).fuseRev = s.fuseRev := rfl
@[simp] theorem State.setChan_regs (s : State) (c : Nat) (x : DramChan) : (s.setChan c x).regs = s.regs := rfl
@[simp] theorem State.setChan_tick (s : State) (c : Nat) (x : DramChan) : (s.setChan c x).tick = s.tick := rfl
@[simp] theorem State.setChan_elapsed (s : State) (c : Nat) (x : DramChan) : (s.setChan c x).elapsed = s.elapsed := rfl
@[simp] theorem State.setChan_phase (s : State) (c : Nat) (x : DramChan) : (s.setChan c x).phase = s.phase := rfl
@[simp] theorem State.setChan_committed (s : State) (c : Nat) (x : DramChan) : (s.setChan c x).committed = s.committed := rfl
@[simp] theorem State.setChan_free (s : State) (c : Nat) (x : DramChan) : (s.setChan c x).free = s.free := rfl
@[simp] theorem State.setChan_prog (s : State) (c : Nat) (x : DramChan) : (s.setChan c x).prog = s.prog := rfl
@[simp] theorem State.setChan_data (s : State) (c : Nat) (x : DramChan) : (s.setChan c x).data = s.data := rfl
@[simp] theorem State.setChan_table (s : State) (c : Nat) (x : DramChan) : (s.setChan c x).table = s.table := rfl
@[simp] theorem State.setChan_msixTab (s : State) (c : Nat) (x : DramChan) : (s.setChan c x).msixTab = s.msixTab := rfl
@[simp] theorem State.setChan_msixPend (s : State) (c : Nat) (x : DramChan) : (s.setChan c x).msixPend = s.msixPend := rfl
@[simp] theorem State.setChan_msixEn (s : State) (c : Nat) (x : DramChan) : (s.setChan c x).msixEn = s.msixEn := rfl
@[simp] theorem State.setChan_log (s : State) (c : Nat) (x : DramChan) : (s.setChan c x).log = s.log := rfl
@[simp] theorem State.setChan_seq (s : State) (c : Nat) (x : DramChan) : (s.setChan c x).seq = s.seq := rfl
@[simp] theorem State.setChan_lpe (s : State) (c : Nat) (x : DramChan) : (s.setChan c x).lpe = s.lpe := rfl
@[simp] theorem State.setChan_rcd (s : State) (c : Nat) (x : DramChan) : (s.setChan c x).rcd = s.rcd := rfl
@[simp] theorem State.setChan_fmt (s : State) (c : Nat) (x : DramChan) : (s.setChan c x).fmt = s.fmt := rfl
@[simp] theorem State.setChan_sec (s : State) (c : Nat) (x : DramChan) : (s.setChan c x).sec = s.sec := rfl
@[simp] theorem State.setChan_nvm (s : State) (c : Nat) (x : DramChan) : (s.setChan c x).nvm = s.nvm := rfl
@[simp] theorem State.setChan_boot (s : State) (c : Nat) (x : DramChan) : (s.setChan c x).boot = s.boot := rfl
@[simp] theorem State.setChan_pins (s : State) (c : Nat) (x : DramChan) : (s.setChan c x).pins = s.pins := rfl
@[simp] theorem State.setChan_pwr (s : State) (c : Nat) (x : DramChan) : (s.setChan c x).pwr = s.pwr := rfl
@[simp] theorem State.setChan_cdc (s : State) (c : Nat) (x : DramChan) : (s.setChan c x).cdc = s.cdc := rfl
@[simp] theorem State.setChan_img (s : State) (c : Nat) (x : DramChan) : (s.setChan c x).img = s.img := rfl
@[simp] theorem State.setChan_dram (s : State) (c : Nat) (x : DramChan) : (s.setChan c x).dram = s.dram := rfl
@[simp] theorem State.setChan_dma (s : State) (c : Nat) (x : DramChan) : (s.setChan c x).dma = s.dma := rfl
@[simp] theorem State.setChan_dmaShare (s : State) (c : Nat) (x : DramChan) : (s.setChan c x).dmaShare = s.dmaShare := rfl
@[simp] theorem State.setChan_motion (s : State) (c : Nat) (x : DramChan) : (s.setChan c x).motion = s.motion := rfl
@[simp] theorem State.setChan_cal (s : State) (c : Nat) (x : DramChan) : (s.setChan c x).cal = s.cal := rfl
@[simp] theorem State.setChan_power (s : State) (c : Nat) (x : DramChan) : (s.setChan c x).power = s.power := rfl
@[simp] theorem State.setChan_ring (s : State) (c : Nat) (x : DramChan) : (s.setChan c x).ring = s.ring := rfl
@[simp] theorem State.setChan_iox (s : State) (c : Nat) (x : DramChan) : (s.setChan c x).iox = s.iox := rfl

/-! ### Replacing the ring: `State.setRing` -/

@[simp] theorem State.setRing_pending (s : State) (x : Ring) : (s.setRing x).pending = s.pending := rfl
@[simp] theorem State.setRing_variant (s : State) (x : Ring) : (s.setRing x).variant = s.variant := rfl
@[simp] theorem State.setRing_stepping (s : State) (x : Ring) : (s.setRing x).stepping = s.stepping := rfl
@[simp] theorem State.setRing_fuseRev (s : State) (x : Ring) : (s.setRing x).fuseRev = s.fuseRev := rfl
@[simp] theorem State.setRing_regs (s : State) (x : Ring) : (s.setRing x).regs = s.regs := rfl
@[simp] theorem State.setRing_tick (s : State) (x : Ring) : (s.setRing x).tick = s.tick := rfl
@[simp] theorem State.setRing_elapsed (s : State) (x : Ring) : (s.setRing x).elapsed = s.elapsed := rfl
@[simp] theorem State.setRing_phase (s : State) (x : Ring) : (s.setRing x).phase = s.phase := rfl
@[simp] theorem State.setRing_committed (s : State) (x : Ring) : (s.setRing x).committed = s.committed := rfl
@[simp] theorem State.setRing_free (s : State) (x : Ring) : (s.setRing x).free = s.free := rfl
@[simp] theorem State.setRing_prog (s : State) (x : Ring) : (s.setRing x).prog = s.prog := rfl
@[simp] theorem State.setRing_data (s : State) (x : Ring) : (s.setRing x).data = s.data := rfl
@[simp] theorem State.setRing_table (s : State) (x : Ring) : (s.setRing x).table = s.table := rfl
@[simp] theorem State.setRing_msixTab (s : State) (x : Ring) : (s.setRing x).msixTab = s.msixTab := rfl
@[simp] theorem State.setRing_msixPend (s : State) (x : Ring) : (s.setRing x).msixPend = s.msixPend := rfl
@[simp] theorem State.setRing_msixEn (s : State) (x : Ring) : (s.setRing x).msixEn = s.msixEn := rfl
@[simp] theorem State.setRing_log (s : State) (x : Ring) : (s.setRing x).log = s.log := rfl
@[simp] theorem State.setRing_seq (s : State) (x : Ring) : (s.setRing x).seq = s.seq := rfl
@[simp] theorem State.setRing_lpe (s : State) (x : Ring) : (s.setRing x).lpe = s.lpe := rfl
@[simp] theorem State.setRing_rcd (s : State) (x : Ring) : (s.setRing x).rcd = s.rcd := rfl
@[simp] theorem State.setRing_fmt (s : State) (x : Ring) : (s.setRing x).fmt = s.fmt := rfl
@[simp] theorem State.setRing_sec (s : State) (x : Ring) : (s.setRing x).sec = s.sec := rfl
@[simp] theorem State.setRing_nvm (s : State) (x : Ring) : (s.setRing x).nvm = s.nvm := rfl
@[simp] theorem State.setRing_boot (s : State) (x : Ring) : (s.setRing x).boot = s.boot := rfl
@[simp] theorem State.setRing_pins (s : State) (x : Ring) : (s.setRing x).pins = s.pins := rfl
@[simp] theorem State.setRing_pwr (s : State) (x : Ring) : (s.setRing x).pwr = s.pwr := rfl
@[simp] theorem State.setRing_cdc (s : State) (x : Ring) : (s.setRing x).cdc = s.cdc := rfl
@[simp] theorem State.setRing_img (s : State) (x : Ring) : (s.setRing x).img = s.img := rfl
@[simp] theorem State.setRing_dramCh (s : State) (x : Ring) : (s.setRing x).dramCh = s.dramCh := rfl
@[simp] theorem State.setRing_dram (s : State) (x : Ring) : (s.setRing x).dram = s.dram := rfl
@[simp] theorem State.setRing_dma (s : State) (x : Ring) : (s.setRing x).dma = s.dma := rfl
@[simp] theorem State.setRing_dmaShare (s : State) (x : Ring) : (s.setRing x).dmaShare = s.dmaShare := rfl
@[simp] theorem State.setRing_motion (s : State) (x : Ring) : (s.setRing x).motion = s.motion := rfl
@[simp] theorem State.setRing_cal (s : State) (x : Ring) : (s.setRing x).cal = s.cal := rfl
@[simp] theorem State.setRing_power (s : State) (x : Ring) : (s.setRing x).power = s.power := rfl
@[simp] theorem State.setRing_iox (s : State) (x : Ring) : (s.setRing x).iox = s.iox := rfl

/-! ### Replacing a port: `State.setPort` -/

@[simp] theorem State.setPort_pending (s : State) (p : Nat) (x : RingPort) : (s.setPort p x).pending = s.pending := rfl
@[simp] theorem State.setPort_variant (s : State) (p : Nat) (x : RingPort) : (s.setPort p x).variant = s.variant := rfl
@[simp] theorem State.setPort_stepping (s : State) (p : Nat) (x : RingPort) : (s.setPort p x).stepping = s.stepping := rfl
@[simp] theorem State.setPort_fuseRev (s : State) (p : Nat) (x : RingPort) : (s.setPort p x).fuseRev = s.fuseRev := rfl
@[simp] theorem State.setPort_regs (s : State) (p : Nat) (x : RingPort) : (s.setPort p x).regs = s.regs := rfl
@[simp] theorem State.setPort_tick (s : State) (p : Nat) (x : RingPort) : (s.setPort p x).tick = s.tick := rfl
@[simp] theorem State.setPort_elapsed (s : State) (p : Nat) (x : RingPort) : (s.setPort p x).elapsed = s.elapsed := rfl
@[simp] theorem State.setPort_phase (s : State) (p : Nat) (x : RingPort) : (s.setPort p x).phase = s.phase := rfl
@[simp] theorem State.setPort_committed (s : State) (p : Nat) (x : RingPort) : (s.setPort p x).committed = s.committed := rfl
@[simp] theorem State.setPort_free (s : State) (p : Nat) (x : RingPort) : (s.setPort p x).free = s.free := rfl
@[simp] theorem State.setPort_prog (s : State) (p : Nat) (x : RingPort) : (s.setPort p x).prog = s.prog := rfl
@[simp] theorem State.setPort_data (s : State) (p : Nat) (x : RingPort) : (s.setPort p x).data = s.data := rfl
@[simp] theorem State.setPort_table (s : State) (p : Nat) (x : RingPort) : (s.setPort p x).table = s.table := rfl
@[simp] theorem State.setPort_msixTab (s : State) (p : Nat) (x : RingPort) : (s.setPort p x).msixTab = s.msixTab := rfl
@[simp] theorem State.setPort_msixPend (s : State) (p : Nat) (x : RingPort) : (s.setPort p x).msixPend = s.msixPend := rfl
@[simp] theorem State.setPort_msixEn (s : State) (p : Nat) (x : RingPort) : (s.setPort p x).msixEn = s.msixEn := rfl
@[simp] theorem State.setPort_log (s : State) (p : Nat) (x : RingPort) : (s.setPort p x).log = s.log := rfl
@[simp] theorem State.setPort_seq (s : State) (p : Nat) (x : RingPort) : (s.setPort p x).seq = s.seq := rfl
@[simp] theorem State.setPort_lpe (s : State) (p : Nat) (x : RingPort) : (s.setPort p x).lpe = s.lpe := rfl
@[simp] theorem State.setPort_rcd (s : State) (p : Nat) (x : RingPort) : (s.setPort p x).rcd = s.rcd := rfl
@[simp] theorem State.setPort_fmt (s : State) (p : Nat) (x : RingPort) : (s.setPort p x).fmt = s.fmt := rfl
@[simp] theorem State.setPort_sec (s : State) (p : Nat) (x : RingPort) : (s.setPort p x).sec = s.sec := rfl
@[simp] theorem State.setPort_nvm (s : State) (p : Nat) (x : RingPort) : (s.setPort p x).nvm = s.nvm := rfl
@[simp] theorem State.setPort_boot (s : State) (p : Nat) (x : RingPort) : (s.setPort p x).boot = s.boot := rfl
@[simp] theorem State.setPort_pins (s : State) (p : Nat) (x : RingPort) : (s.setPort p x).pins = s.pins := rfl
@[simp] theorem State.setPort_pwr (s : State) (p : Nat) (x : RingPort) : (s.setPort p x).pwr = s.pwr := rfl
@[simp] theorem State.setPort_cdc (s : State) (p : Nat) (x : RingPort) : (s.setPort p x).cdc = s.cdc := rfl
@[simp] theorem State.setPort_img (s : State) (p : Nat) (x : RingPort) : (s.setPort p x).img = s.img := rfl
@[simp] theorem State.setPort_dramCh (s : State) (p : Nat) (x : RingPort) : (s.setPort p x).dramCh = s.dramCh := rfl
@[simp] theorem State.setPort_dram (s : State) (p : Nat) (x : RingPort) : (s.setPort p x).dram = s.dram := rfl
@[simp] theorem State.setPort_dma (s : State) (p : Nat) (x : RingPort) : (s.setPort p x).dma = s.dma := rfl
@[simp] theorem State.setPort_dmaShare (s : State) (p : Nat) (x : RingPort) : (s.setPort p x).dmaShare = s.dmaShare := rfl
@[simp] theorem State.setPort_motion (s : State) (p : Nat) (x : RingPort) : (s.setPort p x).motion = s.motion := rfl
@[simp] theorem State.setPort_cal (s : State) (p : Nat) (x : RingPort) : (s.setPort p x).cal = s.cal := rfl
@[simp] theorem State.setPort_power (s : State) (p : Nat) (x : RingPort) : (s.setPort p x).power = s.power := rfl
@[simp] theorem State.setPort_iox (s : State) (p : Nat) (x : RingPort) : (s.setPort p x).iox = s.iox := rfl

/-! ### Replacing an HV channel: `State.setHv` -/

@[simp] theorem State.setHv_pending (s : State) (n : Nat) (x : HvCh) : (s.setHv n x).pending = s.pending := rfl
@[simp] theorem State.setHv_variant (s : State) (n : Nat) (x : HvCh) : (s.setHv n x).variant = s.variant := rfl
@[simp] theorem State.setHv_stepping (s : State) (n : Nat) (x : HvCh) : (s.setHv n x).stepping = s.stepping := rfl
@[simp] theorem State.setHv_fuseRev (s : State) (n : Nat) (x : HvCh) : (s.setHv n x).fuseRev = s.fuseRev := rfl
@[simp] theorem State.setHv_regs (s : State) (n : Nat) (x : HvCh) : (s.setHv n x).regs = s.regs := rfl
@[simp] theorem State.setHv_tick (s : State) (n : Nat) (x : HvCh) : (s.setHv n x).tick = s.tick := rfl
@[simp] theorem State.setHv_elapsed (s : State) (n : Nat) (x : HvCh) : (s.setHv n x).elapsed = s.elapsed := rfl
@[simp] theorem State.setHv_phase (s : State) (n : Nat) (x : HvCh) : (s.setHv n x).phase = s.phase := rfl
@[simp] theorem State.setHv_committed (s : State) (n : Nat) (x : HvCh) : (s.setHv n x).committed = s.committed := rfl
@[simp] theorem State.setHv_free (s : State) (n : Nat) (x : HvCh) : (s.setHv n x).free = s.free := rfl
@[simp] theorem State.setHv_prog (s : State) (n : Nat) (x : HvCh) : (s.setHv n x).prog = s.prog := rfl
@[simp] theorem State.setHv_data (s : State) (n : Nat) (x : HvCh) : (s.setHv n x).data = s.data := rfl
@[simp] theorem State.setHv_table (s : State) (n : Nat) (x : HvCh) : (s.setHv n x).table = s.table := rfl
@[simp] theorem State.setHv_msixTab (s : State) (n : Nat) (x : HvCh) : (s.setHv n x).msixTab = s.msixTab := rfl
@[simp] theorem State.setHv_msixPend (s : State) (n : Nat) (x : HvCh) : (s.setHv n x).msixPend = s.msixPend := rfl
@[simp] theorem State.setHv_msixEn (s : State) (n : Nat) (x : HvCh) : (s.setHv n x).msixEn = s.msixEn := rfl
@[simp] theorem State.setHv_log (s : State) (n : Nat) (x : HvCh) : (s.setHv n x).log = s.log := rfl
@[simp] theorem State.setHv_seq (s : State) (n : Nat) (x : HvCh) : (s.setHv n x).seq = s.seq := rfl
@[simp] theorem State.setHv_lpe (s : State) (n : Nat) (x : HvCh) : (s.setHv n x).lpe = s.lpe := rfl
@[simp] theorem State.setHv_rcd (s : State) (n : Nat) (x : HvCh) : (s.setHv n x).rcd = s.rcd := rfl
@[simp] theorem State.setHv_fmt (s : State) (n : Nat) (x : HvCh) : (s.setHv n x).fmt = s.fmt := rfl
@[simp] theorem State.setHv_sec (s : State) (n : Nat) (x : HvCh) : (s.setHv n x).sec = s.sec := rfl
@[simp] theorem State.setHv_nvm (s : State) (n : Nat) (x : HvCh) : (s.setHv n x).nvm = s.nvm := rfl
@[simp] theorem State.setHv_boot (s : State) (n : Nat) (x : HvCh) : (s.setHv n x).boot = s.boot := rfl
@[simp] theorem State.setHv_pins (s : State) (n : Nat) (x : HvCh) : (s.setHv n x).pins = s.pins := rfl
@[simp] theorem State.setHv_pwr (s : State) (n : Nat) (x : HvCh) : (s.setHv n x).pwr = s.pwr := rfl
@[simp] theorem State.setHv_cdc (s : State) (n : Nat) (x : HvCh) : (s.setHv n x).cdc = s.cdc := rfl
@[simp] theorem State.setHv_img (s : State) (n : Nat) (x : HvCh) : (s.setHv n x).img = s.img := rfl
@[simp] theorem State.setHv_dramCh (s : State) (n : Nat) (x : HvCh) : (s.setHv n x).dramCh = s.dramCh := rfl
@[simp] theorem State.setHv_dram (s : State) (n : Nat) (x : HvCh) : (s.setHv n x).dram = s.dram := rfl
@[simp] theorem State.setHv_dma (s : State) (n : Nat) (x : HvCh) : (s.setHv n x).dma = s.dma := rfl
@[simp] theorem State.setHv_dmaShare (s : State) (n : Nat) (x : HvCh) : (s.setHv n x).dmaShare = s.dmaShare := rfl
@[simp] theorem State.setHv_motion (s : State) (n : Nat) (x : HvCh) : (s.setHv n x).motion = s.motion := rfl
@[simp] theorem State.setHv_cal (s : State) (n : Nat) (x : HvCh) : (s.setHv n x).cal = s.cal := rfl
@[simp] theorem State.setHv_ring (s : State) (n : Nat) (x : HvCh) : (s.setHv n x).ring = s.ring := rfl
@[simp] theorem State.setHv_iox (s : State) (n : Nat) (x : HvCh) : (s.setHv n x).iox = s.iox := rfl

/-! ### Replacing the mains section: `State.setMns` -/

@[simp] theorem State.setMns_pending (s : State) (x : Mns) : (s.setMns x).pending = s.pending := rfl
@[simp] theorem State.setMns_variant (s : State) (x : Mns) : (s.setMns x).variant = s.variant := rfl
@[simp] theorem State.setMns_stepping (s : State) (x : Mns) : (s.setMns x).stepping = s.stepping := rfl
@[simp] theorem State.setMns_fuseRev (s : State) (x : Mns) : (s.setMns x).fuseRev = s.fuseRev := rfl
@[simp] theorem State.setMns_regs (s : State) (x : Mns) : (s.setMns x).regs = s.regs := rfl
@[simp] theorem State.setMns_tick (s : State) (x : Mns) : (s.setMns x).tick = s.tick := rfl
@[simp] theorem State.setMns_elapsed (s : State) (x : Mns) : (s.setMns x).elapsed = s.elapsed := rfl
@[simp] theorem State.setMns_phase (s : State) (x : Mns) : (s.setMns x).phase = s.phase := rfl
@[simp] theorem State.setMns_committed (s : State) (x : Mns) : (s.setMns x).committed = s.committed := rfl
@[simp] theorem State.setMns_free (s : State) (x : Mns) : (s.setMns x).free = s.free := rfl
@[simp] theorem State.setMns_prog (s : State) (x : Mns) : (s.setMns x).prog = s.prog := rfl
@[simp] theorem State.setMns_data (s : State) (x : Mns) : (s.setMns x).data = s.data := rfl
@[simp] theorem State.setMns_table (s : State) (x : Mns) : (s.setMns x).table = s.table := rfl
@[simp] theorem State.setMns_msixTab (s : State) (x : Mns) : (s.setMns x).msixTab = s.msixTab := rfl
@[simp] theorem State.setMns_msixPend (s : State) (x : Mns) : (s.setMns x).msixPend = s.msixPend := rfl
@[simp] theorem State.setMns_msixEn (s : State) (x : Mns) : (s.setMns x).msixEn = s.msixEn := rfl
@[simp] theorem State.setMns_log (s : State) (x : Mns) : (s.setMns x).log = s.log := rfl
@[simp] theorem State.setMns_seq (s : State) (x : Mns) : (s.setMns x).seq = s.seq := rfl
@[simp] theorem State.setMns_lpe (s : State) (x : Mns) : (s.setMns x).lpe = s.lpe := rfl
@[simp] theorem State.setMns_rcd (s : State) (x : Mns) : (s.setMns x).rcd = s.rcd := rfl
@[simp] theorem State.setMns_fmt (s : State) (x : Mns) : (s.setMns x).fmt = s.fmt := rfl
@[simp] theorem State.setMns_sec (s : State) (x : Mns) : (s.setMns x).sec = s.sec := rfl
@[simp] theorem State.setMns_nvm (s : State) (x : Mns) : (s.setMns x).nvm = s.nvm := rfl
@[simp] theorem State.setMns_boot (s : State) (x : Mns) : (s.setMns x).boot = s.boot := rfl
@[simp] theorem State.setMns_pins (s : State) (x : Mns) : (s.setMns x).pins = s.pins := rfl
@[simp] theorem State.setMns_pwr (s : State) (x : Mns) : (s.setMns x).pwr = s.pwr := rfl
@[simp] theorem State.setMns_cdc (s : State) (x : Mns) : (s.setMns x).cdc = s.cdc := rfl
@[simp] theorem State.setMns_img (s : State) (x : Mns) : (s.setMns x).img = s.img := rfl
@[simp] theorem State.setMns_dramCh (s : State) (x : Mns) : (s.setMns x).dramCh = s.dramCh := rfl
@[simp] theorem State.setMns_dram (s : State) (x : Mns) : (s.setMns x).dram = s.dram := rfl
@[simp] theorem State.setMns_dma (s : State) (x : Mns) : (s.setMns x).dma = s.dma := rfl
@[simp] theorem State.setMns_dmaShare (s : State) (x : Mns) : (s.setMns x).dmaShare = s.dmaShare := rfl
@[simp] theorem State.setMns_motion (s : State) (x : Mns) : (s.setMns x).motion = s.motion := rfl
@[simp] theorem State.setMns_cal (s : State) (x : Mns) : (s.setMns x).cal = s.cal := rfl
@[simp] theorem State.setMns_ring (s : State) (x : Mns) : (s.setMns x).ring = s.ring := rfl
@[simp] theorem State.setMns_iox (s : State) (x : Mns) : (s.setMns x).iox = s.iox := rfl

/-! ### Replacing an Inbox window: `State.setWin` -/

@[simp] theorem State.setWin_pending (s : State) (w : Nat) (x : Win) : (s.setWin w x).pending = s.pending := rfl
@[simp] theorem State.setWin_variant (s : State) (w : Nat) (x : Win) : (s.setWin w x).variant = s.variant := rfl
@[simp] theorem State.setWin_stepping (s : State) (w : Nat) (x : Win) : (s.setWin w x).stepping = s.stepping := rfl
@[simp] theorem State.setWin_fuseRev (s : State) (w : Nat) (x : Win) : (s.setWin w x).fuseRev = s.fuseRev := rfl
@[simp] theorem State.setWin_regs (s : State) (w : Nat) (x : Win) : (s.setWin w x).regs = s.regs := rfl
@[simp] theorem State.setWin_tick (s : State) (w : Nat) (x : Win) : (s.setWin w x).tick = s.tick := rfl
@[simp] theorem State.setWin_elapsed (s : State) (w : Nat) (x : Win) : (s.setWin w x).elapsed = s.elapsed := rfl
@[simp] theorem State.setWin_phase (s : State) (w : Nat) (x : Win) : (s.setWin w x).phase = s.phase := rfl
@[simp] theorem State.setWin_committed (s : State) (w : Nat) (x : Win) : (s.setWin w x).committed = s.committed := rfl
@[simp] theorem State.setWin_free (s : State) (w : Nat) (x : Win) : (s.setWin w x).free = s.free := rfl
@[simp] theorem State.setWin_prog (s : State) (w : Nat) (x : Win) : (s.setWin w x).prog = s.prog := rfl
@[simp] theorem State.setWin_data (s : State) (w : Nat) (x : Win) : (s.setWin w x).data = s.data := rfl
@[simp] theorem State.setWin_table (s : State) (w : Nat) (x : Win) : (s.setWin w x).table = s.table := rfl
@[simp] theorem State.setWin_msixTab (s : State) (w : Nat) (x : Win) : (s.setWin w x).msixTab = s.msixTab := rfl
@[simp] theorem State.setWin_msixPend (s : State) (w : Nat) (x : Win) : (s.setWin w x).msixPend = s.msixPend := rfl
@[simp] theorem State.setWin_msixEn (s : State) (w : Nat) (x : Win) : (s.setWin w x).msixEn = s.msixEn := rfl
@[simp] theorem State.setWin_log (s : State) (w : Nat) (x : Win) : (s.setWin w x).log = s.log := rfl
@[simp] theorem State.setWin_seq (s : State) (w : Nat) (x : Win) : (s.setWin w x).seq = s.seq := rfl
@[simp] theorem State.setWin_lpe (s : State) (w : Nat) (x : Win) : (s.setWin w x).lpe = s.lpe := rfl
@[simp] theorem State.setWin_rcd (s : State) (w : Nat) (x : Win) : (s.setWin w x).rcd = s.rcd := rfl
@[simp] theorem State.setWin_sec (s : State) (w : Nat) (x : Win) : (s.setWin w x).sec = s.sec := rfl
@[simp] theorem State.setWin_nvm (s : State) (w : Nat) (x : Win) : (s.setWin w x).nvm = s.nvm := rfl
@[simp] theorem State.setWin_boot (s : State) (w : Nat) (x : Win) : (s.setWin w x).boot = s.boot := rfl
@[simp] theorem State.setWin_pins (s : State) (w : Nat) (x : Win) : (s.setWin w x).pins = s.pins := rfl
@[simp] theorem State.setWin_pwr (s : State) (w : Nat) (x : Win) : (s.setWin w x).pwr = s.pwr := rfl
@[simp] theorem State.setWin_cdc (s : State) (w : Nat) (x : Win) : (s.setWin w x).cdc = s.cdc := rfl
@[simp] theorem State.setWin_img (s : State) (w : Nat) (x : Win) : (s.setWin w x).img = s.img := rfl
@[simp] theorem State.setWin_dramCh (s : State) (w : Nat) (x : Win) : (s.setWin w x).dramCh = s.dramCh := rfl
@[simp] theorem State.setWin_dram (s : State) (w : Nat) (x : Win) : (s.setWin w x).dram = s.dram := rfl
@[simp] theorem State.setWin_dma (s : State) (w : Nat) (x : Win) : (s.setWin w x).dma = s.dma := rfl
@[simp] theorem State.setWin_dmaShare (s : State) (w : Nat) (x : Win) : (s.setWin w x).dmaShare = s.dmaShare := rfl
@[simp] theorem State.setWin_motion (s : State) (w : Nat) (x : Win) : (s.setWin w x).motion = s.motion := rfl
@[simp] theorem State.setWin_cal (s : State) (w : Nat) (x : Win) : (s.setWin w x).cal = s.cal := rfl
@[simp] theorem State.setWin_power (s : State) (w : Nat) (x : Win) : (s.setWin w x).power = s.power := rfl
@[simp] theorem State.setWin_ring (s : State) (w : Nat) (x : Win) : (s.setWin w x).ring = s.ring := rfl
@[simp] theorem State.setWin_iox (s : State) (w : Nat) (x : Win) : (s.setWin w x).iox = s.iox := rfl

/-! ### Replacing an envelope: `State.putEnv` -/

@[simp] theorem State.putEnv_pending (s : State) (k : Nat) (e : Option Env) : (s.putEnv k e).pending = s.pending := rfl
@[simp] theorem State.putEnv_variant (s : State) (k : Nat) (e : Option Env) : (s.putEnv k e).variant = s.variant := rfl
@[simp] theorem State.putEnv_stepping (s : State) (k : Nat) (e : Option Env) : (s.putEnv k e).stepping = s.stepping := rfl
@[simp] theorem State.putEnv_fuseRev (s : State) (k : Nat) (e : Option Env) : (s.putEnv k e).fuseRev = s.fuseRev := rfl
@[simp] theorem State.putEnv_regs (s : State) (k : Nat) (e : Option Env) : (s.putEnv k e).regs = s.regs := rfl
@[simp] theorem State.putEnv_tick (s : State) (k : Nat) (e : Option Env) : (s.putEnv k e).tick = s.tick := rfl
@[simp] theorem State.putEnv_elapsed (s : State) (k : Nat) (e : Option Env) : (s.putEnv k e).elapsed = s.elapsed := rfl
@[simp] theorem State.putEnv_phase (s : State) (k : Nat) (e : Option Env) : (s.putEnv k e).phase = s.phase := rfl
@[simp] theorem State.putEnv_committed (s : State) (k : Nat) (e : Option Env) : (s.putEnv k e).committed = s.committed := rfl
@[simp] theorem State.putEnv_free (s : State) (k : Nat) (e : Option Env) : (s.putEnv k e).free = s.free := rfl
@[simp] theorem State.putEnv_prog (s : State) (k : Nat) (e : Option Env) : (s.putEnv k e).prog = s.prog := rfl
@[simp] theorem State.putEnv_data (s : State) (k : Nat) (e : Option Env) : (s.putEnv k e).data = s.data := rfl
@[simp] theorem State.putEnv_table (s : State) (k : Nat) (e : Option Env) : (s.putEnv k e).table = s.table := rfl
@[simp] theorem State.putEnv_msixTab (s : State) (k : Nat) (e : Option Env) : (s.putEnv k e).msixTab = s.msixTab := rfl
@[simp] theorem State.putEnv_msixPend (s : State) (k : Nat) (e : Option Env) : (s.putEnv k e).msixPend = s.msixPend := rfl
@[simp] theorem State.putEnv_msixEn (s : State) (k : Nat) (e : Option Env) : (s.putEnv k e).msixEn = s.msixEn := rfl
@[simp] theorem State.putEnv_log (s : State) (k : Nat) (e : Option Env) : (s.putEnv k e).log = s.log := rfl
@[simp] theorem State.putEnv_seq (s : State) (k : Nat) (e : Option Env) : (s.putEnv k e).seq = s.seq := rfl
@[simp] theorem State.putEnv_lpe (s : State) (k : Nat) (e : Option Env) : (s.putEnv k e).lpe = s.lpe := rfl
@[simp] theorem State.putEnv_rcd (s : State) (k : Nat) (e : Option Env) : (s.putEnv k e).rcd = s.rcd := rfl
@[simp] theorem State.putEnv_sec (s : State) (k : Nat) (e : Option Env) : (s.putEnv k e).sec = s.sec := rfl
@[simp] theorem State.putEnv_nvm (s : State) (k : Nat) (e : Option Env) : (s.putEnv k e).nvm = s.nvm := rfl
@[simp] theorem State.putEnv_boot (s : State) (k : Nat) (e : Option Env) : (s.putEnv k e).boot = s.boot := rfl
@[simp] theorem State.putEnv_pins (s : State) (k : Nat) (e : Option Env) : (s.putEnv k e).pins = s.pins := rfl
@[simp] theorem State.putEnv_pwr (s : State) (k : Nat) (e : Option Env) : (s.putEnv k e).pwr = s.pwr := rfl
@[simp] theorem State.putEnv_cdc (s : State) (k : Nat) (e : Option Env) : (s.putEnv k e).cdc = s.cdc := rfl
@[simp] theorem State.putEnv_img (s : State) (k : Nat) (e : Option Env) : (s.putEnv k e).img = s.img := rfl
@[simp] theorem State.putEnv_dramCh (s : State) (k : Nat) (e : Option Env) : (s.putEnv k e).dramCh = s.dramCh := rfl
@[simp] theorem State.putEnv_dram (s : State) (k : Nat) (e : Option Env) : (s.putEnv k e).dram = s.dram := rfl
@[simp] theorem State.putEnv_dma (s : State) (k : Nat) (e : Option Env) : (s.putEnv k e).dma = s.dma := rfl
@[simp] theorem State.putEnv_dmaShare (s : State) (k : Nat) (e : Option Env) : (s.putEnv k e).dmaShare = s.dmaShare := rfl
@[simp] theorem State.putEnv_motion (s : State) (k : Nat) (e : Option Env) : (s.putEnv k e).motion = s.motion := rfl
@[simp] theorem State.putEnv_cal (s : State) (k : Nat) (e : Option Env) : (s.putEnv k e).cal = s.cal := rfl
@[simp] theorem State.putEnv_power (s : State) (k : Nat) (e : Option Env) : (s.putEnv k e).power = s.power := rfl
@[simp] theorem State.putEnv_ring (s : State) (k : Nat) (e : Option Env) : (s.putEnv k e).ring = s.ring := rfl
@[simp] theorem State.putEnv_iox (s : State) (k : Nat) (e : Option Env) : (s.putEnv k e).iox = s.iox := rfl

/-! ### Replacing the I/O queues: `State.setIox` -/

@[simp] theorem State.setIox_pending (s : State) (x : Iox) : (s.setIox x).pending = s.pending := rfl
@[simp] theorem State.setIox_variant (s : State) (x : Iox) : (s.setIox x).variant = s.variant := rfl
@[simp] theorem State.setIox_stepping (s : State) (x : Iox) : (s.setIox x).stepping = s.stepping := rfl
@[simp] theorem State.setIox_fuseRev (s : State) (x : Iox) : (s.setIox x).fuseRev = s.fuseRev := rfl
@[simp] theorem State.setIox_regs (s : State) (x : Iox) : (s.setIox x).regs = s.regs := rfl
@[simp] theorem State.setIox_tick (s : State) (x : Iox) : (s.setIox x).tick = s.tick := rfl
@[simp] theorem State.setIox_elapsed (s : State) (x : Iox) : (s.setIox x).elapsed = s.elapsed := rfl
@[simp] theorem State.setIox_phase (s : State) (x : Iox) : (s.setIox x).phase = s.phase := rfl
@[simp] theorem State.setIox_committed (s : State) (x : Iox) : (s.setIox x).committed = s.committed := rfl
@[simp] theorem State.setIox_free (s : State) (x : Iox) : (s.setIox x).free = s.free := rfl
@[simp] theorem State.setIox_prog (s : State) (x : Iox) : (s.setIox x).prog = s.prog := rfl
@[simp] theorem State.setIox_data (s : State) (x : Iox) : (s.setIox x).data = s.data := rfl
@[simp] theorem State.setIox_table (s : State) (x : Iox) : (s.setIox x).table = s.table := rfl
@[simp] theorem State.setIox_msixTab (s : State) (x : Iox) : (s.setIox x).msixTab = s.msixTab := rfl
@[simp] theorem State.setIox_msixPend (s : State) (x : Iox) : (s.setIox x).msixPend = s.msixPend := rfl
@[simp] theorem State.setIox_msixEn (s : State) (x : Iox) : (s.setIox x).msixEn = s.msixEn := rfl
@[simp] theorem State.setIox_log (s : State) (x : Iox) : (s.setIox x).log = s.log := rfl
@[simp] theorem State.setIox_seq (s : State) (x : Iox) : (s.setIox x).seq = s.seq := rfl
@[simp] theorem State.setIox_lpe (s : State) (x : Iox) : (s.setIox x).lpe = s.lpe := rfl
@[simp] theorem State.setIox_rcd (s : State) (x : Iox) : (s.setIox x).rcd = s.rcd := rfl
@[simp] theorem State.setIox_fmt (s : State) (x : Iox) : (s.setIox x).fmt = s.fmt := rfl
@[simp] theorem State.setIox_sec (s : State) (x : Iox) : (s.setIox x).sec = s.sec := rfl
@[simp] theorem State.setIox_nvm (s : State) (x : Iox) : (s.setIox x).nvm = s.nvm := rfl
@[simp] theorem State.setIox_boot (s : State) (x : Iox) : (s.setIox x).boot = s.boot := rfl
@[simp] theorem State.setIox_pins (s : State) (x : Iox) : (s.setIox x).pins = s.pins := rfl
@[simp] theorem State.setIox_pwr (s : State) (x : Iox) : (s.setIox x).pwr = s.pwr := rfl
@[simp] theorem State.setIox_cdc (s : State) (x : Iox) : (s.setIox x).cdc = s.cdc := rfl
@[simp] theorem State.setIox_img (s : State) (x : Iox) : (s.setIox x).img = s.img := rfl
@[simp] theorem State.setIox_dramCh (s : State) (x : Iox) : (s.setIox x).dramCh = s.dramCh := rfl
@[simp] theorem State.setIox_dram (s : State) (x : Iox) : (s.setIox x).dram = s.dram := rfl
@[simp] theorem State.setIox_dma (s : State) (x : Iox) : (s.setIox x).dma = s.dma := rfl
@[simp] theorem State.setIox_dmaShare (s : State) (x : Iox) : (s.setIox x).dmaShare = s.dmaShare := rfl
@[simp] theorem State.setIox_motion (s : State) (x : Iox) : (s.setIox x).motion = s.motion := rfl
@[simp] theorem State.setIox_cal (s : State) (x : Iox) : (s.setIox x).cal = s.cal := rfl
@[simp] theorem State.setIox_power (s : State) (x : Iox) : (s.setIox x).power = s.power := rfl
@[simp] theorem State.setIox_ring (s : State) (x : Iox) : (s.setIox x).ring = s.ring := rfl

/-! ### Replacing a law: `State.setLaw` -/

@[simp] theorem State.setLaw_pending (s : State) (l : Nat) (x : Law) : (s.setLaw l x).pending = s.pending := rfl
@[simp] theorem State.setLaw_variant (s : State) (l : Nat) (x : Law) : (s.setLaw l x).variant = s.variant := rfl
@[simp] theorem State.setLaw_stepping (s : State) (l : Nat) (x : Law) : (s.setLaw l x).stepping = s.stepping := rfl
@[simp] theorem State.setLaw_fuseRev (s : State) (l : Nat) (x : Law) : (s.setLaw l x).fuseRev = s.fuseRev := rfl
@[simp] theorem State.setLaw_regs (s : State) (l : Nat) (x : Law) : (s.setLaw l x).regs = s.regs := rfl
@[simp] theorem State.setLaw_tick (s : State) (l : Nat) (x : Law) : (s.setLaw l x).tick = s.tick := rfl
@[simp] theorem State.setLaw_elapsed (s : State) (l : Nat) (x : Law) : (s.setLaw l x).elapsed = s.elapsed := rfl
@[simp] theorem State.setLaw_phase (s : State) (l : Nat) (x : Law) : (s.setLaw l x).phase = s.phase := rfl
@[simp] theorem State.setLaw_committed (s : State) (l : Nat) (x : Law) : (s.setLaw l x).committed = s.committed := rfl
@[simp] theorem State.setLaw_free (s : State) (l : Nat) (x : Law) : (s.setLaw l x).free = s.free := rfl
@[simp] theorem State.setLaw_prog (s : State) (l : Nat) (x : Law) : (s.setLaw l x).prog = s.prog := rfl
@[simp] theorem State.setLaw_data (s : State) (l : Nat) (x : Law) : (s.setLaw l x).data = s.data := rfl
@[simp] theorem State.setLaw_table (s : State) (l : Nat) (x : Law) : (s.setLaw l x).table = s.table := rfl
@[simp] theorem State.setLaw_msixTab (s : State) (l : Nat) (x : Law) : (s.setLaw l x).msixTab = s.msixTab := rfl
@[simp] theorem State.setLaw_msixPend (s : State) (l : Nat) (x : Law) : (s.setLaw l x).msixPend = s.msixPend := rfl
@[simp] theorem State.setLaw_msixEn (s : State) (l : Nat) (x : Law) : (s.setLaw l x).msixEn = s.msixEn := rfl
@[simp] theorem State.setLaw_log (s : State) (l : Nat) (x : Law) : (s.setLaw l x).log = s.log := rfl
@[simp] theorem State.setLaw_seq (s : State) (l : Nat) (x : Law) : (s.setLaw l x).seq = s.seq := rfl
@[simp] theorem State.setLaw_rcd (s : State) (l : Nat) (x : Law) : (s.setLaw l x).rcd = s.rcd := rfl
@[simp] theorem State.setLaw_fmt (s : State) (l : Nat) (x : Law) : (s.setLaw l x).fmt = s.fmt := rfl
@[simp] theorem State.setLaw_sec (s : State) (l : Nat) (x : Law) : (s.setLaw l x).sec = s.sec := rfl
@[simp] theorem State.setLaw_nvm (s : State) (l : Nat) (x : Law) : (s.setLaw l x).nvm = s.nvm := rfl
@[simp] theorem State.setLaw_boot (s : State) (l : Nat) (x : Law) : (s.setLaw l x).boot = s.boot := rfl
@[simp] theorem State.setLaw_pins (s : State) (l : Nat) (x : Law) : (s.setLaw l x).pins = s.pins := rfl
@[simp] theorem State.setLaw_pwr (s : State) (l : Nat) (x : Law) : (s.setLaw l x).pwr = s.pwr := rfl
@[simp] theorem State.setLaw_cdc (s : State) (l : Nat) (x : Law) : (s.setLaw l x).cdc = s.cdc := rfl
@[simp] theorem State.setLaw_img (s : State) (l : Nat) (x : Law) : (s.setLaw l x).img = s.img := rfl
@[simp] theorem State.setLaw_dramCh (s : State) (l : Nat) (x : Law) : (s.setLaw l x).dramCh = s.dramCh := rfl
@[simp] theorem State.setLaw_dram (s : State) (l : Nat) (x : Law) : (s.setLaw l x).dram = s.dram := rfl
@[simp] theorem State.setLaw_dma (s : State) (l : Nat) (x : Law) : (s.setLaw l x).dma = s.dma := rfl
@[simp] theorem State.setLaw_dmaShare (s : State) (l : Nat) (x : Law) : (s.setLaw l x).dmaShare = s.dmaShare := rfl
@[simp] theorem State.setLaw_motion (s : State) (l : Nat) (x : Law) : (s.setLaw l x).motion = s.motion := rfl
@[simp] theorem State.setLaw_cal (s : State) (l : Nat) (x : Law) : (s.setLaw l x).cal = s.cal := rfl
@[simp] theorem State.setLaw_power (s : State) (l : Nat) (x : Law) : (s.setLaw l x).power = s.power := rfl
@[simp] theorem State.setLaw_ring (s : State) (l : Nat) (x : Law) : (s.setLaw l x).ring = s.ring := rfl
@[simp] theorem State.setLaw_iox (s : State) (l : Nat) (x : Law) : (s.setLaw l x).iox = s.iox := rfl

/-! ### Replacing an axis: `State.setAxis` -/

@[simp] theorem State.setAxis_pending (s : State) (n : Nat) (x : Axis) : (s.setAxis n x).pending = s.pending := rfl
@[simp] theorem State.setAxis_variant (s : State) (n : Nat) (x : Axis) : (s.setAxis n x).variant = s.variant := rfl
@[simp] theorem State.setAxis_stepping (s : State) (n : Nat) (x : Axis) : (s.setAxis n x).stepping = s.stepping := rfl
@[simp] theorem State.setAxis_fuseRev (s : State) (n : Nat) (x : Axis) : (s.setAxis n x).fuseRev = s.fuseRev := rfl
@[simp] theorem State.setAxis_regs (s : State) (n : Nat) (x : Axis) : (s.setAxis n x).regs = s.regs := rfl
@[simp] theorem State.setAxis_tick (s : State) (n : Nat) (x : Axis) : (s.setAxis n x).tick = s.tick := rfl
@[simp] theorem State.setAxis_elapsed (s : State) (n : Nat) (x : Axis) : (s.setAxis n x).elapsed = s.elapsed := rfl
@[simp] theorem State.setAxis_phase (s : State) (n : Nat) (x : Axis) : (s.setAxis n x).phase = s.phase := rfl
@[simp] theorem State.setAxis_committed (s : State) (n : Nat) (x : Axis) : (s.setAxis n x).committed = s.committed := rfl
@[simp] theorem State.setAxis_free (s : State) (n : Nat) (x : Axis) : (s.setAxis n x).free = s.free := rfl
@[simp] theorem State.setAxis_prog (s : State) (n : Nat) (x : Axis) : (s.setAxis n x).prog = s.prog := rfl
@[simp] theorem State.setAxis_data (s : State) (n : Nat) (x : Axis) : (s.setAxis n x).data = s.data := rfl
@[simp] theorem State.setAxis_table (s : State) (n : Nat) (x : Axis) : (s.setAxis n x).table = s.table := rfl
@[simp] theorem State.setAxis_msixTab (s : State) (n : Nat) (x : Axis) : (s.setAxis n x).msixTab = s.msixTab := rfl
@[simp] theorem State.setAxis_msixPend (s : State) (n : Nat) (x : Axis) : (s.setAxis n x).msixPend = s.msixPend := rfl
@[simp] theorem State.setAxis_msixEn (s : State) (n : Nat) (x : Axis) : (s.setAxis n x).msixEn = s.msixEn := rfl
@[simp] theorem State.setAxis_log (s : State) (n : Nat) (x : Axis) : (s.setAxis n x).log = s.log := rfl
@[simp] theorem State.setAxis_seq (s : State) (n : Nat) (x : Axis) : (s.setAxis n x).seq = s.seq := rfl
@[simp] theorem State.setAxis_lpe (s : State) (n : Nat) (x : Axis) : (s.setAxis n x).lpe = s.lpe := rfl
@[simp] theorem State.setAxis_rcd (s : State) (n : Nat) (x : Axis) : (s.setAxis n x).rcd = s.rcd := rfl
@[simp] theorem State.setAxis_fmt (s : State) (n : Nat) (x : Axis) : (s.setAxis n x).fmt = s.fmt := rfl
@[simp] theorem State.setAxis_sec (s : State) (n : Nat) (x : Axis) : (s.setAxis n x).sec = s.sec := rfl
@[simp] theorem State.setAxis_nvm (s : State) (n : Nat) (x : Axis) : (s.setAxis n x).nvm = s.nvm := rfl
@[simp] theorem State.setAxis_boot (s : State) (n : Nat) (x : Axis) : (s.setAxis n x).boot = s.boot := rfl
@[simp] theorem State.setAxis_pins (s : State) (n : Nat) (x : Axis) : (s.setAxis n x).pins = s.pins := rfl
@[simp] theorem State.setAxis_pwr (s : State) (n : Nat) (x : Axis) : (s.setAxis n x).pwr = s.pwr := rfl
@[simp] theorem State.setAxis_cdc (s : State) (n : Nat) (x : Axis) : (s.setAxis n x).cdc = s.cdc := rfl
@[simp] theorem State.setAxis_img (s : State) (n : Nat) (x : Axis) : (s.setAxis n x).img = s.img := rfl
@[simp] theorem State.setAxis_dramCh (s : State) (n : Nat) (x : Axis) : (s.setAxis n x).dramCh = s.dramCh := rfl
@[simp] theorem State.setAxis_dram (s : State) (n : Nat) (x : Axis) : (s.setAxis n x).dram = s.dram := rfl
@[simp] theorem State.setAxis_dma (s : State) (n : Nat) (x : Axis) : (s.setAxis n x).dma = s.dma := rfl
@[simp] theorem State.setAxis_dmaShare (s : State) (n : Nat) (x : Axis) : (s.setAxis n x).dmaShare = s.dmaShare := rfl
@[simp] theorem State.setAxis_cal (s : State) (n : Nat) (x : Axis) : (s.setAxis n x).cal = s.cal := rfl
@[simp] theorem State.setAxis_power (s : State) (n : Nat) (x : Axis) : (s.setAxis n x).power = s.power := rfl
@[simp] theorem State.setAxis_ring (s : State) (n : Nat) (x : Axis) : (s.setAxis n x).ring = s.ring := rfl
@[simp] theorem State.setAxis_iox (s : State) (n : Nat) (x : Axis) : (s.setAxis n x).iox = s.iox := rfl

/-! ### Replacing a FOC channel: `State.setFoc` -/

@[simp] theorem State.setFoc_pending (s : State) (n : Nat) (x : FocCh) : (s.setFoc n x).pending = s.pending := rfl
@[simp] theorem State.setFoc_variant (s : State) (n : Nat) (x : FocCh) : (s.setFoc n x).variant = s.variant := rfl
@[simp] theorem State.setFoc_stepping (s : State) (n : Nat) (x : FocCh) : (s.setFoc n x).stepping = s.stepping := rfl
@[simp] theorem State.setFoc_fuseRev (s : State) (n : Nat) (x : FocCh) : (s.setFoc n x).fuseRev = s.fuseRev := rfl
@[simp] theorem State.setFoc_regs (s : State) (n : Nat) (x : FocCh) : (s.setFoc n x).regs = s.regs := rfl
@[simp] theorem State.setFoc_tick (s : State) (n : Nat) (x : FocCh) : (s.setFoc n x).tick = s.tick := rfl
@[simp] theorem State.setFoc_elapsed (s : State) (n : Nat) (x : FocCh) : (s.setFoc n x).elapsed = s.elapsed := rfl
@[simp] theorem State.setFoc_phase (s : State) (n : Nat) (x : FocCh) : (s.setFoc n x).phase = s.phase := rfl
@[simp] theorem State.setFoc_committed (s : State) (n : Nat) (x : FocCh) : (s.setFoc n x).committed = s.committed := rfl
@[simp] theorem State.setFoc_free (s : State) (n : Nat) (x : FocCh) : (s.setFoc n x).free = s.free := rfl
@[simp] theorem State.setFoc_prog (s : State) (n : Nat) (x : FocCh) : (s.setFoc n x).prog = s.prog := rfl
@[simp] theorem State.setFoc_data (s : State) (n : Nat) (x : FocCh) : (s.setFoc n x).data = s.data := rfl
@[simp] theorem State.setFoc_table (s : State) (n : Nat) (x : FocCh) : (s.setFoc n x).table = s.table := rfl
@[simp] theorem State.setFoc_msixTab (s : State) (n : Nat) (x : FocCh) : (s.setFoc n x).msixTab = s.msixTab := rfl
@[simp] theorem State.setFoc_msixPend (s : State) (n : Nat) (x : FocCh) : (s.setFoc n x).msixPend = s.msixPend := rfl
@[simp] theorem State.setFoc_msixEn (s : State) (n : Nat) (x : FocCh) : (s.setFoc n x).msixEn = s.msixEn := rfl
@[simp] theorem State.setFoc_log (s : State) (n : Nat) (x : FocCh) : (s.setFoc n x).log = s.log := rfl
@[simp] theorem State.setFoc_seq (s : State) (n : Nat) (x : FocCh) : (s.setFoc n x).seq = s.seq := rfl
@[simp] theorem State.setFoc_lpe (s : State) (n : Nat) (x : FocCh) : (s.setFoc n x).lpe = s.lpe := rfl
@[simp] theorem State.setFoc_rcd (s : State) (n : Nat) (x : FocCh) : (s.setFoc n x).rcd = s.rcd := rfl
@[simp] theorem State.setFoc_fmt (s : State) (n : Nat) (x : FocCh) : (s.setFoc n x).fmt = s.fmt := rfl
@[simp] theorem State.setFoc_sec (s : State) (n : Nat) (x : FocCh) : (s.setFoc n x).sec = s.sec := rfl
@[simp] theorem State.setFoc_nvm (s : State) (n : Nat) (x : FocCh) : (s.setFoc n x).nvm = s.nvm := rfl
@[simp] theorem State.setFoc_boot (s : State) (n : Nat) (x : FocCh) : (s.setFoc n x).boot = s.boot := rfl
@[simp] theorem State.setFoc_pins (s : State) (n : Nat) (x : FocCh) : (s.setFoc n x).pins = s.pins := rfl
@[simp] theorem State.setFoc_pwr (s : State) (n : Nat) (x : FocCh) : (s.setFoc n x).pwr = s.pwr := rfl
@[simp] theorem State.setFoc_cdc (s : State) (n : Nat) (x : FocCh) : (s.setFoc n x).cdc = s.cdc := rfl
@[simp] theorem State.setFoc_img (s : State) (n : Nat) (x : FocCh) : (s.setFoc n x).img = s.img := rfl
@[simp] theorem State.setFoc_dramCh (s : State) (n : Nat) (x : FocCh) : (s.setFoc n x).dramCh = s.dramCh := rfl
@[simp] theorem State.setFoc_dram (s : State) (n : Nat) (x : FocCh) : (s.setFoc n x).dram = s.dram := rfl
@[simp] theorem State.setFoc_dma (s : State) (n : Nat) (x : FocCh) : (s.setFoc n x).dma = s.dma := rfl
@[simp] theorem State.setFoc_dmaShare (s : State) (n : Nat) (x : FocCh) : (s.setFoc n x).dmaShare = s.dmaShare := rfl
@[simp] theorem State.setFoc_cal (s : State) (n : Nat) (x : FocCh) : (s.setFoc n x).cal = s.cal := rfl
@[simp] theorem State.setFoc_power (s : State) (n : Nat) (x : FocCh) : (s.setFoc n x).power = s.power := rfl
@[simp] theorem State.setFoc_ring (s : State) (n : Nat) (x : FocCh) : (s.setFoc n x).ring = s.ring := rfl
@[simp] theorem State.setFoc_iox (s : State) (n : Nat) (x : FocCh) : (s.setFoc n x).iox = s.iox := rfl

/-! ### Replacing a station: `State.setStn` -/

@[simp] theorem State.setStn_pending (s : State) (i : Nat) (x : Stn) : (s.setStn i x).pending = s.pending := rfl
@[simp] theorem State.setStn_variant (s : State) (i : Nat) (x : Stn) : (s.setStn i x).variant = s.variant := rfl
@[simp] theorem State.setStn_stepping (s : State) (i : Nat) (x : Stn) : (s.setStn i x).stepping = s.stepping := rfl
@[simp] theorem State.setStn_fuseRev (s : State) (i : Nat) (x : Stn) : (s.setStn i x).fuseRev = s.fuseRev := rfl
@[simp] theorem State.setStn_regs (s : State) (i : Nat) (x : Stn) : (s.setStn i x).regs = s.regs := rfl
@[simp] theorem State.setStn_tick (s : State) (i : Nat) (x : Stn) : (s.setStn i x).tick = s.tick := rfl
@[simp] theorem State.setStn_elapsed (s : State) (i : Nat) (x : Stn) : (s.setStn i x).elapsed = s.elapsed := rfl
@[simp] theorem State.setStn_phase (s : State) (i : Nat) (x : Stn) : (s.setStn i x).phase = s.phase := rfl
@[simp] theorem State.setStn_committed (s : State) (i : Nat) (x : Stn) : (s.setStn i x).committed = s.committed := rfl
@[simp] theorem State.setStn_free (s : State) (i : Nat) (x : Stn) : (s.setStn i x).free = s.free := rfl
@[simp] theorem State.setStn_prog (s : State) (i : Nat) (x : Stn) : (s.setStn i x).prog = s.prog := rfl
@[simp] theorem State.setStn_data (s : State) (i : Nat) (x : Stn) : (s.setStn i x).data = s.data := rfl
@[simp] theorem State.setStn_table (s : State) (i : Nat) (x : Stn) : (s.setStn i x).table = s.table := rfl
@[simp] theorem State.setStn_msixTab (s : State) (i : Nat) (x : Stn) : (s.setStn i x).msixTab = s.msixTab := rfl
@[simp] theorem State.setStn_msixPend (s : State) (i : Nat) (x : Stn) : (s.setStn i x).msixPend = s.msixPend := rfl
@[simp] theorem State.setStn_msixEn (s : State) (i : Nat) (x : Stn) : (s.setStn i x).msixEn = s.msixEn := rfl
@[simp] theorem State.setStn_log (s : State) (i : Nat) (x : Stn) : (s.setStn i x).log = s.log := rfl
@[simp] theorem State.setStn_seq (s : State) (i : Nat) (x : Stn) : (s.setStn i x).seq = s.seq := rfl
@[simp] theorem State.setStn_lpe (s : State) (i : Nat) (x : Stn) : (s.setStn i x).lpe = s.lpe := rfl
@[simp] theorem State.setStn_rcd (s : State) (i : Nat) (x : Stn) : (s.setStn i x).rcd = s.rcd := rfl
@[simp] theorem State.setStn_fmt (s : State) (i : Nat) (x : Stn) : (s.setStn i x).fmt = s.fmt := rfl
@[simp] theorem State.setStn_sec (s : State) (i : Nat) (x : Stn) : (s.setStn i x).sec = s.sec := rfl
@[simp] theorem State.setStn_nvm (s : State) (i : Nat) (x : Stn) : (s.setStn i x).nvm = s.nvm := rfl
@[simp] theorem State.setStn_boot (s : State) (i : Nat) (x : Stn) : (s.setStn i x).boot = s.boot := rfl
@[simp] theorem State.setStn_pins (s : State) (i : Nat) (x : Stn) : (s.setStn i x).pins = s.pins := rfl
@[simp] theorem State.setStn_pwr (s : State) (i : Nat) (x : Stn) : (s.setStn i x).pwr = s.pwr := rfl
@[simp] theorem State.setStn_cdc (s : State) (i : Nat) (x : Stn) : (s.setStn i x).cdc = s.cdc := rfl
@[simp] theorem State.setStn_dramCh (s : State) (i : Nat) (x : Stn) : (s.setStn i x).dramCh = s.dramCh := rfl
@[simp] theorem State.setStn_dram (s : State) (i : Nat) (x : Stn) : (s.setStn i x).dram = s.dram := rfl
@[simp] theorem State.setStn_dma (s : State) (i : Nat) (x : Stn) : (s.setStn i x).dma = s.dma := rfl
@[simp] theorem State.setStn_dmaShare (s : State) (i : Nat) (x : Stn) : (s.setStn i x).dmaShare = s.dmaShare := rfl
@[simp] theorem State.setStn_motion (s : State) (i : Nat) (x : Stn) : (s.setStn i x).motion = s.motion := rfl
@[simp] theorem State.setStn_cal (s : State) (i : Nat) (x : Stn) : (s.setStn i x).cal = s.cal := rfl
@[simp] theorem State.setStn_power (s : State) (i : Nat) (x : Stn) : (s.setStn i x).power = s.power := rfl
@[simp] theorem State.setStn_ring (s : State) (i : Nat) (x : Stn) : (s.setStn i x).ring = s.ring := rfl
@[simp] theorem State.setStn_iox (s : State) (i : Nat) (x : Stn) : (s.setStn i x).iox = s.iox := rfl

/-! ### Replacing the recorder: `State.setRcd` -/

@[simp] theorem State.setRcd_pending (s : State) (x : Recorder) : (s.setRcd x).pending = s.pending := rfl
@[simp] theorem State.setRcd_variant (s : State) (x : Recorder) : (s.setRcd x).variant = s.variant := rfl
@[simp] theorem State.setRcd_stepping (s : State) (x : Recorder) : (s.setRcd x).stepping = s.stepping := rfl
@[simp] theorem State.setRcd_fuseRev (s : State) (x : Recorder) : (s.setRcd x).fuseRev = s.fuseRev := rfl
@[simp] theorem State.setRcd_regs (s : State) (x : Recorder) : (s.setRcd x).regs = s.regs := rfl
@[simp] theorem State.setRcd_tick (s : State) (x : Recorder) : (s.setRcd x).tick = s.tick := rfl
@[simp] theorem State.setRcd_elapsed (s : State) (x : Recorder) : (s.setRcd x).elapsed = s.elapsed := rfl
@[simp] theorem State.setRcd_phase (s : State) (x : Recorder) : (s.setRcd x).phase = s.phase := rfl
@[simp] theorem State.setRcd_committed (s : State) (x : Recorder) : (s.setRcd x).committed = s.committed := rfl
@[simp] theorem State.setRcd_free (s : State) (x : Recorder) : (s.setRcd x).free = s.free := rfl
@[simp] theorem State.setRcd_prog (s : State) (x : Recorder) : (s.setRcd x).prog = s.prog := rfl
@[simp] theorem State.setRcd_data (s : State) (x : Recorder) : (s.setRcd x).data = s.data := rfl
@[simp] theorem State.setRcd_table (s : State) (x : Recorder) : (s.setRcd x).table = s.table := rfl
@[simp] theorem State.setRcd_msixTab (s : State) (x : Recorder) : (s.setRcd x).msixTab = s.msixTab := rfl
@[simp] theorem State.setRcd_msixPend (s : State) (x : Recorder) : (s.setRcd x).msixPend = s.msixPend := rfl
@[simp] theorem State.setRcd_msixEn (s : State) (x : Recorder) : (s.setRcd x).msixEn = s.msixEn := rfl
@[simp] theorem State.setRcd_log (s : State) (x : Recorder) : (s.setRcd x).log = s.log := rfl
@[simp] theorem State.setRcd_seq (s : State) (x : Recorder) : (s.setRcd x).seq = s.seq := rfl
@[simp] theorem State.setRcd_lpe (s : State) (x : Recorder) : (s.setRcd x).lpe = s.lpe := rfl
@[simp] theorem State.setRcd_fmt (s : State) (x : Recorder) : (s.setRcd x).fmt = s.fmt := rfl
@[simp] theorem State.setRcd_sec (s : State) (x : Recorder) : (s.setRcd x).sec = s.sec := rfl
@[simp] theorem State.setRcd_nvm (s : State) (x : Recorder) : (s.setRcd x).nvm = s.nvm := rfl
@[simp] theorem State.setRcd_boot (s : State) (x : Recorder) : (s.setRcd x).boot = s.boot := rfl
@[simp] theorem State.setRcd_pins (s : State) (x : Recorder) : (s.setRcd x).pins = s.pins := rfl
@[simp] theorem State.setRcd_pwr (s : State) (x : Recorder) : (s.setRcd x).pwr = s.pwr := rfl
@[simp] theorem State.setRcd_cdc (s : State) (x : Recorder) : (s.setRcd x).cdc = s.cdc := rfl
@[simp] theorem State.setRcd_img (s : State) (x : Recorder) : (s.setRcd x).img = s.img := rfl
@[simp] theorem State.setRcd_dramCh (s : State) (x : Recorder) : (s.setRcd x).dramCh = s.dramCh := rfl
@[simp] theorem State.setRcd_dram (s : State) (x : Recorder) : (s.setRcd x).dram = s.dram := rfl
@[simp] theorem State.setRcd_dma (s : State) (x : Recorder) : (s.setRcd x).dma = s.dma := rfl
@[simp] theorem State.setRcd_dmaShare (s : State) (x : Recorder) : (s.setRcd x).dmaShare = s.dmaShare := rfl
@[simp] theorem State.setRcd_motion (s : State) (x : Recorder) : (s.setRcd x).motion = s.motion := rfl
@[simp] theorem State.setRcd_cal (s : State) (x : Recorder) : (s.setRcd x).cal = s.cal := rfl
@[simp] theorem State.setRcd_power (s : State) (x : Recorder) : (s.setRcd x).power = s.power := rfl
@[simp] theorem State.setRcd_ring (s : State) (x : Recorder) : (s.setRcd x).ring = s.ring := rfl
@[simp] theorem State.setRcd_iox (s : State) (x : Recorder) : (s.setRcd x).iox = s.iox := rfl

/-! ### Replacing the start's data: `State.setBoot` -/

@[simp] theorem State.setBoot_pending (s : State) (x : Boot) : (s.setBoot x).pending = s.pending := rfl
@[simp] theorem State.setBoot_variant (s : State) (x : Boot) : (s.setBoot x).variant = s.variant := rfl
@[simp] theorem State.setBoot_stepping (s : State) (x : Boot) : (s.setBoot x).stepping = s.stepping := rfl
@[simp] theorem State.setBoot_fuseRev (s : State) (x : Boot) : (s.setBoot x).fuseRev = s.fuseRev := rfl
@[simp] theorem State.setBoot_regs (s : State) (x : Boot) : (s.setBoot x).regs = s.regs := rfl
@[simp] theorem State.setBoot_tick (s : State) (x : Boot) : (s.setBoot x).tick = s.tick := rfl
@[simp] theorem State.setBoot_elapsed (s : State) (x : Boot) : (s.setBoot x).elapsed = s.elapsed := rfl
@[simp] theorem State.setBoot_phase (s : State) (x : Boot) : (s.setBoot x).phase = s.phase := rfl
@[simp] theorem State.setBoot_committed (s : State) (x : Boot) : (s.setBoot x).committed = s.committed := rfl
@[simp] theorem State.setBoot_free (s : State) (x : Boot) : (s.setBoot x).free = s.free := rfl
@[simp] theorem State.setBoot_prog (s : State) (x : Boot) : (s.setBoot x).prog = s.prog := rfl
@[simp] theorem State.setBoot_data (s : State) (x : Boot) : (s.setBoot x).data = s.data := rfl
@[simp] theorem State.setBoot_table (s : State) (x : Boot) : (s.setBoot x).table = s.table := rfl
@[simp] theorem State.setBoot_msixTab (s : State) (x : Boot) : (s.setBoot x).msixTab = s.msixTab := rfl
@[simp] theorem State.setBoot_msixPend (s : State) (x : Boot) : (s.setBoot x).msixPend = s.msixPend := rfl
@[simp] theorem State.setBoot_msixEn (s : State) (x : Boot) : (s.setBoot x).msixEn = s.msixEn := rfl
@[simp] theorem State.setBoot_log (s : State) (x : Boot) : (s.setBoot x).log = s.log := rfl
@[simp] theorem State.setBoot_seq (s : State) (x : Boot) : (s.setBoot x).seq = s.seq := rfl
@[simp] theorem State.setBoot_lpe (s : State) (x : Boot) : (s.setBoot x).lpe = s.lpe := rfl
@[simp] theorem State.setBoot_rcd (s : State) (x : Boot) : (s.setBoot x).rcd = s.rcd := rfl
@[simp] theorem State.setBoot_fmt (s : State) (x : Boot) : (s.setBoot x).fmt = s.fmt := rfl
@[simp] theorem State.setBoot_sec (s : State) (x : Boot) : (s.setBoot x).sec = s.sec := rfl
@[simp] theorem State.setBoot_nvm (s : State) (x : Boot) : (s.setBoot x).nvm = s.nvm := rfl
@[simp] theorem State.setBoot_pins (s : State) (x : Boot) : (s.setBoot x).pins = s.pins := rfl
@[simp] theorem State.setBoot_pwr (s : State) (x : Boot) : (s.setBoot x).pwr = s.pwr := rfl
@[simp] theorem State.setBoot_cdc (s : State) (x : Boot) : (s.setBoot x).cdc = s.cdc := rfl
@[simp] theorem State.setBoot_img (s : State) (x : Boot) : (s.setBoot x).img = s.img := rfl
@[simp] theorem State.setBoot_dramCh (s : State) (x : Boot) : (s.setBoot x).dramCh = s.dramCh := rfl
@[simp] theorem State.setBoot_dram (s : State) (x : Boot) : (s.setBoot x).dram = s.dram := rfl
@[simp] theorem State.setBoot_dma (s : State) (x : Boot) : (s.setBoot x).dma = s.dma := rfl
@[simp] theorem State.setBoot_dmaShare (s : State) (x : Boot) : (s.setBoot x).dmaShare = s.dmaShare := rfl
@[simp] theorem State.setBoot_motion (s : State) (x : Boot) : (s.setBoot x).motion = s.motion := rfl
@[simp] theorem State.setBoot_cal (s : State) (x : Boot) : (s.setBoot x).cal = s.cal := rfl
@[simp] theorem State.setBoot_power (s : State) (x : Boot) : (s.setBoot x).power = s.power := rfl
@[simp] theorem State.setBoot_ring (s : State) (x : Boot) : (s.setBoot x).ring = s.ring := rfl
@[simp] theorem State.setBoot_iox (s : State) (x : Boot) : (s.setBoot x).iox = s.iox := rfl

/-! ### Replacing power management: `State.setPwr` -/

@[simp] theorem State.setPwr_pending (s : State) (x : Pwr) : (s.setPwr x).pending = s.pending := rfl
@[simp] theorem State.setPwr_variant (s : State) (x : Pwr) : (s.setPwr x).variant = s.variant := rfl
@[simp] theorem State.setPwr_stepping (s : State) (x : Pwr) : (s.setPwr x).stepping = s.stepping := rfl
@[simp] theorem State.setPwr_fuseRev (s : State) (x : Pwr) : (s.setPwr x).fuseRev = s.fuseRev := rfl
@[simp] theorem State.setPwr_regs (s : State) (x : Pwr) : (s.setPwr x).regs = s.regs := rfl
@[simp] theorem State.setPwr_tick (s : State) (x : Pwr) : (s.setPwr x).tick = s.tick := rfl
@[simp] theorem State.setPwr_elapsed (s : State) (x : Pwr) : (s.setPwr x).elapsed = s.elapsed := rfl
@[simp] theorem State.setPwr_phase (s : State) (x : Pwr) : (s.setPwr x).phase = s.phase := rfl
@[simp] theorem State.setPwr_committed (s : State) (x : Pwr) : (s.setPwr x).committed = s.committed := rfl
@[simp] theorem State.setPwr_free (s : State) (x : Pwr) : (s.setPwr x).free = s.free := rfl
@[simp] theorem State.setPwr_prog (s : State) (x : Pwr) : (s.setPwr x).prog = s.prog := rfl
@[simp] theorem State.setPwr_data (s : State) (x : Pwr) : (s.setPwr x).data = s.data := rfl
@[simp] theorem State.setPwr_table (s : State) (x : Pwr) : (s.setPwr x).table = s.table := rfl
@[simp] theorem State.setPwr_msixTab (s : State) (x : Pwr) : (s.setPwr x).msixTab = s.msixTab := rfl
@[simp] theorem State.setPwr_msixPend (s : State) (x : Pwr) : (s.setPwr x).msixPend = s.msixPend := rfl
@[simp] theorem State.setPwr_msixEn (s : State) (x : Pwr) : (s.setPwr x).msixEn = s.msixEn := rfl
@[simp] theorem State.setPwr_log (s : State) (x : Pwr) : (s.setPwr x).log = s.log := rfl
@[simp] theorem State.setPwr_seq (s : State) (x : Pwr) : (s.setPwr x).seq = s.seq := rfl
@[simp] theorem State.setPwr_lpe (s : State) (x : Pwr) : (s.setPwr x).lpe = s.lpe := rfl
@[simp] theorem State.setPwr_rcd (s : State) (x : Pwr) : (s.setPwr x).rcd = s.rcd := rfl
@[simp] theorem State.setPwr_fmt (s : State) (x : Pwr) : (s.setPwr x).fmt = s.fmt := rfl
@[simp] theorem State.setPwr_sec (s : State) (x : Pwr) : (s.setPwr x).sec = s.sec := rfl
@[simp] theorem State.setPwr_nvm (s : State) (x : Pwr) : (s.setPwr x).nvm = s.nvm := rfl
@[simp] theorem State.setPwr_boot (s : State) (x : Pwr) : (s.setPwr x).boot = s.boot := rfl
@[simp] theorem State.setPwr_pins (s : State) (x : Pwr) : (s.setPwr x).pins = s.pins := rfl
@[simp] theorem State.setPwr_cdc (s : State) (x : Pwr) : (s.setPwr x).cdc = s.cdc := rfl
@[simp] theorem State.setPwr_img (s : State) (x : Pwr) : (s.setPwr x).img = s.img := rfl
@[simp] theorem State.setPwr_dramCh (s : State) (x : Pwr) : (s.setPwr x).dramCh = s.dramCh := rfl
@[simp] theorem State.setPwr_dram (s : State) (x : Pwr) : (s.setPwr x).dram = s.dram := rfl
@[simp] theorem State.setPwr_dma (s : State) (x : Pwr) : (s.setPwr x).dma = s.dma := rfl
@[simp] theorem State.setPwr_dmaShare (s : State) (x : Pwr) : (s.setPwr x).dmaShare = s.dmaShare := rfl
@[simp] theorem State.setPwr_motion (s : State) (x : Pwr) : (s.setPwr x).motion = s.motion := rfl
@[simp] theorem State.setPwr_cal (s : State) (x : Pwr) : (s.setPwr x).cal = s.cal := rfl
@[simp] theorem State.setPwr_power (s : State) (x : Pwr) : (s.setPwr x).power = s.power := rfl
@[simp] theorem State.setPwr_ring (s : State) (x : Pwr) : (s.setPwr x).ring = s.ring := rfl
@[simp] theorem State.setPwr_iox (s : State) (x : Pwr) : (s.setPwr x).iox = s.iox := rfl

/-! ### Replacing the security data: `State.setSec` -/

@[simp] theorem State.setSec_pending (s : State) (x : Sec) : (s.setSec x).pending = s.pending := rfl
@[simp] theorem State.setSec_variant (s : State) (x : Sec) : (s.setSec x).variant = s.variant := rfl
@[simp] theorem State.setSec_stepping (s : State) (x : Sec) : (s.setSec x).stepping = s.stepping := rfl
@[simp] theorem State.setSec_fuseRev (s : State) (x : Sec) : (s.setSec x).fuseRev = s.fuseRev := rfl
@[simp] theorem State.setSec_regs (s : State) (x : Sec) : (s.setSec x).regs = s.regs := rfl
@[simp] theorem State.setSec_tick (s : State) (x : Sec) : (s.setSec x).tick = s.tick := rfl
@[simp] theorem State.setSec_elapsed (s : State) (x : Sec) : (s.setSec x).elapsed = s.elapsed := rfl
@[simp] theorem State.setSec_phase (s : State) (x : Sec) : (s.setSec x).phase = s.phase := rfl
@[simp] theorem State.setSec_committed (s : State) (x : Sec) : (s.setSec x).committed = s.committed := rfl
@[simp] theorem State.setSec_free (s : State) (x : Sec) : (s.setSec x).free = s.free := rfl
@[simp] theorem State.setSec_prog (s : State) (x : Sec) : (s.setSec x).prog = s.prog := rfl
@[simp] theorem State.setSec_data (s : State) (x : Sec) : (s.setSec x).data = s.data := rfl
@[simp] theorem State.setSec_table (s : State) (x : Sec) : (s.setSec x).table = s.table := rfl
@[simp] theorem State.setSec_msixTab (s : State) (x : Sec) : (s.setSec x).msixTab = s.msixTab := rfl
@[simp] theorem State.setSec_msixPend (s : State) (x : Sec) : (s.setSec x).msixPend = s.msixPend := rfl
@[simp] theorem State.setSec_msixEn (s : State) (x : Sec) : (s.setSec x).msixEn = s.msixEn := rfl
@[simp] theorem State.setSec_log (s : State) (x : Sec) : (s.setSec x).log = s.log := rfl
@[simp] theorem State.setSec_seq (s : State) (x : Sec) : (s.setSec x).seq = s.seq := rfl
@[simp] theorem State.setSec_lpe (s : State) (x : Sec) : (s.setSec x).lpe = s.lpe := rfl
@[simp] theorem State.setSec_rcd (s : State) (x : Sec) : (s.setSec x).rcd = s.rcd := rfl
@[simp] theorem State.setSec_fmt (s : State) (x : Sec) : (s.setSec x).fmt = s.fmt := rfl
@[simp] theorem State.setSec_nvm (s : State) (x : Sec) : (s.setSec x).nvm = s.nvm := rfl
@[simp] theorem State.setSec_boot (s : State) (x : Sec) : (s.setSec x).boot = s.boot := rfl
@[simp] theorem State.setSec_pins (s : State) (x : Sec) : (s.setSec x).pins = s.pins := rfl
@[simp] theorem State.setSec_pwr (s : State) (x : Sec) : (s.setSec x).pwr = s.pwr := rfl
@[simp] theorem State.setSec_cdc (s : State) (x : Sec) : (s.setSec x).cdc = s.cdc := rfl
@[simp] theorem State.setSec_img (s : State) (x : Sec) : (s.setSec x).img = s.img := rfl
@[simp] theorem State.setSec_dramCh (s : State) (x : Sec) : (s.setSec x).dramCh = s.dramCh := rfl
@[simp] theorem State.setSec_dram (s : State) (x : Sec) : (s.setSec x).dram = s.dram := rfl
@[simp] theorem State.setSec_dma (s : State) (x : Sec) : (s.setSec x).dma = s.dma := rfl
@[simp] theorem State.setSec_dmaShare (s : State) (x : Sec) : (s.setSec x).dmaShare = s.dmaShare := rfl
@[simp] theorem State.setSec_motion (s : State) (x : Sec) : (s.setSec x).motion = s.motion := rfl
@[simp] theorem State.setSec_cal (s : State) (x : Sec) : (s.setSec x).cal = s.cal := rfl
@[simp] theorem State.setSec_power (s : State) (x : Sec) : (s.setSec x).power = s.power := rfl
@[simp] theorem State.setSec_ring (s : State) (x : Sec) : (s.setSec x).ring = s.ring := rfl
@[simp] theorem State.setSec_iox (s : State) (x : Sec) : (s.setSec x).iox = s.iox := rfl

/-! ### Replacing the NVM die: `State.setNvm` -/

@[simp] theorem State.setNvm_pending (s : State) (x : Nvm) : (s.setNvm x).pending = s.pending := rfl
@[simp] theorem State.setNvm_variant (s : State) (x : Nvm) : (s.setNvm x).variant = s.variant := rfl
@[simp] theorem State.setNvm_stepping (s : State) (x : Nvm) : (s.setNvm x).stepping = s.stepping := rfl
@[simp] theorem State.setNvm_fuseRev (s : State) (x : Nvm) : (s.setNvm x).fuseRev = s.fuseRev := rfl
@[simp] theorem State.setNvm_regs (s : State) (x : Nvm) : (s.setNvm x).regs = s.regs := rfl
@[simp] theorem State.setNvm_tick (s : State) (x : Nvm) : (s.setNvm x).tick = s.tick := rfl
@[simp] theorem State.setNvm_elapsed (s : State) (x : Nvm) : (s.setNvm x).elapsed = s.elapsed := rfl
@[simp] theorem State.setNvm_phase (s : State) (x : Nvm) : (s.setNvm x).phase = s.phase := rfl
@[simp] theorem State.setNvm_committed (s : State) (x : Nvm) : (s.setNvm x).committed = s.committed := rfl
@[simp] theorem State.setNvm_free (s : State) (x : Nvm) : (s.setNvm x).free = s.free := rfl
@[simp] theorem State.setNvm_prog (s : State) (x : Nvm) : (s.setNvm x).prog = s.prog := rfl
@[simp] theorem State.setNvm_data (s : State) (x : Nvm) : (s.setNvm x).data = s.data := rfl
@[simp] theorem State.setNvm_table (s : State) (x : Nvm) : (s.setNvm x).table = s.table := rfl
@[simp] theorem State.setNvm_msixTab (s : State) (x : Nvm) : (s.setNvm x).msixTab = s.msixTab := rfl
@[simp] theorem State.setNvm_msixPend (s : State) (x : Nvm) : (s.setNvm x).msixPend = s.msixPend := rfl
@[simp] theorem State.setNvm_msixEn (s : State) (x : Nvm) : (s.setNvm x).msixEn = s.msixEn := rfl
@[simp] theorem State.setNvm_log (s : State) (x : Nvm) : (s.setNvm x).log = s.log := rfl
@[simp] theorem State.setNvm_seq (s : State) (x : Nvm) : (s.setNvm x).seq = s.seq := rfl
@[simp] theorem State.setNvm_lpe (s : State) (x : Nvm) : (s.setNvm x).lpe = s.lpe := rfl
@[simp] theorem State.setNvm_rcd (s : State) (x : Nvm) : (s.setNvm x).rcd = s.rcd := rfl
@[simp] theorem State.setNvm_fmt (s : State) (x : Nvm) : (s.setNvm x).fmt = s.fmt := rfl
@[simp] theorem State.setNvm_sec (s : State) (x : Nvm) : (s.setNvm x).sec = s.sec := rfl
@[simp] theorem State.setNvm_boot (s : State) (x : Nvm) : (s.setNvm x).boot = s.boot := rfl
@[simp] theorem State.setNvm_pins (s : State) (x : Nvm) : (s.setNvm x).pins = s.pins := rfl
@[simp] theorem State.setNvm_pwr (s : State) (x : Nvm) : (s.setNvm x).pwr = s.pwr := rfl
@[simp] theorem State.setNvm_cdc (s : State) (x : Nvm) : (s.setNvm x).cdc = s.cdc := rfl
@[simp] theorem State.setNvm_img (s : State) (x : Nvm) : (s.setNvm x).img = s.img := rfl
@[simp] theorem State.setNvm_dramCh (s : State) (x : Nvm) : (s.setNvm x).dramCh = s.dramCh := rfl
@[simp] theorem State.setNvm_dram (s : State) (x : Nvm) : (s.setNvm x).dram = s.dram := rfl
@[simp] theorem State.setNvm_dma (s : State) (x : Nvm) : (s.setNvm x).dma = s.dma := rfl
@[simp] theorem State.setNvm_dmaShare (s : State) (x : Nvm) : (s.setNvm x).dmaShare = s.dmaShare := rfl
@[simp] theorem State.setNvm_motion (s : State) (x : Nvm) : (s.setNvm x).motion = s.motion := rfl
@[simp] theorem State.setNvm_cal (s : State) (x : Nvm) : (s.setNvm x).cal = s.cal := rfl
@[simp] theorem State.setNvm_power (s : State) (x : Nvm) : (s.setNvm x).power = s.power := rfl
@[simp] theorem State.setNvm_ring (s : State) (x : Nvm) : (s.setNvm x).ring = s.ring := rfl
@[simp] theorem State.setNvm_iox (s : State) (x : Nvm) : (s.setNvm x).iox = s.iox := rfl

/-! ### Raising a vector: `State.raise` -/

@[simp] theorem State.raise_pending (s : State) (v : Nat) : (s.raise v).pending = s.pending := by
  unfold State.raise; dsimp only; split <;> rfl
@[simp] theorem State.raise_variant (s : State) (v : Nat) : (s.raise v).variant = s.variant := by
  unfold State.raise; dsimp only; split <;> rfl
@[simp] theorem State.raise_stepping (s : State) (v : Nat) : (s.raise v).stepping = s.stepping := by
  unfold State.raise; dsimp only; split <;> rfl
@[simp] theorem State.raise_fuseRev (s : State) (v : Nat) : (s.raise v).fuseRev = s.fuseRev := by
  unfold State.raise; dsimp only; split <;> rfl
@[simp] theorem State.raise_regs (s : State) (v : Nat) : (s.raise v).regs = s.regs := by
  unfold State.raise; dsimp only; split <;> rfl
@[simp] theorem State.raise_tick (s : State) (v : Nat) : (s.raise v).tick = s.tick := by
  unfold State.raise; dsimp only; split <;> rfl
@[simp] theorem State.raise_elapsed (s : State) (v : Nat) : (s.raise v).elapsed = s.elapsed := by
  unfold State.raise; dsimp only; split <;> rfl
@[simp] theorem State.raise_phase (s : State) (v : Nat) : (s.raise v).phase = s.phase := by
  unfold State.raise; dsimp only; split <;> rfl
@[simp] theorem State.raise_committed (s : State) (v : Nat) : (s.raise v).committed = s.committed := by
  unfold State.raise; dsimp only; split <;> rfl
@[simp] theorem State.raise_free (s : State) (v : Nat) : (s.raise v).free = s.free := by
  unfold State.raise; dsimp only; split <;> rfl
@[simp] theorem State.raise_prog (s : State) (v : Nat) : (s.raise v).prog = s.prog := by
  unfold State.raise; dsimp only; split <;> rfl
@[simp] theorem State.raise_data (s : State) (v : Nat) : (s.raise v).data = s.data := by
  unfold State.raise; dsimp only; split <;> rfl
@[simp] theorem State.raise_table (s : State) (v : Nat) : (s.raise v).table = s.table := by
  unfold State.raise; dsimp only; split <;> rfl
@[simp] theorem State.raise_msixTab (s : State) (v : Nat) : (s.raise v).msixTab = s.msixTab := by
  unfold State.raise; dsimp only; split <;> rfl
@[simp] theorem State.raise_msixEn (s : State) (v : Nat) : (s.raise v).msixEn = s.msixEn := by
  unfold State.raise; dsimp only; split <;> rfl
@[simp] theorem State.raise_seq (s : State) (v : Nat) : (s.raise v).seq = s.seq := by
  unfold State.raise; dsimp only; split <;> rfl
@[simp] theorem State.raise_lpe (s : State) (v : Nat) : (s.raise v).lpe = s.lpe := by
  unfold State.raise; dsimp only; split <;> rfl
@[simp] theorem State.raise_rcd (s : State) (v : Nat) : (s.raise v).rcd = s.rcd := by
  unfold State.raise; dsimp only; split <;> rfl
@[simp] theorem State.raise_fmt (s : State) (v : Nat) : (s.raise v).fmt = s.fmt := by
  unfold State.raise; dsimp only; split <;> rfl
@[simp] theorem State.raise_sec (s : State) (v : Nat) : (s.raise v).sec = s.sec := by
  unfold State.raise; dsimp only; split <;> rfl
@[simp] theorem State.raise_nvm (s : State) (v : Nat) : (s.raise v).nvm = s.nvm := by
  unfold State.raise; dsimp only; split <;> rfl
@[simp] theorem State.raise_boot (s : State) (v : Nat) : (s.raise v).boot = s.boot := by
  unfold State.raise; dsimp only; split <;> rfl
@[simp] theorem State.raise_pins (s : State) (v : Nat) : (s.raise v).pins = s.pins := by
  unfold State.raise; dsimp only; split <;> rfl
@[simp] theorem State.raise_pwr (s : State) (v : Nat) : (s.raise v).pwr = s.pwr := by
  unfold State.raise; dsimp only; split <;> rfl
@[simp] theorem State.raise_cdc (s : State) (v : Nat) : (s.raise v).cdc = s.cdc := by
  unfold State.raise; dsimp only; split <;> rfl
@[simp] theorem State.raise_img (s : State) (v : Nat) : (s.raise v).img = s.img := by
  unfold State.raise; dsimp only; split <;> rfl
@[simp] theorem State.raise_dramCh (s : State) (v : Nat) : (s.raise v).dramCh = s.dramCh := by
  unfold State.raise; dsimp only; split <;> rfl
@[simp] theorem State.raise_dram (s : State) (v : Nat) : (s.raise v).dram = s.dram := by
  unfold State.raise; dsimp only; split <;> rfl
@[simp] theorem State.raise_dma (s : State) (v : Nat) : (s.raise v).dma = s.dma := by
  unfold State.raise; dsimp only; split <;> rfl
@[simp] theorem State.raise_dmaShare (s : State) (v : Nat) : (s.raise v).dmaShare = s.dmaShare := by
  unfold State.raise; dsimp only; split <;> rfl
@[simp] theorem State.raise_motion (s : State) (v : Nat) : (s.raise v).motion = s.motion := by
  unfold State.raise; dsimp only; split <;> rfl
@[simp] theorem State.raise_cal (s : State) (v : Nat) : (s.raise v).cal = s.cal := by
  unfold State.raise; dsimp only; split <;> rfl
@[simp] theorem State.raise_power (s : State) (v : Nat) : (s.raise v).power = s.power := by
  unfold State.raise; dsimp only; split <;> rfl
@[simp] theorem State.raise_ring (s : State) (v : Nat) : (s.raise v).ring = s.ring := by
  unfold State.raise; dsimp only; split <;> rfl
@[simp] theorem State.raise_iox (s : State) (v : Nat) : (s.raise v).iox = s.iox := by
  unfold State.raise; dsimp only; split <;> rfl

/-! ### A record's entry into the queue: `State.enqueue` -/

@[simp] theorem State.enqueue_pending (s : State) (r : Rec) : (s.enqueue r).pending = s.pending := by
  unfold State.enqueue; split <;> rfl
@[simp] theorem State.enqueue_variant (s : State) (r : Rec) : (s.enqueue r).variant = s.variant := by
  unfold State.enqueue; split <;> rfl
@[simp] theorem State.enqueue_stepping (s : State) (r : Rec) : (s.enqueue r).stepping = s.stepping := by
  unfold State.enqueue; split <;> rfl
@[simp] theorem State.enqueue_fuseRev (s : State) (r : Rec) : (s.enqueue r).fuseRev = s.fuseRev := by
  unfold State.enqueue; split <;> rfl
@[simp] theorem State.enqueue_tick (s : State) (r : Rec) : (s.enqueue r).tick = s.tick := by
  unfold State.enqueue; split <;> rfl
@[simp] theorem State.enqueue_elapsed (s : State) (r : Rec) : (s.enqueue r).elapsed = s.elapsed := by
  unfold State.enqueue; split <;> rfl
@[simp] theorem State.enqueue_phase (s : State) (r : Rec) : (s.enqueue r).phase = s.phase := by
  unfold State.enqueue; split <;> rfl
@[simp] theorem State.enqueue_committed (s : State) (r : Rec) : (s.enqueue r).committed = s.committed := by
  unfold State.enqueue; split <;> rfl
@[simp] theorem State.enqueue_free (s : State) (r : Rec) : (s.enqueue r).free = s.free := by
  unfold State.enqueue; split <;> rfl
@[simp] theorem State.enqueue_prog (s : State) (r : Rec) : (s.enqueue r).prog = s.prog := by
  unfold State.enqueue; split <;> rfl
@[simp] theorem State.enqueue_data (s : State) (r : Rec) : (s.enqueue r).data = s.data := by
  unfold State.enqueue; split <;> rfl
@[simp] theorem State.enqueue_table (s : State) (r : Rec) : (s.enqueue r).table = s.table := by
  unfold State.enqueue; split <;> rfl
@[simp] theorem State.enqueue_msixTab (s : State) (r : Rec) : (s.enqueue r).msixTab = s.msixTab := by
  unfold State.enqueue; split <;> rfl
@[simp] theorem State.enqueue_msixPend (s : State) (r : Rec) : (s.enqueue r).msixPend = s.msixPend := by
  unfold State.enqueue; split <;> rfl
@[simp] theorem State.enqueue_msixEn (s : State) (r : Rec) : (s.enqueue r).msixEn = s.msixEn := by
  unfold State.enqueue; split <;> rfl
@[simp] theorem State.enqueue_log (s : State) (r : Rec) : (s.enqueue r).log = s.log := by
  unfold State.enqueue; split <;> rfl
@[simp] theorem State.enqueue_seq (s : State) (r : Rec) : (s.enqueue r).seq = s.seq := by
  unfold State.enqueue; split <;> rfl
@[simp] theorem State.enqueue_lpe (s : State) (r : Rec) : (s.enqueue r).lpe = s.lpe := by
  unfold State.enqueue; split <;> rfl
@[simp] theorem State.enqueue_fmt (s : State) (r : Rec) : (s.enqueue r).fmt = s.fmt := by
  unfold State.enqueue; split <;> rfl
@[simp] theorem State.enqueue_sec (s : State) (r : Rec) : (s.enqueue r).sec = s.sec := by
  unfold State.enqueue; split <;> rfl
@[simp] theorem State.enqueue_nvm (s : State) (r : Rec) : (s.enqueue r).nvm = s.nvm := by
  unfold State.enqueue; split <;> rfl
@[simp] theorem State.enqueue_boot (s : State) (r : Rec) : (s.enqueue r).boot = s.boot := by
  unfold State.enqueue; split <;> rfl
@[simp] theorem State.enqueue_pins (s : State) (r : Rec) : (s.enqueue r).pins = s.pins := by
  unfold State.enqueue; split <;> rfl
@[simp] theorem State.enqueue_pwr (s : State) (r : Rec) : (s.enqueue r).pwr = s.pwr := by
  unfold State.enqueue; split <;> rfl
@[simp] theorem State.enqueue_cdc (s : State) (r : Rec) : (s.enqueue r).cdc = s.cdc := by
  unfold State.enqueue; split <;> rfl
@[simp] theorem State.enqueue_img (s : State) (r : Rec) : (s.enqueue r).img = s.img := by
  unfold State.enqueue; split <;> rfl
@[simp] theorem State.enqueue_dramCh (s : State) (r : Rec) : (s.enqueue r).dramCh = s.dramCh := by
  unfold State.enqueue; split <;> rfl
@[simp] theorem State.enqueue_dram (s : State) (r : Rec) : (s.enqueue r).dram = s.dram := by
  unfold State.enqueue; split <;> rfl
@[simp] theorem State.enqueue_dma (s : State) (r : Rec) : (s.enqueue r).dma = s.dma := by
  unfold State.enqueue; split <;> rfl
@[simp] theorem State.enqueue_dmaShare (s : State) (r : Rec) : (s.enqueue r).dmaShare = s.dmaShare := by
  unfold State.enqueue; split <;> rfl
@[simp] theorem State.enqueue_motion (s : State) (r : Rec) : (s.enqueue r).motion = s.motion := by
  unfold State.enqueue; split <;> rfl
@[simp] theorem State.enqueue_cal (s : State) (r : Rec) : (s.enqueue r).cal = s.cal := by
  unfold State.enqueue; split <;> rfl
@[simp] theorem State.enqueue_power (s : State) (r : Rec) : (s.enqueue r).power = s.power := by
  unfold State.enqueue; split <;> rfl
@[simp] theorem State.enqueue_ring (s : State) (r : Rec) : (s.enqueue r).ring = s.ring := by
  unfold State.enqueue; split <;> rfl
@[simp] theorem State.enqueue_iox (s : State) (r : Rec) : (s.enqueue r).iox = s.iox := by
  unfold State.enqueue; split <;> rfl

/-! ### Closing a rate window: `State.closeRateWin` -/

@[simp] theorem State.closeRateWin_pending (s : State) (w : RlWin) : (s.closeRateWin w).pending = s.pending := by
  unfold State.closeRateWin; dsimp only; split <;> simp
@[simp] theorem State.closeRateWin_variant (s : State) (w : RlWin) : (s.closeRateWin w).variant = s.variant := by
  unfold State.closeRateWin; dsimp only; split <;> simp
@[simp] theorem State.closeRateWin_stepping (s : State) (w : RlWin) : (s.closeRateWin w).stepping = s.stepping := by
  unfold State.closeRateWin; dsimp only; split <;> simp
@[simp] theorem State.closeRateWin_fuseRev (s : State) (w : RlWin) : (s.closeRateWin w).fuseRev = s.fuseRev := by
  unfold State.closeRateWin; dsimp only; split <;> simp
@[simp] theorem State.closeRateWin_tick (s : State) (w : RlWin) : (s.closeRateWin w).tick = s.tick := by
  unfold State.closeRateWin; dsimp only; split <;> simp
@[simp] theorem State.closeRateWin_elapsed (s : State) (w : RlWin) : (s.closeRateWin w).elapsed = s.elapsed := by
  unfold State.closeRateWin; dsimp only; split <;> simp
@[simp] theorem State.closeRateWin_phase (s : State) (w : RlWin) : (s.closeRateWin w).phase = s.phase := by
  unfold State.closeRateWin; dsimp only; split <;> simp
@[simp] theorem State.closeRateWin_committed (s : State) (w : RlWin) : (s.closeRateWin w).committed = s.committed := by
  unfold State.closeRateWin; dsimp only; split <;> simp
@[simp] theorem State.closeRateWin_free (s : State) (w : RlWin) : (s.closeRateWin w).free = s.free := by
  unfold State.closeRateWin; dsimp only; split <;> simp
@[simp] theorem State.closeRateWin_prog (s : State) (w : RlWin) : (s.closeRateWin w).prog = s.prog := by
  unfold State.closeRateWin; dsimp only; split <;> simp
@[simp] theorem State.closeRateWin_data (s : State) (w : RlWin) : (s.closeRateWin w).data = s.data := by
  unfold State.closeRateWin; dsimp only; split <;> simp
@[simp] theorem State.closeRateWin_table (s : State) (w : RlWin) : (s.closeRateWin w).table = s.table := by
  unfold State.closeRateWin; dsimp only; split <;> simp
@[simp] theorem State.closeRateWin_msixTab (s : State) (w : RlWin) : (s.closeRateWin w).msixTab = s.msixTab := by
  unfold State.closeRateWin; dsimp only; split <;> simp
@[simp] theorem State.closeRateWin_msixPend (s : State) (w : RlWin) : (s.closeRateWin w).msixPend = s.msixPend := by
  unfold State.closeRateWin; dsimp only; split <;> simp
@[simp] theorem State.closeRateWin_msixEn (s : State) (w : RlWin) : (s.closeRateWin w).msixEn = s.msixEn := by
  unfold State.closeRateWin; dsimp only; split <;> simp
@[simp] theorem State.closeRateWin_log (s : State) (w : RlWin) : (s.closeRateWin w).log = s.log := by
  unfold State.closeRateWin; dsimp only; split <;> simp
@[simp] theorem State.closeRateWin_seq (s : State) (w : RlWin) : (s.closeRateWin w).seq = s.seq := by
  unfold State.closeRateWin; dsimp only; split <;> simp
@[simp] theorem State.closeRateWin_lpe (s : State) (w : RlWin) : (s.closeRateWin w).lpe = s.lpe := by
  unfold State.closeRateWin; dsimp only; split <;> simp
@[simp] theorem State.closeRateWin_fmt (s : State) (w : RlWin) : (s.closeRateWin w).fmt = s.fmt := by
  unfold State.closeRateWin; dsimp only; split <;> simp
@[simp] theorem State.closeRateWin_sec (s : State) (w : RlWin) : (s.closeRateWin w).sec = s.sec := by
  unfold State.closeRateWin; dsimp only; split <;> simp
@[simp] theorem State.closeRateWin_nvm (s : State) (w : RlWin) : (s.closeRateWin w).nvm = s.nvm := by
  unfold State.closeRateWin; dsimp only; split <;> simp
@[simp] theorem State.closeRateWin_boot (s : State) (w : RlWin) : (s.closeRateWin w).boot = s.boot := by
  unfold State.closeRateWin; dsimp only; split <;> simp
@[simp] theorem State.closeRateWin_pins (s : State) (w : RlWin) : (s.closeRateWin w).pins = s.pins := by
  unfold State.closeRateWin; dsimp only; split <;> simp
@[simp] theorem State.closeRateWin_pwr (s : State) (w : RlWin) : (s.closeRateWin w).pwr = s.pwr := by
  unfold State.closeRateWin; dsimp only; split <;> simp
@[simp] theorem State.closeRateWin_cdc (s : State) (w : RlWin) : (s.closeRateWin w).cdc = s.cdc := by
  unfold State.closeRateWin; dsimp only; split <;> simp
@[simp] theorem State.closeRateWin_img (s : State) (w : RlWin) : (s.closeRateWin w).img = s.img := by
  unfold State.closeRateWin; dsimp only; split <;> simp
@[simp] theorem State.closeRateWin_dramCh (s : State) (w : RlWin) : (s.closeRateWin w).dramCh = s.dramCh := by
  unfold State.closeRateWin; dsimp only; split <;> simp
@[simp] theorem State.closeRateWin_dram (s : State) (w : RlWin) : (s.closeRateWin w).dram = s.dram := by
  unfold State.closeRateWin; dsimp only; split <;> simp
@[simp] theorem State.closeRateWin_dma (s : State) (w : RlWin) : (s.closeRateWin w).dma = s.dma := by
  unfold State.closeRateWin; dsimp only; split <;> simp
@[simp] theorem State.closeRateWin_dmaShare (s : State) (w : RlWin) : (s.closeRateWin w).dmaShare = s.dmaShare := by
  unfold State.closeRateWin; dsimp only; split <;> simp
@[simp] theorem State.closeRateWin_motion (s : State) (w : RlWin) : (s.closeRateWin w).motion = s.motion := by
  unfold State.closeRateWin; dsimp only; split <;> simp
@[simp] theorem State.closeRateWin_cal (s : State) (w : RlWin) : (s.closeRateWin w).cal = s.cal := by
  unfold State.closeRateWin; dsimp only; split <;> simp
@[simp] theorem State.closeRateWin_power (s : State) (w : RlWin) : (s.closeRateWin w).power = s.power := by
  unfold State.closeRateWin; dsimp only; split <;> simp
@[simp] theorem State.closeRateWin_ring (s : State) (w : RlWin) : (s.closeRateWin w).ring = s.ring := by
  unfold State.closeRateWin; dsimp only; split <;> simp
@[simp] theorem State.closeRateWin_iox (s : State) (w : RlWin) : (s.closeRateWin w).iox = s.iox := by
  unfold State.closeRateWin; dsimp only; split <;> simp

/-! ### The turn of a rate window: `State.rateTurn` -/

@[simp] theorem State.rateTurn_pending (s : State) (key tick : Nat) : (s.rateTurn key tick).pending = s.pending := by
  unfold State.rateTurn; split
  · split
    · simp
    · rfl
  · rfl
@[simp] theorem State.rateTurn_variant (s : State) (key tick : Nat) : (s.rateTurn key tick).variant = s.variant := by
  unfold State.rateTurn; split
  · split
    · simp
    · rfl
  · rfl
@[simp] theorem State.rateTurn_stepping (s : State) (key tick : Nat) : (s.rateTurn key tick).stepping = s.stepping := by
  unfold State.rateTurn; split
  · split
    · simp
    · rfl
  · rfl
@[simp] theorem State.rateTurn_fuseRev (s : State) (key tick : Nat) : (s.rateTurn key tick).fuseRev = s.fuseRev := by
  unfold State.rateTurn; split
  · split
    · simp
    · rfl
  · rfl
@[simp] theorem State.rateTurn_tick (s : State) (key tick : Nat) : (s.rateTurn key tick).tick = s.tick := by
  unfold State.rateTurn; split
  · split
    · simp
    · rfl
  · rfl
@[simp] theorem State.rateTurn_elapsed (s : State) (key tick : Nat) : (s.rateTurn key tick).elapsed = s.elapsed := by
  unfold State.rateTurn; split
  · split
    · simp
    · rfl
  · rfl
@[simp] theorem State.rateTurn_phase (s : State) (key tick : Nat) : (s.rateTurn key tick).phase = s.phase := by
  unfold State.rateTurn; split
  · split
    · simp
    · rfl
  · rfl
@[simp] theorem State.rateTurn_committed (s : State) (key tick : Nat) : (s.rateTurn key tick).committed = s.committed := by
  unfold State.rateTurn; split
  · split
    · simp
    · rfl
  · rfl
@[simp] theorem State.rateTurn_free (s : State) (key tick : Nat) : (s.rateTurn key tick).free = s.free := by
  unfold State.rateTurn; split
  · split
    · simp
    · rfl
  · rfl
@[simp] theorem State.rateTurn_prog (s : State) (key tick : Nat) : (s.rateTurn key tick).prog = s.prog := by
  unfold State.rateTurn; split
  · split
    · simp
    · rfl
  · rfl
@[simp] theorem State.rateTurn_data (s : State) (key tick : Nat) : (s.rateTurn key tick).data = s.data := by
  unfold State.rateTurn; split
  · split
    · simp
    · rfl
  · rfl
@[simp] theorem State.rateTurn_table (s : State) (key tick : Nat) : (s.rateTurn key tick).table = s.table := by
  unfold State.rateTurn; split
  · split
    · simp
    · rfl
  · rfl
@[simp] theorem State.rateTurn_msixTab (s : State) (key tick : Nat) : (s.rateTurn key tick).msixTab = s.msixTab := by
  unfold State.rateTurn; split
  · split
    · simp
    · rfl
  · rfl
@[simp] theorem State.rateTurn_msixPend (s : State) (key tick : Nat) : (s.rateTurn key tick).msixPend = s.msixPend := by
  unfold State.rateTurn; split
  · split
    · simp
    · rfl
  · rfl
@[simp] theorem State.rateTurn_msixEn (s : State) (key tick : Nat) : (s.rateTurn key tick).msixEn = s.msixEn := by
  unfold State.rateTurn; split
  · split
    · simp
    · rfl
  · rfl
@[simp] theorem State.rateTurn_log (s : State) (key tick : Nat) : (s.rateTurn key tick).log = s.log := by
  unfold State.rateTurn; split
  · split
    · simp
    · rfl
  · rfl
@[simp] theorem State.rateTurn_seq (s : State) (key tick : Nat) : (s.rateTurn key tick).seq = s.seq := by
  unfold State.rateTurn; split
  · split
    · simp
    · rfl
  · rfl
@[simp] theorem State.rateTurn_lpe (s : State) (key tick : Nat) : (s.rateTurn key tick).lpe = s.lpe := by
  unfold State.rateTurn; split
  · split
    · simp
    · rfl
  · rfl
@[simp] theorem State.rateTurn_fmt (s : State) (key tick : Nat) : (s.rateTurn key tick).fmt = s.fmt := by
  unfold State.rateTurn; split
  · split
    · simp
    · rfl
  · rfl
@[simp] theorem State.rateTurn_sec (s : State) (key tick : Nat) : (s.rateTurn key tick).sec = s.sec := by
  unfold State.rateTurn; split
  · split
    · simp
    · rfl
  · rfl
@[simp] theorem State.rateTurn_nvm (s : State) (key tick : Nat) : (s.rateTurn key tick).nvm = s.nvm := by
  unfold State.rateTurn; split
  · split
    · simp
    · rfl
  · rfl
@[simp] theorem State.rateTurn_boot (s : State) (key tick : Nat) : (s.rateTurn key tick).boot = s.boot := by
  unfold State.rateTurn; split
  · split
    · simp
    · rfl
  · rfl
@[simp] theorem State.rateTurn_pins (s : State) (key tick : Nat) : (s.rateTurn key tick).pins = s.pins := by
  unfold State.rateTurn; split
  · split
    · simp
    · rfl
  · rfl
@[simp] theorem State.rateTurn_pwr (s : State) (key tick : Nat) : (s.rateTurn key tick).pwr = s.pwr := by
  unfold State.rateTurn; split
  · split
    · simp
    · rfl
  · rfl
@[simp] theorem State.rateTurn_cdc (s : State) (key tick : Nat) : (s.rateTurn key tick).cdc = s.cdc := by
  unfold State.rateTurn; split
  · split
    · simp
    · rfl
  · rfl
@[simp] theorem State.rateTurn_img (s : State) (key tick : Nat) : (s.rateTurn key tick).img = s.img := by
  unfold State.rateTurn; split
  · split
    · simp
    · rfl
  · rfl
@[simp] theorem State.rateTurn_dramCh (s : State) (key tick : Nat) : (s.rateTurn key tick).dramCh = s.dramCh := by
  unfold State.rateTurn; split
  · split
    · simp
    · rfl
  · rfl
@[simp] theorem State.rateTurn_dram (s : State) (key tick : Nat) : (s.rateTurn key tick).dram = s.dram := by
  unfold State.rateTurn; split
  · split
    · simp
    · rfl
  · rfl
@[simp] theorem State.rateTurn_dma (s : State) (key tick : Nat) : (s.rateTurn key tick).dma = s.dma := by
  unfold State.rateTurn; split
  · split
    · simp
    · rfl
  · rfl
@[simp] theorem State.rateTurn_dmaShare (s : State) (key tick : Nat) : (s.rateTurn key tick).dmaShare = s.dmaShare := by
  unfold State.rateTurn; split
  · split
    · simp
    · rfl
  · rfl
@[simp] theorem State.rateTurn_motion (s : State) (key tick : Nat) : (s.rateTurn key tick).motion = s.motion := by
  unfold State.rateTurn; split
  · split
    · simp
    · rfl
  · rfl
@[simp] theorem State.rateTurn_cal (s : State) (key tick : Nat) : (s.rateTurn key tick).cal = s.cal := by
  unfold State.rateTurn; split
  · split
    · simp
    · rfl
  · rfl
@[simp] theorem State.rateTurn_power (s : State) (key tick : Nat) : (s.rateTurn key tick).power = s.power := by
  unfold State.rateTurn; split
  · split
    · simp
    · rfl
  · rfl
@[simp] theorem State.rateTurn_ring (s : State) (key tick : Nat) : (s.rateTurn key tick).ring = s.ring := by
  unfold State.rateTurn; split
  · split
    · simp
    · rfl
  · rfl
@[simp] theorem State.rateTurn_iox (s : State) (key tick : Nat) : (s.rateTurn key tick).iox = s.iox := by
  unfold State.rateTurn; split
  · split
    · simp
    · rfl
  · rfl

/-! ### A record under its open window: `State.admitRec` -/

@[simp] theorem State.admitRec_pending (s : State) (w : RlWin) (n : Nat) (r : Rec) : (s.admitRec w n r).pending = s.pending := by
  unfold State.admitRec; dsimp only; split <;> simp
@[simp] theorem State.admitRec_variant (s : State) (w : RlWin) (n : Nat) (r : Rec) : (s.admitRec w n r).variant = s.variant := by
  unfold State.admitRec; dsimp only; split <;> simp
@[simp] theorem State.admitRec_stepping (s : State) (w : RlWin) (n : Nat) (r : Rec) : (s.admitRec w n r).stepping = s.stepping := by
  unfold State.admitRec; dsimp only; split <;> simp
@[simp] theorem State.admitRec_fuseRev (s : State) (w : RlWin) (n : Nat) (r : Rec) : (s.admitRec w n r).fuseRev = s.fuseRev := by
  unfold State.admitRec; dsimp only; split <;> simp
@[simp] theorem State.admitRec_tick (s : State) (w : RlWin) (n : Nat) (r : Rec) : (s.admitRec w n r).tick = s.tick := by
  unfold State.admitRec; dsimp only; split <;> simp
@[simp] theorem State.admitRec_elapsed (s : State) (w : RlWin) (n : Nat) (r : Rec) : (s.admitRec w n r).elapsed = s.elapsed := by
  unfold State.admitRec; dsimp only; split <;> simp
@[simp] theorem State.admitRec_phase (s : State) (w : RlWin) (n : Nat) (r : Rec) : (s.admitRec w n r).phase = s.phase := by
  unfold State.admitRec; dsimp only; split <;> simp
@[simp] theorem State.admitRec_committed (s : State) (w : RlWin) (n : Nat) (r : Rec) : (s.admitRec w n r).committed = s.committed := by
  unfold State.admitRec; dsimp only; split <;> simp
@[simp] theorem State.admitRec_free (s : State) (w : RlWin) (n : Nat) (r : Rec) : (s.admitRec w n r).free = s.free := by
  unfold State.admitRec; dsimp only; split <;> simp
@[simp] theorem State.admitRec_prog (s : State) (w : RlWin) (n : Nat) (r : Rec) : (s.admitRec w n r).prog = s.prog := by
  unfold State.admitRec; dsimp only; split <;> simp
@[simp] theorem State.admitRec_data (s : State) (w : RlWin) (n : Nat) (r : Rec) : (s.admitRec w n r).data = s.data := by
  unfold State.admitRec; dsimp only; split <;> simp
@[simp] theorem State.admitRec_table (s : State) (w : RlWin) (n : Nat) (r : Rec) : (s.admitRec w n r).table = s.table := by
  unfold State.admitRec; dsimp only; split <;> simp
@[simp] theorem State.admitRec_msixTab (s : State) (w : RlWin) (n : Nat) (r : Rec) : (s.admitRec w n r).msixTab = s.msixTab := by
  unfold State.admitRec; dsimp only; split <;> simp
@[simp] theorem State.admitRec_msixPend (s : State) (w : RlWin) (n : Nat) (r : Rec) : (s.admitRec w n r).msixPend = s.msixPend := by
  unfold State.admitRec; dsimp only; split <;> simp
@[simp] theorem State.admitRec_msixEn (s : State) (w : RlWin) (n : Nat) (r : Rec) : (s.admitRec w n r).msixEn = s.msixEn := by
  unfold State.admitRec; dsimp only; split <;> simp
@[simp] theorem State.admitRec_log (s : State) (w : RlWin) (n : Nat) (r : Rec) : (s.admitRec w n r).log = s.log := by
  unfold State.admitRec; dsimp only; split <;> simp
@[simp] theorem State.admitRec_seq (s : State) (w : RlWin) (n : Nat) (r : Rec) : (s.admitRec w n r).seq = s.seq := by
  unfold State.admitRec; dsimp only; split <;> simp
@[simp] theorem State.admitRec_lpe (s : State) (w : RlWin) (n : Nat) (r : Rec) : (s.admitRec w n r).lpe = s.lpe := by
  unfold State.admitRec; dsimp only; split <;> simp
@[simp] theorem State.admitRec_fmt (s : State) (w : RlWin) (n : Nat) (r : Rec) : (s.admitRec w n r).fmt = s.fmt := by
  unfold State.admitRec; dsimp only; split <;> simp
@[simp] theorem State.admitRec_sec (s : State) (w : RlWin) (n : Nat) (r : Rec) : (s.admitRec w n r).sec = s.sec := by
  unfold State.admitRec; dsimp only; split <;> simp
@[simp] theorem State.admitRec_nvm (s : State) (w : RlWin) (n : Nat) (r : Rec) : (s.admitRec w n r).nvm = s.nvm := by
  unfold State.admitRec; dsimp only; split <;> simp
@[simp] theorem State.admitRec_boot (s : State) (w : RlWin) (n : Nat) (r : Rec) : (s.admitRec w n r).boot = s.boot := by
  unfold State.admitRec; dsimp only; split <;> simp
@[simp] theorem State.admitRec_pins (s : State) (w : RlWin) (n : Nat) (r : Rec) : (s.admitRec w n r).pins = s.pins := by
  unfold State.admitRec; dsimp only; split <;> simp
@[simp] theorem State.admitRec_pwr (s : State) (w : RlWin) (n : Nat) (r : Rec) : (s.admitRec w n r).pwr = s.pwr := by
  unfold State.admitRec; dsimp only; split <;> simp
@[simp] theorem State.admitRec_cdc (s : State) (w : RlWin) (n : Nat) (r : Rec) : (s.admitRec w n r).cdc = s.cdc := by
  unfold State.admitRec; dsimp only; split <;> simp
@[simp] theorem State.admitRec_img (s : State) (w : RlWin) (n : Nat) (r : Rec) : (s.admitRec w n r).img = s.img := by
  unfold State.admitRec; dsimp only; split <;> simp
@[simp] theorem State.admitRec_dramCh (s : State) (w : RlWin) (n : Nat) (r : Rec) : (s.admitRec w n r).dramCh = s.dramCh := by
  unfold State.admitRec; dsimp only; split <;> simp
@[simp] theorem State.admitRec_dram (s : State) (w : RlWin) (n : Nat) (r : Rec) : (s.admitRec w n r).dram = s.dram := by
  unfold State.admitRec; dsimp only; split <;> simp
@[simp] theorem State.admitRec_dma (s : State) (w : RlWin) (n : Nat) (r : Rec) : (s.admitRec w n r).dma = s.dma := by
  unfold State.admitRec; dsimp only; split <;> simp
@[simp] theorem State.admitRec_dmaShare (s : State) (w : RlWin) (n : Nat) (r : Rec) : (s.admitRec w n r).dmaShare = s.dmaShare := by
  unfold State.admitRec; dsimp only; split <;> simp
@[simp] theorem State.admitRec_motion (s : State) (w : RlWin) (n : Nat) (r : Rec) : (s.admitRec w n r).motion = s.motion := by
  unfold State.admitRec; dsimp only; split <;> simp
@[simp] theorem State.admitRec_cal (s : State) (w : RlWin) (n : Nat) (r : Rec) : (s.admitRec w n r).cal = s.cal := by
  unfold State.admitRec; dsimp only; split <;> simp
@[simp] theorem State.admitRec_power (s : State) (w : RlWin) (n : Nat) (r : Rec) : (s.admitRec w n r).power = s.power := by
  unfold State.admitRec; dsimp only; split <;> simp
@[simp] theorem State.admitRec_ring (s : State) (w : RlWin) (n : Nat) (r : Rec) : (s.admitRec w n r).ring = s.ring := by
  unfold State.admitRec; dsimp only; split <;> simp
@[simp] theorem State.admitRec_iox (s : State) (w : RlWin) (n : Nat) (r : Rec) : (s.admitRec w n r).iox = s.iox := by
  unfold State.admitRec; dsimp only; split <;> simp

/-! ### Checking and queueing a record: `State.pushRec` -/

@[simp] theorem State.pushRec_pending (s : State) (r : Rec) : (s.pushRec r).pending = s.pending := by
  unfold State.pushRec; dsimp only; split <;> simp
@[simp] theorem State.pushRec_variant (s : State) (r : Rec) : (s.pushRec r).variant = s.variant := by
  unfold State.pushRec; dsimp only; split <;> simp
@[simp] theorem State.pushRec_stepping (s : State) (r : Rec) : (s.pushRec r).stepping = s.stepping := by
  unfold State.pushRec; dsimp only; split <;> simp
@[simp] theorem State.pushRec_fuseRev (s : State) (r : Rec) : (s.pushRec r).fuseRev = s.fuseRev := by
  unfold State.pushRec; dsimp only; split <;> simp
@[simp] theorem State.pushRec_tick (s : State) (r : Rec) : (s.pushRec r).tick = s.tick := by
  unfold State.pushRec; dsimp only; split <;> simp
@[simp] theorem State.pushRec_elapsed (s : State) (r : Rec) : (s.pushRec r).elapsed = s.elapsed := by
  unfold State.pushRec; dsimp only; split <;> simp
@[simp] theorem State.pushRec_phase (s : State) (r : Rec) : (s.pushRec r).phase = s.phase := by
  unfold State.pushRec; dsimp only; split <;> simp
@[simp] theorem State.pushRec_committed (s : State) (r : Rec) : (s.pushRec r).committed = s.committed := by
  unfold State.pushRec; dsimp only; split <;> simp
@[simp] theorem State.pushRec_free (s : State) (r : Rec) : (s.pushRec r).free = s.free := by
  unfold State.pushRec; dsimp only; split <;> simp
@[simp] theorem State.pushRec_prog (s : State) (r : Rec) : (s.pushRec r).prog = s.prog := by
  unfold State.pushRec; dsimp only; split <;> simp
@[simp] theorem State.pushRec_data (s : State) (r : Rec) : (s.pushRec r).data = s.data := by
  unfold State.pushRec; dsimp only; split <;> simp
@[simp] theorem State.pushRec_table (s : State) (r : Rec) : (s.pushRec r).table = s.table := by
  unfold State.pushRec; dsimp only; split <;> simp
@[simp] theorem State.pushRec_msixTab (s : State) (r : Rec) : (s.pushRec r).msixTab = s.msixTab := by
  unfold State.pushRec; dsimp only; split <;> simp
@[simp] theorem State.pushRec_msixPend (s : State) (r : Rec) : (s.pushRec r).msixPend = s.msixPend := by
  unfold State.pushRec; dsimp only; split <;> simp
@[simp] theorem State.pushRec_msixEn (s : State) (r : Rec) : (s.pushRec r).msixEn = s.msixEn := by
  unfold State.pushRec; dsimp only; split <;> simp
@[simp] theorem State.pushRec_log (s : State) (r : Rec) : (s.pushRec r).log = s.log := by
  unfold State.pushRec; dsimp only; split <;> simp
@[simp] theorem State.pushRec_seq (s : State) (r : Rec) : (s.pushRec r).seq = s.seq := by
  unfold State.pushRec; dsimp only; split <;> simp
@[simp] theorem State.pushRec_lpe (s : State) (r : Rec) : (s.pushRec r).lpe = s.lpe := by
  unfold State.pushRec; dsimp only; split <;> simp
@[simp] theorem State.pushRec_fmt (s : State) (r : Rec) : (s.pushRec r).fmt = s.fmt := by
  unfold State.pushRec; dsimp only; split <;> simp
@[simp] theorem State.pushRec_sec (s : State) (r : Rec) : (s.pushRec r).sec = s.sec := by
  unfold State.pushRec; dsimp only; split <;> simp
@[simp] theorem State.pushRec_nvm (s : State) (r : Rec) : (s.pushRec r).nvm = s.nvm := by
  unfold State.pushRec; dsimp only; split <;> simp
@[simp] theorem State.pushRec_boot (s : State) (r : Rec) : (s.pushRec r).boot = s.boot := by
  unfold State.pushRec; dsimp only; split <;> simp
@[simp] theorem State.pushRec_pins (s : State) (r : Rec) : (s.pushRec r).pins = s.pins := by
  unfold State.pushRec; dsimp only; split <;> simp
@[simp] theorem State.pushRec_pwr (s : State) (r : Rec) : (s.pushRec r).pwr = s.pwr := by
  unfold State.pushRec; dsimp only; split <;> simp
@[simp] theorem State.pushRec_cdc (s : State) (r : Rec) : (s.pushRec r).cdc = s.cdc := by
  unfold State.pushRec; dsimp only; split <;> simp
@[simp] theorem State.pushRec_img (s : State) (r : Rec) : (s.pushRec r).img = s.img := by
  unfold State.pushRec; dsimp only; split <;> simp
@[simp] theorem State.pushRec_dramCh (s : State) (r : Rec) : (s.pushRec r).dramCh = s.dramCh := by
  unfold State.pushRec; dsimp only; split <;> simp
@[simp] theorem State.pushRec_dram (s : State) (r : Rec) : (s.pushRec r).dram = s.dram := by
  unfold State.pushRec; dsimp only; split <;> simp
@[simp] theorem State.pushRec_dma (s : State) (r : Rec) : (s.pushRec r).dma = s.dma := by
  unfold State.pushRec; dsimp only; split <;> simp
@[simp] theorem State.pushRec_dmaShare (s : State) (r : Rec) : (s.pushRec r).dmaShare = s.dmaShare := by
  unfold State.pushRec; dsimp only; split <;> simp
@[simp] theorem State.pushRec_motion (s : State) (r : Rec) : (s.pushRec r).motion = s.motion := by
  unfold State.pushRec; dsimp only; split <;> simp
@[simp] theorem State.pushRec_cal (s : State) (r : Rec) : (s.pushRec r).cal = s.cal := by
  unfold State.pushRec; dsimp only; split <;> simp
@[simp] theorem State.pushRec_power (s : State) (r : Rec) : (s.pushRec r).power = s.power := by
  unfold State.pushRec; dsimp only; split <;> simp
@[simp] theorem State.pushRec_ring (s : State) (r : Rec) : (s.pushRec r).ring = s.ring := by
  unfold State.pushRec; dsimp only; split <;> simp
@[simp] theorem State.pushRec_iox (s : State) (r : Rec) : (s.pushRec r).iox = s.iox := by
  unfold State.pushRec; dsimp only; split <;> simp

/-! ### Recording: `State.record` -/

@[simp] theorem State.record_pending (s : State) (code : Nat) (p : List Nat) : (s.record code p).pending = s.pending := State.pushRec_pending s _
@[simp] theorem State.record_variant (s : State) (code : Nat) (p : List Nat) : (s.record code p).variant = s.variant := State.pushRec_variant s _
@[simp] theorem State.record_stepping (s : State) (code : Nat) (p : List Nat) : (s.record code p).stepping = s.stepping := State.pushRec_stepping s _
@[simp] theorem State.record_fuseRev (s : State) (code : Nat) (p : List Nat) : (s.record code p).fuseRev = s.fuseRev := State.pushRec_fuseRev s _
@[simp] theorem State.record_tick (s : State) (code : Nat) (p : List Nat) : (s.record code p).tick = s.tick := State.pushRec_tick s _
@[simp] theorem State.record_elapsed (s : State) (code : Nat) (p : List Nat) : (s.record code p).elapsed = s.elapsed := State.pushRec_elapsed s _
@[simp] theorem State.record_phase (s : State) (code : Nat) (p : List Nat) : (s.record code p).phase = s.phase := State.pushRec_phase s _
@[simp] theorem State.record_committed (s : State) (code : Nat) (p : List Nat) : (s.record code p).committed = s.committed := State.pushRec_committed s _
@[simp] theorem State.record_free (s : State) (code : Nat) (p : List Nat) : (s.record code p).free = s.free := State.pushRec_free s _
@[simp] theorem State.record_prog (s : State) (code : Nat) (p : List Nat) : (s.record code p).prog = s.prog := State.pushRec_prog s _
@[simp] theorem State.record_data (s : State) (code : Nat) (p : List Nat) : (s.record code p).data = s.data := State.pushRec_data s _
@[simp] theorem State.record_table (s : State) (code : Nat) (p : List Nat) : (s.record code p).table = s.table := State.pushRec_table s _
@[simp] theorem State.record_msixTab (s : State) (code : Nat) (p : List Nat) : (s.record code p).msixTab = s.msixTab := State.pushRec_msixTab s _
@[simp] theorem State.record_msixPend (s : State) (code : Nat) (p : List Nat) : (s.record code p).msixPend = s.msixPend := State.pushRec_msixPend s _
@[simp] theorem State.record_msixEn (s : State) (code : Nat) (p : List Nat) : (s.record code p).msixEn = s.msixEn := State.pushRec_msixEn s _
@[simp] theorem State.record_log (s : State) (code : Nat) (p : List Nat) : (s.record code p).log = s.log := State.pushRec_log s _
@[simp] theorem State.record_seq (s : State) (code : Nat) (p : List Nat) : (s.record code p).seq = s.seq := State.pushRec_seq s _
@[simp] theorem State.record_lpe (s : State) (code : Nat) (p : List Nat) : (s.record code p).lpe = s.lpe := State.pushRec_lpe s _
@[simp] theorem State.record_fmt (s : State) (code : Nat) (p : List Nat) : (s.record code p).fmt = s.fmt := State.pushRec_fmt s _
@[simp] theorem State.record_sec (s : State) (code : Nat) (p : List Nat) : (s.record code p).sec = s.sec := State.pushRec_sec s _
@[simp] theorem State.record_nvm (s : State) (code : Nat) (p : List Nat) : (s.record code p).nvm = s.nvm := State.pushRec_nvm s _
@[simp] theorem State.record_boot (s : State) (code : Nat) (p : List Nat) : (s.record code p).boot = s.boot := State.pushRec_boot s _
@[simp] theorem State.record_pins (s : State) (code : Nat) (p : List Nat) : (s.record code p).pins = s.pins := State.pushRec_pins s _
@[simp] theorem State.record_pwr (s : State) (code : Nat) (p : List Nat) : (s.record code p).pwr = s.pwr := State.pushRec_pwr s _
@[simp] theorem State.record_cdc (s : State) (code : Nat) (p : List Nat) : (s.record code p).cdc = s.cdc := State.pushRec_cdc s _
@[simp] theorem State.record_img (s : State) (code : Nat) (p : List Nat) : (s.record code p).img = s.img := State.pushRec_img s _
@[simp] theorem State.record_dramCh (s : State) (code : Nat) (p : List Nat) : (s.record code p).dramCh = s.dramCh := State.pushRec_dramCh s _
@[simp] theorem State.record_dram (s : State) (code : Nat) (p : List Nat) : (s.record code p).dram = s.dram := State.pushRec_dram s _
@[simp] theorem State.record_dma (s : State) (code : Nat) (p : List Nat) : (s.record code p).dma = s.dma := State.pushRec_dma s _
@[simp] theorem State.record_dmaShare (s : State) (code : Nat) (p : List Nat) : (s.record code p).dmaShare = s.dmaShare := State.pushRec_dmaShare s _
@[simp] theorem State.record_motion (s : State) (code : Nat) (p : List Nat) : (s.record code p).motion = s.motion := State.pushRec_motion s _
@[simp] theorem State.record_cal (s : State) (code : Nat) (p : List Nat) : (s.record code p).cal = s.cal := State.pushRec_cal s _
@[simp] theorem State.record_power (s : State) (code : Nat) (p : List Nat) : (s.record code p).power = s.power := State.pushRec_power s _
@[simp] theorem State.record_ring (s : State) (code : Nat) (p : List Nat) : (s.record code p).ring = s.ring := State.pushRec_ring s _
@[simp] theorem State.record_iox (s : State) (code : Nat) (p : List Nat) : (s.record code p).iox = s.iox := State.pushRec_iox s _

/-! ### Recording under a rule: `State.recRule` -/

@[simp] theorem State.recRule_pending (s : State) (n : Nat) (p : List Nat) : (s.recRule n p).pending = s.pending := State.pushRec_pending s _
@[simp] theorem State.recRule_variant (s : State) (n : Nat) (p : List Nat) : (s.recRule n p).variant = s.variant := State.pushRec_variant s _
@[simp] theorem State.recRule_stepping (s : State) (n : Nat) (p : List Nat) : (s.recRule n p).stepping = s.stepping := State.pushRec_stepping s _
@[simp] theorem State.recRule_fuseRev (s : State) (n : Nat) (p : List Nat) : (s.recRule n p).fuseRev = s.fuseRev := State.pushRec_fuseRev s _
@[simp] theorem State.recRule_tick (s : State) (n : Nat) (p : List Nat) : (s.recRule n p).tick = s.tick := State.pushRec_tick s _
@[simp] theorem State.recRule_elapsed (s : State) (n : Nat) (p : List Nat) : (s.recRule n p).elapsed = s.elapsed := State.pushRec_elapsed s _
@[simp] theorem State.recRule_phase (s : State) (n : Nat) (p : List Nat) : (s.recRule n p).phase = s.phase := State.pushRec_phase s _
@[simp] theorem State.recRule_committed (s : State) (n : Nat) (p : List Nat) : (s.recRule n p).committed = s.committed := State.pushRec_committed s _
@[simp] theorem State.recRule_free (s : State) (n : Nat) (p : List Nat) : (s.recRule n p).free = s.free := State.pushRec_free s _
@[simp] theorem State.recRule_prog (s : State) (n : Nat) (p : List Nat) : (s.recRule n p).prog = s.prog := State.pushRec_prog s _
@[simp] theorem State.recRule_data (s : State) (n : Nat) (p : List Nat) : (s.recRule n p).data = s.data := State.pushRec_data s _
@[simp] theorem State.recRule_table (s : State) (n : Nat) (p : List Nat) : (s.recRule n p).table = s.table := State.pushRec_table s _
@[simp] theorem State.recRule_msixTab (s : State) (n : Nat) (p : List Nat) : (s.recRule n p).msixTab = s.msixTab := State.pushRec_msixTab s _
@[simp] theorem State.recRule_msixPend (s : State) (n : Nat) (p : List Nat) : (s.recRule n p).msixPend = s.msixPend := State.pushRec_msixPend s _
@[simp] theorem State.recRule_msixEn (s : State) (n : Nat) (p : List Nat) : (s.recRule n p).msixEn = s.msixEn := State.pushRec_msixEn s _
@[simp] theorem State.recRule_log (s : State) (n : Nat) (p : List Nat) : (s.recRule n p).log = s.log := State.pushRec_log s _
@[simp] theorem State.recRule_seq (s : State) (n : Nat) (p : List Nat) : (s.recRule n p).seq = s.seq := State.pushRec_seq s _
@[simp] theorem State.recRule_lpe (s : State) (n : Nat) (p : List Nat) : (s.recRule n p).lpe = s.lpe := State.pushRec_lpe s _
@[simp] theorem State.recRule_fmt (s : State) (n : Nat) (p : List Nat) : (s.recRule n p).fmt = s.fmt := State.pushRec_fmt s _
@[simp] theorem State.recRule_sec (s : State) (n : Nat) (p : List Nat) : (s.recRule n p).sec = s.sec := State.pushRec_sec s _
@[simp] theorem State.recRule_nvm (s : State) (n : Nat) (p : List Nat) : (s.recRule n p).nvm = s.nvm := State.pushRec_nvm s _
@[simp] theorem State.recRule_boot (s : State) (n : Nat) (p : List Nat) : (s.recRule n p).boot = s.boot := State.pushRec_boot s _
@[simp] theorem State.recRule_pins (s : State) (n : Nat) (p : List Nat) : (s.recRule n p).pins = s.pins := State.pushRec_pins s _
@[simp] theorem State.recRule_pwr (s : State) (n : Nat) (p : List Nat) : (s.recRule n p).pwr = s.pwr := State.pushRec_pwr s _
@[simp] theorem State.recRule_cdc (s : State) (n : Nat) (p : List Nat) : (s.recRule n p).cdc = s.cdc := State.pushRec_cdc s _
@[simp] theorem State.recRule_img (s : State) (n : Nat) (p : List Nat) : (s.recRule n p).img = s.img := State.pushRec_img s _
@[simp] theorem State.recRule_dramCh (s : State) (n : Nat) (p : List Nat) : (s.recRule n p).dramCh = s.dramCh := State.pushRec_dramCh s _
@[simp] theorem State.recRule_dram (s : State) (n : Nat) (p : List Nat) : (s.recRule n p).dram = s.dram := State.pushRec_dram s _
@[simp] theorem State.recRule_dma (s : State) (n : Nat) (p : List Nat) : (s.recRule n p).dma = s.dma := State.pushRec_dma s _
@[simp] theorem State.recRule_dmaShare (s : State) (n : Nat) (p : List Nat) : (s.recRule n p).dmaShare = s.dmaShare := State.pushRec_dmaShare s _
@[simp] theorem State.recRule_motion (s : State) (n : Nat) (p : List Nat) : (s.recRule n p).motion = s.motion := State.pushRec_motion s _
@[simp] theorem State.recRule_cal (s : State) (n : Nat) (p : List Nat) : (s.recRule n p).cal = s.cal := State.pushRec_cal s _
@[simp] theorem State.recRule_power (s : State) (n : Nat) (p : List Nat) : (s.recRule n p).power = s.power := State.pushRec_power s _
@[simp] theorem State.recRule_ring (s : State) (n : Nat) (p : List Nat) : (s.recRule n p).ring = s.ring := State.pushRec_ring s _
@[simp] theorem State.recRule_iox (s : State) (n : Nat) (p : List Nat) : (s.recRule n p).iox = s.iox := State.pushRec_iox s _

/-! ### Recording a security event: `State.recSec` -/

@[simp] theorem State.recSec_pending (s : State) (n : Nat) (p : List Nat) : (s.recSec n p).pending = s.pending := State.pushRec_pending s _
@[simp] theorem State.recSec_variant (s : State) (n : Nat) (p : List Nat) : (s.recSec n p).variant = s.variant := State.pushRec_variant s _
@[simp] theorem State.recSec_stepping (s : State) (n : Nat) (p : List Nat) : (s.recSec n p).stepping = s.stepping := State.pushRec_stepping s _
@[simp] theorem State.recSec_fuseRev (s : State) (n : Nat) (p : List Nat) : (s.recSec n p).fuseRev = s.fuseRev := State.pushRec_fuseRev s _
@[simp] theorem State.recSec_tick (s : State) (n : Nat) (p : List Nat) : (s.recSec n p).tick = s.tick := State.pushRec_tick s _
@[simp] theorem State.recSec_elapsed (s : State) (n : Nat) (p : List Nat) : (s.recSec n p).elapsed = s.elapsed := State.pushRec_elapsed s _
@[simp] theorem State.recSec_phase (s : State) (n : Nat) (p : List Nat) : (s.recSec n p).phase = s.phase := State.pushRec_phase s _
@[simp] theorem State.recSec_committed (s : State) (n : Nat) (p : List Nat) : (s.recSec n p).committed = s.committed := State.pushRec_committed s _
@[simp] theorem State.recSec_free (s : State) (n : Nat) (p : List Nat) : (s.recSec n p).free = s.free := State.pushRec_free s _
@[simp] theorem State.recSec_prog (s : State) (n : Nat) (p : List Nat) : (s.recSec n p).prog = s.prog := State.pushRec_prog s _
@[simp] theorem State.recSec_data (s : State) (n : Nat) (p : List Nat) : (s.recSec n p).data = s.data := State.pushRec_data s _
@[simp] theorem State.recSec_table (s : State) (n : Nat) (p : List Nat) : (s.recSec n p).table = s.table := State.pushRec_table s _
@[simp] theorem State.recSec_msixTab (s : State) (n : Nat) (p : List Nat) : (s.recSec n p).msixTab = s.msixTab := State.pushRec_msixTab s _
@[simp] theorem State.recSec_msixPend (s : State) (n : Nat) (p : List Nat) : (s.recSec n p).msixPend = s.msixPend := State.pushRec_msixPend s _
@[simp] theorem State.recSec_msixEn (s : State) (n : Nat) (p : List Nat) : (s.recSec n p).msixEn = s.msixEn := State.pushRec_msixEn s _
@[simp] theorem State.recSec_log (s : State) (n : Nat) (p : List Nat) : (s.recSec n p).log = s.log := State.pushRec_log s _
@[simp] theorem State.recSec_seq (s : State) (n : Nat) (p : List Nat) : (s.recSec n p).seq = s.seq := State.pushRec_seq s _
@[simp] theorem State.recSec_lpe (s : State) (n : Nat) (p : List Nat) : (s.recSec n p).lpe = s.lpe := State.pushRec_lpe s _
@[simp] theorem State.recSec_fmt (s : State) (n : Nat) (p : List Nat) : (s.recSec n p).fmt = s.fmt := State.pushRec_fmt s _
@[simp] theorem State.recSec_sec (s : State) (n : Nat) (p : List Nat) : (s.recSec n p).sec = s.sec := State.pushRec_sec s _
@[simp] theorem State.recSec_nvm (s : State) (n : Nat) (p : List Nat) : (s.recSec n p).nvm = s.nvm := State.pushRec_nvm s _
@[simp] theorem State.recSec_boot (s : State) (n : Nat) (p : List Nat) : (s.recSec n p).boot = s.boot := State.pushRec_boot s _
@[simp] theorem State.recSec_pins (s : State) (n : Nat) (p : List Nat) : (s.recSec n p).pins = s.pins := State.pushRec_pins s _
@[simp] theorem State.recSec_pwr (s : State) (n : Nat) (p : List Nat) : (s.recSec n p).pwr = s.pwr := State.pushRec_pwr s _
@[simp] theorem State.recSec_cdc (s : State) (n : Nat) (p : List Nat) : (s.recSec n p).cdc = s.cdc := State.pushRec_cdc s _
@[simp] theorem State.recSec_img (s : State) (n : Nat) (p : List Nat) : (s.recSec n p).img = s.img := State.pushRec_img s _
@[simp] theorem State.recSec_dramCh (s : State) (n : Nat) (p : List Nat) : (s.recSec n p).dramCh = s.dramCh := State.pushRec_dramCh s _
@[simp] theorem State.recSec_dram (s : State) (n : Nat) (p : List Nat) : (s.recSec n p).dram = s.dram := State.pushRec_dram s _
@[simp] theorem State.recSec_dma (s : State) (n : Nat) (p : List Nat) : (s.recSec n p).dma = s.dma := State.pushRec_dma s _
@[simp] theorem State.recSec_dmaShare (s : State) (n : Nat) (p : List Nat) : (s.recSec n p).dmaShare = s.dmaShare := State.pushRec_dmaShare s _
@[simp] theorem State.recSec_motion (s : State) (n : Nat) (p : List Nat) : (s.recSec n p).motion = s.motion := State.pushRec_motion s _
@[simp] theorem State.recSec_cal (s : State) (n : Nat) (p : List Nat) : (s.recSec n p).cal = s.cal := State.pushRec_cal s _
@[simp] theorem State.recSec_power (s : State) (n : Nat) (p : List Nat) : (s.recSec n p).power = s.power := State.pushRec_power s _
@[simp] theorem State.recSec_ring (s : State) (n : Nat) (p : List Nat) : (s.recSec n p).ring = s.ring := State.pushRec_ring s _
@[simp] theorem State.recSec_iox (s : State) (n : Nat) (p : List Nat) : (s.recSec n p).iox = s.iox := State.pushRec_iox s _

/-! ### Recording a refused RWP write: `State.recRwp` -/

@[simp] theorem State.recRwp_pending (s : State) (a v : Nat) : (s.recRwp a v).pending = s.pending := State.pushRec_pending s _
@[simp] theorem State.recRwp_variant (s : State) (a v : Nat) : (s.recRwp a v).variant = s.variant := State.pushRec_variant s _
@[simp] theorem State.recRwp_stepping (s : State) (a v : Nat) : (s.recRwp a v).stepping = s.stepping := State.pushRec_stepping s _
@[simp] theorem State.recRwp_fuseRev (s : State) (a v : Nat) : (s.recRwp a v).fuseRev = s.fuseRev := State.pushRec_fuseRev s _
@[simp] theorem State.recRwp_tick (s : State) (a v : Nat) : (s.recRwp a v).tick = s.tick := State.pushRec_tick s _
@[simp] theorem State.recRwp_elapsed (s : State) (a v : Nat) : (s.recRwp a v).elapsed = s.elapsed := State.pushRec_elapsed s _
@[simp] theorem State.recRwp_phase (s : State) (a v : Nat) : (s.recRwp a v).phase = s.phase := State.pushRec_phase s _
@[simp] theorem State.recRwp_committed (s : State) (a v : Nat) : (s.recRwp a v).committed = s.committed := State.pushRec_committed s _
@[simp] theorem State.recRwp_free (s : State) (a v : Nat) : (s.recRwp a v).free = s.free := State.pushRec_free s _
@[simp] theorem State.recRwp_prog (s : State) (a v : Nat) : (s.recRwp a v).prog = s.prog := State.pushRec_prog s _
@[simp] theorem State.recRwp_data (s : State) (a v : Nat) : (s.recRwp a v).data = s.data := State.pushRec_data s _
@[simp] theorem State.recRwp_table (s : State) (a v : Nat) : (s.recRwp a v).table = s.table := State.pushRec_table s _
@[simp] theorem State.recRwp_msixTab (s : State) (a v : Nat) : (s.recRwp a v).msixTab = s.msixTab := State.pushRec_msixTab s _
@[simp] theorem State.recRwp_msixPend (s : State) (a v : Nat) : (s.recRwp a v).msixPend = s.msixPend := State.pushRec_msixPend s _
@[simp] theorem State.recRwp_msixEn (s : State) (a v : Nat) : (s.recRwp a v).msixEn = s.msixEn := State.pushRec_msixEn s _
@[simp] theorem State.recRwp_log (s : State) (a v : Nat) : (s.recRwp a v).log = s.log := State.pushRec_log s _
@[simp] theorem State.recRwp_seq (s : State) (a v : Nat) : (s.recRwp a v).seq = s.seq := State.pushRec_seq s _
@[simp] theorem State.recRwp_lpe (s : State) (a v : Nat) : (s.recRwp a v).lpe = s.lpe := State.pushRec_lpe s _
@[simp] theorem State.recRwp_fmt (s : State) (a v : Nat) : (s.recRwp a v).fmt = s.fmt := State.pushRec_fmt s _
@[simp] theorem State.recRwp_sec (s : State) (a v : Nat) : (s.recRwp a v).sec = s.sec := State.pushRec_sec s _
@[simp] theorem State.recRwp_nvm (s : State) (a v : Nat) : (s.recRwp a v).nvm = s.nvm := State.pushRec_nvm s _
@[simp] theorem State.recRwp_boot (s : State) (a v : Nat) : (s.recRwp a v).boot = s.boot := State.pushRec_boot s _
@[simp] theorem State.recRwp_pins (s : State) (a v : Nat) : (s.recRwp a v).pins = s.pins := State.pushRec_pins s _
@[simp] theorem State.recRwp_pwr (s : State) (a v : Nat) : (s.recRwp a v).pwr = s.pwr := State.pushRec_pwr s _
@[simp] theorem State.recRwp_cdc (s : State) (a v : Nat) : (s.recRwp a v).cdc = s.cdc := State.pushRec_cdc s _
@[simp] theorem State.recRwp_img (s : State) (a v : Nat) : (s.recRwp a v).img = s.img := State.pushRec_img s _
@[simp] theorem State.recRwp_dramCh (s : State) (a v : Nat) : (s.recRwp a v).dramCh = s.dramCh := State.pushRec_dramCh s _
@[simp] theorem State.recRwp_dram (s : State) (a v : Nat) : (s.recRwp a v).dram = s.dram := State.pushRec_dram s _
@[simp] theorem State.recRwp_dma (s : State) (a v : Nat) : (s.recRwp a v).dma = s.dma := State.pushRec_dma s _
@[simp] theorem State.recRwp_dmaShare (s : State) (a v : Nat) : (s.recRwp a v).dmaShare = s.dmaShare := State.pushRec_dmaShare s _
@[simp] theorem State.recRwp_motion (s : State) (a v : Nat) : (s.recRwp a v).motion = s.motion := State.pushRec_motion s _
@[simp] theorem State.recRwp_cal (s : State) (a v : Nat) : (s.recRwp a v).cal = s.cal := State.pushRec_cal s _
@[simp] theorem State.recRwp_power (s : State) (a v : Nat) : (s.recRwp a v).power = s.power := State.pushRec_power s _
@[simp] theorem State.recRwp_ring (s : State) (a v : Nat) : (s.recRwp a v).ring = s.ring := State.pushRec_ring s _
@[simp] theorem State.recRwp_iox (s : State) (a v : Nat) : (s.recRwp a v).iox = s.iox := State.pushRec_iox s _

/-! ### Recording a refused RWI write: `State.recRwi` -/

@[simp] theorem State.recRwi_pending (s : State) (r : RegDesc) (v i j : Nat) : (s.recRwi r v i j).pending = s.pending := by
  unfold State.recRwi; split
  · exact State.record_pending s _ _
  · rfl
@[simp] theorem State.recRwi_variant (s : State) (r : RegDesc) (v i j : Nat) : (s.recRwi r v i j).variant = s.variant := by
  unfold State.recRwi; split
  · exact State.record_variant s _ _
  · rfl
@[simp] theorem State.recRwi_stepping (s : State) (r : RegDesc) (v i j : Nat) : (s.recRwi r v i j).stepping = s.stepping := by
  unfold State.recRwi; split
  · exact State.record_stepping s _ _
  · rfl
@[simp] theorem State.recRwi_fuseRev (s : State) (r : RegDesc) (v i j : Nat) : (s.recRwi r v i j).fuseRev = s.fuseRev := by
  unfold State.recRwi; split
  · exact State.record_fuseRev s _ _
  · rfl
@[simp] theorem State.recRwi_tick (s : State) (r : RegDesc) (v i j : Nat) : (s.recRwi r v i j).tick = s.tick := by
  unfold State.recRwi; split
  · exact State.record_tick s _ _
  · rfl
@[simp] theorem State.recRwi_elapsed (s : State) (r : RegDesc) (v i j : Nat) : (s.recRwi r v i j).elapsed = s.elapsed := by
  unfold State.recRwi; split
  · exact State.record_elapsed s _ _
  · rfl
@[simp] theorem State.recRwi_phase (s : State) (r : RegDesc) (v i j : Nat) : (s.recRwi r v i j).phase = s.phase := by
  unfold State.recRwi; split
  · exact State.record_phase s _ _
  · rfl
@[simp] theorem State.recRwi_committed (s : State) (r : RegDesc) (v i j : Nat) : (s.recRwi r v i j).committed = s.committed := by
  unfold State.recRwi; split
  · exact State.record_committed s _ _
  · rfl
@[simp] theorem State.recRwi_free (s : State) (r : RegDesc) (v i j : Nat) : (s.recRwi r v i j).free = s.free := by
  unfold State.recRwi; split
  · exact State.record_free s _ _
  · rfl
@[simp] theorem State.recRwi_prog (s : State) (r : RegDesc) (v i j : Nat) : (s.recRwi r v i j).prog = s.prog := by
  unfold State.recRwi; split
  · exact State.record_prog s _ _
  · rfl
@[simp] theorem State.recRwi_data (s : State) (r : RegDesc) (v i j : Nat) : (s.recRwi r v i j).data = s.data := by
  unfold State.recRwi; split
  · exact State.record_data s _ _
  · rfl
@[simp] theorem State.recRwi_table (s : State) (r : RegDesc) (v i j : Nat) : (s.recRwi r v i j).table = s.table := by
  unfold State.recRwi; split
  · exact State.record_table s _ _
  · rfl
@[simp] theorem State.recRwi_msixTab (s : State) (r : RegDesc) (v i j : Nat) : (s.recRwi r v i j).msixTab = s.msixTab := by
  unfold State.recRwi; split
  · exact State.record_msixTab s _ _
  · rfl
@[simp] theorem State.recRwi_msixPend (s : State) (r : RegDesc) (v i j : Nat) : (s.recRwi r v i j).msixPend = s.msixPend := by
  unfold State.recRwi; split
  · exact State.record_msixPend s _ _
  · rfl
@[simp] theorem State.recRwi_msixEn (s : State) (r : RegDesc) (v i j : Nat) : (s.recRwi r v i j).msixEn = s.msixEn := by
  unfold State.recRwi; split
  · exact State.record_msixEn s _ _
  · rfl
@[simp] theorem State.recRwi_log (s : State) (r : RegDesc) (v i j : Nat) : (s.recRwi r v i j).log = s.log := by
  unfold State.recRwi; split
  · exact State.record_log s _ _
  · rfl
@[simp] theorem State.recRwi_seq (s : State) (r : RegDesc) (v i j : Nat) : (s.recRwi r v i j).seq = s.seq := by
  unfold State.recRwi; split
  · exact State.record_seq s _ _
  · rfl
@[simp] theorem State.recRwi_lpe (s : State) (r : RegDesc) (v i j : Nat) : (s.recRwi r v i j).lpe = s.lpe := by
  unfold State.recRwi; split
  · exact State.record_lpe s _ _
  · rfl
@[simp] theorem State.recRwi_fmt (s : State) (r : RegDesc) (v i j : Nat) : (s.recRwi r v i j).fmt = s.fmt := by
  unfold State.recRwi; split
  · exact State.record_fmt s _ _
  · rfl
@[simp] theorem State.recRwi_sec (s : State) (r : RegDesc) (v i j : Nat) : (s.recRwi r v i j).sec = s.sec := by
  unfold State.recRwi; split
  · exact State.record_sec s _ _
  · rfl
@[simp] theorem State.recRwi_nvm (s : State) (r : RegDesc) (v i j : Nat) : (s.recRwi r v i j).nvm = s.nvm := by
  unfold State.recRwi; split
  · exact State.record_nvm s _ _
  · rfl
@[simp] theorem State.recRwi_boot (s : State) (r : RegDesc) (v i j : Nat) : (s.recRwi r v i j).boot = s.boot := by
  unfold State.recRwi; split
  · exact State.record_boot s _ _
  · rfl
@[simp] theorem State.recRwi_pins (s : State) (r : RegDesc) (v i j : Nat) : (s.recRwi r v i j).pins = s.pins := by
  unfold State.recRwi; split
  · exact State.record_pins s _ _
  · rfl
@[simp] theorem State.recRwi_pwr (s : State) (r : RegDesc) (v i j : Nat) : (s.recRwi r v i j).pwr = s.pwr := by
  unfold State.recRwi; split
  · exact State.record_pwr s _ _
  · rfl
@[simp] theorem State.recRwi_cdc (s : State) (r : RegDesc) (v i j : Nat) : (s.recRwi r v i j).cdc = s.cdc := by
  unfold State.recRwi; split
  · exact State.record_cdc s _ _
  · rfl
@[simp] theorem State.recRwi_img (s : State) (r : RegDesc) (v i j : Nat) : (s.recRwi r v i j).img = s.img := by
  unfold State.recRwi; split
  · exact State.record_img s _ _
  · rfl
@[simp] theorem State.recRwi_dramCh (s : State) (r : RegDesc) (v i j : Nat) : (s.recRwi r v i j).dramCh = s.dramCh := by
  unfold State.recRwi; split
  · exact State.record_dramCh s _ _
  · rfl
@[simp] theorem State.recRwi_dram (s : State) (r : RegDesc) (v i j : Nat) : (s.recRwi r v i j).dram = s.dram := by
  unfold State.recRwi; split
  · exact State.record_dram s _ _
  · rfl
@[simp] theorem State.recRwi_dma (s : State) (r : RegDesc) (v i j : Nat) : (s.recRwi r v i j).dma = s.dma := by
  unfold State.recRwi; split
  · exact State.record_dma s _ _
  · rfl
@[simp] theorem State.recRwi_dmaShare (s : State) (r : RegDesc) (v i j : Nat) : (s.recRwi r v i j).dmaShare = s.dmaShare := by
  unfold State.recRwi; split
  · exact State.record_dmaShare s _ _
  · rfl
@[simp] theorem State.recRwi_motion (s : State) (r : RegDesc) (v i j : Nat) : (s.recRwi r v i j).motion = s.motion := by
  unfold State.recRwi; split
  · exact State.record_motion s _ _
  · rfl
@[simp] theorem State.recRwi_cal (s : State) (r : RegDesc) (v i j : Nat) : (s.recRwi r v i j).cal = s.cal := by
  unfold State.recRwi; split
  · exact State.record_cal s _ _
  · rfl
@[simp] theorem State.recRwi_power (s : State) (r : RegDesc) (v i j : Nat) : (s.recRwi r v i j).power = s.power := by
  unfold State.recRwi; split
  · exact State.record_power s _ _
  · rfl
@[simp] theorem State.recRwi_ring (s : State) (r : RegDesc) (v i j : Nat) : (s.recRwi r v i j).ring = s.ring := by
  unfold State.recRwi; split
  · exact State.record_ring s _ _
  · rfl
@[simp] theorem State.recRwi_iox (s : State) (r : RegDesc) (v i j : Nat) : (s.recRwi r v i j).iox = s.iox := by
  unfold State.recRwi; split
  · exact State.record_iox s _ _
  · rfl

/-! ### A wake condition: `State.wakeBy` -/

@[simp] theorem State.wakeBy_pending (s : State) (c : Nat) : (s.wakeBy c).pending = s.pending := by
  unfold State.wakeBy; split <;> rfl
@[simp] theorem State.wakeBy_variant (s : State) (c : Nat) : (s.wakeBy c).variant = s.variant := by
  unfold State.wakeBy; split <;> rfl
@[simp] theorem State.wakeBy_stepping (s : State) (c : Nat) : (s.wakeBy c).stepping = s.stepping := by
  unfold State.wakeBy; split <;> rfl
@[simp] theorem State.wakeBy_fuseRev (s : State) (c : Nat) : (s.wakeBy c).fuseRev = s.fuseRev := by
  unfold State.wakeBy; split <;> rfl
@[simp] theorem State.wakeBy_regs (s : State) (c : Nat) : (s.wakeBy c).regs = s.regs := by
  unfold State.wakeBy; split <;> rfl
@[simp] theorem State.wakeBy_tick (s : State) (c : Nat) : (s.wakeBy c).tick = s.tick := by
  unfold State.wakeBy; split <;> rfl
@[simp] theorem State.wakeBy_elapsed (s : State) (c : Nat) : (s.wakeBy c).elapsed = s.elapsed := by
  unfold State.wakeBy; split <;> rfl
@[simp] theorem State.wakeBy_phase (s : State) (c : Nat) : (s.wakeBy c).phase = s.phase := by
  unfold State.wakeBy; split <;> rfl
@[simp] theorem State.wakeBy_committed (s : State) (c : Nat) : (s.wakeBy c).committed = s.committed := by
  unfold State.wakeBy; split <;> rfl
@[simp] theorem State.wakeBy_free (s : State) (c : Nat) : (s.wakeBy c).free = s.free := by
  unfold State.wakeBy; split <;> rfl
@[simp] theorem State.wakeBy_prog (s : State) (c : Nat) : (s.wakeBy c).prog = s.prog := by
  unfold State.wakeBy; split <;> rfl
@[simp] theorem State.wakeBy_data (s : State) (c : Nat) : (s.wakeBy c).data = s.data := by
  unfold State.wakeBy; split <;> rfl
@[simp] theorem State.wakeBy_table (s : State) (c : Nat) : (s.wakeBy c).table = s.table := by
  unfold State.wakeBy; split <;> rfl
@[simp] theorem State.wakeBy_msixTab (s : State) (c : Nat) : (s.wakeBy c).msixTab = s.msixTab := by
  unfold State.wakeBy; split <;> rfl
@[simp] theorem State.wakeBy_msixPend (s : State) (c : Nat) : (s.wakeBy c).msixPend = s.msixPend := by
  unfold State.wakeBy; split <;> rfl
@[simp] theorem State.wakeBy_msixEn (s : State) (c : Nat) : (s.wakeBy c).msixEn = s.msixEn := by
  unfold State.wakeBy; split <;> rfl
@[simp] theorem State.wakeBy_log (s : State) (c : Nat) : (s.wakeBy c).log = s.log := by
  unfold State.wakeBy; split <;> rfl
@[simp] theorem State.wakeBy_seq (s : State) (c : Nat) : (s.wakeBy c).seq = s.seq := by
  unfold State.wakeBy; split <;> rfl
@[simp] theorem State.wakeBy_lpe (s : State) (c : Nat) : (s.wakeBy c).lpe = s.lpe := by
  unfold State.wakeBy; split <;> rfl
@[simp] theorem State.wakeBy_rcd (s : State) (c : Nat) : (s.wakeBy c).rcd = s.rcd := by
  unfold State.wakeBy; split <;> rfl
@[simp] theorem State.wakeBy_fmt (s : State) (c : Nat) : (s.wakeBy c).fmt = s.fmt := by
  unfold State.wakeBy; split <;> rfl
@[simp] theorem State.wakeBy_sec (s : State) (c : Nat) : (s.wakeBy c).sec = s.sec := by
  unfold State.wakeBy; split <;> rfl
@[simp] theorem State.wakeBy_nvm (s : State) (c : Nat) : (s.wakeBy c).nvm = s.nvm := by
  unfold State.wakeBy; split <;> rfl
@[simp] theorem State.wakeBy_boot (s : State) (c : Nat) : (s.wakeBy c).boot = s.boot := by
  unfold State.wakeBy; split <;> rfl
@[simp] theorem State.wakeBy_pins (s : State) (c : Nat) : (s.wakeBy c).pins = s.pins := by
  unfold State.wakeBy; split <;> rfl
@[simp] theorem State.wakeBy_cdc (s : State) (c : Nat) : (s.wakeBy c).cdc = s.cdc := by
  unfold State.wakeBy; split <;> rfl
@[simp] theorem State.wakeBy_img (s : State) (c : Nat) : (s.wakeBy c).img = s.img := by
  unfold State.wakeBy; split <;> rfl
@[simp] theorem State.wakeBy_dramCh (s : State) (c : Nat) : (s.wakeBy c).dramCh = s.dramCh := by
  unfold State.wakeBy; split <;> rfl
@[simp] theorem State.wakeBy_dram (s : State) (c : Nat) : (s.wakeBy c).dram = s.dram := by
  unfold State.wakeBy; split <;> rfl
@[simp] theorem State.wakeBy_dma (s : State) (c : Nat) : (s.wakeBy c).dma = s.dma := by
  unfold State.wakeBy; split <;> rfl
@[simp] theorem State.wakeBy_dmaShare (s : State) (c : Nat) : (s.wakeBy c).dmaShare = s.dmaShare := by
  unfold State.wakeBy; split <;> rfl
@[simp] theorem State.wakeBy_motion (s : State) (c : Nat) : (s.wakeBy c).motion = s.motion := by
  unfold State.wakeBy; split <;> rfl
@[simp] theorem State.wakeBy_cal (s : State) (c : Nat) : (s.wakeBy c).cal = s.cal := by
  unfold State.wakeBy; split <;> rfl
@[simp] theorem State.wakeBy_power (s : State) (c : Nat) : (s.wakeBy c).power = s.power := by
  unfold State.wakeBy; split <;> rfl
@[simp] theorem State.wakeBy_ring (s : State) (c : Nat) : (s.wakeBy c).ring = s.ring := by
  unfold State.wakeBy; split <;> rfl
@[simp] theorem State.wakeBy_iox (s : State) (c : Nat) : (s.wakeBy c).iox = s.iox := by
  unfold State.wakeBy; split <;> rfl

/-! ### What the operations put -/

/-- The part replaced is the one given. -/
@[simp] theorem State.setRing_ring (s : State) (x : Ring) : (s.setRing x).ring = x := rfl

/-- The part replaced is the one given. -/
@[simp] theorem State.setIox_iox (s : State) (x : Iox) : (s.setIox x).iox = x := rfl

/-- The part replaced is the one given. -/
@[simp] theorem State.setRcd_rcd (s : State) (x : Recorder) : (s.setRcd x).rcd = x := rfl

/-- The part replaced is the one given. -/
@[simp] theorem State.setBoot_boot (s : State) (x : Boot) : (s.setBoot x).boot = x := rfl

/-- The part replaced is the one given. -/
@[simp] theorem State.setPwr_pwr (s : State) (x : Pwr) : (s.setPwr x).pwr = x := rfl

/-- The part replaced is the one given. -/
@[simp] theorem State.setSec_sec (s : State) (x : Sec) : (s.setSec x).sec = x := rfl

/-- The part replaced is the one given. -/
@[simp] theorem State.setNvm_nvm (s : State) (x : Nvm) : (s.setNvm x).nvm = x := rfl

/-- What is sent is added to the log. -/
@[simp] theorem State.emit_log (s : State) (e : Emit) : (s.emit e).log = s.log ++ [e] := rfl

/-- The mains section replaced is the one given. -/
@[simp] theorem State.setMns_power (s : State) (x : Mns) : (s.setMns x).power = { s.power with mns := x } := rfl

/-- The element replaced is the one given. -/
@[simp] theorem State.lane_setLane_same (s : State) (i : Nat) (x : DecLane) (h : i < s.cdc.lanes.length) : (s.setLane i x).lane i = x := by
  simp [State.setLane, State.lane, nth, List.getD, h]

/-- Another element stays. -/
@[simp] theorem State.lane_setLane_ne (s : State) (i k : Nat) (x : DecLane) (h : k ≠ i) : (s.setLane i x).lane k = s.lane k := by
  simp [State.setLane, State.lane, nth, List.getD, List.getElem?_set_ne (Ne.symm h)]

/-- The element replaced is the one given. -/
@[simp] theorem State.enc_setEnc_same (s : State) (i : Nat) (x : Enc) (h : i < s.cdc.enc.length) : (s.setEnc i x).enc i = x := by
  simp [State.setEnc, State.enc, nth, List.getD, h]

/-- Another element stays. -/
@[simp] theorem State.enc_setEnc_ne (s : State) (i k : Nat) (x : Enc) (h : k ≠ i) : (s.setEnc i x).enc k = s.enc k := by
  simp [State.setEnc, State.enc, nth, List.getD, List.getElem?_set_ne (Ne.symm h)]

/-- The element replaced is the one given. -/
@[simp] theorem State.dmaCh_setDma_same (s : State) (i : Nat) (x : DmaChan) (h : i < s.dma.length) : (s.setDma i x).dmaCh i = x := by
  simp [State.setDma, State.dmaCh, nth, List.getD, h]

/-- Another element stays. -/
@[simp] theorem State.dmaCh_setDma_ne (s : State) (i k : Nat) (x : DmaChan) (h : k ≠ i) : (s.setDma i x).dmaCh k = s.dmaCh k := by
  simp [State.setDma, State.dmaCh, nth, List.getD, List.getElem?_set_ne (Ne.symm h)]

/-- The element replaced is the one given. -/
@[simp] theorem State.chan_setChan_same (s : State) (i : Nat) (x : DramChan) (h : i < s.dramCh.length) : (s.setChan i x).chan i = x := by
  simp [State.setChan, State.chan, nth, List.getD, h]

/-- Another element stays. -/
@[simp] theorem State.chan_setChan_ne (s : State) (i k : Nat) (x : DramChan) (h : k ≠ i) : (s.setChan i x).chan k = s.chan k := by
  simp [State.setChan, State.chan, nth, List.getD, List.getElem?_set_ne (Ne.symm h)]

/-- The element replaced is the one given. -/
@[simp] theorem State.port_setPort_same (s : State) (i : Nat) (x : RingPort) (h : i < s.ring.ports.length) : (s.setPort i x).port i = x := by
  simp [State.setPort, State.port, nth, List.getD, h, State.setRing]

/-- Another element stays. -/
@[simp] theorem State.port_setPort_ne (s : State) (i k : Nat) (x : RingPort) (h : k ≠ i) : (s.setPort i x).port k = s.port k := by
  simp [State.setPort, State.port, nth, List.getD, List.getElem?_set_ne (Ne.symm h), State.setRing]

/-- The element replaced is the one given. -/
@[simp] theorem State.win_setWin_same (s : State) (i : Nat) (x : Win) (h : i < s.fmt.wins.length) : (s.setWin i x).win i = x := by
  simp [State.setWin, State.win, nth, List.getD, h]

/-- Another element stays. -/
@[simp] theorem State.win_setWin_ne (s : State) (i k : Nat) (x : Win) (h : k ≠ i) : (s.setWin i x).win k = s.win k := by
  simp [State.setWin, State.win, nth, List.getD, List.getElem?_set_ne (Ne.symm h)]

/-- The element replaced is the one given. -/
@[simp] theorem State.law_setLaw_same (s : State) (i : Nat) (x : Law) (h : i < s.lpe.law.length) : (s.setLaw i x).law i = x := by
  simp [State.setLaw, State.law, nth, List.getD, h]

/-- Another element stays. -/
@[simp] theorem State.law_setLaw_ne (s : State) (i k : Nat) (x : Law) (h : k ≠ i) : (s.setLaw i x).law k = s.law k := by
  simp [State.setLaw, State.law, nth, List.getD, List.getElem?_set_ne (Ne.symm h)]

/-- The element replaced is the one given. -/
@[simp] theorem State.axis_setAxis_same (s : State) (i : Nat) (x : Axis) (h : i < s.motion.axis.length) : (s.setAxis i x).axis i = x := by
  simp [State.setAxis, State.axis, nth, List.getD, h]

/-- Another element stays. -/
@[simp] theorem State.axis_setAxis_ne (s : State) (i k : Nat) (x : Axis) (h : k ≠ i) : (s.setAxis i x).axis k = s.axis k := by
  simp [State.setAxis, State.axis, nth, List.getD, List.getElem?_set_ne (Ne.symm h)]

/-- The element replaced is the one given. -/
@[simp] theorem State.foc_setFoc_same (s : State) (i : Nat) (x : FocCh) (h : i < s.motion.foc.length) : (s.setFoc i x).foc i = x := by
  simp [State.setFoc, State.foc, nth, List.getD, h]

/-- Another element stays. -/
@[simp] theorem State.foc_setFoc_ne (s : State) (i k : Nat) (x : FocCh) (h : k ≠ i) : (s.setFoc i x).foc k = s.foc k := by
  simp [State.setFoc, State.foc, nth, List.getD, List.getElem?_set_ne (Ne.symm h)]

/-- The element replaced is the one given. -/
@[simp] theorem State.stn_setStn_same (s : State) (i : Nat) (x : Stn) (h : i < s.img.stn.length) : (s.setStn i x).stn i = x := by
  simp [State.setStn, State.stn, nth, List.getD, h]

/-- Another element stays. -/
@[simp] theorem State.stn_setStn_ne (s : State) (i k : Nat) (x : Stn) (h : k ≠ i) : (s.setStn i x).stn k = s.stn k := by
  simp [State.setStn, State.stn, nth, List.getD, List.getElem?_set_ne (Ne.symm h)]

end Sys2Proof.Machine
end

