-- ==== Sys2Proof/Laws/Ops.lean ====
section
/-! SUPPORT. What the shared operations do: which registers event flags, records and rate windows touch, what a record adds
to the queue, and what an event flag's arrival adds. -/

namespace Sys2Proof.Machine

/-- A register outside P reads as before. -/
theorem State.regsApart.rget {P : Nat → Prop} {s t : State} (h : s.regsApart P t) (r : RegDesc) (i j : Nat)
    (hp : ¬ P (r.addr i j)) : t.rget r i j = s.rget r i j := by rw [State.rget, h _ _ hp, State.rget]

/-- A field of a register outside P reads as before. -/
theorem State.regsApart.fget {P : Nat → Prop} {s t : State} (h : s.regsApart P t) (f : FldDesc) (i j : Nat)
    (hp : ¬ P (f.reg.addr i j)) : t.fget f i j = s.fget f i j := by rw [State.fget, h.rget _ _ _ hp, State.fget]

/-- Nothing changed: agreement everywhere. -/
theorem State.regsApart_of_regs {P : Nat → Prop} {s t : State} (h : t.regs = s.regs) : s.regsApart P t := by
  intro a d _; rw [h]

/-- Agreement composes. -/
theorem State.regsApart.trans {P : Nat → Prop} {s t u : State} (h : s.regsApart P t) (k : t.regsApart P u) : s.regsApart P u := by
  intro a d hp; rw [k a d hp, h a d hp]

/-- Agreement outside a part is agreement outside any larger part. -/
theorem State.regsApart.mono {P Q : Nat → Prop} {s t : State} (h : s.regsApart P t) (k : ∀ a, P a → Q a) : s.regsApart Q t :=
  fun a d hq => h a d (fun hp => hq (k a hp))

/-- A register write touches its own address only. -/
theorem State.regsApart_rset {P : Nat → Prop} (s : State) (r : RegDesc) (v i j : Nat) (h : P (r.addr i j)) :
    s.regsApart P (s.rset r v i j) := fun a d hp => State.regs_rset_ne s r v i j a d (fun e => hp (e ▸ h))

/-- A field write touches its register only. -/
theorem State.regsApart_fset {P : Nat → Prop} (s : State) (f : FldDesc) (v i j : Nat) (h : P (f.reg.addr i j)) :
    s.regsApart P (s.fset f v i j) := State.regsApart_rset s f.reg _ i j h

/-- A counter's increment touches its register only. -/
theorem State.regsApart_finc {P : Nat → Prop} (s : State) (f : FldDesc) (n i j : Nat) (h : P (f.reg.addr i j)) :
    s.regsApart P (s.finc f n i j) := State.regsApart_fset s f _ i j h

/-- A record's entry into the queue touches REC_LOST and REC_NEXTSEQ only. -/
theorem State.regsApart_enqueue (s : State) (r : Rec) : s.regsApart recTouched (s.enqueue r) := by
  unfold State.enqueue
  split
  · exact State.regsApart_finc s _ _ _ _ (Or.inl rfl)
  · exact State.regsApart_rset s _ _ _ _ (Or.inr (Or.inr rfl))

/-- Closing a rate window touches the recorder's registers only. -/
theorem State.regsApart_closeRateWin (s : State) (w : RlWin) : s.regsApart recTouched (s.closeRateWin w) := by
  unfold State.closeRateWin
  dsimp only
  split
  · exact State.regsApart_of_regs rfl
  · exact (State.regsApart_of_regs (t := { s with rcd := { s.rcd with wins := s.rcd.wins.filter (fun v => v.key != w.key) } }) rfl).trans
      (State.regsApart_enqueue _ _)

/-- The turn of a rate window touches the recorder's registers only. -/
theorem State.regsApart_rateTurn (s : State) (key tick : Nat) : s.regsApart recTouched (s.rateTurn key tick) := by
  unfold State.rateTurn
  split
  · split
    · exact State.regsApart_closeRateWin s _
    · exact State.regsApart_of_regs rfl
  · exact State.regsApart_of_regs rfl

/-- A record under its open window touches the recorder's registers only. -/
theorem State.regsApart_admitRec (s : State) (w : RlWin) (n : Nat) (r : Rec) : s.regsApart recTouched (s.admitRec w n r) := by
  unfold State.admitRec
  split
  · exact (State.regsApart_of_regs (State.putRateWin_regs _ _)).trans (State.regsApart_enqueue _ _)
  · exact (State.regsApart_of_regs (State.putRateWin_regs _ _)).trans (State.regsApart_finc _ _ _ _ _ (Or.inr (Or.inl rfl)))

/-- Queueing a record touches the recorder's registers only. -/
theorem State.regsApart_pushRec (s : State) (r : Rec) : s.regsApart recTouched (s.pushRec r) := by
  unfold State.pushRec
  split
  · exact State.regsApart_enqueue s r
  · exact (State.regsApart_rateTurn s _ _).trans (State.regsApart_admitRec _ _ _ _)

/-- Recording touches the recorder's registers only. -/
theorem State.regsApart_record (s : State) (code : Nat) (p : List Nat) : s.regsApart recTouched (s.record code p) :=
  State.regsApart_pushRec s _

/-- Setting an event flag touches its word of SEQ_EV only. -/
theorem State.regsApart_setFlag {P : Nat → Prop} (s : State) (f : Nat) (h : P (R.SEQ_EV.addr (f / 32) 0)) :
    s.regsApart P (s.setFlag f) := by
  intro a d hp
  have : (s.setFlag f).regs = (s.raiseFlag f).regs := rfl
  rw [this]
  exact State.regs_rset_ne _ _ _ _ _ _ _ (fun e => hp (e ▸ h))

/-- Raising a vector touches no register. -/
theorem State.regsApart_raise {P : Nat → Prop} (s : State) (v : Nat) : s.regsApart P (s.raise v) :=
  State.regsApart_of_regs (State.raise_regs s v)

/-- An event flag that arrives is kept for R91. -/
@[simp] theorem State.setFlag_arrivals (s : State) (f : Nat) : (s.setFlag f).seq.arrivals = s.seq.arrivals ++ [.set f] := rfl

/-- A cleared event flag that arrives is kept for R91. -/
@[simp] theorem State.clearFlag_arrivals (s : State) (f : Nat) : (s.clearFlag f).seq.arrivals = s.seq.arrivals ++ [.clear f] := rfl

/-- A flag that no context waits on is set when its set arrives (R81). -/
theorem bestCtx_none (l : List Ctx) (p : Nat → Ctx → Bool) (h : ∀ c x, p c x = false) : bestCtx l p = none := by
  have : ∀ (m : List (Ctx × Nat)), m.foldl (betterCtx p) none = none := by
    intro m
    induction m with
    | nil => rfl
    | cons y m ih => rw [List.foldl_cons, betterCtx, h, if_neg (by decide), ih]
  rw [bestCtx, this]; rfl

end Sys2Proof.Machine
end

