-- ==== Sys2Proof/Laws/Sequencer.lean ====
section
/-! SUPPORT. What the sequencer's operations do: contexts as a list, a dispatch point, and the end of an activation. -/

namespace Sys2Proof.Machine

/-- Context c after it is replaced. -/
@[simp] theorem State.ctx_setCtx_same (s : State) (c : Nat) (x : Ctx) (h : c < s.seq.ctx.length) : (s.setCtx c x).ctx c = x := by
  simp [State.setCtx, State.ctx, nth, List.getD, h]

/-- Another context after one is replaced. -/
@[simp] theorem State.ctx_setCtx_ne (s : State) (c k : Nat) (x : Ctx) (h : k ≠ c) : (s.setCtx c x).ctx k = s.ctx k := by
  simp [State.setCtx, State.ctx, nth, List.getD, List.getElem?_set_ne (Ne.symm h)]

/-- Replacing a context keeps their number. -/
@[simp] theorem State.setCtx_length (s : State) (c : Nat) (x : Ctx) : (s.setCtx c x).seq.ctx.length = s.seq.ctx.length := by
  simp [State.setCtx]

/-- The best context is one of the list, and satisfies the condition. -/
theorem bestCtx_some (l : List Ctx) (p : Nat → Ctx → Bool) (k : Nat) (h : bestCtx l p = some k) :
    k < l.length ∧ p k (nth l k Ctx.blank) = true := by
  unfold bestCtx at h
  have key : ∀ (m : List (Ctx × Nat)) (b : Option (Nat × Nat)),
      (∀ q j, b = some (q, j) → j < l.length ∧ p j (nth l j Ctx.blank) = true) →
      (∀ xc ∈ m, xc.2 < l.length ∧ xc.1 = nth l xc.2 Ctx.blank) →
      ∀ q j, m.foldl (betterCtx p) b = some (q, j) → j < l.length ∧ p j (nth l j Ctx.blank) = true := by
    intro m
    induction m with
    | nil => intro b hb _ q j e; exact hb q j e
    | cons y m ih =>
      intro b hb hm q j e
      rw [List.foldl_cons] at e
      refine ih _ ?_ (fun xc hx => hm xc (List.mem_cons_of_mem _ hx)) q j e
      intro q' j' e'
      have hy := hm y List.mem_cons_self
      unfold betterCtx at e'
      by_cases hp : p y.2 y.1 = true
      · rw [if_pos hp] at e'
        have hy' : y.2 < l.length ∧ p y.2 (nth l y.2 Ctx.blank) = true := ⟨hy.1, hy.2 ▸ hp⟩
        rcases b with _ | ⟨q0, k0⟩
        · simp only [Option.some.injEq, Prod.mk.injEq] at e'; exact e'.2 ▸ hy'
        · dsimp only at e'
          by_cases hq : q0 < y.1.prio
          · rw [if_pos hq] at e'; simp only [Option.some.injEq, Prod.mk.injEq] at e'; exact e'.2 ▸ hy'
          · rw [if_neg hq] at e'; exact hb q' j' e'
      · rw [if_neg hp] at e'; exact hb q' j' e'
  rcases hf : l.zipIdx.foldl (betterCtx p) none with _ | ⟨q, j⟩
  · rw [hf] at h; cases h
  · rw [hf] at h
    simp only [Option.map_some, Option.some.injEq] at h
    subst h
    refine key l.zipIdx none (fun _ _ e => nomatch e) ?_ q j hf
    intro xc hx
    obtain ⟨h1, h2⟩ := List.mem_zipIdx' (x := xc.1) (i := xc.2) hx
    exact ⟨h1, by rw [h2]; simp [nth, List.getD, List.getElem?_eq_getElem h1]⟩

/-- A dispatch point changes the contexts and the pairs' cycles only. -/
theorem State.dispatch_frame (s : State) (p : Nat) :
    s.dispatch p = { s with seq := { s.seq with ctx := (s.dispatch p).seq.ctx, pairCyc := (s.dispatch p).seq.pairCyc } } := by
  unfold State.dispatch
  split
  · rfl
  · split <;> rfl

/-- A dispatch point starts at most one READY context of its pair, and leaves every other context. -/
theorem State.dispatch_ctx (s : State) (p k : Nat) :
    (s.dispatch p).ctx k = s.ctx k ∨
      ((s.ctx k).st = .ready ∧ (s.ctx k).pair = p ∧ (s.dispatch p).ctx k = { s.ctx k with st := .running, acts := (s.ctx k).acts + 1 }) := by
  unfold State.dispatch
  split
  · exact Or.inl rfl
  · split
    · exact Or.inl rfl
    · rename_i c hc
      obtain ⟨hl, hp⟩ := bestCtx_some _ _ _ hc
      simp only [Bool.and_eq_true, beq_iff_eq] at hp
      by_cases hk : k = c
      · subst hk
        exact Or.inr ⟨hp.1.1.1, hp.1.1.2, State.ctx_setCtx_same s k _ hl⟩
      · exact Or.inl (State.ctx_setCtx_ne s c k _ hk)

/-- A context that is not READY is left alone by a dispatch point. -/
theorem State.dispatch_ctx_of_ne (s : State) (p k : Nat) (h : (s.ctx k).st ≠ .ready) : (s.dispatch p).ctx k = s.ctx k :=
  (State.dispatch_ctx s p k).resolve_right (fun e => h e.1)

/-- A dispatch point keeps the number of contexts. -/
@[simp] theorem State.dispatch_length (s : State) (p : Nat) : (s.dispatch p).seq.ctx.length = s.seq.ctx.length := by
  unfold State.dispatch
  split
  · rfl
  · split
    · rfl
    · exact State.setCtx_length _ _ _

/-- The end of an activation changes the contexts and the pairs' cycles only. -/
theorem State.endActivation_frame (s : State) (c : Nat) (x : Ctx) (st : Status) :
    s.endActivation c x st = { s with seq := { s.seq with
      ctx := (s.endActivation c x st).seq.ctx, pairCyc := (s.endActivation c x st).seq.pairCyc } } := by
  have h := State.dispatch_frame (s.setCtx c { x with st := st }) x.pair
  unfold State.endActivation
  exact h

/-- A context whose activation ends in a status other than READY holds that status. -/
theorem State.endActivation_ctx (s : State) (c : Nat) (x : Ctx) (st : Status) (hc : c < s.seq.ctx.length) (hs : st ≠ .ready) :
    (s.endActivation c x st).ctx c = { x with st := st } := by
  unfold State.endActivation
  rw [State.dispatch_ctx_of_ne, State.ctx_setCtx_same s c _ hc]
  rw [State.ctx_setCtx_same s c _ hc]; exact hs

/-- When an activation ends, another context stays as it is or starts. -/
theorem State.endActivation_other (s : State) (c k : Nat) (x : Ctx) (st : Status) (hk : k ≠ c) :
    (s.endActivation c x st).ctx k = s.ctx k ∨
      ((s.ctx k).st = .ready ∧ (s.ctx k).pair = x.pair ∧
        (s.endActivation c x st).ctx k = { s.ctx k with st := .running, acts := (s.ctx k).acts + 1 }) := by
  have h := State.dispatch_ctx (s.setCtx c { x with st := st }) x.pair k
  rw [State.ctx_setCtx_ne s c k _ hk] at h
  exact h

/-- A store to shared or bulk data changes the data and adds one entry to the journal. -/
theorem State.storeData_frame (s : State) (c a n v : Nat) :
    s.storeData c a n v = { s with
      data := memWrite s.data a n v
      seq := { s.seq with journal :=
        { loc := none, addr := a / 4 * 4, old := memRead s.data (a / 4 * 4) 4, pair := (s.ctx c).pair, cyc := s.cycleOf c } ::
          s.seq.journal } } := rfl

/-- With nothing in the journal a load sees the data as they stand. -/
theorem State.seenData_of_nil (s : State) (c : Nat) (h : s.seq.journal = []) : s.seenData c = s.data := by
  unfold State.seenData; rw [h]; rfl

/-- Where no SIG of the cycle has set a flag, a WAIT samples it as it stands. -/
theorem State.sampled_of_none (s : State) (c f : Nat) (h : s.sigOf c f = none) : s.sampled c f = s.flag f := by
  unfold State.sampled; rw [h]

/-- Consuming a flag changes the event flags and the SIGs of the cycle only. -/
theorem State.consumeFlag_frame (s : State) (c f : Nat) :
    s.consumeFlag c f = { s with regs := (s.consumeFlag c f).regs, seq := { s.seq with sigs := (s.consumeFlag c f).seq.sigs } } := by
  unfold State.consumeFlag
  split <;> rfl

end Sys2Proof.Machine
end

