-- ==== Sys2Proof/Laws/Boundary.lean ====
section
/-! SUPPORT. What is commanded at the boundary before a phase 0 leaves the time as it is: the tick itself begins with TICK_PHASE_0. -/

namespace Sys2Proof.Machine

/-- The tick count stays. -/
@[simp] theorem State.atNext_tick (s : State) (f : State → State) : (s.atNext f).tick = s.tick := rfl

/-- The count of ticks since the lock stays. -/
@[simp] theorem State.atNext_elapsed (s : State) (f : State → State) : (s.atNext f).elapsed = s.elapsed := rfl

/-- The phase stays. -/
@[simp] theorem State.atNext_phase (s : State) (f : State → State) : (s.atNext f).phase = s.phase := rfl

/-- What everything at that phase 0 leaves alone, the boundary leaves alone: for a part of the state that the released records, the
remote writes and the event itself keep. -/
theorem State.atNext_keeps {α : Type} (p : State → α) (s : State) (f : State → State)
    (ht : ∀ (u : State) (a b c : Nat), p { u with tick := a, elapsed := b, phase := c } = p u)
    (hr : p s.recRelease = p s) (hw : ∀ u : State, p u.remoteWrites = p u) (hf : ∀ u : State, p (f u) = p u) :
    p (s.atNext f) = p s := by
  unfold State.atNext
  dsimp only
  rw [ht]
  split
  · rw [hf, hw, ht, hr]
  · rw [hw, ht, hr]

end Sys2Proof.Machine
end

