-- ==== Sys2Proof/Tests/Slice0.lean ====
section
/-! SUPPORT. Tests: ill-formed commands, encodings written out from the tables, worked examples of the spec, and a state that meets
the hypotheses of each statement. -/

namespace Sys2Proof.Tests

set_option Elab.async false

open Sys2Proof Sys2Proof.Machine

/-! ### Small states -/

/-- A P6M part without stored registers, in its program. -/
def base : State :=
  { State.initial .p6m with regs := [], boot := { Boot.blank with step := .running, ready := true, wdog := 9, fscnt := 1 } }

/-- The state with fields of instance i of their registers written. -/
def State.put (s : State) (l : List (FldDesc × Nat × Nat)) : State := l.foldl (fun s x => s.fset x.1 x.2.2 x.2.1) s

/-- The engine program runs, and phase 0 is under way. -/
def prog : State := State.put base [(F.SEQ_STAT_MODE, 0, 3)]

/-- A declared context that runs, with X1, X2 and X3. -/
def ctx (p q r : Nat) : Ctx :=
  { Ctx.blank with
    st := .running, budget := 100, x := ((Ctx.blank.x.set 1 (BitVec.ofNat 32 p)).set 2 (BitVec.ofNat 32 q)).set 3 (BitVec.ofNat 32 r)
    decl := some ⟨false, none, 0, 1, false, 50, 100, 0, 0, 0, [⟨4, 2, 0x150018⟩]⟩, twUsed := [0] }

/-- Context 0 is about to execute an instruction. -/
def runs (i : Instr) (p q r : Nat) : State :=
  { prog with
    prog := memWrite [] 0 4 ((encodeInsn i).getD 0)
    seq := { prog.seq with ctx := ctx p q r :: List.replicate 511 Ctx.blank } }

/-- Where none of the six stations has a line under way, none has. -/
theorem stn_quiet (s : State) (hn : s.img.stn.length = 6) (h : ∀ k, k < 6 → (s.stn k).endAt = none) (k : Nat) : (s.stn k).endAt = none := by
  rcases Nat.lt_or_ge k 6 with hk | hk
  · exact h k hk
  · unfold State.stn nth
    simp [List.getD, List.getElem?_eq_none (Nat.le_trans (Nat.le_of_eq hn) hk), Stn.blank]

/-- The command ends in a state with a property. -/
def after (i : Instr) (s : State) (p : State → Bool) : Bool := match exec i s with | .next t => p t | _ => false

/-! ### Well-formed commands -/

/-- A ring frame. -/
def frame : RingFrame := { ft := 2, dst := 5, src := 7, payload := [0x12, 0x34] }

theorem test_ill_formed_frames : ([{ frame with ft := 256 }, { frame with dst := 1024 }, { frame with src := 1024 }, { frame with seq := 256 },
    { frame with payload := List.replicate 33 0 }, { frame with payload := [2 ^ 32] }] : List RingFrame).all (fun f => !f.wf) = true := by decide

theorem test_ill_formed_event_operands : ([.sig 512 false 0 0, .sig 0 true 1 5, .sig 0 false 1 5, .sig 0 false 0 1024, .wait 512 false false 0 0,
    .wait 0 true true 1 5, .wait 0 false true 1 5, .wait 0 false true 0 1024, .waitt 512 false false 0 0, .waitt 0 false false 1 0,
    .waitt 0 true true 1 (2 ^ 20)] : List Instr).all (fun i => !i.wf) = true := by decide

theorem test_well_formed : ([.tickPhase0 {}, .add 511 15 15 15, .bCond 0 9 5, .sig 0 true 3 0, .msgFrame 1 frame true, .axsMove 35 (-(2 ^ 47)),
    .wake 7 0, .recordWrite 4, .registerWrite 0x1FFFFC 4 0] : List Instr).all Instr.wf = true := by decide


/-- Ill-formed commands, one for each check of `Instr.wf` (part 1). -/
theorem test_ill_formed_1 : ([.outputPhase 3, .budgetExhausted 512, .phase15Commit [9] [], .phase15Commit [] [4], .timerExpiry 64,
    .wakeTickReached 512, .registerWrite 0x200000 0 0, .registerWrite 0 3 0, .registerWrite 0 0 (2 ^ 64), .lanemapWrite (2 ^ 32),
    .ctxAbort 512, .ctxRestart 512, .evset 1024, .eventFlagClear 32 0, .eventFlagClear 0 (2 ^ 32),
    .timerWrite 64 0, .timerWrite 0 (2 ^ 32), .loadComplete [256] false false, .add 512 0 0 0, .adc 512 0 0 0,
    .sub 512 0 0 0, .sbc 512 0 0 0, .andR 512 0 0 0, .orR 512 0 0 0, .xorR 512 0 0 0,
    .bic 512 0 0 0, .shl 512 0 0 0, .shr 512 0 0 0, .sar 512 0 0 0, .ror 512 0 0 0,
    .mul 512 0 0 0, .mulh 512 0 0 0, .mulhu 512 0 0 0, .divu 512 0 0 0, .divs 512 0 0 0,
    .minS 512 0 0 0, .maxS 512 0 0 0, .minu 512 0 0 0, .maxu 512 0 0 0, .adds 512 0 0 0,
    .subs 512 0 0 0, .addsu 512 0 0 0, .subsu 512 0 0 0, .neg 512 0 0, .cmp 512 0 0,
    .tst 512 0 0, .absR 512 0 0, .clz 512 0 0, .paddB 512 0 0 0, .psubB 512 0 0 0,
    .paddusB 512 0 0 0, .psubusB 512 0 0 0, .paddsB 512 0 0 0, .psubsB 512 0 0 0, .pmaxuB 512 0 0 0,
    .pminuB 512 0 0 0, .pavguB 512 0 0 0, .psadB 512 0 0 0, .pcmpeqB 512 0 0 0, .pcmpgtuB 512 0 0 0] : List Instr).all (fun i => !i.wf) = true := by decide

/-- Ill-formed commands, one for each check of `Instr.wf` (part 2). -/
theorem test_ill_formed_2 : ([.pshufB 512 0 0 0, .addi 512 0 0 0, .addi 0 0 0 (2 ^ 16), .cmpi 512 0 0, .cmpi 0 0 (2 ^ 16),
    .andi 512 0 0 0, .andi 0 0 0 (2 ^ 16), .ori 512 0 0 0, .ori 0 0 0 (2 ^ 16), .xori 512 0 0 0,
    .xori 0 0 0 (2 ^ 16), .shli 512 0 0 0, .shli 0 0 0 32, .shri 512 0 0 0, .shri 0 0 0 32,
    .sari 512 0 0 0, .sari 0 0 0 32, .rori 512 0 0 0, .rori 0 0 0 32, .movi 512 0 0,
    .movi 0 0 (2 ^ 16), .movhi 512 0 0, .movhi 0 0 (2 ^ 16), .mfsTicklo 512 0, .mfsTickhi 512 0,
    .mfsPhase 512 0, .mfsCtx 512 0, .mfsBudget 512 0, .mfsLpair 512 0, .mfsActs 512 0,
    .bCond 512 0 0, .bCond 0 16 0, .bCond 0 8 0, .bCond 0 0 (2 ^ 22), .bl 512 0,
    .bl 0 (2 ^ 26), .br 512 0, .blr 512 0, .cbz 512 0 0, .cbz 0 0 (2 ^ 21),
    .cbnz 512 0 0, .cbnz 0 0 (2 ^ 21), .ldl 512 0 0 0 0, .ldl 0 3 0 0 0, .ldl 0 0 0 0 (2 ^ 16),
    .ldlx 512 0 0 0 0, .ldlx 0 3 0 0 0, .ldlx 0 0 0 0 (2 ^ 16), .stl 512 0 0 0 0, .stl 0 3 0 0 0,
    .stl 0 0 0 0 (2 ^ 16), .lds 512 0 0 0 0, .lds 0 3 0 0 0, .lds 0 0 0 0 (2 ^ 16), .ldsx 512 0 0 0 0,
    .ldsx 0 3 0 0 0, .ldsx 0 0 0 0 (2 ^ 16), .sts 512 0 0 0 0, .sts 0 3 0 0 0, .sts 0 0 0 0 (2 ^ 16)] : List Instr).all (fun i => !i.wf) = true := by decide

/-- Ill-formed commands, one for each check of `Instr.wf` (part 3). -/
theorem test_ill_formed_3 : ([.xadd 512 0 0 0, .xchg 512 0 0 0, .cas 512 0 0 0, .ior 512 0 0 0, .ior 0 0 0 (2 ^ 16),
    .iowAt 512 0 0 0 0, .iowAt 0 0 0 5 0, .iowAt 0 0 0 0 (2 ^ 15), .waite 512 false 0 0, .waite 0 false 0 1024,
    .yield 512, .yieldEnd 512, .halt 512, .msg 512 0 0 false 0, .msg 0 0 0 false 16,
    .dmago 512 0 0, .lawset 512 0 0 0 0, .lawset 0 0 0 64 0, .lawset 0 0 0 0 256, .lawget 512 0 0 0 0,
    .lawget 0 0 0 64 0, .lawget 0 0 0 0 256, .recI 512 0 0 0, .recI 0 0 0 5, .illegal 512 0,
    .illegal 0 (2 ^ 32), .bar4Read 0 0 false, .inboxOpen 4, .inboxClose 4, .inboxWrite 0 [256],
    .handleIssue 4, .queue (2 ^ 32), .pgstart (2 ^ 32), .spdWrite 0 0, .spdWrite 16 0,
    .spdWrite 1 (2 ^ 32), .blockDecodeComplete 8 0, .blockDecodeComplete 0 16, .decoderResume 8, .redecodeComplete 16,
    .laneStateFault 8, .sensorLine 4 0 0 0 false [], .sensorLine 0 4 0 0 false [], .sensorLine 0 0 64 0 false [], .sensorLine 0 0 0 3 false [],
    .frameEnd 4 0 0, .frameEnd 0 4 0, .frameEnd 0 0 3, .encoderBlockComplete 2 false, .encoderOutputResume 2,
    .encoderEnable 2, .encoderDisable 2, .flush 2, .encoderAbort 2, .rdptrWrite 2 0,
    .rdptrWrite 0 (2 ^ 32), .dpop 2, .beamDetectEdge 6 0 0 0 false, .beamDetectEdge 0 0 256 0 false, .bstConfigWrite 6 0 0] : List Instr).all (fun i => !i.wf) = true := by decide

/-- Ill-formed commands, one for each check of `Instr.wf` (part 4). -/
theorem test_ill_formed_4 : ([.bstConfigWrite 0 3 0, .bstConfigWrite 0 0 (2 ^ 32), .beamDetectWindowOpen 6, .apcSlot 6 0 0, .apcSlot 0 0 (2 ^ 16),
    .dutyCeiling 6, .dutyWarning 6, .ldenWrite 6 0, .ldenWrite 0 2, .ldenSettleEnd 6,
    .pwrWrite 6 0, .pwrWrite 0 (2 ^ 32), .sendtrim 6, .raw 6, .laserSpiFrameDone 6 0,
    .laserSpiFrameDone 0 (2 ^ 16), .beamDetectMiss 6, .beamDetectBEdge 6 0 0 false, .scnEnable 6 false, .pfreqWrite 6 0,
    .pfreqWrite 0 (2 ^ 32), .sscWrite (2 ^ 32), .pixelPllUnlock 6, .markEdge 4 0 0, .markEdge 0 0 4096,
    .markMeasureEnd 4, .hvTrip 24 0 0, .hvTrip 0 4096 0, .hvTrip 0 0 4096, .hvTripclr 24,
    .hvCfgWrite 24 0, .hvCfgWrite 0 (2 ^ 32), .fuserInputClr 8, .zoneTripclr 4, .disagree 4,
    .bridgeCurrentLimit 2 0, .invenWrite (2 ^ 32), .mnsConfigWrite 0x1000 0, .mnsConfigWrite 0 (2 ^ 32), .standbyConverterStop 4,
    .focStart 12, .focStop 12, .fltclr 12, .observeEnd 12 0 0, .brakeTimeout 12,
    .alignEnd 12 0 0, .hfiHandover 12, .obsReturn 12, .motorTrip 12 0 false, .motorTrip 0 4096 false,
    .busOvervoltage 2 0 0, .busUndervoltage 2 0, .vsat 12, .spdinTimeout 4, .axsMove 36 0,
    .axsMove 0 (-(2 ^ 47) - 1), .axsMove 0 (2 ^ 47), .axsVel 36 0, .axsVel 0 (-(2 ^ 47) - 1), .axsVel 0 (2 ^ 47)] : List Instr).all (fun i => !i.wf) = true := by decide

/-- Ill-formed commands, one for each check of `Instr.wf` (part 5). -/
theorem test_ill_formed_5 : ([.axsAbort 36, .axsQstop 36, .axsHome 36, .axsSetpos 36 0, .axsSetpos 0 (-(2 ^ 47) - 1),
    .axsSetpos 0 (2 ^ 47), .axsClrflt 36, .moveCompletion 36, .limitPairWrite 36 0 0, .limitPairWrite 0 2 0,
    .limitPairWrite 0 0 (-(2 ^ 47) - 1), .limitPairWrite 0 0 (2 ^ 47), .switchQualified 36 0, .switchQualified 0 3, .homeEvent 36,
    .homingTimeout 36, .stall 36, .encoderCount 24 false false 0, .indexEdge 24 false, .dramRequest 4 0 false 0 [0] 0,
    .dramRequest 0 10 false 0 [0] 0, .dramRequest 0 0 false 0 [] 0, .dramRequest 0 0 false 0 [256] 0, .burstGrant 4 0 [], .dramReadComplete 4,
    .dramWriteComplete 4, .refresh 4 0 0, .refresh 0 2 0, .mr4Read 4 [], .mr4Read 0 [8],
    .wckOscillatorRead 4 0, .retrain 4, .dramTraining 4 [] 0 0 [] [], .scrub 4 [], .dmaGo 64,
    .dmaStart 64, .dmaMove 64, .dmaLoop 64, .dmaWait 64, .dmaWaitEnd 64,
    .dmaSignal 64, .dmaEnd 64, .dmaChunkRead 64 false [], .dmaChunkRead 0 false [256], .dmaWriteResponse 64 false,
    .dmaAbort 64, .dmaDisable 64, .dmaEnable 64, .slotsWrite 64 0, .slotsWrite 0 (2 ^ 32),
    .portTrained 2 0 false, .portDown 2 [] 0 0, .linkRequest 2 0, .linkFrame 2 false 0 0 false, .linkTimeout 2 0,
    .tickSet 2 0 0 0 0 false, .tickSet 0 (2 ^ 64) 0 0 0 false, .enumFrame 2 frame false, .enumFrame 0 { frame with ft := 256 } false, .msgFrame 2 frame false] : List Instr).all (fun i => !i.wf) = true := by decide

/-- Ill-formed commands, one for each check of `Instr.wf` (part 6). -/
theorem test_ill_formed_6 : ([.msgFrame 0 { frame with ft := 256 } false, .rrdFrame 2 frame false, .rrdFrame 0 { frame with ft := 256 } false, .rwrFrame 2 frame false, .rwrFrame 0 { frame with ft := 256 } false,
    .rspFrame 2 frame false, .rspFrame 0 { frame with ft := 256 } false, .ackFrame 2 frame false, .ackFrame 0 { frame with ft := 256 } false, .sheetFrame 2 frame false,
    .sheetFrame 0 { frame with ft := 256 } false, .remoteRead 1024, .remoteWrite 1024 false, .sheetEdge 4 0 false, .pwrAck 256,
    .wake 0 0, .wake 8 0, .nextevtWrite (2 ^ 64), .housekeepingSample 32 0 false, .housekeepingSample 0 (-(2 ^ 15) - 1) false,
    .housekeepingSample 0 (2 ^ 15) false, .supplyWarning 7 0 0, .supplyReset 7 0 0, .minverWrite (2 ^ 32), .frankingAdd 16 0,
    .frankingAdd 0 (2 ^ 32), .frkinit 16, .unlock 4, .recordWrite 1, .recNext 2,
    .startStepOverrun 8, .sramUncorrectable 10 0 0 0, .rtcWrite false (2 ^ 64), .eventCapture 16 0 false 0, .spiTx 2 0,
    .spiTx 0 (2 ^ 32), .spiFrameDone 2 0, .spiFrameDone 0 (2 ^ 32), .i2cGo 4 0 0 0, .i2cGo 0 8 0 0,
    .i2cGo 0 0 8 0, .i2cGo 0 0 0 128, .i2cTransferEnd 4 [] false false, .i2cTransferEnd 0 [256] false false, .uartTx 2 0,
    .uartTx 0 256, .uartReceive 2 0, .uartReceive 0 256, .uartPop 2, .pcieLinkUp 16 0 false,
    .pcieLinkUp 0 64 false, .busUndervoltageClear 2 0, .switchEdge 64 false, .frameStart 4 0 0, .frameStart 0 4 0,
    .frameStart 0 0 3, .uartByteSent 2] : List Instr).all (fun i => !i.wf) = true := by decide

/-! ### Encodings, each word written out field by field from Tables 4-1 to 4-9 -/

theorem test_word_add : decodeInsn 0 (0x01 * 2 ^ 26 + 1 * 2 ^ 22 + 2 * 2 ^ 18 + 3 * 2 ^ 14 + 0x00 * 2 ^ 8) = some (.add 0 1 2 3) := by decide
theorem test_word_divs : decodeInsn 0 (0x01 * 2 ^ 26 + 1 * 2 ^ 22 + 2 * 2 ^ 18 + 3 * 2 ^ 14 + 0x10 * 2 ^ 8) = some (.divs 0 1 2 3) := by decide
theorem test_word_pshuf : decodeInsn 0 (0x02 * 2 ^ 26 + 4 * 2 ^ 22 + 5 * 2 ^ 18 + 6 * 2 ^ 14 + 0x0C * 2 ^ 8) = some (.pshufB 0 4 5 6) := by decide
theorem test_word_movi : decodeInsn 0 0x28800001 = some (.movi 0 2 1) := by decide
theorem test_word_rori : decodeInsn 0 (0x09 * 2 ^ 26 + 1 * 2 ^ 22 + 2 * 2 ^ 18 + 3 * 2 ^ 16 + 31) = some (.rori 0 1 2 31) := by decide
theorem test_word_mfs : decodeInsn 0 (0x0D * 2 ^ 26 + 7 * 2 ^ 22 + 6) = some (.mfsActs 0 7) := by decide
theorem test_word_bgt : decodeInsn 0 (0x10 * 2 ^ 26 + 0xD * 2 ^ 22 + 0x3FFFFF) = some (.bCond 0 13 0x3FFFFF) := by decide
theorem test_word_blr : decodeInsn 0 (0x12 * 2 ^ 26 + 15 * 2 ^ 18 + 1 * 2 ^ 8) = some (.blr 0 15) := by decide
theorem test_word_cbnz : decodeInsn 0 (0x13 * 2 ^ 26 + 3 * 2 ^ 22 + 2 ^ 21 + 9) = some (.cbnz 0 3 9) := by decide
theorem test_word_lds : decodeInsn 0 (0x1C * 2 ^ 26 + 1 * 2 ^ 22 + 2 * 2 ^ 18 + 1 * 2 ^ 16 + 8) = some (.lds 0 1 1 2 8) := by decide
theorem test_word_cas : decodeInsn 0 (0x1F * 2 ^ 26 + 1 * 2 ^ 22 + 2 * 2 ^ 18 + 3 * 2 ^ 14 + 2 * 2 ^ 8) = some (.cas 0 1 2 3) := by decide
theorem test_word_iow_at : decodeInsn 0 0x84840004 = some (.iowAt 0 2 1 0 4) := by decide
theorem test_word_wait : decodeInsn 0 (0x25 * 2 ^ 26 + 2 ^ 20 + 5) = some (.wait 0 false true 0 5) := by decide
theorem test_word_yield_end : decodeInsn 0 0xA0000001 = some (.yieldEnd 0) := by decide
theorem test_word_msg : decodeInsn 0 (0x2C * 2 ^ 26 + 1 * 2 ^ 22 + 2 * 2 ^ 18 + 2 ^ 17 + 3 * 2 ^ 8) = some (.msg 0 1 2 true 3) := by decide
theorem test_word_lawset : decodeInsn 0 (0x2E * 2 ^ 26 + 1 * 2 ^ 22 + 2 * 2 ^ 18 + 5 * 2 ^ 12 + 0xFF) = some (.lawset 0 1 2 5 0xFF) := by decide
theorem test_word_zero_is_illegal : decodeInsn 0 0 = none := by decide
theorem test_word_cond_8_is_illegal : decodeInsn 0 (0x10 * 2 ^ 26 + 8 * 2 ^ 22) = none := by decide

/-! ### Worked examples and tables of the spec -/

/-- R182 and Table 6-10: the CRC of the bytes 0x31 to 0x39. -/
theorem test_crc32 : crc32 [0x31, 0x32, 0x33, 0x34, 0x35, 0x36, 0x37, 0x38, 0x39] = 0xCBF43926 := by decide +kernel

/-- Table 6-10: the stored block decodes to its nine pixels. -/
theorem test_block_by_hand : (match decodeBlock 3 3 0 0 [0x56, 0x52, 1, 0, 3, 0, 3, 0, 0, 0, 0, 0, 0, 0, 0, 0, 0x0F, 0xFF, 0xFF, 0xF1, 0x8A, 0x54,
    0x95, 0x24, 3, 0, 0, 0xC3, 0x26, 0x39, 0xF4, 0xCB] with
    | .ok l => l == [[49, 50, 51], [52, 53, 54], [55, 56, 57]] | .error _ => false) = true := by decide +kernel

/-- Chapter 16: the burst at usable address 80,882,240 with 352 data rows to a group. -/
theorem test_dram_map : dramMap (7 * 4096) 80882240 = { bank := 5, rank := 0, row := 2820, crow := 2823, cbyte := 1096 } := by decide

/-- A context that declares WCC and activations, and a pin. -/
def declared (wcc acts : Nat) (pin : Option Nat) : CtxDecl := ⟨false, pin, 0, acts, false, 0, wcc, 0, 0, 0, []⟩

/-- The contexts of Table 2-7. -/
def sixStations : List (Nat × CtxDecl) :=
  [(0, declared 6000 2 (some 0)), (1, declared 2500 2 none), (2, declared 1200 1 none), (3, declared 900 1 none), (4, declared 200 1 none),
   (32, declared 8000 1 none)] ++ ([8, 9, 10, 11, 12, 13].map (fun c => (c, declared 2400 1 none))) ++
  ([16, 17, 18, 19, 20, 21].map (fun c => (c, declared 3000 1 none))) ++ ([24, 25, 26, 27].map (fun c => (c, declared 1800 1 none)))

/-- Table 2-8: the cycles of the eight logical pairs. -/
theorem test_placement_of_six_stations :
    (pairFit sixStations).load = [6996, 8032, 7060, 7896, 7296, 7296, 7296, 7296] := by decide +kernel

/-- The example of chapter 0: stepping B, fuse revision 1 of a VYT-P5M. -/
theorem test_sys_ident : ({ base with variant := .p5m, stepping := 2, fuseRev := 1 } : State).readReg 0 = 0x56599521 := by decide +kernel

/-- R50 on a P6M: the map of a module whose lanes 0 to 5 serve their own station, and one that leaves S0 without a lane. -/
theorem test_lane_map : base.laneBad 0x0E543210 ≠ some 0 ∧ base.laneBad 0x0E543211 ≠ none := by decide +kernel

/-- Law 30 of Table 11-5, as placed at phase 8. -/
def law30 : LawDecl :=
  { law := 30, type := .pi, cls := 3, initAct := true, pinPh := false, pinEng := none, phase := 8, altGrp := 0
    meas := ⟨0x72024, 0, 12, 0, false⟩, aux := none, sp := none, tgt := ⟨0x72018, 0, 16, 0, false⟩, tgt2 := none
    ein := -3, egain := -12, eout := 1, eaux := 0, init := [], engine := 0, slot := 0, oph := 8 }

/-- Table 11-6: law 30 regulates, and its set-point has become 22,400. -/
def law30At : Law :=
  { Law.blank with
    decl := some law30, active := true, setpt := 22400, spApplied := 20800, meas := 20816, ramp := 160, outMin := 0, outMax := 0x7FFF
    slew := 256, kp := 2048, ki := 256, r := 20800, iw := 984612864, out := 15024 }

/-- Table 11-6: the evaluations of ticks 7,001 and 7,002. -/
theorem test_law_30 :
    let a := (law30At.eval law30 ⟨2602, 0, 0, 0, 0⟩).1
    let b := (a.eval law30 ⟨2602, 0, 0, 0, 0⟩).1
    (a.meas, a.r, a.out, a.iw) = (20816, 20976, 15030, 984653824) ∧ (b.r, b.out, b.iw) = (21136, 15036, 984735744) := by decide

/-! ### One step on a small state -/

/-- The queue's front is taken, and an empty queue idles. -/
theorem test_step : (match step ({ base with pending := [.rxpop, .ackpop] } : State) with | .next t => t.pending == [.ackpop] | _ => false) = true ∧
    (match step base with | .next t => decide (t = base) | _ => false) = true := by decide +kernel

/-- ADD of 0xFFFFFFFF and 1: 0 with C and Z, one cycle, PC 1. -/
theorem test_add_wraps : after (.add 0 4 1 2) (runs (.add 0 4 1 2) 0xFFFFFFFF 1 0) (fun t =>
    let x := t.ctx 0
    (x.reg 4).toNat == 0 && x.cy && x.z && !x.n && !x.v && x.pc == 1 && x.budget == 99) = true := by decide +kernel

/-- SUB of the most negative number and 1 overflows; C is the borrow. -/
theorem test_sub_overflows : after (.sub 0 1 1 2) (runs (.sub 0 1 1 2) 0x80000000 1 0) (fun t =>
    let x := t.ctx 0
    (x.reg 1).toNat == 0x7FFFFFFF && x.v && !x.cy && !x.n) = true := by decide +kernel

/-- A context that sends an I/O address beyond the BAR faults with ADDR and the full count. -/
theorem test_ior_fault : after (.ior 0 4 1 0) (runs (.ior 0 4 1 0) 0x180000 0 0) (fun t =>
    let x := t.ctx 0
    x.st == .faulted && x.fcode == 2 && x.pc == 0 && x.budget == 94) = true := by decide +kernel

/-- Chapter 13: a half-cycle of 186.3 V at NOM 230 V turns NORMAL into WARN. -/
theorem test_dip : after (.zeroCross 1863 10000) (base.setMns { Mns.blank with st := 2, nom := 4, row := 4, rms := 2280, len := 10000 })
    (fun t => t.power.mns.st == 3) = true := by decide +kernel

/-- Chapter 13: 130 V and 120 V in a row turn WARN into LOSS, with every output off. -/
theorem test_loss : after (.zeroCross 1200 10000) (base.setMns { Mns.blank with st := 3, nom := 4, row := 4, lowRun := 1, applied := [329, 0, 73, 0] })
    (fun t => t.power.mns.st == 4 && t.power.mns.applied == [0, 0, 0, 0]) = true := by decide +kernel

/-- Every command of a machine in which nothing is set up completes, one of each block. -/
theorem test_commands_complete : ([.cntlatch, .pgstart 5, .beamDetectMiss 0, .hvTrip 0 0 0, .focStart 0, .axsHome 0, .dmaGo 0, .enumW, .thrclr, .chal,
    .recNext 0, .kick, .uartPop 0] : List Instr).all (fun i => after i base (fun t => t.pending.isEmpty)) = true := by decide +kernel


/-! ### The hypotheses of each statement are met

One theorem a statement, or several where its clauses need different states: the hypotheses of every clause hold at a small state.
Statements without hypotheses have none. -/

/-- A command waits. -/
def waiting : State := { base with pending := [.rxpop, .ackpop] }

theorem witness_step_takes_front : waiting.pending = .rxpop :: [.ackpop] ∧ base.pending = [] := ⟨rfl, rfl⟩

theorem witness_step_keeps_invariant : waiting.inv = true ∧ ∃ t, step waiting = .next t := ⟨by decide +kernel, _, rfl⟩

set_option maxRecDepth 100000 in
theorem witness_reset_state : findReg (R.SEQ_STAT.addr 0 0) = some (R.SEQ_STAT, 0, 0) ∧ R.SEQ_STAT.addr 0 0 = R.SEQ_STAT.addr 0 0 ∧
    R.SEQ_STAT.res.absent .p6m 0 0 = false := ⟨rfl, rfl, rfl⟩

theorem witness_identification : base.stepping < 16 ∧ base.fuseRev < 16 := by decide

theorem witness_encode_decode_agree : (Instr.add 511 15 15 15).wf = true ∧ encodeInsn (.add 511 15 15 15) = some 0x07FFC000 ∧
    511 < 512 ∧ 0x07FFC000 < 2 ^ 32 ∧ decodeInsn 511 0x07FFC000 = some (.add 511 15 15 15) := by decide

namespace Yart

/-! States for the statements about the Yartum instructions. -/

/-- Law 30 of Table 11-5, as placed at phase 8. -/
def law30 : LawDecl :=
  { law := 30, type := .pi, cls := 3, initAct := true, pinPh := false, pinEng := none, phase := 8, altGrp := 0
    meas := ⟨0x72024, 0, 12, 0, false⟩, aux := none, sp := none, tgt := ⟨0x72018, 0, 16, 0, false⟩, tgt2 := none
    ein := -3, egain := -12, eout := 1, eaux := 0, init := [], engine := 0, slot := 0, oph := 8 }

def dat (s : State) : State := { s with data := memWrite s.data 0x10 8 0x8877F5C4B3A29180, seq := { s.seq with ctx := s.seq.ctx.set 0 { s.ctx 0 with loc := memWrite [] 0 16 0xFFEEDDCC998877F5C4B3A29180 } } }
def lawful (s : State) : State := { s with lpe := { s.lpe with law := s.lpe.law.set 0 { Law.blank with decl := some law30, setpt := 9 }, ckpt := s.lpe.ckpt.set 0 { Law.blank with decl := some law30, setpt := 100 } } }
def wtg (s : State) (f : Nat) : State := { s with seq := { s.seq with ctx := ((s.seq.ctx.set 3 { ctx 1 2 3 with st := .waiting, waitFlag := f, waitConsume := true }).set 4 { ctx 1 2 3 with st := .waiting, waitFlag := f }).set 5 { ctx 1 2 3 with st := .waiting, waitFlag := f, waitTimed := true } } }
def noSeq (s : State) : State := State.put s [(F.DMA_C_CFG_SEQ, 1, 0)]
def seqFull (s : State) : State := { (State.put s [(F.DMA_C_CFG_SEQ, 1, 1)]) with seq := { s.seq with ctx := s.seq.ctx.set 0 { s.ctx 0 with nDma := 4 } } }
def sgf (s : State) (f : Nat) : State := { (s.putFlag f true) with seq := { s.seq with sigs := [⟨f, 0, false⟩] } }

/-- The part is a K1M. -/
def k1 (s : State) : State := { s with variant := .k1m }

/-- The first instruction word replaced. -/
def ill (s : State) (w : Nat) : State := { s with prog := memWrite [] 0 4 w }

theorem witness_arithmetic_result : ∀ i ∈ ([.add 0 4 1 2, .adc 0 4 1 2, .sub 0 4 1 2, .sbc 0 4 1 2, .andR 0 4 1 2, .orR 0 4 1 2,
    .xorR 0 4 1 2, .bic 0 4 1 2, .shl 0 4 1 2, .shr 0 4 1 2, .sar 0 4 1 2, .ror 0 4 1 2,
    .mul 0 4 1 2, .mulh 0 4 1 2, .mulhu 0 4 1 2, .divu 0 4 1 2, .divs 0 4 1 2, .minS 0 4 1 2,
    .maxS 0 4 1 2, .minu 0 4 1 2, .maxu 0 4 1 2, .adds 0 4 1 2, .subs 0 4 1 2, .addsu 0 4 1 2,
    .subsu 0 4 1 2, .neg 0 4 1, .absR 0 4 1, .cmp 0 1 2, .tst 0 1 2, .clz 0 4 1] : List Instr), (runs i 8 2 3).executes 0 i = true := by
  decide +kernel

theorem witness_packed_result : ∀ i ∈ ([.psadB 0 1 1 2, .paddB 0 1 1 2, .psubB 0 1 1 2, .paddusB 0 1 1 2, .psubusB 0 1 1 2, .paddsB 0 1 1 2,
    .psubsB 0 1 1 2, .pmaxuB 0 1 1 2, .pminuB 0 1 1 2, .pavguB 0 1 1 2, .pcmpeqB 0 1 1 2, .pcmpgtuB 0 1 1 2,
    .pshufB 0 1 1 2] : List Instr), (runs i 8 2 3).executes 0 i = true := by
  decide +kernel

def y387 : State := dat (runs (.ldl 0 0 4 1 4) 8 0 0)

def y389 : State := dat (runs (.ldlx 0 0 4 1 4) 8 0 0)

def y391 : State := dat (runs (.lds 0 0 4 1 4) 8 0 0)

def y393 : State := dat (runs (.ldsx 0 0 4 1 4) 8 0 0)

theorem witness_load_result :
    0 < 3 ∧
    (y387.ctx 0).addrM 1 4 % 2 ^ 0 = 0 ∧
    (y387.ctx 0).addrM 1 4 + 2 ^ 0 ≤ 1024 ∧
    y387.executes 0 (Instr.ldl 0 0 4 1 4) = true ∧
    (∀ j ∈ y387.seq.journal, j.cyc = y387.cycleOf 0 → j.pair = (y387.ctx 0).pair) ∧
    0 < 3 ∧
    (y389.ctx 0).addrM 1 4 % 2 ^ 0 = 0 ∧
    (y389.ctx 0).addrM 1 4 + 2 ^ 0 ≤ 1024 ∧
    y389.executes 0 (Instr.ldlx 0 0 4 1 4) = true ∧
    0 < 3 ∧
    (y391.ctx 0).addrM 1 4 % 2 ^ 0 = 0 ∧
    ((y391.ctx 0).addrM 1 4 + 2 ^ 0 ≤ if y391.variant.isX0 = true then 54525952 else 4194304) ∧
    y391.executes 0 (Instr.lds 0 0 4 1 4) = true ∧
    0 < 3 ∧
    (y393.ctx 0).addrM 1 4 % 2 ^ 0 = 0 ∧
    ((y393.ctx 0).addrM 1 4 + 2 ^ 0 ≤ if y393.variant.isX0 = true then 54525952 else 4194304) ∧
    y393.executes 0 (Instr.ldsx 0 0 4 1 4) = true := by
  decide +kernel

def y395 : State := dat (runs (.stl 0 0 2 1 4) 0x10 0xDEADBEEF 0)

def y396 : State := dat (runs (.sts 0 0 2 1 4) 0x10 0xDEADBEEF 0)

theorem witness_store_result :
    0 < y395.seq.ctx.length ∧
    0 < 3 ∧
    (y395.ctx 0).addrM 1 4 % 2 ^ 0 = 0 ∧
    (y395.ctx 0).addrM 1 4 + 2 ^ 0 ≤ 1024 ∧
    y395.executes 0 (Instr.stl 0 0 2 1 4) = true ∧
    0 < y396.seq.ctx.length ∧
    0 < 3 ∧
    (y396.ctx 0).addrM 1 4 % 2 ^ 0 = 0 ∧
    ((y396.ctx 0).addrM 1 4 + 2 ^ 0 ≤ if y396.variant.isX0 = true then 54525952 else 4194304) ∧
    y396.executes 0 (Instr.sts 0 0 2 1 4) = true := by
  decide +kernel

def y417 : State := dat (runs (.xadd 0 2 1 3) 0x10 0x8877 0x12345678)

def y418 : State := dat (runs (.xchg 0 2 1 3) 0x10 0x8877 0x12345678)

def y419 : State := dat (runs (.cas 0 2 1 3) 0x10 0x8877 0x12345678)

def y420 : State := dat (runs (.cas 0 2 1 3) 0x10 0xB3A29180 0x12345678)

theorem witness_atomic_result :
    BitVec.toNat ((y417.ctx 0).reg 1) % 4 = 0 ∧
    (BitVec.toNat ((y417.ctx 0).reg 1) + 4 ≤ if y417.variant.isX0 = true then 54525952 else 4194304) ∧
    y417.executes 0 (Instr.xadd 0 2 1 3) = true ∧
    BitVec.toNat ((y418.ctx 0).reg 1) % 4 = 0 ∧
    (BitVec.toNat ((y418.ctx 0).reg 1) + 4 ≤ if y418.variant.isX0 = true then 54525952 else 4194304) ∧
    y418.executes 0 (Instr.xchg 0 2 1 3) = true ∧
    BitVec.toNat ((y419.ctx 0).reg 1) % 4 = 0 ∧
    (BitVec.toNat ((y419.ctx 0).reg 1) + 4 ≤ if y419.variant.isX0 = true then 54525952 else 4194304) ∧
    BitVec.ofNat 32 (memRead y419.data (BitVec.toNat ((y419.ctx 0).reg 1)) 4) ≠ (y419.ctx 0).reg 2 ∧
    y419.executes 0 (Instr.cas 0 2 1 3) = true ∧
    BitVec.toNat ((y420.ctx 0).reg 1) % 4 = 0 ∧
    (BitVec.toNat ((y420.ctx 0).reg 1) + 4 ≤ if y420.variant.isX0 = true then 54525952 else 4194304) ∧
    BitVec.ofNat 32 (memRead y420.data (BitVec.toNat ((y420.ctx 0).reg 1)) 4) = (y420.ctx 0).reg 2 ∧
    y420.executes 0 (Instr.cas 0 2 1 3) = true := by
  decide +kernel

def y421 : State := runs (.bCond 0 4 5) 0xFFF00017 0 0

def y422 : State := runs (.bl 0 5) 0xFFF00017 0 0

def y423 : State := runs (.cbz 0 1 5) 0xFFF00017 0 0

def y424 : State := runs (.cbnz 0 1 5) 0xFFF00017 0 0

def y425 : State := runs (.br 0 1) 0xFFF00017 0 0

def y426 : State := runs (.blr 0 1) 0xFFF00017 0 0

theorem witness_branch_result :
    4 < 16 ∧
    4 ≠ 8 ∧
    y421.executes 0 (Instr.bCond 0 4 5) = true ∧
    y422.executes 0 (Instr.bl 0 5) = true ∧
    y423.executes 0 (Instr.cbz 0 1 5) = true ∧
    y424.executes 0 (Instr.cbnz 0 1 5) = true ∧
    y425.executes 0 (Instr.br 0 1) = true ∧
    y426.executes 0 (Instr.blr 0 1) = true := by
  decide +kernel

def y438 : State := (runs (.wait 0 false false 0 5) 0 0 0).putFlag 5 false

def y440 : State := (runs (.waite 0 false 1 5) 0 0 0).putFlag 5 false

def y441 : State := (runs (.waite 0 false 1 5) 9 0 0).putFlag 5 false

def y446 : State := (runs (.wait 0 false false 0 5) 0 0 0).putFlag 5 true

def y448 : State := (runs (.waite 0 false 1 5) 0 0 0).putFlag 5 true

def y454 : State := runs (.waitt 0 false false 0 77) 9 0 0

def y458 : State := runs (.yield 0) 0 0 0

def y459 : State := runs (.yieldEnd 0) 0 0 0

def y460 : State := runs (.halt 0) 0 0 0

def y461 : State := sgf (runs (.wait 0 false true 0 5) 8 0 0) 5

def y463 : State := sgf (runs (.waite 0 true 1 5) 8 0 0) 5

theorem witness_wait_result :
    0 < y438.seq.ctx.length ∧
    ((if false = true then BitVec.toNat ((y438.ctx 0).reg 0) else 5) ≤ 1023) ∧
    (y438.sampled 0 (if false = true then BitVec.toNat ((y438.ctx 0).reg 0) else 5) = false) ∧
    (((y438.seq.sigs.any fun r => (r.flag == if false = true then BitVec.toNat ((y438.ctx 0).reg 0) else 5) && r.cyc == y438.cycleOf 0) && y438.flag (if false = true then BitVec.toNat ((y438.ctx 0).reg 0) else 5)) = false) ∧
    y438.executes 0 (Instr.wait 0 false false 0 5) = true ∧
    0 < y440.seq.ctx.length ∧
    y440.sampled 0 5 = false ∧
    BitVec.toNat ((y440.ctx 0).reg 1) % 2 ^ 24 = 0 ∧
    y440.executes 0 (Instr.waite 0 false 1 5) = true ∧
    0 < y441.seq.ctx.length ∧
    y441.sampled 0 5 = false ∧
    0 < BitVec.toNat ((y441.ctx 0).reg 1) % 2 ^ 24 ∧
    ((y441.seq.sigs.any fun r => r.flag == 5 && r.cyc == y441.cycleOf 0) && y441.flag 5) = false ∧
    y441.executes 0 (Instr.waite 0 false 1 5) = true ∧
    0 < y446.seq.ctx.length ∧
    ((if false = true then BitVec.toNat ((y446.ctx 0).reg 0) else 5) ≤ 1023) ∧
    (y446.sampled 0 (if false = true then BitVec.toNat ((y446.ctx 0).reg 0) else 5) = true) ∧
    y446.executes 0 (Instr.wait 0 false false 0 5) = true ∧
    0 < y448.seq.ctx.length ∧
    y448.sampled 0 5 = true ∧
    y448.executes 0 (Instr.waite 0 false 1 5) = true ∧
    0 < y454.seq.ctx.length ∧
    y454.executes 0 (Instr.waitt 0 false false 0 77) = true ∧
    0 < y458.seq.ctx.length ∧
    y458.executes 0 (Instr.yield 0) = true ∧
    0 < y459.seq.ctx.length ∧
    y459.executes 0 (Instr.yieldEnd 0) = true ∧
    0 < y460.seq.ctx.length ∧
    y460.executes 0 (Instr.halt 0) = true ∧
    0 < y461.seq.ctx.length ∧
    ((if false = true then BitVec.toNat ((y461.ctx 0).reg 0) else 5) ≤ 1023) ∧
    (y461.sampled 0 (if false = true then BitVec.toNat ((y461.ctx 0).reg 0) else 5) = false) ∧
    (((y461.seq.sigs.any fun r => (r.flag == if false = true then BitVec.toNat ((y461.ctx 0).reg 0) else 5) && r.cyc == y461.cycleOf 0) && y461.flag (if false = true then BitVec.toNat ((y461.ctx 0).reg 0) else 5)) = true) ∧
    y461.executes 0 (Instr.wait 0 false true 0 5) = true ∧
    0 < y463.seq.ctx.length ∧
    y463.sampled 0 5 = false ∧
    0 < BitVec.toNat ((y463.ctx 0).reg 1) % 2 ^ 24 ∧
    ((y463.seq.sigs.any fun r => r.flag == 5 && r.cyc == y463.cycleOf 0) && y463.flag 5) = true ∧
    y463.executes 0 (Instr.waite 0 true 1 5) = true := by
  decide +kernel

def y465 : State := runs (.iowAt 0 3 1 1 2) 0x150010 0 0x55

def y466 : State := dat (runs (.msg 0 1 2 true 3) 0x120405 0 0)

def y468 : State := State.put (runs (.dmago 0 1 2) 1 0x44 0) [(F.DMA_C_CFG_SEQ, 1, 1)]

def y469 : State := dat (runs (.recI 0 1 2 4) 0x9005 0 0)

def y471 : State := lawful (runs (.lawset 0 3 1 0 0xFC) 0 0 0x55)

theorem witness_deferred_result :
    1 < 5 ∧
    BitVec.toNat ((y465.ctx 0).reg 1 + BitVec.ofNat 32 (4 * 2)) < 1572864 ∧
    BitVec.toNat ((y465.ctx 0).reg 1 + BitVec.ofNat 32 (4 * 2)) % 4 = 0 ∧
    y465.absentAt (BitVec.toNat ((y465.ctx 0).reg 1 + BitVec.ofNat 32 (4 * 2))) = false ∧
    y465.lawOwned (BitVec.toNat ((y465.ctx 0).reg 1 + BitVec.ofNat 32 (4 * 2))) = false ∧
    (y465.ctx 0).twSlot (2 * 1 + 2) (BitVec.toNat ((y465.ctx 0).reg 1 + BitVec.ofNat 32 (4 * 2))) = some 0 ∧
    y465.executes 0 (Instr.iowAt 0 3 1 1 2) = true ∧
    BitVec.toNat ((y466.ctx 0).reg 2) % 4 = 0 ∧
    BitVec.toNat ((y466.ctx 0).reg 2) + 4 * (3 + 1) ≤ 1024 ∧
    bits (BitVec.toNat ((y466.ctx 0).reg 1)) 23 16 < 240 ∧
    (y466.ctx 0).nMsg < 4 ∧
    y466.executes 0 (Instr.msg 0 1 2 true 3) = true ∧
    y468.dmaSeq (BitVec.toNat ((y468.ctx 0).reg 1) % 64) = true ∧
    (y468.ctx 0).nDma < 4 ∧
    y468.executes 0 (Instr.dmago 0 1 2) = true ∧
    4 ≤ 4 ∧
    (4 = 0 ∨ BitVec.toNat ((y469.ctx 0).reg 2) % 4 = 0 ∧ BitVec.toNat ((y469.ctx 0).reg 2) + 4 * 4 ≤ 1024) ∧
    32768 ≤ BitVec.toNat ((y469.ctx 0).reg 1) % 2 ^ 16 ∧
    (y469.ctx 0).nRec < 4 ∧
    y469.executes 0 (Instr.recI 0 1 2 4) = true ∧
    (y471.law (BitVec.toNat ((y471.ctx 0).reg 1))).writable 0 = true ∧
    (y471.ctx 0).nLaw < 16 ∧
    y471.executes 0 (Instr.lawset 0 3 1 0 252) = true := by
  decide +kernel

def y474 : State := runs (.sig 0 false 0 5) 0 0 0

def y477 : State := runs (.ior 0 4 1 4) 0 0 0

def y478 : State := lawful (runs (.lawget 0 4 1 0 0xFC) 0 0 0)

theorem witness_signal_and_read :
    0 < y474.seq.ctx.length ∧
    ((if false = true then BitVec.toNat ((y474.ctx 0).reg 0) else 5) ≤ 767) ∧
    y474.executes 0 (Instr.sig 0 false 0 5) = true ∧
    0 < y477.seq.ctx.length ∧
    (y477.ctx 0).addrM 1 4 < 1572864 ∧
    (y477.ctx 0).addrM 1 4 % 4 = 0 ∧
    y477.absentAt ((y477.ctx 0).addrM 1 4) = false ∧
    y477.executes 0 (Instr.ior 0 4 1 4) = true ∧
    0 < y478.seq.ctx.length ∧
    (y478.law (BitVec.toNat ((y478.ctx 0).reg 1))).readable 0 = true ∧
    y478.executes 0 (Instr.lawget 0 4 1 0 252) = true := by
  decide +kernel

def y481 : State := runs (.ldl 0 0 4 1 8) 1016 0 0

def y483 : State := runs (.ldlx 0 0 4 1 8) 1016 0 0

def y485 : State := runs (.stl 0 0 4 1 8) 1016 0 0

def y487 : State := runs (.lds 0 0 4 1 8) 4194296 0 0

def y489 : State := runs (.ldsx 0 0 4 1 8) 4194296 0 0

def y491 : State := runs (.sts 0 0 4 1 8) 4194296 0 0

def y494 : State := runs (.ldl 0 1 4 1 8) 1 0 0

def y496 : State := runs (.ldlx 0 1 4 1 8) 1 0 0

def y498 : State := runs (.stl 0 1 4 1 8) 1 0 0

def y500 : State := runs (.lds 0 1 4 1 8) 1 0 0

def y502 : State := runs (.ldsx 0 1 4 1 8) 1 0 0

def y504 : State := runs (.sts 0 1 4 1 8) 1 0 0

def y517 : State := runs (.xadd 0 4 1 2) 4194301 0 0

def y518 : State := runs (.xadd 0 4 1 2) 2 0 0

def y519 : State := runs (.xchg 0 4 1 2) 4194301 0 0

def y520 : State := runs (.xchg 0 4 1 2) 2 0 0

def y521 : State := runs (.cas 0 4 1 2) 4194301 0 0

def y522 : State := runs (.cas 0 4 1 2) 2 0 0

def y523 : State := runs (.ior 0 4 1 0) 1572864 0 0

def y524 : State := runs (.ior 0 4 1 0) 2 0 0

def y526 : State := runs (.iowAt 0 4 1 1 2) 1572864 0 0

def y527 : State := runs (.iowAt 0 4 1 1 2) 1 0 0

def y528 : State := runs (.iowAt 0 4 1 1 2) 256 0 0

def y529 : State := runs (.sig 0 true 1 0) 768 0 0

def y531 : State := runs (.wait 0 true true 1 0) 1024 0 0

def y532 : State := runs (.lawset 0 4 1 63 5) 300 0 0

def y533 : State := runs (.lawget 0 4 1 63 5) 300 0 0

def y534 : State := noSeq (runs (.dmago 0 1 2) 1 0 0)

def y535 : State := seqFull (runs (.dmago 0 1 2) 1 0 0)

def y536 : State := runs (.msg 0 1 2 true 3) 5 1009 0

def y537 : State := runs (.msg 0 1 2 true 3) 5 2 0

def y538 : State := runs (.msg 0 1 2 true 3) 15728645 0 0

def y539 : State := runs (.recI 0 1 2 2) 36864 1020 0

def y540 : State := runs (.recI 0 1 2 2) 32767 0 0

def yx0 : State := k1 (runs (.ior 0 4 1 0) 131176 0 0)

def yx1 : State := k1 (runs (.iowAt 0 4 1 1 2) 131168 0 0)

def yx2 : State := ill (runs (.halt 0) 0 0 0) 0xFFFFFFFF

theorem witness_instruction_faults_1 :
    0 < y481.seq.ctx.length ∧
    0 < 3 ∧
    1024 < (y481.ctx 0).addrM 1 8 + 2 ^ 0 ∧
    y481.executes 0 (Instr.ldl 0 0 4 1 8) = true ∧
    0 < y483.seq.ctx.length ∧
    0 < 3 ∧
    1024 < (y483.ctx 0).addrM 1 8 + 2 ^ 0 ∧
    y483.executes 0 (Instr.ldlx 0 0 4 1 8) = true ∧
    0 < y485.seq.ctx.length ∧
    0 < 3 ∧
    1024 < (y485.ctx 0).addrM 1 8 + 2 ^ 0 ∧
    y485.executes 0 (Instr.stl 0 0 4 1 8) = true ∧
    0 < y487.seq.ctx.length ∧
    0 < 3 ∧
    ((if y487.variant.isX0 = true then 54525952 else 4194304) < (y487.ctx 0).addrM 1 8 + 2 ^ 0) ∧
    y487.executes 0 (Instr.lds 0 0 4 1 8) = true ∧
    0 < y489.seq.ctx.length ∧
    0 < 3 ∧
    ((if y489.variant.isX0 = true then 54525952 else 4194304) < (y489.ctx 0).addrM 1 8 + 2 ^ 0) ∧
    y489.executes 0 (Instr.ldsx 0 0 4 1 8) = true ∧
    0 < y491.seq.ctx.length ∧
    0 < 3 ∧
    ((if y491.variant.isX0 = true then 54525952 else 4194304) < (y491.ctx 0).addrM 1 8 + 2 ^ 0) ∧
    y491.executes 0 (Instr.sts 0 0 4 1 8) = true ∧
    0 < y494.seq.ctx.length ∧
    1 < 3 ∧
    (y494.ctx 0).addrM 1 8 + 2 ^ 1 ≤ 1024 ∧
    (y494.ctx 0).addrM 1 8 % 2 ^ 1 ≠ 0 ∧
    y494.executes 0 (Instr.ldl 0 1 4 1 8) = true ∧
    0 < y496.seq.ctx.length ∧
    1 < 3 ∧
    (y496.ctx 0).addrM 1 8 + 2 ^ 1 ≤ 1024 ∧
    (y496.ctx 0).addrM 1 8 % 2 ^ 1 ≠ 0 ∧
    y496.executes 0 (Instr.ldlx 0 1 4 1 8) = true ∧
    0 < y498.seq.ctx.length ∧
    1 < 3 ∧
    (y498.ctx 0).addrM 1 8 + 2 ^ 1 ≤ 1024 ∧
    (y498.ctx 0).addrM 1 8 % 2 ^ 1 ≠ 0 ∧
    y498.executes 0 (Instr.stl 0 1 4 1 8) = true ∧
    0 < y500.seq.ctx.length := by
  decide +kernel

theorem witness_instruction_faults_2 :
    1 < 3 ∧
    ((y500.ctx 0).addrM 1 8 + 2 ^ 1 ≤ if y500.variant.isX0 = true then 54525952 else 4194304) ∧
    (y500.ctx 0).addrM 1 8 % 2 ^ 1 ≠ 0 ∧
    y500.executes 0 (Instr.lds 0 1 4 1 8) = true ∧
    0 < y502.seq.ctx.length ∧
    1 < 3 ∧
    ((y502.ctx 0).addrM 1 8 + 2 ^ 1 ≤ if y502.variant.isX0 = true then 54525952 else 4194304) ∧
    (y502.ctx 0).addrM 1 8 % 2 ^ 1 ≠ 0 ∧
    y502.executes 0 (Instr.ldsx 0 1 4 1 8) = true ∧
    0 < y504.seq.ctx.length ∧
    1 < 3 ∧
    ((y504.ctx 0).addrM 1 8 + 2 ^ 1 ≤ if y504.variant.isX0 = true then 54525952 else 4194304) ∧
    (y504.ctx 0).addrM 1 8 % 2 ^ 1 ≠ 0 ∧
    y504.executes 0 (Instr.sts 0 1 4 1 8) = true ∧
    0 < y517.seq.ctx.length ∧
    ((if y517.variant.isX0 = true then 54525952 else 4194304) < BitVec.toNat ((y517.ctx 0).reg 1) + 4) ∧
    y517.executes 0 (Instr.xadd 0 4 1 2) = true ∧
    0 < y518.seq.ctx.length ∧
    (BitVec.toNat ((y518.ctx 0).reg 1) + 4 ≤ if y518.variant.isX0 = true then 54525952 else 4194304) ∧
    BitVec.toNat ((y518.ctx 0).reg 1) % 4 ≠ 0 ∧
    y518.executes 0 (Instr.xadd 0 4 1 2) = true ∧
    0 < y519.seq.ctx.length ∧
    ((if y519.variant.isX0 = true then 54525952 else 4194304) < BitVec.toNat ((y519.ctx 0).reg 1) + 4) ∧
    y519.executes 0 (Instr.xchg 0 4 1 2) = true ∧
    0 < y520.seq.ctx.length ∧
    (BitVec.toNat ((y520.ctx 0).reg 1) + 4 ≤ if y520.variant.isX0 = true then 54525952 else 4194304) ∧
    BitVec.toNat ((y520.ctx 0).reg 1) % 4 ≠ 0 ∧
    y520.executes 0 (Instr.xchg 0 4 1 2) = true ∧
    0 < y521.seq.ctx.length ∧
    ((if y521.variant.isX0 = true then 54525952 else 4194304) < BitVec.toNat ((y521.ctx 0).reg 1) + 4) ∧
    y521.executes 0 (Instr.cas 0 4 1 2) = true ∧
    0 < y522.seq.ctx.length ∧
    (BitVec.toNat ((y522.ctx 0).reg 1) + 4 ≤ if y522.variant.isX0 = true then 54525952 else 4194304) ∧
    BitVec.toNat ((y522.ctx 0).reg 1) % 4 ≠ 0 ∧
    y522.executes 0 (Instr.cas 0 4 1 2) = true ∧
    0 < y523.seq.ctx.length ∧
    1572864 ≤ (y523.ctx 0).addrM 1 0 ∧
    y523.executes 0 (Instr.ior 0 4 1 0) = true ∧
    0 < y524.seq.ctx.length ∧
    (y524.ctx 0).addrM 1 0 < 1572864 := by
  decide +kernel

theorem witness_instruction_faults_3 :
    (y524.ctx 0).addrM 1 0 % 4 ≠ 0 ∧
    y524.executes 0 (Instr.ior 0 4 1 0) = true ∧
    0 < y526.seq.ctx.length ∧
    1 < 5 ∧
    1572864 ≤ BitVec.toNat ((y526.ctx 0).reg 1 + BitVec.ofNat 32 (4 * 2)) ∧
    y526.executes 0 (Instr.iowAt 0 4 1 1 2) = true ∧
    0 < y527.seq.ctx.length ∧
    1 < 5 ∧
    BitVec.toNat ((y527.ctx 0).reg 1 + BitVec.ofNat 32 (4 * 2)) < 1572864 ∧
    BitVec.toNat ((y527.ctx 0).reg 1 + BitVec.ofNat 32 (4 * 2)) % 4 ≠ 0 ∧
    y527.executes 0 (Instr.iowAt 0 4 1 1 2) = true ∧
    0 < y528.seq.ctx.length ∧
    1 < 5 ∧
    BitVec.toNat ((y528.ctx 0).reg 1 + BitVec.ofNat 32 (4 * 2)) < 1572864 ∧
    BitVec.toNat ((y528.ctx 0).reg 1 + BitVec.ofNat 32 (4 * 2)) % 4 = 0 ∧
    y528.absentAt (BitVec.toNat ((y528.ctx 0).reg 1 + BitVec.ofNat 32 (4 * 2))) = false ∧
    (y528.lawOwned (BitVec.toNat ((y528.ctx 0).reg 1 + BitVec.ofNat 32 (4 * 2))) = true ∨ (y528.ctx 0).twSlot (2 * 1 + 2) (BitVec.toNat ((y528.ctx 0).reg 1 + BitVec.ofNat 32 (4 * 2))) = none) ∧
    y528.executes 0 (Instr.iowAt 0 4 1 1 2) = true ∧
    0 < y529.seq.ctx.length ∧
    (767 < if true = true then BitVec.toNat ((y529.ctx 0).reg 1) else 0) ∧
    y529.executes 0 (Instr.sig 0 true 1 0) = true ∧
    0 < y531.seq.ctx.length ∧
    (1023 < if true = true then BitVec.toNat ((y531.ctx 0).reg 1) else 0) ∧
    y531.executes 0 (Instr.wait 0 true true 1 0) = true ∧
    0 < y532.seq.ctx.length ∧
    (y532.law (BitVec.toNat ((y532.ctx 0).reg 1))).writable 63 = false ∧
    y532.executes 0 (Instr.lawset 0 4 1 63 5) = true ∧
    0 < y533.seq.ctx.length ∧
    (y533.law (BitVec.toNat ((y533.ctx 0).reg 1))).readable 63 = false ∧
    y533.executes 0 (Instr.lawget 0 4 1 63 5) = true ∧
    0 < y534.seq.ctx.length ∧
    y534.dmaSeq (BitVec.toNat ((y534.ctx 0).reg 1) % 64) = false ∧
    y534.executes 0 (Instr.dmago 0 1 2) = true ∧
    0 < y535.seq.ctx.length ∧
    y535.dmaSeq (BitVec.toNat ((y535.ctx 0).reg 1) % 64) = true ∧
    4 ≤ (y535.ctx 0).nDma ∧
    y535.executes 0 (Instr.dmago 0 1 2) = true ∧
    0 < y536.seq.ctx.length ∧
    1024 < BitVec.toNat ((y536.ctx 0).reg 2) + 4 * (3 + 1) ∧
    y536.executes 0 (Instr.msg 0 1 2 true 3) = true := by
  decide +kernel

theorem witness_instruction_faults_4 :
    0 < y537.seq.ctx.length ∧
    BitVec.toNat ((y537.ctx 0).reg 2) + 4 * (3 + 1) ≤ 1024 ∧
    BitVec.toNat ((y537.ctx 0).reg 2) % 4 ≠ 0 ∧
    y537.executes 0 (Instr.msg 0 1 2 true 3) = true ∧
    0 < y538.seq.ctx.length ∧
    BitVec.toNat ((y538.ctx 0).reg 2) + 4 * (3 + 1) ≤ 1024 ∧
    BitVec.toNat ((y538.ctx 0).reg 2) % 4 = 0 ∧
    240 ≤ bits (BitVec.toNat ((y538.ctx 0).reg 1)) 23 16 ∧
    y538.executes 0 (Instr.msg 0 1 2 true 3) = true ∧
    0 < y539.seq.ctx.length ∧
    2 ≤ 4 ∧
    2 ≠ 0 ∧
    1024 < BitVec.toNat ((y539.ctx 0).reg 2) + 4 * 2 ∧
    y539.executes 0 (Instr.recI 0 1 2 2) = true ∧
    0 < y540.seq.ctx.length ∧
    2 ≤ 4 ∧
    (2 = 0 ∨ BitVec.toNat ((y540.ctx 0).reg 2) % 4 = 0 ∧ BitVec.toNat ((y540.ctx 0).reg 2) + 4 * 2 ≤ 1024) ∧
    BitVec.toNat ((y540.ctx 0).reg 1) % 2 ^ 16 < 32768 ∧
    y540.executes 0 (Instr.recI 0 1 2 2) = true ∧
    0 < yx0.seq.ctx.length ∧
    (yx0.ctx 0).addrM 1 0 < 1572864 ∧
    (yx0.ctx 0).addrM 1 0 % 4 = 0 ∧
    yx0.absentAt ((yx0.ctx 0).addrM 1 0) = true ∧
    yx0.executes 0 (Instr.ior 0 4 1 0) = true ∧
    0 < yx1.seq.ctx.length ∧
    1 < 5 ∧
    BitVec.toNat ((yx1.ctx 0).reg 1 + BitVec.ofNat 32 (4 * 2)) < 1572864 ∧
    BitVec.toNat ((yx1.ctx 0).reg 1 + BitVec.ofNat 32 (4 * 2)) % 4 = 0 ∧
    yx1.absentAt (BitVec.toNat ((yx1.ctx 0).reg 1 + BitVec.ofNat 32 (4 * 2))) = true ∧
    yx1.executes 0 (Instr.iowAt 0 4 1 1 2) = true ∧
    0 < yx2.seq.ctx.length ∧
    yx2.executes 0 (Instr.illegal 0 4294967295) = true := by
  decide +kernel

theorem witness_immediate_result : ∀ i ∈ ([.addi 0 4 1 32768, .cmpi 0 1 32768, .andi 0 4 1 32768, .ori 0 4 1 32768, .xori 0 4 1 32768, .shli 0 4 1 0,
    .shri 0 4 1 0, .sari 0 4 1 0, .rori 0 4 1 0, .movi 0 1 32768, .movhi 0 1 32768, .mfsTicklo 0 4,
    .mfsTickhi 0 4, .mfsCtx 0 4, .mfsBudget 0 4, .mfsLpair 0 4, .mfsActs 0 4, .mfsPhase 0 4] : List Instr), (runs i 8 2 3).executes 0 i = true := by
  decide +kernel

end Yart

namespace Seq1

/-! States for sequencer_writes, flag_wakes_waiters, loader_effects. -/

def strap (s : State) : State := { s with sec := { s.sec with strap := true } }
def W (f : Nat) (c : Bool) (p : Nat) : Ctx := { ctx 5 6 7 with st := .waiting, waitFlag := f, waitConsume := c, decl := some ⟨false, none, p, 1, false, 50, 100, 0, 0, 0, []⟩ }
def wc (s : State) (l : List Ctx) : State := { s with seq := { s.seq with ctx := l ++ List.replicate (512 - l.length) Ctx.blank } }
def pgx : Env := ⟨65, .imaging, 77, 1, 1, 0, 0, 64, 512, 3, 210, 0, 64, 1408, [⟨0, 0, 640, 0, 128, some 0, [3], true, false, 0⟩], 0, 0, false⟩
def st0 : State := prog
theorem witness_sequencer_writes_1 :
    st0.bivouac = false ∧
    4 < 32 ∧
    7 < 64 ∧
    2147483653 < 2 ^ 32 ∧
    5 < 512 := by
  decide +kernel
def st3 : State := wc prog [W 7 true 1, W 8 true 3, W 7 true 4, W 7 true 4, W 7 false 5]
theorem witness_flag_wakes_waiters_1 :
    st3.bivouac = false ∧
    7 < 768 := by
  decide +kernel
def st6 : State := strap (State.put {prog with nvm := {prog.nvm with pendOk := true}} [(F.SEQ_LDSTAT_STATE,0,0)])
theorem witness_loader_effects_1 :
    st6.presence = true ∧
    st6.loading = false ∧
    st6.nvm.pendOk = true ∧
    st6.bivouac = false ∧
    st6.running = true ∧
    st6.pageBusy = false ∧
    st6.seq.retryArmed = false := by
  decide +kernel
def st7 : State := State.put {prog with nvm := {prog.nvm with pendOk := true}} [(F.SEQ_LDSTAT_STATE,0,1)]
theorem witness_loader_effects_2 :
    st7.loading = true ∧
    (∀ b ∈ [1, 2], b < 256) ∧
    st7.nvmHold = false := by
  decide +kernel
def st8 : State := State.put {prog with seq := {prog.seq with retryArmed := true}} [(F.PLC_REFUSE_CODE,0,15)]
theorem witness_loader_effects_3 :
    st8.bivouac = false ∧
    st8.running = true ∧
    st8.pageBusy = false ∧
    st8.seq.retryArmed = true ∧
    st8.fget F.PLC_REFUSE_CODE = 15 := by
  decide +kernel
def st9 : State := strap {prog with fmt := {prog.fmt with env := prog.fmt.env.set 1 (some pgx)}}
theorem witness_loader_effects_4 :
    st9.presence = true ∧
    st9.running = true ∧
    st9.pageBusy = true := by
  decide +kernel

end Seq1

namespace Tick1

/-! States for context_and_timer_events, output_phase. -/

def nzb : State := { prog with committed := true, phase := 15, tick := 99 }
def wc (s : State) (l : List Ctx) : State := { s with seq := { s.seq with ctx := l ++ List.replicate (512 - l.length) Ctx.blank } }
def bx (n : Nat) : Ctx := {ctx 1 2 3 with budget := 0, ovrRun := n}
def op (s : State) (l : List Deferred) : State := { s with phase := 6, sec := {s.sec with strap := true}, seq := { s.seq with rel := l, collTold := true } }
def ra : Nat := R.IOX_GPIO_OUT.addr 0 0
def st1 : State := State.put (wc { nzb with seq := {nzb.seq with selfTest := some (2, 0)} } [{ctx 1 2 3 with st := .sleeping, wake := 100}]) [(F.SEQ_T_CTRL_EN,3,1),(F.SEQ_T_CNT_COUNT,3,1),(F.SEQ_T_CTRL_PERIODIC,3,0),(F.SEQ_STAT_MODE,0,3),(F.PWR_STAT_STATE,0,1),(F.PWR_STAT_TARGET,0,1),(F.PWR_STAT_THR,0,0)]
theorem witness_context_and_timer_events_1 :
    st1.seq.selfTest = some (2, 0) ∧
    2 < 9 ∧
    st1.boundary = true ∧
    3 < 64 ∧
    st1.fget F.SEQ_T_CTRL_EN 3 = 1 ∧
    st1.fget F.SEQ_T_CNT_COUNT 3 ≤ 1 ∧
    3 ∉ st1.seq.timersDone ∧
    st1.pwr.asleep = false ∧
    st1.running = true ∧
    st1.coreRuns = true ∧
    st1.gated = false ∧
    ((st1.ctx 0).st = Status.sleeping ∨ (st1.ctx 0).st = Status.waiting ∧ (st1.ctx 0).waitTimed = true) ∧
    (st1.tick + 1 + 2 ^ 32 - (st1.ctx 0).wake) % 2 ^ 32 < 2 ^ 31 ∧
    (st1.ctx 0).wake < 2 ^ 32 := by
  decide +kernel
def st2 : State := wc {prog with seq := {prog.seq with ovrSeen := [0]}} [bx 0, {ctx 1 2 3 with st := .ready}]
theorem witness_context_and_timer_events_2 :
    0 < 512 ∧
    0 < st2.seq.ctx.length ∧
    st2.running = true ∧
    st2.phase < 14 ∧
    (st2.ctx 0).st = Status.running ∧
    (st2.ctx 0).budget = 0 ∧
    0 ∈ st2.seq.ovrSeen := by
  decide +kernel
def st4 : State := op prog [.iowAt 1 ra 0x55 8]
set_option maxRecDepth 100000 in
theorem witness_output_phase_1 :
    ((8 = 6 ∨ 8 = 8 ∨ 8 = 10) ∧
    st4.ticking = true ∧
    st4.pwr.asleep = false ∧
    st4.bivouac = false ∧
    st4.phase + 2 = 8 ∧
    st4.lpe.rel = [] ∧
    Res.absent st4.variant R.IOX_GPIO_OUT.res 0 0 = false ∧
    R.IOX_GPIO_OUT.base / 65536 ≠ 13 ∧
    st4.presence = true ∧
    st4.unitIdle R.IOX_GPIO_OUT 0 = true ∧
    R.IOX_GPIO_OUT.addr 0 0 = ra ∧
    ra ≠ R.PLC_STAT.addr 0 0 ∧
    st4.seq.rel = [Deferred.iowAt 1 ra 85 8]) ∧
    findReg ra = some (R.IOX_GPIO_OUT, 0, 0) ∧
    writerOf false R.IOX_GPIO_OUT = none :=
  ⟨by decide +kernel,
    rfl,
    rfl⟩
def st5 : State := op prog [.iowAt 1 ra 0x55 8, .iowAt 2 ra 0xAA 8]
set_option maxRecDepth 100000 in
theorem witness_output_phase_2 :
    ((8 = 6 ∨ 8 = 8 ∨ 8 = 10) ∧
    st5.ticking = true ∧
    st5.pwr.asleep = false ∧
    st5.bivouac = false ∧
    st5.phase + 2 = 8 ∧
    st5.lpe.rel = [] ∧
    Res.absent st5.variant R.IOX_GPIO_OUT.res 0 0 = false ∧
    R.IOX_GPIO_OUT.base / 65536 ≠ 13 ∧
    st5.presence = true ∧
    st5.unitIdle R.IOX_GPIO_OUT 0 = true ∧
    R.IOX_GPIO_OUT.addr 0 0 = ra ∧
    ra ≠ R.PLC_STAT.addr 0 0 ∧
    st5.seq.rel = [Deferred.iowAt 1 ra 85 8, Deferred.iowAt 2 ra 170 8] ∧
    1 < 2 ∧
    st5.seq.collTold = true ∧
    R.IOX_GPIO_OUT.written true true (R.IOX_GPIO_OUT.written true true (st5.rget R.IOX_GPIO_OUT) 85 % 2 ^ 32) 170 < 2 ^ 32 ∧
    (R.IOX_GPIO_OUT.fields.all fun f => f.acc != Acc.rwi && f.acc != Acc.rwp) = true) ∧
    findReg ra = some (R.IOX_GPIO_OUT, 0, 0) ∧
    writerOf false R.IOX_GPIO_OUT = none :=
  ⟨by decide +kernel,
    rfl,
    rfl⟩

end Tick1

namespace Tick2

/-! States for commit_of_a_tick, rollback_of_a_tick, timers_count_down, program_admission, register_write, tick_phase_0. -/

def tk (s : State) (ph : Nat) (c : Bool) : State := { s with phase := ph, committed := c, tick := 99 }
def wr (s : State) : State := State.put s [(wrapFld 0,0,0),(wrapFld 1,0,0),(F.PWR_STAT_STATE,0,1),(F.PWR_STAT_TARGET,0,1),(F.PWR_STAT_THR,0,0)]
def sq (s : State) (f : Seq → Seq) : State := { s with seq := f s.seq }
def sp (s : State) : State := sq ((s.rset R.SEQ_PAIRSTAT (2^16)).rset R.PLC_PAIRMAP 0x76543210) (fun q => { q with ctx := q.ctx.set 0 (ctx 1 2 3), ckpt := q.ckpt.set 0 (ctx 5 6 7), journal := [⟨none, 0x10, 7, 0, 3⟩, ⟨some 0, 4, 9, 0, 1⟩] })
def slp (s : State) : State := { (wr (tk s 15 true)) with pwr := { s.pwr with asleep := true } }
def prg : List Nat := List.replicate 400 0
def adm (s : State) : State := { s with boot := {s.boot with step := .admission, image := prg }, cdc := {s.cdc with lanes := s.cdc.lanes.map (fun x => {x with st := if x.st = 0 then 0 else 14})} }
def st0 : State := wr (tk prog 14 false)
theorem witness_commit_of_a_tick_1 :
    (st0.ticking = true ∧
    st0.phase = 14 ∧
    st0.pwr.asleep = false ∧
    st0.running = true ∧
    st0.coreRuns = true ∧
    st0.boot.sramBad = none ∧
    st0.boot.replace = false ∧
    (∀ p < 2, st0.fbit (wrapFld p) = false) ∧
    st0.critEnded = false ∧
    st0.seq.faults = [] ∧
    st0.seq.commitRecs = [] ∧
    st0.seq.abortPend = [] ∧
    st0.seq.restartPend = [] ∧
    (∀ i < st0.variant.stn, (st0.stn i).bdLight = none ∧ (st0.stn i).facet.hit = none ∧ st0.stnImaging i = false) ∧
    st0.lpe.outq = []) ∧
    (∀ d ∈ st0.seq.outq, ∀ (c k a : Nat), d ≠ Deferred.dmago c k a) :=
  ⟨by decide +kernel,
    fun d hd => nomatch (show d ∈ ([] : List Deferred) from hd)⟩
def st2 : State := wr (tk (sp prog) 14 false)
theorem witness_rollback_of_a_tick_1 :
    st2.ticking = true ∧
    st2.phase = 14 ∧
    st2.pwr.asleep = false ∧
    st2.running = true ∧
    st2.coreRuns = true ∧
    st2.boot.sramBad = none ∧
    st2.seq.subst = none ∧
    3 < 9 ∧
    st2.seq.arrivals = [] ∧
    st2.lpe.applied = [] ∧
    st2.lpe.clears = [] ∧
    (∀ i < st2.variant.stn, (st2.stn i).bdLight = none ∧ (st2.stn i).facet.hit = none ∧ st2.stnImaging i = false) ∧
    st2.pairFailed 3 = false ∧
    (findBelow 8 fun k => st2.pairMap k == 3) = some 3 ∧
    st2.sparePair = some 8 ∧
    (∀ k < 2, st2.fbit (wrapFld k) = false) ∧
    st2.seq.ckpt.length = st2.seq.ctx.length ∧
    8 ≠ 3 := by
  decide +kernel
def st5 : State := State.put prog [(F.SEQ_T_CTRL_EN,3,1),(F.SEQ_T_CNT_COUNT,3,1),(F.SEQ_T_CTRL_PERIODIC,3,1)]
theorem witness_timers_count_down_1 :
    3 < 64 ∧
    st5.seq.timersDone = [] ∧
    st5.fget F.SEQ_T_CTRL_EN 3 = 1 ∧
    st5.fget F.SEQ_T_CNT_COUNT 3 ≤ 1 ∧
    st5.fget F.SEQ_T_CTRL_PERIODIC 3 = 1 := by
  decide +kernel
def st6 : State := State.put prog [(F.SEQ_T_CTRL_EN,3,1),(F.SEQ_T_CNT_COUNT,3,5),(F.SEQ_T_CTRL_PERIODIC,3,1)]
theorem witness_timers_count_down_2 :
    3 < 64 ∧
    st6.seq.timersDone = [] ∧
    st6.fget F.SEQ_T_CTRL_EN 3 = 1 ∧
    1 < st6.fget F.SEQ_T_CNT_COUNT 3 := by
  decide +kernel
def st7 : State := State.put prog [(F.SEQ_T_CTRL_EN,3,1),(F.SEQ_T_CNT_COUNT,3,0),(F.SEQ_T_CTRL_PERIODIC,3,0)]
theorem witness_timers_count_down_3 :
    3 < 64 ∧
    st7.seq.timersDone = [] ∧
    st7.fget F.SEQ_T_CTRL_EN 3 = 1 ∧
    st7.fget F.SEQ_T_CNT_COUNT 3 ≤ 1 ∧
    st7.fget F.SEQ_T_CTRL_PERIODIC 3 = 0 := by
  decide +kernel
def st8 : State := State.put prog [(F.SEQ_T_CTRL_EN,3,0),(F.SEQ_T_CNT_COUNT,3,0),(F.SEQ_T_CTRL_PERIODIC,3,0)]
theorem witness_timers_count_down_4 :
    3 < 64 ∧
    st8.seq.timersDone = [] ∧
    st8.fget F.SEQ_T_CTRL_EN 3 = 0 := by
  decide +kernel
def st9 : State := adm prog
theorem witness_program_admission_1 :
    st9.boot.step = BootStep.admission ∧
    st9.refusal st9.boot.image = none ∧
    st9.bivouac = false ∧
    240398864 < 2 ^ 28 ∧
    240398864 ≠ st9.rget R.PLC_LANEMAP ∧
    st9.codecIdle = true ∧
    st9.laneBad 240398864 = none := by
  decide +kernel
def st11 : State := prog
theorem witness_register_write_1 :
    st11.ticking = true ∧
    (2 ≠ 4 ∨ 131076 % 4 ≠ 0) ∧
    imageWindow 131076 = false ∧
    st11.bivouac = false ∧
    5 < 2 ^ 32 ∧
    Res.absent st11.variant R.SYS_WDKICK.res 0 0 = false ∧
    Res.absent st11.variant R.PLC_LANEMAP.res 0 0 = false ∧
    Res.absent st11.variant R.SEQ_EVSET.res 0 0 = false ∧
    0 < 32 ∧
    Res.absent st11.variant R.SEQ_EV.res 0 0 = false ∧
    0 < 64 ∧
    Res.absent st11.variant R.SEQ_T_CTRL.res 0 0 = false ∧
    Res.absent st11.variant R.FMT_QUEUE.res 0 0 = false ∧
    Res.absent st11.variant R.FMT_CMD.res 0 0 = false ∧
    Res.absent st11.variant R.FMT_DONE_POP.res 0 0 = false ∧
    0 < 2 ∧
    Res.absent st11.variant R.CDC_E_RDPTR.res 0 0 = false ∧
    Res.absent st11.variant R.CDC_E_DPOP.res 0 0 = false ∧
    Res.absent st11.variant R.BST_UPD.res 0 0 = false ∧
    0 < 6 ∧
    Res.absent st11.variant R.BST_S_CFG.res 0 0 = false ∧
    Res.absent st11.variant R.BST_S_LPC.res 0 0 = false ∧
    Res.absent st11.variant R.BST_S_START.res 0 0 = false ∧
    Res.absent st11.variant R.EXP_S_CTRL.res 0 0 = false ∧
    Res.absent st11.variant R.EXP_S_PWR.res 0 0 = false ∧
    Res.absent st11.variant R.CLK_S_PFREQ.res 0 0 = false ∧
    Res.absent st11.variant R.EXP_S_SPICMD.res 0 0 = false ∧
    Res.absent st11.variant R.EXP_ILK.res 0 0 = false ∧
    Res.absent st11.variant R.CLK_CTRL.res 0 0 = false ∧
    0 < 24 ∧
    Res.absent st11.variant R.HVS_C_CFG.res 0 0 = false ∧
    0 < 4 ∧
    Res.absent st11.variant R.FUS_Z_CTRL.res 0 0 = false ∧
    Res.absent st11.variant R.SEC_MINVER.res 0 0 = false ∧
    0 < 16 ∧
    Res.absent st11.variant R.SEC_FRK_ADD.res 0 0 = false ∧
    Res.absent st11.variant R.IOX_SPI_TX.res 0 0 = false ∧
    Res.absent st11.variant R.IOX_U_TX.res 0 0 = false ∧
    Res.absent st11.variant R.EUN_CTRL.res 0 0 = false ∧
    Res.absent st11.variant R.EUN_RXPOP.res 0 0 = false ∧
    Res.absent st11.variant R.EUN_ACKPOP.res 0 0 = false ∧
    Res.absent st11.variant R.DRC_C_CTRL.res 0 0 = false ∧
    0 < 36 ∧
    Res.absent st11.variant R.AXS_A_CMD.res 0 0 = false := by
  decide +kernel
def st12 : State := prog
set_option maxRecDepth 100000 in
theorem witness_register_write_2 :
    (st12.ticking = true ∧
    R.IOX_GPIO_OUT.addr 1 0 = R.IOX_GPIO_OUT.addr 1 0 ∧
    Res.absent st12.variant R.IOX_GPIO_OUT.res 1 0 = false ∧
    R.IOX_GPIO_OUT.base / 65536 ≠ 13 ∧
    R.IOX_GPIO_OUT.addr 1 0 % 4 = 0 ∧
    R.IOX_GPIO_OUT.addr 1 0 < 1572864 ∧
    (st12.bivouac = false ∨ bivouacReg (R.IOX_GPIO_OUT.addr 1 0) = true) ∧
    5 < 2 ^ 32) ∧
    findReg (R.IOX_GPIO_OUT.addr 1 0) = some (R.IOX_GPIO_OUT, 1, 0) ∧
    writerOf true R.IOX_GPIO_OUT = none ∧
    ¬recTouched (R.IOX_GPIO_OUT.addr 1 0) :=
  ⟨by decide +kernel,
    rfl,
    rfl,
    by unfold recTouched; decide +kernel⟩
def st13 : State := {prog with variant := .x0l}
set_option maxRecDepth 100000 in
theorem witness_register_write_3 :
    (st13.ticking = true ∧
    Res.absent st13.variant R.BST_S_CFG.res 4 0 = true ∧
    R.BST_S_CFG.addr 4 0 % 4 = 0 ∧
    R.BST_S_CFG.addr 4 0 < 1572864) ∧
    findReg (R.BST_S_CFG.addr 4 0) = some (R.BST_S_CFG, 4, 0) :=
  ⟨by decide +kernel,
    rfl⟩
def st14 : State := {prog with variant := .x0l}
set_option maxRecDepth 100000 in
theorem witness_register_write_4 :
    (st14.ticking = true ∧
    (1572864 < 294912 ∨ 295936 ≤ 1572864) ∧
    secWindow 1572864 = false ∧
    imageWindow 1572864 = false) ∧
    findReg 1572864 = none :=
  ⟨by decide +kernel,
    rfl⟩
def st15 : State := prog
theorem witness_register_write_5 :
    st15.ticking = true ∧
    imageWindow 16777216 = true := by
  decide +kernel
def st16 : State := prog
set_option maxRecDepth 100000 in
theorem witness_register_write_6 :
    (st16.ticking = true ∧
    294912 ≤ 294928 ∧
    294928 < 295936 ∧
    294928 % 4 = 0 ∧
    st16.bivouac = false) ∧
    findReg 294928 = none :=
  ⟨by decide +kernel,
    rfl⟩
def st18 : State := {prog with boot := {prog.boot with step := .off}}
theorem witness_register_write_7 :
    st18.ticking = false := by
  decide +kernel
def st19 : State := {prog with boot := {prog.boot with step := .bivouac}}
theorem witness_register_write_8 :
    st19.ticking = true ∧
    st19.bivouac = true ∧
    bivouacReg 131072 = false ∧
    imageWindow 131072 = false := by
  decide +kernel
def st21 : State := State.put {(slp prog) with variant := .p6l} [(F.EUN_CFG_ROOT,0,1),(⟨R.PWR_NEXTEVT_LO,31,0⟩,0,0),(⟨R.PWR_NEXTEVT_HI,31,0⟩,0,0)]
theorem witness_tick_phase_0_1 :
    st21.isRoot = true ∧
    st21.ticking = true ∧
    st21.boundary = true ∧
    st21.pwr.asleep = true ∧
    st21.seq.rel = [] ∧
    st21.seq.selfTest = none ∧
    st21.pwr.nextPend = [] ∧
    st21.nextEvt = 0 ∧
    st21.pwr.wakePend = none ∧
    st21.variant.mains = false := by
  decide +kernel
def st23 : State := let q := State.put (wr (tk prog 15 true)) [(F.EUN_CFG_ROOT,0,0)]; {q with pwr := {q.pwr with ackPend := some 4}}
theorem witness_tick_phase_0_2 :
    st23.isRoot = false ∧
    st23.ring.retime = none ∧
    st23.ticking = true ∧
    st23.boundary = true ∧
    st23.pwr.asleep = false ∧
    st23.boot.step = BootStep.running ∧
    st23.boot.ready = true ∧
    (st23.wdogRuns = true → 2 ≤ st23.boot.wdog) ∧
    st23.ring.writes = [] := by
  decide +kernel
def st25 : State := let q := State.put (wr (tk prog 15 true)) [(F.EUN_CFG_ROOT,0,0),(F.SEQ_STAT_MODE,0,0)]; {q with boot := {q.boot with step := .bivouac}}
theorem witness_tick_phase_0_3 :
    st25.ticking = true ∧
    st25.boundary = true ∧
    st25.pwr.asleep = false ∧
    st25.boot.step = BootStep.bivouac ∧
    st25.running = false := by
  decide +kernel
def st26 : State := tk prog 7 true
theorem witness_tick_phase_0_4 :
    (st26.ticking = false ∨ st26.boundary = false) := by
  decide +kernel
def st27 : State := slp (tk prog 14 false)
theorem witness_commit_of_a_tick_2 :
    (st27.ticking = false ∨ 15 ≤ st27.phase) := by
  decide +kernel
def st28 : State := {(tk prog 14 false) with pwr := {prog.pwr with asleep := true}}
theorem witness_commit_of_a_tick_3 :
    st28.ticking = true ∧
    st28.phase = 14 ∧
    st28.pwr.asleep = true := by
  decide +kernel
def st30 : State := State.put (wr (tk prog 14 false)) [(F.PWR_STAT_STATE,0,3),(F.PWR_STAT_TARGET,0,3)]
theorem witness_commit_of_a_tick_4 :
    st30.ticking = true ∧
    st30.phase = 14 ∧
    st30.pwr.asleep = false ∧
    st30.running = true ∧
    st30.coreRuns = false ∧
    st30.boot.sramBad = none ∧
    st30.boot.replace = false ∧
    (∀ p < 2, st30.fbit (wrapFld p) = false) ∧
    (∀ i < st30.variant.stn, (st30.stn i).bdLight = none ∧ (st30.stn i).facet.hit = none ∧ st30.stnImaging i = false) := by
  decide +kernel

end Tick2

namespace Page

/-! States for page_effects, window_effects, link_effects. -/

def blk0 (st i : Nat) (c : Option Nat) : Blk := ⟨st, i, 640, 0, 128 + 640*i, c, [], false, false, 0⟩
def env0 (h : Nat) (st : PageState) : Env := ⟨h, st, 77, 1, 1, 0, 0, 64, 512, 3, 210, 0, 64, 1408, [blk0 0 0 (some 0), blk0 0 1 none], 0, 0, false⟩
def setE (s : State) (i : Nat) (e : Env) : State := { s with fmt := { s.fmt with env := s.fmt.env.set i (some e) } }
def c0 : Completion := ⟨69, 5, false, 0, 0⟩
def nzi := State.put prog [(F.FMT_W_CTRL_RESEND,1,0),(F.FMT_W_DROP_COUNT,1,0xFFFFFFFF)]
def hw : Win := { Win.blank with state := .header, ack := 64, limit := 4096, hdrOk := true, buf := memWrite [] 0 8 0x1122334455667788 }
def sw : Win := { Win.blank with state := .stream, ack := 768, limit := 768, slot := some 1, full := true }
def rs0 : State := State.put nzi [(F.PLC_RETAIN_GRAN,0,0),(F.DRC_C_STAT_RANKS,0,2),(F.DRC_C_STAT_DENS,0,2)]
def rs1 := { rs0 with fmt := { rs0.fmt with wasHold := 1, env := rs0.fmt.env.set 1 (some (env0 65 .received)), queue := [65, 3] } }.setWin 1 sw
def lk : State := State.put { rs1 with fmt := { rs1.fmt with env := rs1.fmt.env.set 3 (some (env0 3 .resident)) }, msixTab := [⟨0, 3⟩], msixEn := true} [(F.DRC_C_STAT_STATE,2,5),(F.FMT_DWIN_CH,0,2),(F.FMT_DWIN_GRAN,0,1)]
def e65 : Env := env0 65 .received
def dd64 : List Nat := List.replicate 64 7
def tblB : List Nat := leBytes 4 640 ++ leBytes 4 5 ++ List.replicate 56 0
def hdrB : List Nat :=
  let a := leBytes 4 0x564E4559 ++ leBytes 2 1 ++ leBytes 2 64 ++ leBytes 8 768 ++ leBytes 4 9 ++ [1,1,0,0] ++ leBytes 4 10 ++ leBytes 2 512 ++ [3,0] ++ leBytes 4 210 ++ leBytes 4 0 ++ [64] ++ List.replicate 15 0 ++ leBytes 4 (crc32 (slice tblB 0 8))
  a ++ leBytes 4 (crc32 a)
def spk (s : State) : State := State.put s [(F.FMT_SPD_MMS,1,100)]
def h0 : Win := { Win.blank with state := .header, limit := 64 }
def eInv : Env := { e65 with blks := [{ blk0 0 0 (some 0) with invalid := true, grans := [5] }, blk0 0 1 none] }
def rsd : State := State.put (setE nzi 1 eInv) [(F.FMT_W_CTRL_RESEND,1,1),(⟨R.FMT_W_RSHDL,31,0⟩,1,65),(F.FMT_W_RSBLK_STN,1,0),(F.FMT_W_RSBLK_BLK,1,0)]
def hw5p : Win := { hw with ack := 64, buf := memPutBytes [] 0x0c (List.replicate 40 6) }
def swr : Win := { Win.blank with state := .stream, ack := 128, limit := 768, slot := some 1 }
def eS : Env := { e65 with envlen := 768, blks := [{ blk0 0 0 (some 0) with grans := [5] }] }
def eR : Env := { eInv with blks := [{ blk0 0 0 (some 0) with off := 0, invalid := true, grans := [5] }] }
def swR (a : Nat) : Win := { Win.blank with state := .resend, ack := a, limit := 640, slot := some 1, target := some 0 }
def st2 : State := {lk with fmt := {lk.fmt with queue := []}}
theorem witness_page_effects_1 :
    (∃ e, st2.envOf 65 = some e ∧ (e.state = PageState.received ∨ e.state = PageState.resident)) ∧
    65 ≠ 0 ∧
    65 ∉ st2.fmt.queue ∧
    st2.fmt.queue.length < 64 ∧
    st2.fmt.done = [] ∧
    st2.fget F.FMT_GAPREQ_PEND = 0 ∧
    (st2.boundary = false ∨ st2.fget F.FMT_GAPREQ_PEND = 0 ∨ 1 < st2.fget F.FMT_GAPGRACE_TICKS) ∧
    1 ≤ 1 ∧
    1 ≤ 15 ∧
    st2.pageBusy = false ∧
    (60 % 2048 = 0 ∨ 50 ≤ 60 % 2048 ∧ 60 % 2048 ≤ 1000) ∧
    ascending (st2.speeds 1 (60 % 2048)) = true := by
  decide +kernel
def st3 : State := State.put { lk with fmt := {lk.fmt with done := [c0, c0]}} [(F.FMT_GAPREQ_PEND,0,1),(F.FMT_GAPGRACE_TICKS,0,1),(F.FMT_SPD_MMS,0,100),(F.FMT_SPD_MMS,1,200),(F.FMT_SPD_MMS,2,300)]
theorem witness_page_effects_2 :
    (¬((∃ e, st3.envOf 65 = some e ∧ (e.state = PageState.received ∨ e.state = PageState.resident)) ∧ 65 ≠ 0 ∧ 65 ∉ st3.fmt.queue ∧ st3.fmt.queue.length < 64)) ∧
    st3.fmt.done = [c0, c0] ∧
    st3.fmt.env.length = 64 ∧
    st3.fget F.FMT_GAPREQ_PEND = 1 := by
  decide +kernel
def st5 : State := State.put { lk with fmt := {lk.fmt with done := [c0, c0]}} (((List.range 15).map (fun i => (F.FMT_SPD_MMS,i+1,60+i*50))))
theorem witness_page_effects_3 :
    1 ≤ 2 ∧
    2 ≤ 15 ∧
    (st5.pageBusy = true ∨ ¬((1220 % 2048 = 0 ∨ 50 ≤ 1220 % 2048 ∧ 1220 % 2048 ≤ 1000) ∧ ascending (st5.speeds 2 (1220 % 2048)) = true)) := by
  decide +kernel
def st7 : State := nzi
theorem witness_window_effects_1 :
    1 < 4 ∧
    st7.fmt.wins.length = 4 ∧
    st7.fmt.env.length = 64 ∧
    (st7.win 1).state = WinState.idle ∧
    st7.fget F.FMT_W_CTRL_RESEND 1 = 0 ∧
    (¬((st7.win 1).state ≠ WinState.idle ∧ 0 % 64 = 0 ∧([] : List Nat).length % 64 = 0 ∧ 0 +([] : List Nat).length ≤ 2 ^ 26 ∧ (st7.win 1).ack + (0 + 2 ^ 26 - (st7.win 1).ack % 2 ^ 26) % 2 ^ 26 +([] : List Nat).length ≤ (st7.win 1).limit)) ∧
    0 < 2 ^ 26 ∧
    ((st7.win 1).state ≠ WinState.header ∨ (st7.win 1).tblOk = false) ∧
    (∀ k < 4, (if (st7.win k).state = WinState.stream then (st7.win k).slot.bind fun j => (st7.slotEnv j).bind fun f => List.find? (fun b => b.chan.isNone) f.blks else none) = none) := by
  decide +kernel
def st8 : State := State.put nzi [(F.FMT_W_CTRL_RESEND,1,1),(⟨R.FMT_W_RSHDL,31,0⟩,1,0)]
theorem witness_window_effects_2 :
    1 < 4 ∧
    st8.fmt.wins.length = 4 ∧
    st8.fmt.env.length = 64 ∧
    (st8.win 1).state = WinState.idle ∧
    st8.fget F.FMT_W_CTRL_RESEND 1 = 1 ∧
    st8.resendTarget 1 = none := by
  decide +kernel
def st9 : State := rsd
theorem witness_window_effects_3 :
    1 < 4 ∧
    st9.fmt.wins.length = 4 ∧
    st9.fmt.env.length = 64 ∧
    (st9.win 1).state = WinState.idle ∧
    st9.fget F.FMT_W_CTRL_RESEND 1 = 1 ∧
    st9.resendTarget 1 = some (1, { stn := (blk0 0 0 (some 0)).stn, idx := (blk0 0 0 (some 0)).idx, len := (blk0 0 0 (some 0)).len, bcrc := (blk0 0 0 (some 0)).bcrc, off := (blk0 0 0 (some 0)).off, chan := (blk0 0 0 (some 0)).chan, grans := [5], checked := (blk0 0 0 (some 0)).checked, invalid := true, win := (blk0 0 0 (some 0)).win : Blk }) ∧
    1 < 64 ∧
    st9.slotEnv 1 = some eInv := by
  decide +kernel
def st10 : State := spk (nzi.setWin 1 h0)
theorem witness_window_effects_4 :
    1 < 4 ∧
    st10.fmt.wins.length = 4 ∧
    st10.fmt.env.length = 64 ∧
    (st10.win 1).state ≠ WinState.idle ∧
    ((st10.win 1).state = WinState.header ∨ (st10.win 1).state = WinState.resend) ∧
    0 % 64 = 0 ∧
    hdrB.length % 64 = 0 ∧
    0 + hdrB.length ≤ 2 ^ 26 ∧
    (st10.win 1).ack + (0 + 2 ^ 26 - (st10.win 1).ack % 2 ^ 26) % 2 ^ 26 + hdrB.length ≤ (st10.win 1).limit ∧
    hdrB.length = 64 ∧
    (st10.win 1).ack + (0 + 2 ^ 26 - (st10.win 1).ack % 2 ^ 26) % 2 ^ 26 = (st10.win 1).ack ∧
    (st10.win 1).recv = [] ∧
    (st10.win 1).ack % 64 = 0 ∧
    (st10.win 1).state = WinState.header ∧
    (st10.win 1).hdrOk = false ∧
    (st10.win 1).ack = 0 ∧
    0 < 2 ^ 26 ∧
    st10.headerErr (memBytes (memPutBytes (st10.win 1).buf (st10.win 1).ack hdrB) 0 64) = 0 := by
  decide +kernel
def st11 : State := nzi.setWin 1 h0
theorem witness_window_effects_5 :
    1 < 4 ∧
    st11.fmt.wins.length = 4 ∧
    st11.fmt.env.length = 64 ∧
    (st11.win 1).state ≠ WinState.idle ∧
    0 % 64 = 0 ∧
    dd64.length % 64 = 0 ∧
    0 + dd64.length ≤ 2 ^ 26 ∧
    (st11.win 1).ack + (0 + 2 ^ 26 - (st11.win 1).ack % 2 ^ 26) % 2 ^ 26 + dd64.length ≤ (st11.win 1).limit ∧
    dd64.length = 64 ∧
    (st11.win 1).ack + (0 + 2 ^ 26 - (st11.win 1).ack % 2 ^ 26) % 2 ^ 26 = (st11.win 1).ack ∧
    (st11.win 1).recv = [] ∧
    (st11.win 1).ack % 64 = 0 ∧
    (st11.win 1).state = WinState.header ∧
    (st11.win 1).hdrOk = false ∧
    (st11.win 1).ack = 0 ∧
    0 < 2 ^ 26 ∧
    st11.headerErr (memBytes (memPutBytes (st11.win 1).buf (st11.win 1).ack dd64) 0 64) ≠ 0 ∧
    st11.headerErr (memBytes (memPutBytes (st11.win 1).buf (st11.win 1).ack dd64) 0 64) < 16 := by
  decide +kernel
def st12 : State := spk (nzi.setWin 1 {h0 with ack := 64, hdrOk := true, limit := 128, buf := memPutBytes [] 0 hdrB})
theorem witness_window_effects_6 :
    1 < 4 ∧
    st12.fmt.wins.length = 4 ∧
    st12.fmt.env.length = 64 ∧
    (st12.win 1).state ≠ WinState.idle ∧
    64 % 64 = 0 ∧
    tblB.length % 64 = 0 ∧
    64 + tblB.length ≤ 2 ^ 26 ∧
    (st12.win 1).ack + (64 + 2 ^ 26 - (st12.win 1).ack % 2 ^ 26) % 2 ^ 26 + tblB.length ≤ (st12.win 1).limit ∧
    tblB.length = 64 ∧
    (st12.win 1).ack + (64 + 2 ^ 26 - (st12.win 1).ack % 2 ^ 26) % 2 ^ 26 = (st12.win 1).ack ∧
    (st12.win 1).recv = [] ∧
    (st12.win 1).ack % 64 = 0 ∧
    (st12.win 1).state = WinState.header ∧
    (st12.win 1).hdrOk = true ∧
    (st12.win 1).tblOk = false ∧
    64 < 2 ^ 26 ∧
    64 + pad64 (8 * hdrBlocks (memBytes (memPutBytes (st12.win 1).buf (st12.win 1).ack tblB) 0 64)) ≤ (st12.win 1).ack + 64 ∧
    st12.tableErr (memBytes (memPutBytes (st12.win 1).buf (st12.win 1).ack tblB) 0 64) (memBytes (memPutBytes (st12.win 1).buf (st12.win 1).ack tblB) 64 (8 * hdrBlocks (memBytes (memPutBytes (st12.win 1).buf (st12.win 1).ack tblB) 0 64))) = 0 := by
  decide +kernel
def st13 : State := nzi.setWin 1 hw5p
theorem witness_window_effects_7 :
    1 < 4 ∧
    st13.fmt.wins.length = 4 ∧
    st13.fmt.env.length = 64 ∧
    (st13.win 1).state ≠ WinState.idle ∧
    64 % 64 = 0 ∧
    dd64.length % 64 = 0 ∧
    64 + dd64.length ≤ 2 ^ 26 ∧
    (st13.win 1).ack + (64 + 2 ^ 26 - (st13.win 1).ack % 2 ^ 26) % 2 ^ 26 + dd64.length ≤ (st13.win 1).limit ∧
    dd64.length = 64 ∧
    (st13.win 1).ack + (64 + 2 ^ 26 - (st13.win 1).ack % 2 ^ 26) % 2 ^ 26 = (st13.win 1).ack ∧
    (st13.win 1).recv = [] ∧
    (st13.win 1).ack % 64 = 0 ∧
    (st13.win 1).state = WinState.header ∧
    (st13.win 1).hdrOk = true ∧
    (st13.win 1).tblOk = false ∧
    64 < 2 ^ 26 ∧
    (st13.win 1).ack + 64 < 64 + pad64 (8 * hdrBlocks (memBytes (memPutBytes (st13.win 1).buf (st13.win 1).ack dd64) 0 64)) := by
  decide +kernel
def st14 : State := (setE nzi 1 eS).setWin 1 swr
theorem witness_window_effects_8 :
    1 < 4 ∧
    st14.fmt.wins.length = 4 ∧
    st14.fmt.env.length = 64 ∧
    (st14.win 1).state = WinState.stream ∧
    (st14.win 1).slot = some 1 ∧
    st14.slotEnv 1 = some eS ∧
    1 < 64 ∧
    (st14.win 1).state ≠ WinState.idle ∧
    128 % 64 = 0 ∧
    dd64.length % 64 = 0 ∧
    128 + dd64.length ≤ 2 ^ 26 ∧
    (st14.win 1).ack + (128 + 2 ^ 26 - (st14.win 1).ack % 2 ^ 26) % 2 ^ 26 + dd64.length ≤ (st14.win 1).limit ∧
    dd64.length = 64 ∧
    (st14.win 1).ack + (128 + 2 ^ 26 - (st14.win 1).ack % 2 ^ 26) % 2 ^ 26 = (st14.win 1).ack ∧
    (st14.win 1).recv = [] ∧
    (st14.win 1).ack % 64 = 0 ∧
    eS.blkAt ((st14.win 1).ack + (128 + 2 ^ 26 - (st14.win 1).ack % 2 ^ 26) % 2 ^ 26) = some { stn := (blk0 0 0 (some 0)).stn, idx := (blk0 0 0 (some 0)).idx, len := (blk0 0 0 (some 0)).len, bcrc := (blk0 0 0 (some 0)).bcrc, off := (blk0 0 0 (some 0)).off, chan := (blk0 0 0 (some 0)).chan, grans := [5], checked := (blk0 0 0 (some 0)).checked, invalid := (blk0 0 0 (some 0)).invalid, win := (blk0 0 0 (some 0)).win : Blk } ∧
    { stn := (blk0 0 0 (some 0)).stn, idx := (blk0 0 0 (some 0)).idx, len := (blk0 0 0 (some 0)).len, bcrc := (blk0 0 0 (some 0)).bcrc, off := (blk0 0 0 (some 0)).off, chan := (blk0 0 0 (some 0)).chan, grans := [5], checked := (blk0 0 0 (some 0)).checked, invalid := (blk0 0 0 (some 0)).invalid, win := (blk0 0 0 (some 0)).win : Blk }.chan = some 0 ∧
    128 < 2 ^ 26 := by
  decide +kernel
def st16 : State := (setE nzi 1 eR).setWin 1 (swR 64)
theorem witness_window_effects_9 :
    1 < 4 ∧
    st16.fmt.wins.length = 4 ∧
    st16.fmt.env.length = 64 ∧
    (st16.win 1).state ≠ WinState.idle ∧
    64 % 64 = 0 ∧
    dd64.length % 64 = 0 ∧
    64 + dd64.length ≤ 2 ^ 26 ∧
    (st16.win 1).ack + (64 + 2 ^ 26 - (st16.win 1).ack % 2 ^ 26) % 2 ^ 26 + dd64.length ≤ (st16.win 1).limit ∧
    dd64.length = 64 ∧
    (st16.win 1).ack + (64 + 2 ^ 26 - (st16.win 1).ack % 2 ^ 26) % 2 ^ 26 = (st16.win 1).ack ∧
    (st16.win 1).recv = [] ∧
    (st16.win 1).ack % 64 = 0 ∧
    (st16.win 1).state = WinState.resend ∧
    st16.resendBlk 1 = some (1, { stn := (blk0 0 0 (some 0)).stn, idx := (blk0 0 0 (some 0)).idx, len := (blk0 0 0 (some 0)).len, bcrc := (blk0 0 0 (some 0)).bcrc, off := 0, chan := (blk0 0 0 (some 0)).chan, grans := [5], checked := (blk0 0 0 (some 0)).checked, invalid := true, win := (blk0 0 0 (some 0)).win : Blk }) ∧
    { stn := (blk0 0 0 (some 0)).stn, idx := (blk0 0 0 (some 0)).idx, len := (blk0 0 0 (some 0)).len, bcrc := (blk0 0 0 (some 0)).bcrc, off := 0, chan := (blk0 0 0 (some 0)).chan, grans := [5], checked := (blk0 0 0 (some 0)).checked, invalid := true, win := (blk0 0 0 (some 0)).win : Blk }.off = 0 ∧
    { stn := (blk0 0 0 (some 0)).stn, idx := (blk0 0 0 (some 0)).idx, len := (blk0 0 0 (some 0)).len, bcrc := (blk0 0 0 (some 0)).bcrc, off := 0, chan := (blk0 0 0 (some 0)).chan, grans := [5], checked := (blk0 0 0 (some 0)).checked, invalid := true, win := (blk0 0 0 (some 0)).win : Blk }.chan = some 0 ∧
    1 < 64 ∧
    64 < 2 ^ 26 := by
  decide +kernel
def st18 : State := (setE nzi 0 (env0 65 .received)).setWin 1 {hw with tblOk := true, buf := memPutBytes (memPutBytes [] 8 [128,5,0,0,0,0,0,0]) 0x10 [9,0,0,0,5,0,0,0,64]}
theorem witness_window_effects_10 :
    1 < 4 ∧
    st18.fmt.wins.length = 4 ∧
    st18.fmt.env.length = 64 ∧
    (st18.win 1).state = WinState.header ∧
    (st18.win 1).tblOk = true ∧
    1 < 64 ∧
    st18.slotEnv 1 = none ∧
    (∀ k < 1, st18.slotEnv k ≠ none) := by
  decide +kernel
def st19 : State := {nzi with fmt := {nzi.fmt with env := List.replicate 64 (some e65)}}.setWin 1 {hw with tblOk := true}
theorem witness_window_effects_11 :
    1 < 4 ∧
    st19.fmt.wins.length = 4 ∧
    st19.fmt.env.length = 64 ∧
    (st19.win 1).state = WinState.header ∧
    (st19.win 1).tblOk = true ∧
    (∀ k < 64, st19.slotEnv k ≠ none) := by
  decide +kernel
def st22 : State := State.put rs1 [(F.DRC_C_STAT_RANKS,0,0),(F.DRC_C_STAT_RANKS,1,0),(F.DRC_C_STAT_RANKS,2,0),(F.DRC_C_STAT_RANKS,3,0)]
theorem witness_window_effects_12 :
    1 < 4 ∧
    st22.fmt.wins.length = 4 ∧
    st22.fmt.env.length = 64 ∧
    1 = (st22.fmt.wasHold + 0) % 4 ∧
    0 < 4 ∧
    (∀ k < 0, (if (st22.win ((st22.fmt.wasHold + k) % 4)).state = WinState.stream then (st22.win ((st22.fmt.wasHold + k) % 4)).slot.bind fun j => (st22.slotEnv j).bind fun f => List.find? (fun b => b.chan.isNone) f.blks else none) = none) ∧
    ((if (st22.win 1).state = WinState.stream then (st22.win 1).slot.bind fun j => (st22.slotEnv j).bind fun f => List.find? (fun b => b.chan.isNone) f.blks else none) = some (blk0 0 1 none)) ∧
    st22.placeBlock (blk0 0 1 none).stn (blk0 0 1 none).idx (blk0 0 1 none).len = none := by
  decide +kernel
def st23 : State := lk
theorem witness_link_effects_1 :
    st23.fmt.env.length = 64 ∧
    3 ∈ [1, 2, 3, 4, 5] ∧
    (4 = 1 ∨ st23.variant.pcix1 = false ∧ (4 = 2 ∨ 4 = 4)) := by
  decide +kernel
def st24 : State := lk
theorem witness_link_effects_2 :
    (¬(0 ∈ [1, 2, 3, 4, 5] ∧ (4 = 1 ∨ st24.variant.pcix1 = false ∧ (4 = 2 ∨ 4 = 4)))) := by
  decide +kernel
def st26 : State := { (State.put prog [(F.FMT_GAPREQ_PEND,0,1),(F.FMT_GAPGRACE_TICKS,0,1)]) with phase := 15, committed := true }
theorem witness_page_effects_4 :
    st26.boundary = true ∧
    st26.seq.rel = [] ∧
    st26.ring.writes = [] ∧
    st26.ticking = true ∧
    st26.fget F.FMT_GAPREQ_PEND = 1 ∧
    st26.fget F.FMT_GAPGRACE_TICKS ≤ 1 := by
  decide +kernel
def st27 : State := rs1
theorem witness_window_effects_13 :
    1 < 4 ∧
    st27.fmt.wins.length = 4 ∧
    st27.fmt.env.length = 64 ∧
    1 = (st27.fmt.wasHold + 0) % 4 ∧
    0 < 4 ∧
    (∀ k < 0, (if (st27.win ((st27.fmt.wasHold + k) % 4)).state = WinState.stream then (st27.win ((st27.fmt.wasHold + k) % 4)).slot.bind fun j => (st27.slotEnv j).bind fun f => List.find? (fun b => b.chan.isNone) f.blks else none) = none) ∧
    (st27.win 1).state = WinState.stream ∧
    (st27.win 1).slot = some 1 ∧
    1 < 64 ∧
    st27.slotEnv 1 = some e65 ∧
    ((if (st27.win 1).state = WinState.stream then (st27.win 1).slot.bind fun j => (st27.slotEnv j).bind fun f => List.find? (fun b => b.chan.isNone) f.blks else none) = some (blk0 0 1 none)) ∧
    st27.placeBlock (blk0 0 1 none).stn (blk0 0 1 none).idx (blk0 0 1 none).len = some (0, [0]) := by
  decide +kernel

end Page

namespace Codec

/-! States for decoder_effects, encoder_effects. -/

def tbl : List Nat := [0x56, 0x52, 1, 0, 3, 0, 3, 0, 0, 0, 0, 0, 0, 0, 0, 0, 0x0F, 0xFF, 0xFF, 0xF1, 0x8A, 0x54, 0x95, 0x24, 3, 0, 0, 0xC3, 0x26, 0x39, 0xF4, 0xCB]
def envc : Env := ⟨65, .imaging, 77, 1, 1, 0, 0, 3, 3, 3, 210, 0, 3, 1408, [⟨0, 0, tbl.length, 0, 128, some 1, [5], true, false, 0⟩], 0, 0, false⟩
def envp : Env := { envc with pattern := true }
def wEnv (s : State) (i : Nat) (e : Env) : State := { s with fmt := { s.fmt with env := s.fmt.env.set i (some e) } }
def hole (l : Nat) : Hole := ⟨l, 65, l, 0, [], false, false⟩
def lm (s : State) (l : List Nat) : State := s.rset R.PLC_LANEMAP (l.foldr (fun x a => x + 16 * a) 0)
def ln (st h k held px : Nat) : DecLane := ⟨st, 0, h, k, 0, held, px⟩
def dec (s : State) (l : Nat) (x : DecLane) : State :=
  let s := lm ((wEnv s 1 envc).dramPut 1 (5 * 65536) tbl) [0,1,2,3,4,5,14]
  (((s.setLane 6 (DecLane.idle 14 0)).setLane l x).setStn 0 { s.stn 0 with holes := [hole 0, hole 1, hole 2], holeNo := 3 }).fset F.DRC_C_STAT_STATE 3 1
def tri : List (List Nat) := [[49, 50, 51], [52, 53, 54], [55, 56, 57]]
def r5 : Redec := ⟨0, 65, 0, 0, 5, 3⟩
def rq (s : State) (q : List Redec) (r : Option Redec) : State := { s with cdc := { s.cdc with redq := q, redec := r } }
def full (s : State) : State := s.setStn 0 { s.stn 0 with holes := hole 0 :: List.replicate 255 ⟨9,64,9,9,[],false,false⟩, holeNo := 0 }
def enc (s : State) (l : List (FldDesc × Nat × Nat)) (x : Enc) : State :=
  (State.put s ([(F.CDC_E_CFG_BLKLINES,0,4),(F.CDC_E_CFG_DT,0,0),(F.CDC_E_RING_GRAN,0,16),(F.CDC_E_RING_GRAN,1,16),(F.CDC_E_CFG_PORT,0,0),(F.CDC_E_CFG_PORT,1,1),(F.CDC_E_CFG_VC,0,2),
    (F.CAL_P_CFG_EN,0,1), (F.CDC_E_STAT_STATE,0,2)] ++ l)).setEnc 0 x
def dr (s : State) : State := State.put s [(F.PLC_RETAIN_GRAN,0,0), (F.DRC_C_STAT_RANKS,0,1), (F.DRC_C_STAT_DENS,0,1)]
def eb : EncBlk := ⟨8, 12, 3, [[1,2,3]], 0, 10, 0⟩
def E0 : Enc := { Enc.blank with rings := [⟨0,5,16⟩] }
def go (l : List (FldDesc × Nat × Nat)) (x : Enc) : State := dr (enc prog ([(F.CDC_E_CTRL_EN,0,1),(F.CDC_E_WRPTR_PTR64,0,10),(F.CDC_E_RDPTR_PTR64,0,5),(F.CDC_E_STAT_STATE,0,2)] ++ l) x)
def EB : Enc := { E0 with nextLine := 9, ppl := some 3, blk := some eb, origin := 8 }
def st0 : State := dec prog 0 (ln 1 65 0 3 0)
set_option maxRecDepth 100000 in
theorem witness_decoder_effects_1 :
    (0 < 7 ∧
    st0.cdc.lanes.length = 7 ∧
    st0.img.stn.length = 6 ∧
    (st0.lane 0).stn < 6 ∧
    (st0.envOf (st0.lane 0).handle = none ∨ st0.envOf (st0.lane 0).handle = some envc) ∧
    (st0.lane 0).busy = true ∧
    st0.envOf (st0.lane 0).handle = some envc ∧
    envc.pattern = false ∧
    st0.dramWaits (st0.lane 0).handle (st0.lane 0).stn (st0.lane 0).blk = false ∧
    (st0.decodeOf (st0.lane 0).handle (st0.lane 0).stn (st0.lane 0).blk 0).2 ≤ (st0.lane 0).held ∧
    (st0.lane 0).st ≠ 2 ∧
    (st0.redLane = none ∨ st0.cdc.redq = [] ∨ st0.cdc.redec ≠ none) ∧
    st0.cdc.redec = none ∧
    st0.laneMap 0 < 6 ∧
    st0.laneWith 14 = some 6 ∧
    6 < 7 ∧
    (st0.lane 6).st = 14 ∧
    (st0.lane 0).st ≠ 4 ∧
    ((st0.lane 0).busy = false ∨ st0.pageKind (st0.lane 0).handle = false)) ∧
    (st0.decodeOf (st0.lane 0).handle (st0.lane 0).stn (st0.lane 0).blk 0).1 = Except.ok tri :=
  ⟨by decide +kernel,
    rfl⟩
def st3 : State := wEnv (dec prog 0 (ln 1 65 0 3 0)) 1 envp
theorem witness_decoder_effects_2 :
    0 < 7 ∧
    st3.cdc.lanes.length = 7 ∧
    st3.img.stn.length = 6 ∧
    (st3.lane 0).stn < 6 ∧
    (st3.envOf (st3.lane 0).handle = none ∨ st3.envOf (st3.lane 0).handle = some envp) ∧
    (st3.lane 0).busy = true ∧
    st3.envOf (st3.lane 0).handle = some envp ∧
    envp.pattern = true ∧
    st3.dramWaits (st3.lane 0).handle (st3.lane 0).stn (st3.lane 0).blk = false ∧
    envp.blkLines (st3.lane 0).blk ≤ (st3.lane 0).held ∧
    (st3.laneMap 0 = 15 ∨ (st3.lane 0).busy = true ∧ st3.pageKind (st3.lane 0).handle = true) := by
  decide +kernel
def st5 : State := lm (dec prog 0 (ln 1 65 0 3 0)) [0,1,2,3,4,5,15]
set_option maxRecDepth 100000 in
theorem witness_decoder_effects_3 :
    (0 < 7 ∧
    st5.cdc.lanes.length = 7 ∧
    st5.img.stn.length = 6 ∧
    (st5.lane 0).stn < 6 ∧
    (st5.envOf (st5.lane 0).handle = none ∨ st5.envOf (st5.lane 0).handle = some envc) ∧
    (st5.lane 0).busy = true ∧
    st5.envOf (st5.lane 0).handle = some envc ∧
    envc.pattern = false ∧
    st5.dramWaits (st5.lane 0).handle (st5.lane 0).stn (st5.lane 0).blk = false ∧
    (st5.decodeOf (st5.lane 0).handle (st5.lane 0).stn (st5.lane 0).blk 3).2 ≤ (st5.lane 0).held ∧
    st5.laneMap 0 < 6 ∧
    st5.laneWith 14 = none ∧
    st5.cdc.sub ≠ some 0 ∧
    (st5.lane 0).st ≠ 4 ∧
    ((st5.lane 0).busy = false ∨ st5.pageKind (st5.lane 0).handle = false)) ∧
    (st5.decodeOf (st5.lane 0).handle (st5.lane 0).stn (st5.lane 0).blk 3).1 = Except.error 3 :=
  ⟨by decide +kernel,
    rfl⟩
def st7 : State := full (dec prog 0 (ln 2 65 0 1 3))
theorem witness_decoder_effects_4 :
    0 < 7 ∧
    st7.cdc.lanes.length = 7 ∧
    st7.img.stn.length = 6 ∧
    (st7.lane 0).stn < 6 ∧
    (st7.envOf (st7.lane 0).handle = none ∨ st7.envOf (st7.lane 0).handle = some envc) ∧
    (st7.lane 0).busy = true ∧
    st7.envOf (st7.lane 0).handle = some envc ∧
    envc.pattern = false ∧
    st7.dramWaits (st7.lane 0).handle (st7.lane 0).stn (st7.lane 0).blk = false ∧
    (st7.lane 0).held < (st7.decodeOf (st7.lane 0).handle (st7.lane 0).stn (st7.lane 0).blk 0).2 ∧
    (st7.decodeOf (st7.lane 0).handle (st7.lane 0).stn (st7.lane 0).blk 0).2 ≤ envc.blkLines (st7.lane 0).blk ∧
    (st7.stn (st7.lane 0).stn).freeHoles = 0 ∧
    (st7.lane 0).st = 2 ∧
    st7.cdc.redq = [] ∧
    st7.cdc.redec = none ∧
    (st7.lane 0).held < envc.blkLines (st7.lane 0).blk ∧
    (st7.lane 0).px = (st7.lane 0).held * max envc.ppl 1 := by
  decide +kernel
def st9 : State := (dec prog 0 (ln 2 65 0 1 3)).fset F.DRC_C_STAT_STATE 2 1
theorem witness_decoder_effects_5 :
    0 < 7 ∧
    st9.cdc.lanes.length = 7 ∧
    st9.img.stn.length = 6 ∧
    (st9.lane 0).stn < 6 ∧
    (st9.envOf (st9.lane 0).handle = none ∨ st9.envOf (st9.lane 0).handle = some envc) ∧
    (st9.lane 0).st = 2 ∧
    st9.envOf (st9.lane 0).handle = some envc ∧
    st9.dramWaits (st9.lane 0).handle (st9.lane 0).stn (st9.lane 0).blk = true := by
  decide +kernel
def st10 : State := rq (dec prog 6 (ln 14 0 0 0 0)) [r5] none
theorem witness_decoder_effects_6 :
    6 < 7 ∧
    st10.cdc.lanes.length = 7 ∧
    st10.img.stn.length = 6 ∧
    (st10.lane 6).stn < 6 ∧
    (st10.envOf (st10.lane 6).handle = none ∨ st10.envOf (st10.lane 6).handle = some envc) ∧
    st10.redLane = some 6 ∧
    st10.cdc.redq = [r5] ∧
    st10.cdc.redec = none ∧
    ((st10.lane 6).st = 14 ∨ (st10.lane 6).st = 0) ∧
    r5.stn < 6 := by
  decide +kernel
def st11 : State := rq (dec prog 6 (ln 4 65 0 0 0)) [r5] (some r5)
set_option maxRecDepth 100000 in
theorem witness_decoder_effects_7 :
    (6 < 7 ∧
    st11.cdc.lanes.length = 7 ∧
    st11.img.stn.length = 6 ∧
    (st11.lane 6).stn < 6 ∧
    (st11.envOf (st11.lane 6).handle = none ∨ st11.envOf (st11.lane 6).handle = some envc) ∧
    st11.cdc.redec = some r5 ∧
    st11.dramWaits r5.handle r5.stn r5.blk = false ∧
    (st11.decodeOf r5.handle r5.stn r5.blk 3).2 ≤ r5.held ∧
    r5.stn < 6 ∧
    st11.laneMap 6 = 14 ∧
    st11.redLane = some 6 ∧
    st11.cdc.sub = none) ∧
    (st11.decodeOf r5.handle r5.stn r5.blk 3).1 = Except.error 3 :=
  ⟨by decide +kernel,
    rfl⟩
def st12 : State := (rq (dec prog 6 (ln 4 65 0 0 0)) [r5] (some r5)).fset F.DRC_C_STAT_STATE 2 1
theorem witness_decoder_effects_8 :
    6 < 7 ∧
    st12.cdc.lanes.length = 7 ∧
    st12.img.stn.length = 6 ∧
    (st12.lane 6).stn < 6 ∧
    (st12.envOf (st12.lane 6).handle = none ∨ st12.envOf (st12.lane 6).handle = some envc) ∧
    st12.cdc.redec = some r5 ∧
    st12.dramWaits r5.handle r5.stn r5.blk = true := by
  decide +kernel
def st13 : State := rq (dec prog 6 (ln 4 65 0 0 0)) [r5] (some r5)
set_option maxRecDepth 100000 in
theorem witness_decoder_effects_9 :
    (6 < 7 ∧
    st13.cdc.lanes.length = 7 ∧
    st13.img.stn.length = 6 ∧
    (st13.lane 6).stn < 6 ∧
    (st13.envOf (st13.lane 6).handle = none ∨ st13.envOf (st13.lane 6).handle = some envc) ∧
    st13.cdc.redec = some r5 ∧
    st13.dramWaits r5.handle r5.stn r5.blk = false ∧
    (st13.decodeOf r5.handle r5.stn r5.blk 0).2 ≤ r5.held ∧
    st13.envOf r5.handle = some envc ∧
    r5.stn < 6 ∧
    (r5.cause = 5 ∨ r5.cause = 6) ∧
    st13.laneMap 6 = 14 ∧
    st13.redLane = some 6 ∧
    st13.cdc.sub = none) ∧
    (st13.decodeOf r5.handle r5.stn r5.blk 0).1 = Except.ok tri :=
  ⟨by decide +kernel,
    rfl⟩
def st15 : State := rq (dec prog 6 (ln 4 65 0 0 0)) [] (some {r5 with cause := 2})
set_option maxRecDepth 100000 in
theorem witness_decoder_effects_10 :
    (6 < 7 ∧
    st15.cdc.lanes.length = 7 ∧
    st15.img.stn.length = 6 ∧
    (st15.lane 6).stn < 6 ∧
    (st15.envOf (st15.lane 6).handle = none ∨ st15.envOf (st15.lane 6).handle = some envc) ∧
    ((st15.lane 6).busy = false ∨ st15.pageKind (st15.lane 6).handle = false ∧ st15.dramWaits (st15.lane 6).handle (st15.lane 6).stn (st15.lane 6).blk = true) ∧
    st15.cdc.redec = some { stn := r5.stn, handle := r5.handle, blk := r5.blk, lane := r5.lane, cause := 2, held := r5.held : Redec } ∧
    st15.dramWaits { stn := r5.stn, handle := r5.handle, blk := r5.blk, lane := r5.lane, cause := 2, held := r5.held : Redec }.handle { stn := r5.stn, handle := r5.handle, blk := r5.blk, lane := r5.lane, cause := 2, held := r5.held : Redec }.stn { stn := r5.stn, handle := r5.handle, blk := r5.blk, lane := r5.lane, cause := 2, held := r5.held : Redec }.blk = false ∧
    (st15.decodeOf { stn := r5.stn, handle := r5.handle, blk := r5.blk, lane := r5.lane, cause := 2, held := r5.held : Redec }.handle { stn := r5.stn, handle := r5.handle, blk := r5.blk, lane := r5.lane, cause := 2, held := r5.held : Redec }.stn { stn := r5.stn, handle := r5.handle, blk := r5.blk, lane := r5.lane, cause := 2, held := r5.held : Redec }.blk 0).2 ≤ { stn := r5.stn, handle := r5.handle, blk := r5.blk, lane := r5.lane, cause := 2, held := r5.held : Redec }.held ∧
    st15.envOf { stn := r5.stn, handle := r5.handle, blk := r5.blk, lane := r5.lane, cause := 2, held := r5.held : Redec }.handle = some envc ∧
    { stn := r5.stn, handle := r5.handle, blk := r5.blk, lane := r5.lane, cause := 2, held := r5.held : Redec }.stn < 6 ∧
    { stn := r5.stn, handle := r5.handle, blk := r5.blk, lane := r5.lane, cause := 2, held := r5.held : Redec }.cause < 5 ∧
    st15.laneMap { stn := r5.stn, handle := r5.handle, blk := r5.blk, lane := r5.lane, cause := 2, held := r5.held : Redec }.lane = { stn := r5.stn, handle := r5.handle, blk := r5.blk, lane := r5.lane, cause := 2, held := r5.held : Redec }.stn ∧
    { stn := r5.stn, handle := r5.handle, blk := r5.blk, lane := r5.lane, cause := 2, held := r5.held : Redec }.lane < 7 ∧
    st15.laneMap 6 = 14 ∧
    st15.laneWith 14 = some 6 ∧
    st15.cdc.sub = none ∧
    st15.cdc.redq = [] ∧
    (st15.lane 6).st = 4) ∧
    (st15.decodeOf { stn := r5.stn, handle := r5.handle, blk := r5.blk, lane := r5.lane, cause := 2, held := r5.held : Redec }.handle { stn := r5.stn, handle := r5.handle, blk := r5.blk, lane := r5.lane, cause := 2, held := r5.held : Redec }.stn { stn := r5.stn, handle := r5.handle, blk := r5.blk, lane := r5.lane, cause := 2, held := r5.held : Redec }.blk 0).1 = Except.ok tri :=
  ⟨by decide +kernel,
    rfl⟩
def st23 : State := dec prog 6 (ln 14 0 0 0 0)
theorem witness_decoder_effects_11 :
    6 < 7 ∧
    st23.cdc.lanes.length = 7 ∧
    st23.img.stn.length = 6 ∧
    (st23.lane 6).stn < 6 ∧
    (st23.envOf (st23.lane 6).handle = none ∨ st23.envOf (st23.lane 6).handle = some envc) ∧
    st23.laneMap 6 = 14 ∧
    (st23.lane 6).st = 14 ∧
    st23.cdc.redq = [] ∧
    st23.cdc.redec = none ∧
    st23.cdc.sub = none := by
  decide +kernel
def st25 : State := dr (enc prog [(F.CDC_E_CTRL_EN,0,0)] Enc.blank)
theorem witness_encoder_effects_1 :
    0 < 2 ∧
    0 < st25.variant.encl ∧
    st25.cdc.enc.length = 2 ∧
    ((st25.enc 0).rings = [] ∨ 0 < st25.encUnits 0) ∧
    st25.fget F.CDC_E_CTRL_EN = 0 ∧
    1 ≤ st25.encBl 0 ∧
    st25.encBl 0 ≤ 64 ∧
    (st25.fget F.CDC_E_CFG_DT = 3 → st25.encBl 0 % 3 = 0) ∧
    16 ≤ st25.fget F.CDC_E_RING_GRAN ∧
    st25.fget F.CDC_E_RING_GRAN ≤ 4096 ∧
    st25.fget F.CDC_E_CFG_PORT < st25.variant.csi ∧
    List.findSome? (fun c => Option.map (fun a => (c, a)) (st25.freeRun c (st25.fget F.CDC_E_RING_GRAN))) (List.range st25.variant.drch) = some (0, 0) ∧
    st25.csiTakes 0 0 = true ∧
    csiLineMark 0 = false ∧
    csiType 0 = none := by
  decide +kernel
def st26 : State := dr (enc prog [(F.CDC_E_CTRL_EN,0,0),(F.CDC_E_RING_GRAN,0,3)] Enc.blank)
theorem witness_encoder_effects_2 :
    0 < 2 ∧
    0 < st26.variant.encl ∧
    st26.cdc.enc.length = 2 ∧
    ((st26.enc 0).rings = [] ∨ 0 < st26.encUnits 0) ∧
    st26.fget F.CDC_E_CTRL_EN = 0 ∧
    (¬(1 ≤ st26.encBl 0 ∧ st26.encBl 0 ≤ 64 ∧ (st26.fget F.CDC_E_CFG_DT = 3 → st26.encBl 0 % 3 = 0) ∧ 16 ≤ st26.fget F.CDC_E_RING_GRAN ∧ st26.fget F.CDC_E_RING_GRAN ≤ 4096 ∧ st26.fget F.CDC_E_CFG_PORT < st26.variant.csi) ∨ List.findSome? (fun c => Option.map (fun a => (c, a)) (st26.freeRun c (st26.fget F.CDC_E_RING_GRAN))) (List.range st26.variant.drch) = none) := by
  decide +kernel
def st29 : State := go [(F.CDC_E_STAT_STATE,0,1)] {E0 with desc := [⟨0,100,false,false,false⟩]}
theorem witness_encoder_effects_3 :
    0 < 2 ∧
    0 < st29.variant.encl ∧
    st29.cdc.enc.length = 2 ∧
    ((st29.enc 0).rings = [] ∨ 0 < st29.encUnits 0) ∧
    st29.csiTakes 0 1 = true ∧
    st29.encsOf 0 2 = [0] ∧
    st29.fget F.CDC_E_STAT_STATE = 1 ∧
    csiLineMark 2 = true := by
  decide +kernel
def st30 : State := go [(F.CDC_E_STAT_STATE,0,1)] {E0 with desc := [⟨0,100,false,false,false⟩]}
theorem witness_encoder_effects_4 :
    0 < 2 ∧
    0 < st30.variant.encl ∧
    st30.cdc.enc.length = 2 ∧
    ((st30.enc 0).rings = [] ∨ 0 < st30.encUnits 0) ∧
    0 < st30.encUnits 0 ∧
    (¬(17 < 2 ^ 22 ∧ 17 < st30.encUnits 0 ∧ (17 + st30.encUnits 0 - st30.fget F.CDC_E_RDPTR_PTR64) % st30.encUnits 0 ≤ (st30.fget F.CDC_E_WRPTR_PTR64 + st30.encUnits 0 - st30.fget F.CDC_E_RDPTR_PTR64) % st30.encUnits 0)) ∧
    17 < 2 ^ 22 ∧
    st30.csiTakes 0 2 = false ∧
    (st30.enc 0).blk = none := by
  decide +kernel
def st31 : State := go [] EB
theorem witness_encoder_effects_5 :
    0 < 2 ∧
    0 < st31.variant.encl ∧
    st31.cdc.enc.length = 2 ∧
    ((st31.enc 0).rings = [] ∨ 0 < st31.encUnits 0) ∧
    st31.fget F.CDC_E_CTRL_EN = 1 ∧
    0 < st31.encUnits 0 ∧
    7 < 2 ^ 22 ∧
    7 < st31.encUnits 0 ∧
    (7 + st31.encUnits 0 - st31.fget F.CDC_E_RDPTR_PTR64) % st31.encUnits 0 ≤ (st31.fget F.CDC_E_WRPTR_PTR64 + st31.encUnits 0 - st31.fget F.CDC_E_RDPTR_PTR64) % st31.encUnits 0 ∧
    st31.csiTakes 0 0 = true ∧
    st31.encsOf 0 2 = [0] ∧
    st31.fget F.CDC_E_STAT_STATE = 2 ∧
    (st31.enc 0).fifo = [] ∧
    (st31.enc 0).blk = some eb ∧
    eb.mark = 0 ∧
    eb.lines ≠ [] ∧
    st31.encDrained 0 eb = true ∧
    st31.cal.ladder = false ∧
    csiLineMark 42 = false ∧
    csiType 42 ≠ none ∧
    csiType 42 = some 0 ∧
    st31.fget F.CDC_E_CFG_DT = 0 ∧
    [4, 5, 6] ≠ [] ∧
    [4, 5, 6].length ≤ 32768 ∧
    ((st31.enc 0).ppl = none ∨ (st31.enc 0).ppl = some [4, 5, 6].length) ∧
    (st31.enc 0).skip ≤ (st31.enc 0).nextLine ∧
    st31.encNeed 0 { first := eb.first, stop := eb.stop, ppl := eb.ppl, lines := eb.lines ++ [List.map (fun x => x % 256) [4, 5, 6]], mark := eb.mark, start := eb.start, out := eb.out : EncBlk } + 64 < st31.encRing 0 ∧
    (eb.mark = 0 ∨ st31.encDrained 0 eb = false ∨ 16 ≤ (st31.enc 0).desc.length) ∧
    (st31.enc 0).stopping = false := by
  decide +kernel
def st34 : State := go [] {EB with fifo := [.line 9 3 [[7,8,9]]]}
theorem witness_encoder_effects_6 :
    0 < 2 ∧
    0 < st34.variant.encl ∧
    st34.cdc.enc.length = 2 ∧
    ((st34.enc 0).rings = [] ∨ 0 < st34.encUnits 0) ∧
    (st34.enc 0).fifo = [EncItem.line 9 3 [[7, 8, 9]]] ∧
    (st34.enc 0).blk = some eb ∧
    eb.mark = 0 ∧
    st34.encDrained 0 eb = true ∧
    st34.encNeed 0 { first := eb.first, stop := eb.stop, ppl := eb.ppl, lines := eb.lines ++ [[7, 8, 9]], mark := eb.mark, start := eb.start, out := eb.out : EncBlk } + 64 < st34.encRing 0 := by
  decide +kernel
def st36 : State := go [] {EB with blk := some {eb with mark := 2, out := 1}, abortPend := true}
theorem witness_encoder_effects_7 :
    0 < 2 ∧
    0 < st36.variant.encl ∧
    st36.cdc.enc.length = 2 ∧
    ((st36.enc 0).rings = [] ∨ 0 < st36.encUnits 0) ∧
    (st36.enc 0).blk = some { first := eb.first, stop := eb.stop, ppl := eb.ppl, lines := eb.lines, mark := 2, start := eb.start, out := 1 : EncBlk } ∧
    { first := eb.first, stop := eb.stop, ppl := eb.ppl, lines := eb.lines, mark := 2, start := eb.start, out := 1 : EncBlk }.mark ≠ 0 ∧
    st36.encDrained 0 { first := eb.first, stop := eb.stop, ppl := eb.ppl, lines := eb.lines, mark := 2, start := eb.start, out := 1 : EncBlk } = true ∧
    (st36.enc 0).desc.length < 16 ∧
    (st36.enc 0).fifo = [] ∧
    (st36.enc 0).stopping = false := by
  decide +kernel

end Codec

namespace Scan

/-! States for beam_detect_effects, clock_effects. -/

def wEnv (s : State) (i : Nat) (e : Env) : State := { s with fmt := { s.fmt with env := s.fmt.env.set i (some e) } }
def pg (st : PageState) : Env := ⟨65, st, 77, 1, 1, 0, 0, 64, 512, 3, 210, 0, 64, 1408, [⟨0, 0, 640, 0, 128, some 0, [3], true, false, 0⟩], 0, 0, false⟩
def imag (s : State) (st : PageState) : State := let s := wEnv s 1 (pg st); { s with fmt := { s.fmt with queue := [65] } }
def bd (s : State) (l : List (FldDesc × Nat × Nat)) (x : Stn) : State :=
  (State.put s ([(F.SCN_S_CFG_TRACK,0,0),(F.SCN_S_CFG_REFMODE,0,0),(F.SCN_S_CFG_BDMODE,0,0),(F.SCN_S_CFG_NFM1,0,7),(F.EXP_S_STAT_LDOUT,0,1), (F.EXP_S_STAT_SETTLE,0,0),(F.SCN_S_STAT_AFAIL,0,0),(F.SCN_S_CFG_BDPOL,0,0),(F.SCN_S_STAT_BFAIL,0,0),(F.SCN_S_BDWIN_PRE,0,500),(F.SCN_S_BDWIN_POST,0,500)] ++ l)).setStn 0 x
def iv : List Nat := List.replicate 8 1000000
def locked : Stn := { Stn.blank with lastEdge := some 5000000, ivals := iv, trk := 9 }
def b2 : List (FldDesc × Nat × Nat) := [(F.SCN_S_STAT_STATE,0,2),(F.SCN_S_CFG_BDMODE,0,2)]
def st0 : State := bd prog [(F.SCN_S_STAT_STATE,0,2)] locked
theorem witness_beam_detect_effects_1 :
    (0 < st0.variant.stn ∧
    st0.img.stn.length = 6 ∧
    st0.imagingHandle = 0 ∧
    st0.envOf 0 = none ∧
    Option.map (fun x => x.2) st0.fmt.lastAbn ≠ some (st0.elapsed, 8) ∧
    (st0.stn 0).facet.hit = none ∧
    st0.fget F.SCN_S_CFG_TRACK = 0 ∧
    (st0.stn 0).pfreqPend = none ∧
    st0.fget F.SCN_S_CFG_REFMODE = 0 ∧
    st0.scnState 0 ≠ 0 ∧
    (st0.stn 0).winOpen = none ∧
    st0.scnState 0 = 2 ∧
    st0.ldReady 0 = true ∧
    st0.fget F.SCN_S_STAT_AFAIL = 0 ∧
    st0.fget F.SCN_S_CFG_BDMODE ≠ 2 ∧
    true ≠ (st0.fget F.SCN_S_CFG_BDPOL == 1) ∧
    128 ≤ 10 * 100 ∧
    (st0.stn 0).lastEdge = some 5000000 ∧
    5000000 ≤ 6000000 ∧
    st0.inWindow 0 6000000 0 = true ∧
    (st0.stn 0).miss = 0 ∧
    (st0.fget F.SCN_S_CFG_BDMODE = 0 ∨ st0.scnState 0 = 0 ∨ st0.ldReady 0 = false ∨ ¬(true ≠ (st0.fget F.SCN_S_CFG_BDPOL == 1) ∧ 128 ≤ 10 * 100))) ∧
    (∀ (k : Nat), (st0.stn k).endAt = none) :=
  ⟨by decide +kernel,
    stn_quiet _ (by decide +kernel) (by decide +kernel)⟩
def st1 : State := bd prog [(F.SCN_S_STAT_STATE,0,2)] {locked with winOpen := some 9}
theorem witness_beam_detect_effects_2 :
    0 < st1.variant.stn ∧
    st1.img.stn.length = 6 ∧
    (st1.scnState 0 = 0 ∨ (st1.stn 0).winOpen ≠ none) ∧
    (st1.scnState 0 = 0 ∨ st1.scnState 0 = 2 ∧ st1.inWindow 0 6300000 0 = false ∨ st1.ldReady 0 = false ∨ st1.fget F.SCN_S_STAT_AFAIL = 1 ∨ ¬(false ≠ (st1.fget F.SCN_S_CFG_BDPOL == 1) ∧ 128 ≤ 10 * 100)) := by
  decide +kernel
def st2 : State := bd prog [(F.SCN_S_STAT_STATE,0,2),(F.SCN_S_CFG_BDMODE,0,1),(F.CLK_S_PFREQ_FREQ,0,1000000000),(F.SCN_S_SOLDLY_SOLDLY,0,10)] {locked with lastA := some 5000000}
theorem witness_beam_detect_effects_3 :
    0 < st2.variant.stn ∧
    st2.img.stn.length = 6 ∧
    st2.scnState 0 ≠ 0 ∧
    st2.ldReady 0 = true ∧
    true ≠ (st2.fget F.SCN_S_CFG_BDPOL == 1) ∧
    128 ≤ 10 * 100 ∧
    st2.fget F.SCN_S_CFG_BDMODE = 1 ∧
    (st2.stn 0).lastA = some 5000000 ∧
    (st2.stn 0).winOpen = none ∧
    5000000 + st2.slotTime 0 (st2.solAt 0) ≤ 9900000 := by
  decide +kernel
def st3 : State := bd prog [(F.SCN_S_STAT_STATE,0,1)] {locked with trk := 0}
theorem witness_beam_detect_effects_4 :
    (0 < st3.variant.stn ∧
    st3.img.stn.length = 6 ∧
    st3.imagingHandle = 0 ∧
    st3.envOf 0 = none ∧
    Option.map (fun x => x.2) st3.fmt.lastAbn ≠ some (st3.elapsed, 8) ∧
    (st3.stn 0).facet.hit = none ∧
    st3.fget F.SCN_S_CFG_TRACK = 0 ∧
    (st3.stn 0).pfreqPend = none ∧
    st3.fget F.SCN_S_CFG_REFMODE = 0 ∧
    st3.scnState 0 = 1 ∧
    st3.ldReady 0 = true ∧
    st3.fget F.SCN_S_STAT_AFAIL = 0 ∧
    st3.fget F.SCN_S_CFG_BDMODE ≠ 2 ∧
    true ≠ (st3.fget F.SCN_S_CFG_BDPOL == 1) ∧
    128 ≤ 10 * 100 ∧
    (st3.stn 0).lastEdge = some 5000000 ∧
    5000000 ≤ 6000300 ∧
    (st3.stn 0).ivals = 1000000 :: List.drop 1 iv ∧
    st3.scnState 0 ≠ 2) ∧
    (∀ (k : Nat), (st3.stn k).endAt = none) :=
  ⟨by decide +kernel,
    stn_quiet _ (by decide +kernel) (by decide +kernel)⟩
def st5 : State := bd prog [(F.SCN_S_STAT_STATE,0,2)] {locked with miss := 1}
theorem witness_beam_detect_effects_5 :
    (0 < st5.variant.stn ∧
    st5.img.stn.length = 6 ∧
    st5.imagingHandle = 0 ∧
    st5.envOf 0 = none ∧
    Option.map (fun x => x.2) st5.fmt.lastAbn ≠ some (st5.elapsed, 8) ∧
    (st5.stn 0).facet.hit = none ∧
    st5.fget F.SCN_S_CFG_TRACK = 0 ∧
    (st5.stn 0).pfreqPend = none ∧
    st5.fget F.SCN_S_CFG_REFMODE = 0 ∧
    st5.scnState 0 = 2 ∧
    st5.fget F.SCN_S_CFG_BDMODE ≠ 2 ∧
    (st5.stn 0).lastEdge = some 5000000 ∧
    (st5.stn 0).miss = 1) ∧
    (∀ (k : Nat), (st5.stn k).endAt = none) :=
  ⟨by decide +kernel,
    stn_quiet _ (by decide +kernel) (by decide +kernel)⟩
def st6 : State := bd prog b2 {locked with bDone := true, lastB := some 6000100, abOff := [90, 80]}
theorem witness_beam_detect_effects_6 :
    (0 < st6.variant.stn ∧
    st6.img.stn.length = 6 ∧
    st6.imagingHandle = 0 ∧
    st6.envOf 0 = none ∧
    Option.map (fun x => x.2) st6.fmt.lastAbn ≠ some (st6.elapsed, 8) ∧
    (st6.stn 0).facet.hit = none ∧
    st6.fget F.SCN_S_CFG_TRACK = 0 ∧
    (st6.stn 0).pfreqPend = none ∧
    st6.fget F.SCN_S_CFG_REFMODE = 0 ∧
    st6.scnState 0 = 2 ∧
    st6.fget F.SCN_S_CFG_BDMODE = 2 ∧
    st6.fget F.SCN_S_STAT_AFAIL = 0 ∧
    st6.fget F.SCN_S_STAT_BFAIL = 0 ∧
    (st6.stn 0).bDone = true ∧
    (st6.stn 0).aMiss < 3 ∧
    (st6.stn 0).lastB = some 6000100 ∧
    (st6.stn 0).lastEdge = some 5000000 ∧
    st6.ldReady 0 = true ∧
    true ≠ (st6.fget F.SCN_S_CFG_BDPOL == 1) ∧
    128 ≤ 10 * 100 ∧
    (st6.stn 0).aWait = false ∧
    st6.inWindow 0 6000000 (st6.stn 0).meanOff = true) ∧
    (∀ (k : Nat), (st6.stn k).endAt = none) :=
  ⟨by decide +kernel,
    stn_quiet _ (by decide +kernel) (by decide +kernel)⟩
def st7 : State := bd prog b2 {locked with bDone := true, lastB := none, abOff := [90, 80]}
theorem witness_beam_detect_effects_7 :
    0 < st7.variant.stn ∧
    st7.img.stn.length = 6 ∧
    st7.scnState 0 = 2 ∧
    st7.fget F.SCN_S_CFG_BDMODE = 2 ∧
    st7.fget F.SCN_S_STAT_AFAIL = 0 ∧
    st7.fget F.SCN_S_STAT_BFAIL = 0 ∧
    (st7.stn 0).bDone = true ∧
    (st7.stn 0).lastB = none ∧
    0 < (st7.stn 0).meanOff ∧
    (st7.stn 0).aWait = false := by
  decide +kernel
def st8 : State := bd prog b2 {locked with bDone := false, lastA := some 5000000, abOff := [90, 80]}
theorem witness_beam_detect_effects_8 :
    0 < st8.variant.stn ∧
    st8.img.stn.length = 6 ∧
    st8.scnState 0 = 2 ∧
    st8.ldReady 0 = true ∧
    true ≠ (st8.fget F.SCN_S_CFG_BDPOL == 1) ∧
    128 ≤ 10 * 100 ∧
    st8.fget F.SCN_S_CFG_BDMODE = 2 ∧
    st8.fget F.SCN_S_STAT_BFAIL = 0 ∧
    st8.fget F.SCN_S_STAT_AFAIL = 0 ∧
    (st8.stn 0).lastA = some 5000000 ∧
    (st8.stn 0).bDone = false ∧
    5000000 ≤ 5000100 ∧
    (↑5000000 : Int) + (st8.stn 0).meanOff ≤ (↑5000100 : Int) + (↑(st8.winLen F.SCN_S_BDWIN_PRE 0) : Int) ∧
    (↑5000100 : Int) ≤ (↑5000000 : Int) + (st8.stn 0).meanOff + (↑(st8.winLen F.SCN_S_BDWIN_POST 0) : Int) := by
  decide +kernel
def st9 : State := bd prog (b2 ++ [(F.SCN_S_STAT_AFAIL,0,1)]) {locked with bDone := false, lastA := some 5000000, abOff := [90, 80]}
theorem witness_beam_detect_effects_9 :
    (0 < st9.variant.stn ∧
    st9.img.stn.length = 6 ∧
    st9.imagingHandle = 0 ∧
    st9.envOf 0 = none ∧
    Option.map (fun x => x.2) st9.fmt.lastAbn ≠ some (st9.elapsed, 8) ∧
    (st9.stn 0).facet.hit = none ∧
    st9.fget F.SCN_S_CFG_TRACK = 0 ∧
    (st9.stn 0).pfreqPend = none ∧
    st9.fget F.SCN_S_CFG_REFMODE = 0 ∧
    st9.scnState 0 = 2 ∧
    st9.ldReady 0 = true ∧
    true ≠ (st9.fget F.SCN_S_CFG_BDPOL == 1) ∧
    128 ≤ 10 * 100 ∧
    st9.fget F.SCN_S_CFG_BDMODE = 2 ∧
    st9.fget F.SCN_S_STAT_BFAIL = 0 ∧
    st9.fget F.SCN_S_STAT_AFAIL = 1 ∧
    st9.inWindow 0 6000100 (st9.stn 0).meanOff = true) ∧
    (∀ (k : Nat), (st9.stn k).endAt = none) :=
  ⟨by decide +kernel,
    stn_quiet _ (by decide +kernel) (by decide +kernel)⟩
def st11 : State := State.put prog [(F.SCN_S_CFG_EN,0,0), (F.SCN_S_CFG_BDMODE,0,3),(F.CLK_STAT_COAST,0,1),(F.CLK_COAST_LIM,0,5),(F.CLK_COAST_ELAPSED,0,5),(F.SCN_S_CFG_TRACK,0,1)]
theorem witness_clock_effects_1 :
    0 < st11.variant.stn ∧
    st11.img.stn.length = 6 ∧
    st11.stnImaging 0 = false ∧
    (¬(bits (st11.rget R.SCN_S_CFG) 28 27 ≠ 3 ∧ bits (st11.rget R.SCN_S_CFG) 30 29 ≠ 3)) ∧
    st11.fget F.SCN_S_CFG_TRACK = 1 ∧
    st11.pageBusy = false ∧
    st11.fget F.CLK_STAT_COAST = 1 ∧
    max (st11.fget F.CLK_COAST_LIM) 1 ≤ st11.fget F.CLK_COAST_ELAPSED ∧
    st11.anyImaging = false := by
  decide +kernel
def st12 : State := (State.put prog [(F.SCN_S_CFG_EN,0,1), (F.SCN_S_CFG_BDMODE,0,2),(F.SCN_S_CFG_REFMODE,0,0),(F.SCN_S_CFG_TRACK,0,0)]).setStn 0 {locked with pfreqPend := some 100000000, winOpen := some 0, bdLight := some ⟨0,none,0⟩}
theorem witness_clock_effects_2 :
    0 < st12.variant.stn ∧
    st12.img.stn.length = 6 ∧
    st12.stnImaging 0 = false ∧
    bits (st12.rget R.SCN_S_CFG) 28 27 ≠ 3 ∧
    bits (st12.rget R.SCN_S_CFG) 30 29 ≠ 3 ∧
    st12.fget F.SCN_S_CFG_EN = 1 := by
  decide +kernel
def st13 : State := State.put (imag prog .imaging) [(F.SCN_S_CFG_EN,0,0), (F.SCN_S_CFG_BDMODE,0,1), (F.SCN_S_CFG_REFMODE,0,1),(F.SCN_S_CFG_TRACK,0,0),(F.SCN_S_STAT_STATE,0,2),(F.CLK_STAT_COAST,0,1),(F.CLK_COAST_LIM,0,5),(F.CLK_COAST_ELAPSED,0,5)]
theorem witness_clock_effects_3 :
    0 < st13.variant.stn ∧
    st13.img.stn.length = 6 ∧
    st13.stnImaging 0 = true ∧
    st13.fget F.SCN_S_CFG_TRACK = 0 ∧
    st13.scnState 0 = 2 ∧
    st13.imagingHandle = (pg PageState.imaging).handle ∧
    (pg PageState.imaging).handle ≠ 0 ∧
    (pg PageState.imaging).handle < 2 ^ 32 ∧
    (pg PageState.imaging).state = PageState.imaging ∧
    st13.envOf (pg PageState.imaging).handle = some (pg PageState.imaging) ∧
    st13.fmt.env.length = 64 ∧
    (pg PageState.imaging).has 0 = true := by
  decide +kernel
def st14 : State := State.put (imag prog .admitted) [(F.FMT_HEADSTAT_READY,0,1)]
theorem witness_clock_effects_4 :
    (0 < st14.variant.stn ∧
    st14.img.stn.length = 6 ∧
    st14.imagingHandle = 0 ∧
    st14.envOf 0 = none ∧
    Option.map (fun x => x.2) st14.fmt.lastAbn ≠ some (st14.elapsed, 8) ∧
    (st14.stn 0).facet.hit = none ∧
    bits (st14.rget R.SCN_S_CFG) 28 27 ≠ 3 ∧
    bits (st14.rget R.SCN_S_CFG) 30 29 ≠ 3 ∧
    st14.fget F.SCN_S_CFG_EN = 0 ∧
    st14.fget F.SCN_S_CFG_TRACK = 0 ∧
    st14.scnState 0 ≠ 2 ∧
    100000000 < 2 ^ 32 ∧
    st14.pageBusy = true ∧
    st14.stnImaging 0 = false ∧
    st14.fget F.CLK_STAT_COAST = 0 ∧
    (st14.fget F.CLK_STAT_COAST = 0 ∨ st14.fget F.CLK_COAST_ELAPSED < max (st14.fget F.CLK_COAST_LIM) 1) ∧
    (st14.fget F.CLK_STAT_COAST = 0 ∨ st14.anyImaging = true) ∧
    st14.fget F.FMT_HEADSTAT_READY = 1 ∧
    (pg PageState.admitted).handle ≠ 0 ∧
    st14.headHandle = (pg PageState.admitted).handle ∧
    st14.envOf (pg PageState.admitted).handle = some (pg PageState.admitted) ∧
    (pg PageState.admitted).state = PageState.admitted ∧
    st14.fmt.env.length = 64 ∧
    (st14.fget F.FMT_HEADSTAT_READY = 0 ∨ 100000000 = 0 ∨ st14.headHandle ≠ 100000000)) ∧
    (∀ (k : Nat), (st14.stn k).endAt = none) :=
  ⟨by decide +kernel,
    stn_quiet _ (by decide +kernel) (by decide +kernel)⟩

end Scan

namespace Expose

/-! States for laser_enable_effects, exposure_effects. -/

def wEnv (s : State) (i : Nat) (e : Env) : State := { s with fmt := { s.fmt with env := s.fmt.env.set i (some e) } }
def pg : Env := ⟨65, .imaging, 77, 1, 1, 0, 0, 64, 512, 3, 210, 0, 64, 1408, [⟨0, 0, 640, 0, 128, some 0, [3], true, false, 0⟩], 0, 0, false⟩
def imag (s : State) : State := let s := wEnv s 1 pg; { s with fmt := { s.fmt with queue := [65] } }
def armd (s : State) : State :=
  let s := State.put s [(F.BST_S_CFG_NB,0,4),(F.BST_S_CFG_NB,1,0),(F.BST_S_CFG_NB,2,0),(F.BST_S_CFG_NB,3,0),(F.BST_S_CFG_NB,4,0),(F.BST_S_CFG_NB,5,0)]
  let s := (List.range 64).foldl (fun (s : State) j => s.fset F.BST_S_ZOFF_PEND 0 0 j) s
  let s := [0,1,2,3].foldl (fun (s : State) j => s.fset F.BST_S_REMAP_PEND j 0 j) s
  { s with img := { s.img with armPend := true } }
def f0 : Facet := Facet.blank
def at0 (s : State) (x : Stn) : State := { s with elapsed := 100, img := { s.img with stn := s.img.stn.set 0 x } }
def se : Stn := { prog.stn 0 with lastEdge := some 0, ivals := List.replicate 40 (400000000), trk := 40 }
def apc (e m : Nat) : State := State.put (at0 prog {se with spiRun := none }) [(F.EXP_S_APCCFG_APCSLOT,0,2),(F.SCN_S_SOLDLY_SOLDLY,0,0),(F.CLK_S_PFREQ_FREQ,0,1000000000),(F.EXP_S_APCCFG_APCN,0,2),(F.EXP_S_APCCFG_APCSTART,0,2),(F.BST_S_CFG_NB,0,4),(F.EXP_S_STAT_LDOUT,0,1), (F.EXP_S_STAT_SETTLE,0,0),(F.EXP_S_SPICFG_LEN32,0,1), (⟨R.EXP_S_EMAX,31,0⟩,0,e), (⟨R.EXP_S_SMAX,31,0⟩,0,m)]
def clkd (s : State) : State := State.put s [(F.CLK_S_PFREQ_FREQ,0,1000000000),(F.BST_S_CFG_NB,0,4)]
def st0 : State := { (State.put prog [(F.EXP_ILK_TRIPPED,0,0), (F.EXP_S_STAT_LDOUT,0,0)]) with pins := {prog.pins with ilkClosed := true, estopN := true}, tick := 6000, elapsed := 6000 }
theorem witness_laser_enable_effects_1 :
    0 < st0.variant.stn ∧
    st0.img.stn.length = 6 ∧
    1 % 2 = 1 ∧
    st0.fget F.EXP_ILK_TRIPPED = 0 ∧
    st0.ilkGood = true ∧
    (st0.stn 0).hot = 0 ∧
    st0.bivouac = false ∧
    st0.fget F.EXP_S_STAT_LDOUT = 0 ∧
    st0.imagingHandle = 0 ∧
    st0.envOf 0 = none ∧
    Option.map (fun x => x.2) st0.fmt.lastAbn ≠ some (st0.elapsed, 8) ∧
    st0.img.ilkSince + 5000 * 128000 ≤ st0.time16 := by
  decide +kernel
def st3 : State := { (State.put prog [(F.EXP_ILK_TRIPPED,0,0), (F.EXP_S_STAT_LDOUT,0,0), (F.EXP_S_STAT_SETTLE,0,1)]) with pins := {prog.pins with ilkClosed := false, estopN := true}, elapsed := 6, fmt := {prog.fmt with lastAbn := some (9, 6, 8), done := [⟨9,8,false,8,0⟩]}}
theorem witness_laser_enable_effects_2 :
    0 < st3.variant.stn ∧
    st3.img.stn.length = 6 ∧
    9 % 2 = 1 ∧
    (st3.fget F.EXP_ILK_TRIPPED = 1 ∨ st3.ilkGood = false) ∧
    st3.fget F.EXP_S_STAT_LDOUT = 0 ∧
    st3.fget F.EXP_S_STAT_SETTLE = 1 ∧
    (st3.stn 0).ldUp + 5 * 128000 ≤ st3.time16 ∧
    (st3.stn 0).winOpen = none ∧
    st3.imagingHandle = 0 ∧
    st3.envOf 0 = none ∧
    st3.fmt.lastAbn = some (9, st3.elapsed, 8) := by
  decide +kernel
def st4 : State := imag (State.put prog [(F.EXP_ILK_TRIPPED,0,0), (F.EXP_S_CTRL_LDEN,0,1),(F.EXP_S_STAT_LDOUT,0,1), (F.EXP_S_STAT_SETTLE,0,1)])
theorem witness_laser_enable_effects_3 :
    0 < st4.variant.stn ∧
    st4.img.stn.length = 6 ∧
    2 % 2 = 0 ∧
    st4.fget F.EXP_S_CTRL_LDEN = 1 ∧
    st4.imagingHandle = pg.handle ∧
    pg.handle ≠ 0 ∧
    pg.handle < 2 ^ 32 ∧
    pg.state = PageState.imaging ∧
    st4.envOf pg.handle = some pg ∧
    st4.fmt.env.length = 64 ∧
    pg.has 0 = true := by
  decide +kernel
def st5 : State := armd base
theorem witness_laser_enable_effects_4 :
    0 < st5.variant.stn ∧
    st5.img.stn.length = 6 ∧
    131076 % 2 = 0 ∧
    st5.stnImaging 0 = false ∧
    (st5.fget F.EXP_S_STAT_SETTLE = 0 ∨ st5.time16 < (st5.stn 0).ldUp + 5 * 128000) ∧
    st5.pins.ilkClosed = false ∧
    (st5.ilkGood = false ∨ st5.time16 < st5.img.ilkSince + 5000 * 128000) ∧
    st5.pageBusy = false ∧
    0 < 131076 ∧
    131076 < 2 ^ 32 ∧
    1 ≤ bits 131076 5 0 ∧
    bits 131076 5 0 ≤ st5.variant.beams ∧
    bits 131076 21 16 ≤ 35 ∧
    st5.img.armPend = true ∧
    (∀ k < st5.variant.stn, st5.armErr k = 0) := by
  decide +kernel
def st7 : State := (armd prog).fset F.BST_S_REMAP_PEND 1 0 0
theorem witness_laser_enable_effects_5 :
    0 < st7.variant.stn ∧
    st7.img.stn.length = 6 ∧
    st7.img.armPend = true ∧
    (∀ k < 0, st7.armErr k = 0) ∧
    st7.armErr 0 ≠ 0 := by
  decide +kernel
def st8 : State := at0 prog { se with facet := {f0 with hit := some (3, 5)}}
theorem witness_exposure_effects_1 :
    0 < st8.variant.stn ∧
    st8.img.stn.length = 6 ∧
    (st8.stn 0).bdLight = none ∧
    st8.stnImaging 0 = false ∧
    (∀ (q : Nat × Nat), (st8.stn 0).facet.hit = some q → (st8.stn 0).facet.told = true ∨ st8.subPos 0 st8.time16 ≤ q.2) ∧
    (st8.fget F.EXP_S_DCFG_WARN = 0 ∨ st8.stnImaging 0 = false) ∧
    (st8.ldReady 0 = false ∨ st8.fget F.EXP_S_APCCFG_APCN ≤ (st8.stn 0).apcDone ∨ 0 = 8 * st8.fget F.EXP_S_APCCFG_APCSLOT ∧ ¬(st8.subPos 0 0 = max (8 * st8.fget F.EXP_S_APCCFG_APCSTART) (List.foldl max 0 (List.map (fun b => st8.bdly 0 b + 8 * (nth (st8.stn 0).facet.masks b []).length + 63) (List.filter (fun b => !(nth (st8.stn 0).facet.masks b []).isEmpty) (List.range 32)))) + 0 * (st8.stn 0).apcDone ∧ (st8.stn 0).winOpen = none ∧ 0 + st8.slotTime 0 0 + 6400 + st8.winLen F.SCN_S_BDWIN_PRE 0 ≤ st8.predicted 0)) ∧
    (st8.stn 0).spiRun = none ∧
    (st8.stn 0).spiScale = none ∧
    (st8.stn 0).spiTrims = [] ∧
    0 < st8.nb 0 := by
  decide +kernel
def st12 : State := State.put (at0 (imag prog) { se with facet := {f0 with extra := List.replicate 32 200}}) [(F.EXP_S_DCFG_WARN,0,50), (⟨R.EXP_S_EMAX,31,0⟩,0,10)]
theorem witness_exposure_effects_2 :
    0 < st12.variant.stn ∧
    st12.img.stn.length = 6 ∧
    (st12.stn 0).bdLight = none ∧
    st12.stnImaging 0 = true ∧
    0 < st12.fget F.EXP_S_DCFG_WARN ∧
    3 < 32 ∧
    st12.fget F.EXP_S_DCFG_WARN * st12.emax 0 ≤ 100 * st12.beamSum 0 3 (some (st12.subPos 0 st12.time16)) ∧
    (st12.stn 0).warned = [] := by
  decide +kernel
def st13 : State := apc 10 10
theorem witness_exposure_effects_3 :
    0 < st13.variant.stn ∧
    st13.img.stn.length = 6 ∧
    0 = (st13.stn 0).apcNext ∧
    0 + 1 < st13.nb 0 ∧
    0 < 32 ∧
    16 = 8 * st13.fget F.EXP_S_APCCFG_APCSLOT ∧
    st13.ldReady 0 = true ∧
    (st13.stn 0).apcDone < st13.fget F.EXP_S_APCCFG_APCN ∧
    st13.subPos 0 144 = max (8 * st13.fget F.EXP_S_APCCFG_APCSTART) (List.foldl max 0 (List.map (fun b => st13.bdly 0 b + 8 * (nth (st13.stn 0).facet.masks b []).length + 63) (List.filter (fun b => !(nth (st13.stn 0).facet.masks b []).isEmpty) (List.range 32)))) + 16 * (st13.stn 0).apcDone ∧
    (st13.stn 0).winOpen = none ∧
    144 + st13.slotTime 0 16 + 6400 + st13.winLen F.SCN_S_BDWIN_PRE 0 ≤ st13.predicted 0 ∧
    (st13.stn 0).facet.cut = none ∧
    (st13.stn 0).facet.dark = [] ∧
    st13.beamSum 0 0 none + 16 ≤ st13.emax 0 ∧
    st13.stnSum 0 none + 16 ≤ st13.smax 0 := by
  decide +kernel
def st14 : State := apc 0 10
theorem witness_exposure_effects_4 :
    0 < st14.variant.stn ∧
    st14.img.stn.length = 6 ∧
    (st14.stn 0).apcNext < st14.nb 0 ∧
    st14.nb 0 ≤ 32 ∧
    0 = (st14.stn 0).apcNext ∧
    16 = 8 * st14.fget F.EXP_S_APCCFG_APCSLOT ∧
    st14.ldReady 0 = true ∧
    (st14.stn 0).apcDone < st14.fget F.EXP_S_APCCFG_APCN ∧
    st14.subPos 0 144 = max (8 * st14.fget F.EXP_S_APCCFG_APCSTART) (List.foldl max 0 (List.map (fun b => st14.bdly 0 b + 8 * (nth (st14.stn 0).facet.masks b []).length + 63) (List.filter (fun b => !(nth (st14.stn 0).facet.masks b []).isEmpty) (List.range 32)))) + 16 * (st14.stn 0).apcDone ∧
    (st14.stn 0).winOpen = none ∧
    144 + st14.slotTime 0 16 + 6400 + st14.winLen F.SCN_S_BDWIN_PRE 0 ≤ st14.predicted 0 ∧
    st14.stnImaging 0 = false ∧
    (st14.stn 0).facet.held = false ∧
    (st14.stn 0).facet.cut = none ∧
    (st14.stn 0).facet.dark = [] ∧
    (st14.emax 0 < st14.beamSum 0 0 none + 16 ∨ st14.smax 0 < st14.stnSum 0 none + 16) := by
  decide +kernel
def st16 : State := State.put (prog.setStn 0 { (prog.stn 0) with spiRun := some true, lastEdge := some 0}) [(F.EXP_S_SPICFG_LEN32,0,1)]
theorem witness_exposure_effects_5 :
    0 < st16.variant.stn ∧
    st16.img.stn.length = 6 ∧
    (st16.stn 0).spiRun = some true ∧
    (st16.stn 0).spiScale = none ∧
    (st16.stn 0).spiTrims = [] ∧
    (st16.stn 0).spiRaw = 0 := by
  decide +kernel
def st17 : State := clkd (at0 prog { se with facet := {f0 with hit := some (3, 5)}})
theorem witness_exposure_effects_6 :
    0 < st17.variant.stn ∧
    st17.img.stn.length = 6 ∧
    (st17.stn 0).bdLight = none ∧
    (st17.stn 0).facet.hit = some (3, 5) ∧
    5 < st17.subPos 0 st17.time16 ∧
    (st17.stn 0).facet.told = false ∧
    st17.stnImaging 0 = false ∧
    (st17.stn 0).facet.held = false := by
  decide +kernel
def st18 : State := clkd (at0 (imag prog) { se with facet := {f0 with hit := some (3, 5)}})
theorem witness_exposure_effects_7 :
    0 < st18.variant.stn ∧
    st18.img.stn.length = 6 ∧
    (st18.stn 0).bdLight = none ∧
    (st18.stn 0).facet.hit = some (3, 5) ∧
    5 < st18.subPos 0 st18.time16 ∧
    (st18.stn 0).facet.told = false ∧
    st18.imagingHandle = pg.handle ∧
    pg.handle ≠ 0 ∧
    pg.handle < 2 ^ 32 ∧
    pg.state = PageState.imaging ∧
    st18.envOf pg.handle = some pg ∧
    st18.fmt.env.length = 64 ∧
    pg.has 0 = true ∧
    3 < 32 := by
  decide +kernel
def st19 : State := clkd (at0 (imag prog) { se with facet := {f0 with hit := some (32, 5)}})
theorem witness_exposure_effects_8 :
    0 < st19.variant.stn ∧
    st19.img.stn.length = 6 ∧
    (st19.stn 0).bdLight = none ∧
    (st19.stn 0).facet.hit = some (32, 5) ∧
    5 < st19.subPos 0 st19.time16 ∧
    (st19.stn 0).facet.told = false ∧
    st19.imagingHandle = pg.handle ∧
    pg.handle ≠ 0 ∧
    pg.handle < 2 ^ 32 ∧
    pg.state = PageState.imaging ∧
    st19.envOf pg.handle = some pg ∧
    st19.fmt.env.length = 64 ∧
    pg.has 0 = true := by
  decide +kernel

end Expose

namespace Cal

/-! States for calibration_run, parameter_sets. -/

def laneCfg : Nat := 2^31 + 100
def cc : Cal := { Cal.blank with lane := [laneCfg,0,laneCfg,0], old := some [], edges := [[(true,5)],[],[],[]] }
def calS (s : State) (l : List (FldDesc × Nat × Nat)) (c : Cal) : State := { State.put s l with cal := c }
def runC (s : State) (cfg : Nat) : State := { (((((s.rset R.CAL_CFG cfg).rset R.CAL_M_CFG laneCfg 0).rset R.CAL_M_CFG 0 1).rset R.CAL_M_CFG 0 2).rset R.CAL_M_CFG 0 3).fset F.CAL_STAT_STATE 4 with cal := { cc with runPend := true } }
def ov : Cal := {cc with edges := [[(true,-2^50),(false,10-2^50)],[],[(true,-2^50),(false,10-2^50)],[]]}
def setB : List Nat := (List.replicate 1600 0).set 8 63
def law30 : LawDecl :=
  { law := 30, type := .pi, cls := 3, initAct := true, pinPh := false, pinEng := none, phase := 8, altGrp := 0
    meas := ⟨0x72024, 0, 12, 0, false⟩, aux := none, sp := none, tgt := ⟨0x72018, 0, 16, 0, false⟩, tgt2 := none
    ein := -3, egain := -12, eout := 1, eaux := 0, init := [], engine := 0, slot := 0, oph := 8 }
def st0 : State := runC prog (3*2^18)
theorem witness_calibration_run_1 :
    st0.cal.runPend = true ∧
    st0.calRefusal { runPend := false, cfg := st0.rget R.CAL_CFG, geom := st0.rget R.CAL_GEOM, lpc := st0.rget R.CAL_LPC, lane := List.map (fun k => st0.rget R.CAL_M_CFG k) (List.range 4), ended := st0.cal.ended, old := st0.cal.old, gen := st0.cal.gen, isStale := st0.cal.isStale, onMark := st0.cal.onMark, edges := st0.cal.edges, laneDone := st0.cal.laneDone, rows := st0.cal.rows, inRow := st0.cal.inRow, frames := st0.cal.frames, ticks := st0.cal.ticks, result := st0.cal.result, applySet := st0.cal.applySet, store := st0.cal.store : Cal } = 0 ∧
    0 < 64 ∧
    st0.slotEnv 0 = none ∧
    (∀ j < 0, st0.slotEnv j ≠ none) ∧
    st0.fmt.env.length = 64 := by
  decide +kernel
def st1 : State := runC prog (3*2^18+2*2^24)
theorem witness_calibration_run_2 :
    st1.cal.runPend = true ∧
    st1.calRefusal { runPend := false, cfg := st1.rget R.CAL_CFG, geom := st1.rget R.CAL_GEOM, lpc := st1.rget R.CAL_LPC, lane := List.map (fun k => st1.rget R.CAL_M_CFG k) (List.range 4), ended := st1.cal.ended, old := st1.cal.old, gen := st1.cal.gen, isStale := st1.cal.isStale, onMark := st1.cal.onMark, edges := st1.cal.edges, laneDone := st1.cal.laneDone, rows := st1.cal.rows, inRow := st1.cal.inRow, frames := st1.cal.frames, ticks := st1.cal.ticks, result := st1.cal.result, applySet := st1.cal.applySet, store := st1.cal.store : Cal } ≠ 0 ∧
    0 < 4 ∧
    (¬(st1.cal.laneOn 0 = true ∧ st1.cal.ladder = false ∧ (st1.calState = 1 ∨ st1.calState = 2)) ∨ st1.cal.compare 0 100 (nth st1.cal.onMark 0 false) = nth st1.cal.onMark 0 false) ∧
    (¬(st1.cal.laneOn 0 = true ∧ st1.cal.ladder = false ∧ (st1.calState = 1 ∨ st1.calState = 2)) ∨ st1.cal.old = none ∨ st1.cal.laneOver 0 (st1.axRaw st1.cal.posax * 256) = false) ∧
    st1.calState ≠ 3 := by
  decide +kernel
def st4 : State := calS prog [(F.CAL_STAT_STATE,0,2)] {cc with onMark := [true,true,true,true]}
theorem witness_calibration_run_3 :
    0 < 4 ∧
    st4.cal.laneOn 0 = true ∧
    st4.cal.ladder = false ∧
    (st4.calState = 1 ∨ st4.calState = 2) ∧
    st4.cal.compare 0 0 (nth st4.cal.onMark 0 false) ≠ nth st4.cal.onMark 0 false ∧
    st4.cal.old = some [] ∧
    0 ∉ st4.cal.laneDone ∧
    (st4.cal.compare 0 0 (nth st4.cal.onMark 0 false) = true ∨ nth st4.cal.edges 0 [] ≠ []) := by
  decide +kernel
def st6 : State := calS prog [(F.CAL_STAT_STATE,0,2)] {cc with onMark := [true,true,true,true], laneDone := [0]}
theorem witness_calibration_run_4 :
    0 < 4 ∧
    st6.cal.laneOn 0 = true ∧
    st6.cal.ladder = false ∧
    (st6.calState = 1 ∨ st6.calState = 2) ∧
    st6.cal.compare 0 4000 (nth st6.cal.onMark 0 false) ≠ nth st6.cal.onMark 0 false ∧
    (st6.cal.old = none ∨ 0 ∈ st6.cal.laneDone ∨ st6.cal.compare 0 4000 (nth st6.cal.onMark 0 false) = false ∧ nth st6.cal.edges 0 [] = []) := by
  decide +kernel
def st7 : State := calS prog [(F.CAL_STAT_STATE,0,2)] ov
theorem witness_calibration_run_5 :
    2 < 4 ∧
    st7.cal.laneOn 2 = true ∧
    st7.cal.ladder = false ∧
    (st7.calState = 1 ∨ st7.calState = 2) ∧
    st7.cal.old = some [] ∧
    st7.cal.laneOver 2 (st7.axRaw st7.cal.posax * 256) = true ∧
    st7.cal.ended = none := by
  decide +kernel
def st8 : State := calS prog [(F.CAL_STAT_STATE,0,2)] {ov with ended := some true, laneDone := [0]}
theorem witness_calibration_run_6 :
    2 < 4 ∧
    st8.cal.laneOn 2 = true ∧
    st8.cal.ladder = false ∧
    (st8.calState = 1 ∨ st8.calState = 2) ∧
    st8.cal.old = some [] ∧
    st8.cal.laneOver 2 (st8.axRaw st8.cal.posax * 256) = true ∧
    st8.cal.ended = some true ∧
    st8.cal.isStale = false ∧
    (∀ l ∈ st8.cal.lanes, l = 2 ∨ l ∈ st8.cal.laneDone) := by
  decide +kernel
def st9 : State := calS prog [(F.CAL_STAT_STATE,0,2)] {ov with ended := some true, laneDone := [0], isStale := true}
theorem witness_calibration_run_7 :
    2 < 4 ∧
    st9.cal.laneOn 2 = true ∧
    st9.cal.ladder = false ∧
    (st9.calState = 1 ∨ st9.calState = 2) ∧
    st9.cal.old = some [] ∧
    st9.cal.laneOver 2 (st9.axRaw st9.cal.posax * 256) = true ∧
    st9.cal.ended ≠ none ∧
    st9.cal.isStale = true ∧
    (∀ l ∈ st9.cal.lanes, l = 2 ∨ l ∈ st9.cal.laneDone) := by
  decide +kernel
def st10 : State := calS prog [(F.CAL_STAT_STATE,0,3)] {cc with old := none}
theorem witness_calibration_run_8 :
    st10.calState = 3 ∧
    st10.cal.old = none := by
  decide +kernel
def st11 : State := calS prog [(F.CAL_STAT_STATE,0,3)] {cc with cfg := 3*2^18}
theorem witness_calibration_run_9 :
    st11.calState = 3 ∧
    st11.cal.old = some [] ∧
    (st11.cal.ladder = false ∨ st11.cal.rows.length = st11.cal.ns * st11.nb st11.cal.ref) := by
  decide +kernel
def st12 : State := calS prog [(F.CAL_STAT_STATE,0,3)] {cc with cfg := 3*2^18+2^31}
theorem witness_calibration_run_10 :
    st12.calState = 3 ∧
    st12.cal.old = some [] ∧
    st12.cal.ladder = true ∧
    st12.cal.rows.length ≠ st12.cal.ns * st12.nb st12.cal.ref := by
  decide +kernel
def st13 : State := calS {prog with sec := {prog.sec with strap := true}} [(F.CAL_SET_SRC,0,4),(F.CAL_STAT_STATE,0,4),(F.CAL_STAT_STBUSY,0,0)] {cc with result := setB}
theorem witness_parameter_sets_1 :
    st13.calSource (st13.fget F.CAL_SET_SRC) = some setB ∧
    (st13.boundary = false ∨ st13.cal.applySet = none ∧ st13.boundary = true ∧ st13.seq.rel = [] ∧ st13.ring.writes = []) ∧
    st13.presence = true ∧
    st13.fget F.CAL_STAT_STBUSY = 0 ∧
    st13.calState = 4 ∧
    st13.pwr.holdTemp = false ∧
    (st13.cal.store = none ∨ st13.pwr.holdSup = true) ∧
    st13.fget F.LPE_PSTAT_BUSY = 0 ∧
    (st13.lawCommitted (st13.fget F.LPE_PACC_LAW)).readable (st13.fget F.LPE_PACC_PARAM) = false := by
  decide +kernel
def st14 : State := calS {prog with sec := {prog.sec with strap := true}} [(F.CAL_SET_SRC,0,4),(F.CAL_STAT_STATE,0,3),(F.CAL_STAT_STBUSY,0,0),(F.LPE_PSTAT_BUSY,0,0)] {cc with result := setB}
theorem witness_parameter_sets_2 :
    st14.presence = true ∧
    st14.fget F.CAL_STAT_STBUSY = 0 ∧
    st14.calState ≠ 4 := by
  decide +kernel
def st15 : State := calS {prog with committed := true, phase := 15, sec := {prog.sec with strap := false}} [(F.CAL_SET_SRC,0,4),(F.CAL_STAT_STATE,0,3),(F.CAL_STAT_STBUSY,0,0),(F.LPE_PSTAT_BUSY,0,1),(F.LPE_PACC_PARAM,0,1),(F.LPE_PACC_LAW,0,1)] {cc with store := some (1,setB), applySet := some setB}
theorem witness_parameter_sets_3 :
    st15.calSource (st15.fget F.CAL_SET_SRC) = none ∧
    st15.boundary = true ∧
    st15.seq.rel = [] ∧
    st15.ring.writes = [] ∧
    st15.ticking = true ∧
    st15.cal.applySet = some setB ∧
    st15.anyImaging = false ∧
    (∀ n < st15.variant.stn, (leAt setB 8 1).testBit n = true) ∧
    st15.presence = false ∧
    st15.cal.store = some (1, setB) ∧
    st15.pwr.holdSup = false ∧
    st15.fget F.LPE_PSTAT_BUSY = 1 := by
  decide +kernel
def st16 : State := calS {prog with sec := {prog.sec with strap := true}, pwr := {prog.pwr with holdTemp := true}} [(F.CAL_SET_SRC,0,4),(F.CAL_STAT_STATE,0,4),(F.CAL_STAT_STBUSY,0,0),(F.LPE_PSTAT_BUSY,0,0)] {cc with result := setB}
theorem witness_parameter_sets_4 :
    st16.presence = true ∧
    st16.fget F.CAL_STAT_STBUSY = 0 ∧
    st16.calState = 4 ∧
    st16.pwr.holdTemp = true := by
  decide +kernel
def st17 : State := calS {prog with sec := {prog.sec with strap := true}} [(F.CAL_SET_SRC,0,4),(F.CAL_STAT_STATE,0,4),(F.CAL_STAT_STBUSY,0,1),(F.LPE_PSTAT_BUSY,0,0)] {cc with result := setB}
theorem witness_parameter_sets_5 :
    st17.presence = true ∧
    st17.fget F.CAL_STAT_STBUSY = 1 := by
  decide +kernel
def st18 : State := calS {prog with lpe := { prog.lpe with ckpt := prog.lpe.ckpt.set 2 { Law.blank with decl := some law30 }}} [(F.LPE_PACC_PARAM,0,1),(F.LPE_PACC_LAW,0,2)] {cc with store := some (1,setB), applySet := some setB}
theorem witness_parameter_sets_6 :
    (st18.lawCommitted (st18.fget F.LPE_PACC_LAW)).readable (st18.fget F.LPE_PACC_PARAM) = true := by
  decide +kernel

end Cal

namespace Hv

/-! States for high_voltage_and_fuser. -/

def wEnv (s : State) (i : Nat) (e : Env) : State := { s with fmt := { s.fmt with env := s.fmt.env.set i (some e) } }
def pg (st : PageState) : Env := ⟨65, st, 77, 1, 1, 0, 0, 64, 512, 3, 210, 0, 64, 1408, [⟨0, 0, 640, 0, 128, some 0, [3], true, false, 0⟩], 0, 0, false⟩
def imag (s : State) (st : PageState) : State := let s := wEnv s 1 (pg st); { s with fmt := { s.fmt with queue := [65] } }
def nzb : State := { prog with committed := true, phase := 15 }
def st0 : State := State.put prog [(F.HVS_C_STAT_STATE,1,1),(F.HVS_C_CFG_CRIT,1,0),(F.HVS_C_PROT_ITRIP,1,5),(F.HVS_C_SCALE_IFS,1,1000)]
theorem witness_high_voltage_and_fuser_1 :
    st0.hvPresent 1 = true ∧
    st0.fget F.HVS_C_STAT_STATE 1 ≠ 3 ∧
    st0.hvOver 1 4000 = true ∧
    st0.hvOver 1 3000 = true ∧
    st0.fget F.HVS_C_CFG_CRIT 1 = 0 ∧
    st0.power.hv.length = 24 := by
  decide +kernel
def st1 : State := State.put (imag prog .imaging) [(F.HVS_C_STAT_STATE,1,1),(F.HVS_C_CFG_CRIT,1,1),(F.HVS_C_PROT_ITRIP,1,5),(F.HVS_C_SCALE_IFS,1,1000)]
theorem witness_high_voltage_and_fuser_2 :
    st1.hvPresent 1 = true ∧
    st1.fget F.HVS_C_STAT_STATE 1 ≠ 3 ∧
    st1.hvOver 1 4000 = true ∧
    st1.hvOver 1 3000 = true ∧
    st1.fget F.HVS_C_CFG_CRIT 1 = 1 ∧
    st1.power.hv.length = 24 ∧
    st1.imagingHandle = (pg PageState.imaging).handle ∧
    (pg PageState.imaging).handle ≠ 0 ∧
    (pg PageState.imaging).handle < 2 ^ 32 ∧
    (pg PageState.imaging).state = PageState.imaging ∧
    st1.envOf (pg PageState.imaging).handle = some (pg PageState.imaging) ∧
    st1.fmt.env.length = 64 := by
  decide +kernel
def st2 : State := State.put prog [(F.HVS_C_STAT_STATE,1,3),(F.HVS_C_CTRL_EN,1,0),(F.FUS_Z_TEMP_TEMP,1,100),(F.FUS_Z_TRIP_TRIP,1,2000),(F.FUS_Z_STAT_FAULT,1,0)]
theorem witness_high_voltage_and_fuser_3 :
    (¬(st2.hvPresent 1 = true ∧ st2.fget F.HVS_C_STAT_STATE 1 ≠ 3 ∧ st2.hvOver 1 0 = true ∧ st2.hvOver 1 0 = true)) ∧
    st2.hvPresent 1 = true ∧
    st2.fget F.HVS_C_STAT_STATE 1 = 3 ∧
    st2.fget F.HVS_C_CTRL_EN 1 = 0 ∧
    (¬(bits 520355839 18 16 ≤ 4 ∧ (bits 520355839 18 16 = 3 → 1 % 2 = 0) ∧ (bits 520355839 18 16 = 4 → 1 % 2 = 1 ∧ st2.hvType (1 - 1) = 3) ∧ (1 % 2 = 0 → bits 520355839 18 16 ≠ 3 → st2.hvPresent (1 + 1) = false ∨ st2.hvType (1 + 1) ≠ 4))) ∧
    1 < 4 ∧
    st2.fsigned F.FUS_Z_TEMP_TEMP 1 < st2.fsigned F.FUS_Z_TRIP_TRIP 1 - 160 ∧
    st2.fget F.FUS_Z_STAT_FAULT 1 = 0 ∧
    (st2.boundary = false ∨ nth st2.power.fus.dis 1 0 < 50 ∨ nth st2.power.fus.disTold 1 false = true) := by
  decide +kernel
def st3 : State := State.put prog [(F.HVS_C_STAT_STATE,1,3),(F.HVS_C_CTRL_EN,1,1),(F.HVS_C_CFG_TYPE,1,2),(F.FUS_Z_TRIP_TRIP,1,2000),(F.FUS_Z_STAT_FAULT,1,0)]
theorem witness_high_voltage_and_fuser_4 :
    st3.hvPresent 1 = true ∧
    st3.fget F.HVS_C_CTRL_EN 1 = 1 := by
  decide +kernel
def st4 : State := { (State.put nzb [(F.HVS_C_STAT_STATE,1,0),(F.HVS_C_CTRL_EN,1,0),(F.HVS_C_STAT_STATE,0,0),(F.HVS_C_CTRL_EN,0,0),(F.HVS_C_CFG_TYPE,0,3),(F.FUS_Z_TEMP_TEMP,1,100),(F.FUS_Z_TRIP_TRIP,1,200),(F.FUS_Z_STAT_FAULT,1,0)]) with power := {nzb.power with fus := {nzb.power.fus with dis := [0,50,0,0]}}}
theorem witness_high_voltage_and_fuser_5 :
    st4.hvPresent 1 = true ∧
    st4.fget F.HVS_C_STAT_STATE 1 ≠ 3 ∧
    st4.fget F.HVS_C_CTRL_EN 1 = 0 ∧
    st4.fget F.HVS_C_STAT_STATE 1 = 0 ∧
    bits 520159231 18 16 ≤ 4 ∧
    (bits 520159231 18 16 = 3 → 1 % 2 = 0) ∧
    (bits 520159231 18 16 = 4 → 1 % 2 = 1) ∧
    (bits 520159231 18 16 = 4 → st4.hvType (1 - 1) = 3) ∧
    (1 % 2 = 0 → bits 520159231 18 16 ≠ 3 → st4.hvPresent (1 + 1) = false ∨ st4.hvType (1 + 1) ≠ 4) ∧
    520159231 < 2 ^ 32 ∧
    1 < 4 ∧
    (st4.fsigned F.FUS_Z_TRIP_TRIP 1 - 160 ≤ st4.fsigned F.FUS_Z_TEMP_TEMP 1 ∨ st4.fget F.FUS_Z_STAT_FAULT 1 = 1) ∧
    st4.boundary = true ∧
    st4.seq.rel = [] ∧
    st4.ring.writes = [] ∧
    st4.ticking = true ∧
    50 ≤ nth st4.power.fus.dis 1 0 ∧
    nth st4.power.fus.disTold 1 false = false ∧
    st4.power.fus.disTold.length = 4 := by
  decide +kernel

end Hv

namespace Mains

/-! States for mains_section, guyline_effects. -/

def cf : List (Nat × Word) := []
def mk (s : State) (m : Mns) : State := s.setMns m
def m0 : Mns := { Mns.blank with applied := [100,50,0,0], cmds := [30000,20000,0,0], cfg := cf, lens := [10000], sby := 1 }
def gf : GlFrame := { seq := 5, again := false, inven := true, linkloss := false, cmds := [1000, 2000, 3, 4], hold := 31, cfg := none }
def fl (s : State) (m : Mns) : State := { (mk s m) with phase := 2, power := { (mk s m).power with flight := some gf } }
def bdy (s : State) : State := { s with phase := 15, committed := true, power := { s.power with retMiss := 1 } }
def okz (s : State) : State := State.put s [(F.MNS_SHUNT_RSH,0,1),(F.MNS_INV_IPK,0,1),(F.FUS_Z_CFG_EN,0,0),(F.FUS_Z_CFG_EN,1,0),(F.FUS_Z_CFG_EN,2,0),(F.FUS_Z_CFG_EN,3,0),(⟨R.MNS_CTRL,31,0⟩,0,0)]
def st0 : State := mk prog m0
theorem witness_mains_section_1 :
    st0.variant.mains = true ∧
    7900 ≤ 10000 ∧
    10000 ≤ 10700 ∧
    st0.power.mns.crossMissing st0.time16 = true ∧
    (2 ≤ 0 ∨ st0.power.mns.runs = false ∨ (st0.power.mns.br 0).stopped = true ∨ 9 < 8) := by
  decide +kernel
def st1 : State := {(mk prog m0) with variant := .p6l}
theorem witness_mains_section_2 :
    st1.variant.mains = false := by
  decide +kernel
def st2 : State := mk prog {m0 with sby := 3, zcAt := some 0}
theorem witness_mains_section_3 :
    st2.variant.mains = true ∧
    st2.power.mns.crossMissing st2.time16 = false := by
  decide +kernel
def st12 : State := mk prog {m0 with st := 2, nom := 5, row := 4, count := 30, lowRun := 1}
theorem witness_mains_section_4 :
    st12.variant.mains = true ∧
    (¬(7900 ≤ 1000 ∧ 1000 ≤ 10700)) := by
  decide +kernel
def st14 : State := mk prog {m0 with st := 2, nom := 5, row := 4, count := 30, inven := true, bridge := [⟨false,15,3,true,500⟩, ⟨false,3,3,true,500⟩], hold := 5}
theorem witness_mains_section_5 :
    st14.variant.mains = true ∧
    0 < 2 ∧
    st14.power.mns.bridge.length = 2 ∧
    st14.power.mns.runs = true ∧
    (st14.power.mns.br 0).stopped = false ∧
    8 ≤ 9 := by
  decide +kernel
def st15 : State := fl prog {m0 with st := 2, nom := 4, missing := 1}
set_option maxRecDepth 100000 in
theorem witness_guyline_effects_1 :
    (st15.variant.mains = true ∧
    st15.phase = 2 ∧
    st15.power.flight = some gf ∧
    st15.power.mns.heard = false ∧
    gf.linkloss = false ∧
    gf.cfg = none ∧
    st15.power.mns.ramp = none ∧
    st15.ticking = true ∧
    st15.pwr.asleep = false ∧
    1 ≤ st15.power.mns.missing ∧
    (st15.boundary = false ∨ st15.power.retMiss ≠ 1) ∧
    mnsConfig 16 = true ∧
    16 ≠ 8 ∧
    R.MNS_FLK.addr 0 0 = R.MNS_STAT.addr 0 0 + 16 ∧
    st15.invenOk false = false ∧
    st15.rget R.MNS_CTRL = 0) ∧
    findReg (R.MNS_STAT.addr 0 0 + 16) = some (R.MNS_FLK, 0, 0) :=
  ⟨by decide +kernel,
    rfl⟩
def st17 : State := {(fl prog {m0 with st := 2, nom := 4, missing := 1}) with power := {(fl prog {m0 with st := 2, nom := 4, missing := 1}).power with flight := some {gf with linkloss := true}}}
theorem witness_guyline_effects_2 :
    st17.variant.mains = true ∧
    st17.phase = 2 ∧
    st17.power.flight = some { seq := gf.seq, again := gf.again, inven := gf.inven, linkloss := true, cmds := gf.cmds, hold := gf.hold, cfg := gf.cfg : GlFrame } ∧
    st17.power.mns.heard = false ∧
    { seq := gf.seq, again := gf.again, inven := gf.inven, linkloss := true, cmds := gf.cmds, hold := gf.hold, cfg := gf.cfg : GlFrame }.linkloss = true ∧
    { seq := gf.seq, again := gf.again, inven := gf.inven, linkloss := true, cmds := gf.cmds, hold := gf.hold, cfg := gf.cfg : GlFrame }.cfg = none := by
  decide +kernel
def st18 : State := {(mk prog {m0 with st := 2, nom := 4, missing := 1, inven := true}) with boot := {prog.boot with step := .held}}
theorem witness_guyline_effects_3 :
    st18.variant.mains = true ∧
    st18.ticking = false ∧
    st18.power.flight = none ∧
    st18.power.mns.heard = false ∧
    1 ≤ st18.power.mns.missing ∧
    st18.power.mns.ramp = none ∧
    mnsConfig 1 = false := by
  decide +kernel
def st19 : State := bdy (State.put prog [(F.MNS_STAT_LINK,0,1),(⟨R.MNS_CTRL,31,0⟩,0,4)])
theorem witness_guyline_effects_4 :
    st19.variant.mains = true ∧
    (st19.phase ≠ 2 ∨ st19.power.flight = none ∨ st19.power.mns.heard = true) ∧
    st19.ticking = true ∧
    (st19.phase ≠ 2 ∨ st19.pwr.asleep = true ∨ st19.power.mns.heard = true ∨ st19.power.mns.missing = 0) ∧
    st19.boundary = true ∧
    st19.seq.rel = [] ∧
    st19.ring.writes = [] ∧
    st19.power.retMiss = 1 ∧
    st19.rget R.MNS_CTRL = 4 := by
  decide +kernel
def st20 : State := okz prog
theorem witness_guyline_effects_5 :
    st20.variant.mains = true ∧
    st20.invenOk false = true := by
  decide +kernel

end Mains

namespace Motor

/-! States for motor_states, motor_protection, emergency_stop. -/

def wEnv (s : State) (i : Nat) (e : Env) : State := { s with fmt := { s.fmt with env := s.fmt.env.set i (some e) } }
def pg (st : PageState) : Env := ⟨65, st, 77, 1, 1, 0, 0, 64, 512, 3, 210, 0, 64, 1408, [⟨0, 0, 640, 0, 128, some 0, [3], true, false, 0⟩], 0, 0, false⟩
def imag (s : State) (st : PageState) : State := let s := wEnv s 1 (pg st); { s with fmt := { s.fmt with queue := [65] } }
def nzb : State := { prog with committed := true, phase := 15 }
def fc (s : State) (x : FocCh) (l : List (FldDesc × Nat × Nat)) : State := (State.put s l).setFoc 1 x
def B : FocCh := FocCh.blank
def T (s : State) (l : List (FldDesc × Nat × Nat)) : State := { State.put s l with motion := { s.motion with brkIsns := 10 } }
def es (s : State) : State := { s with pins := { s.pins with estopN := true } }
def st0 : State := fc prog {B with start := true} [(F.FOC_C_STAT_STATE,1,0),(F.FOC_C_MOTOR_RATED,1,5),(F.FOC_C_MOTOR_KE,1,5),(F.FOC_C_LIMIT_IMAX,1,5),(F.FOC_C_LIMIT_ISCALE,1,5)]
theorem witness_motor_states_1 :
    st0.focPresent 1 = true ∧
    st0.motion.foc.length = 12 ∧
    (st0.foc 1).start = true ∧
    (st0.foc 1).stop = false ∧
    (st0.foc 1).fltclr = false ∧
    st0.focStartable 1 = true ∧
    ((st0.boundary && !(st0.foc 1).stop) = false ∨ st0.focState 1 ≠ 1) ∧
    ((st0.boundary && !(st0.foc 1).stop) = false ∨ st0.focState 1 ≠ 2 ∨ (st0.foc 1).ticks + 1 < st0.fget F.FOC_C_START_BRKTMO 1 * 50) ∧
    ((st0.boundary && !(st0.foc 1).stop) = false ∨ st0.focState 1 ≠ 3 ∨ (st0.foc 1).ticks + 1 < 1100) ∧
    ((st0.boundary && !(st0.foc 1).stop) = false ∨ st0.focState 1 ≠ 4 ∨ (st0.foc 1).hoRun < 16) ∧
    ((st0.boundary && !(st0.foc 1).stop) = false ∨ st0.focState 1 ≠ 5 ∨ (st0.foc 1).retRun < 16) := by
  decide +kernel
def st1 : State := fc prog {B with stop := true} [(F.FOC_C_STAT_STATE,1,4)]
theorem witness_motor_states_2 :
    st1.focPresent 1 = true ∧
    st1.motion.foc.length = 12 ∧
    (st1.foc 1).stop = true ∧
    (st1.foc 1).fltclr = false ∧
    st1.focState 1 ≠ 0 ∧
    st1.focState 1 ≠ 6 := by
  decide +kernel
def st2 : State := fc prog {B with fltclr := true} [(F.FOC_C_STAT_STATE,1,6)]
theorem witness_motor_states_3 :
    st2.focPresent 1 = true ∧
    st2.motion.foc.length = 12 ∧
    (st2.foc 1).fltclr = true ∧
    (st2.foc 1).stop = false ∧
    (st2.foc 1).start = false ∧
    st2.focState 1 = 6 := by
  decide +kernel
def st3 : State := fc nzb {B with ticks := 5} [(F.FOC_C_STAT_STATE,1,1),(F.FOC_C_MOTOR_KE,1,100),(F.FOC_C_MOTOR_RATED,1,100),(F.FOC_C_CFG_PP,1,4)]
theorem witness_motor_states_4 :
    st3.focPresent 1 = true ∧
    st3.motion.foc.length = 12 ∧
    st3.boundary = true ∧
    st3.seq.rel = [] ∧
    st3.ring.writes = [] ∧
    st3.ticking = true ∧
    (st3.foc 1).stop = false ∧
    st3.focState 1 = 1 ∧
    (¬(st3.fget F.FOC_C_MOTOR_KE 1 * st3.fget F.FOC_C_MOTOR_RATED 1 ≤ 0 * 20000 ∧ 48000 ≤ (-5).natAbs * max 1 (st3.fget F.FOC_C_CFG_PP 1))) := by
  decide +kernel
def st4 : State := fc nzb {B with ticks := 5} [(F.FOC_C_STAT_STATE,1,1),(F.FOC_C_MOTOR_KE,1,100),(F.FOC_C_MOTOR_RATED,1,100),(F.FOC_C_CFG_PP,1,4)]
theorem witness_motor_states_5 :
    st4.focPresent 1 = true ∧
    st4.motion.foc.length = 12 ∧
    st4.boundary = true ∧
    st4.seq.rel = [] ∧
    st4.ring.writes = [] ∧
    st4.ticking = true ∧
    (st4.foc 1).stop = false ∧
    st4.focState 1 = 1 ∧
    st4.fget F.FOC_C_MOTOR_KE 1 * st4.fget F.FOC_C_MOTOR_RATED 1 ≤ 100 * 20000 ∧
    48000 ≤ (-50000).natAbs * max 1 (st4.fget F.FOC_C_CFG_PP 1) ∧
    -50000 < 0 := by
  decide +kernel
def st5 : State := fc nzb {B with ticks := 5} [(F.FOC_C_STAT_STATE,1,1),(F.FOC_C_MOTOR_KE,1,100),(F.FOC_C_MOTOR_RATED,1,100),(F.FOC_C_CFG_PP,1,4)]
theorem witness_motor_states_6 :
    st5.focPresent 1 = true ∧
    st5.motion.foc.length = 12 ∧
    st5.boundary = true ∧
    st5.seq.rel = [] ∧
    st5.ring.writes = [] ∧
    st5.ticking = true ∧
    (st5.foc 1).stop = false ∧
    st5.focState 1 = 1 ∧
    st5.fget F.FOC_C_MOTOR_KE 1 * st5.fget F.FOC_C_MOTOR_RATED 1 ≤ 100 * 20000 ∧
    48000 ≤ Int.natAbs 12001 * max 1 (st5.fget F.FOC_C_CFG_PP 1) ∧
    0 ≤ 12001 := by
  decide +kernel
def st7 : State := fc nzb {B with ticks := 500} [(F.FOC_C_STAT_STATE,1,2),(F.FOC_C_START_BRKTMO,1,3)]
theorem witness_motor_states_7 :
    st7.focPresent 1 = true ∧
    st7.motion.foc.length = 12 ∧
    st7.boundary = true ∧
    st7.seq.rel = [] ∧
    st7.ring.writes = [] ∧
    st7.ticking = true ∧
    (st7.foc 1).stop = false ∧
    st7.focState 1 = 2 ∧
    st7.fget F.FOC_C_START_BRKTMO 1 * 50 ≤ (st7.foc 1).ticks + 1 := by
  decide +kernel
def st8 : State := fc nzb {B with ticks := 1100} [(F.FOC_C_STAT_STATE,1,3)]
theorem witness_motor_states_8 :
    st8.focPresent 1 = true ∧
    st8.motion.foc.length = 12 ∧
    st8.boundary = true ∧
    st8.seq.rel = [] ∧
    st8.ring.writes = [] ∧
    st8.ticking = true ∧
    (st8.foc 1).stop = false ∧
    st8.focState 1 = 3 ∧
    1100 ≤ (st8.foc 1).ticks + 1 ∧
    max 80 100 ≤ (max 80 100 - min 80 100) * 20 ∧
    0 < max 80 100 := by
  decide +kernel
def st9 : State := fc nzb {B with ticks := 1100} [(F.FOC_C_STAT_STATE,1,3)]
theorem witness_motor_states_9 :
    st9.focPresent 1 = true ∧
    st9.motion.foc.length = 12 ∧
    st9.boundary = true ∧
    st9.seq.rel = [] ∧
    st9.ring.writes = [] ∧
    st9.ticking = true ∧
    (st9.foc 1).stop = false ∧
    st9.focState 1 = 3 ∧
    1100 ≤ (st9.foc 1).ticks + 1 ∧
    (max 99 100 - min 99 100) * 20 < max 99 100 := by
  decide +kernel
def st10 : State := fc nzb {B with hoRun := 16} [(F.FOC_C_STAT_STATE,1,4)]
theorem witness_motor_states_10 :
    st10.focPresent 1 = true ∧
    st10.motion.foc.length = 12 ∧
    st10.boundary = true ∧
    st10.seq.rel = [] ∧
    st10.ring.writes = [] ∧
    st10.ticking = true ∧
    (st10.foc 1).stop = false ∧
    st10.focState 1 = 4 ∧
    16 ≤ (st10.foc 1).hoRun := by
  decide +kernel
def st11 : State := fc nzb {B with retRun := 16} [(F.FOC_C_STAT_STATE,1,5)]
theorem witness_motor_states_11 :
    st11.focPresent 1 = true ∧
    st11.motion.foc.length = 12 ∧
    st11.boundary = true ∧
    st11.seq.rel = [] ∧
    st11.ring.writes = [] ∧
    st11.ticking = true ∧
    (st11.foc 1).stop = false ∧
    st11.focState 1 = 5 ∧
    16 ≤ (st11.foc 1).retRun := by
  decide +kernel
def st12 : State := T prog [(F.FOC_C_STAT_STATE,0,4),(F.FOC_C_STAT_STATE,1,4),(F.FOC_C_STAT_STATE,2,5),(F.FOC_C_CFG_CRIT,1,0),(F.FOC_BRKSTAT_CHFLT,0,0),(F.FOC_BRKSTAT_GATE,0,1),(F.FOC_BRKCFG_IMIN,0,20),(F.FOC_BRKCFG_CHON,0,60),(F.FOC_BRKCFG_CHOFF,0,50)]
theorem witness_motor_protection_1 :
    st12.focPresent 1 = true ∧
    st12.focState 1 ≠ 6 ∧
    (true = true ∨ st12.fget F.FOC_C_LIMIT_IMAX 1 ≤ (st12.focShunt 1 9).natAbs) ∧
    st12.fget F.FOC_C_CFG_CRIT 1 = 0 ∧
    (st12.fget F.FOC_BRKSTAT_CHFLT = 1 ∨ st12.bivouac = true ∨ (100 * 10 < st12.fget F.FOC_BRKCFG_CHON * if st12.fget F.FOC_BRKCFG_BUS = 0 then 2400 else 3600) ∧ 100 * 10 < st12.fget F.FOC_BRKCFG_CHOFF * if st12.fget F.FOC_BRKCFG_BUS = 0 then 2400 else 3600) ∧
    st12.fget F.FOC_BRKSTAT_CHFLT = 0 ∧
    (st12.fget F.FOC_BRKSTAT_GATE = 1 ↔ 1 < st12.fget F.FOC_BRKCFG_IMIN) ∧
    (st12.fget F.FOC_BRKSTAT_GATE = 1 ↔ 2 < st12.fget F.FOC_BRKCFG_IMIN) ∧
    (st12.fget F.FOC_BRKSTAT_GATE = 1 ↔ 3 < st12.fget F.FOC_BRKCFG_IMIN) ∧
    (st12.fget F.FOC_BRKSTAT_GATE = 1 ↔ 4 < st12.fget F.FOC_BRKCFG_IMIN) ∧
    st12.motion.brkIsns < st12.fget F.FOC_BRKCFG_IMIN ∧
    (¬(5 * busNominal 0 ≤ 4 * 10 ∧ 5 * busNominal 0 ≤ 4 * 11)) ∧
    0 < 2 ∧
    10 * 10 < 7 * busNominal 0 ∧
    st12.anyImaging = false ∧
    10 * 10 ≤ 8 * busNominal 0 ∧
    (st12.boundary = false ∨ (st12.foc 1).satRun < 63 ∨ st12.focLimited 1 = false ∨ st12.focAtLimit 1 = false) ∧
    (st12.boundary = false ∨ st12.fget F.FOC_SPD_CFG_MODE 1 < 2 ∨ st12.spdAge 1 + 1 < max 1 (st12.fget F.FOC_SPD_CFG_TMO 1)) := by
  decide +kernel
def st13 : State := T (imag prog .imaging) [(F.FOC_C_STAT_STATE,0,4),(F.FOC_C_STAT_STATE,1,4),(F.FOC_C_STAT_STATE,2,5),(F.FOC_C_CFG_CRIT,1,1),(F.FOC_BRKSTAT_CHFLT,0,0),(F.FOC_BRKSTAT_GATE,0,0),(F.FOC_BRKCFG_IMIN,0,5),(F.FOC_BRKCFG_CHON,0,60),(F.FOC_BRKCFG_CHOFF,0,50),(F.FOC_C_LIMIT_IMAX,1,5),(F.FOC_C_LIMIT_ISCALE,1,5000)]
theorem witness_motor_protection_2 :
    st13.focPresent 1 = true ∧
    st13.focState 1 ≠ 6 ∧
    (false = true ∨ st13.fget F.FOC_C_LIMIT_IMAX 1 ≤ (st13.focShunt 1 4000).natAbs) ∧
    st13.fget F.FOC_C_CFG_CRIT 1 = 1 ∧
    st13.imagingHandle = (pg PageState.imaging).handle ∧
    (pg PageState.imaging).handle ≠ 0 ∧
    (pg PageState.imaging).handle < 2 ^ 32 ∧
    (pg PageState.imaging).state = PageState.imaging ∧
    st13.envOf (pg PageState.imaging).handle = some (pg PageState.imaging) ∧
    st13.fmt.env.length = 64 ∧
    st13.fget F.FOC_BRKCFG_IMIN ≤ st13.motion.brkIsns ∧
    1 < 2 ∧
    5 * busNominal 1 ≤ 4 * 5000 ∧
    5 * busNominal 1 ≤ 4 * 6000 := by
  decide +kernel
def st14 : State := { (T nzb [(F.FOC_C_STAT_STATE,1,5),(F.FOC_C_ADV_ADVMAX,1,0),(F.FOC_C_ADV_ADVEN,1,1),(F.FOC_C_VD_VD,1,20000),(F.FOC_C_STAT_VLIM,1,1000),(F.FOC_SPD_CFG_MODE,1,2),(F.FOC_SPD_CFG_TMO,1,3),(F.FOC_SPD_VAL_LOST,1,0)]) with motion := { nzb.motion with foc := nzb.motion.foc.set 1 {B with satRun := 63, out := {B.out with lim := true}}, spdTmo := [9,9,9,9] } }
theorem witness_motor_protection_3 :
    st14.fget F.FOC_BRKSTAT_CHFLT = 0 ∧
    st14.bivouac = false ∧
    ((st14.fget F.FOC_BRKCFG_CHON * if st14.fget F.FOC_BRKCFG_BUS = 0 then 2400 else 3600) ≤ 100 * 5000) ∧
    (st14.fget F.FOC_BRKSTAT_CHFLT = 1 ∨ ¬(st14.fget F.FOC_BRKSTAT_GATE = 1 ↔ 1 < st14.fget F.FOC_BRKCFG_IMIN) ∨ ¬(st14.fget F.FOC_BRKSTAT_GATE = 1 ↔ 2 < st14.fget F.FOC_BRKCFG_IMIN) ∨ ¬(st14.fget F.FOC_BRKSTAT_GATE = 1 ↔ 3 < st14.fget F.FOC_BRKCFG_IMIN) ∨ ¬(st14.fget F.FOC_BRKSTAT_GATE = 1 ↔ 400 < st14.fget F.FOC_BRKCFG_IMIN)) ∧
    1 < 2 ∧
    5 * busNominal 1 ≤ 4 * 5000 ∧
    st14.anyImaging = false ∧
    7 * busNominal 1 ≤ 10 * 5000 ∧
    8 * busNominal 1 < 10 * 5000 ∧
    st14.boundary = true ∧
    st14.seq.rel = [] ∧
    st14.ring.writes = [] ∧
    st14.ticking = true ∧
    st14.focPresent 1 = true ∧
    63 ≤ (st14.foc 1).satRun ∧
    st14.focLimited 1 = true ∧
    st14.focAtLimit 1 = true ∧
    1 < 4 ∧
    2 ≤ st14.fget F.FOC_SPD_CFG_MODE 1 ∧
    max 1 (st14.fget F.FOC_SPD_CFG_TMO 1) ≤ st14.spdAge 1 + 1 ∧
    st14.fget F.FOC_SPD_VAL_LOST 1 = 0 := by
  decide +kernel
def st15 : State := prog
theorem witness_emergency_stop_1 :
    st15.pins.estopN = false ∧
    st15.bivouac = false := by
  decide +kernel
def st19 : State := es prog
theorem witness_emergency_stop_2 :
    st19.pins.estopN = true ∧
    st19.imagingHandle = 0 ∧
    st19.envOf 0 = none ∧
    Option.map (fun x => x.2) st19.fmt.lastAbn ≠ some (st19.elapsed, 8) ∧
    st19.power.fus.zeroed.length = 4 := by
  decide +kernel
def st21 : State := es (imag prog .imaging)
theorem witness_emergency_stop_3 :
    st21.pins.estopN = true ∧
    st21.imagingHandle = (pg PageState.imaging).handle ∧
    (pg PageState.imaging).handle ≠ 0 ∧
    (pg PageState.imaging).handle < 2 ^ 32 ∧
    (pg PageState.imaging).state = PageState.imaging ∧
    st21.envOf (pg PageState.imaging).handle = some (pg PageState.imaging) ∧
    st21.fmt.env.length = 64 ∧
    st21.power.fus.zeroed.length = 4 := by
  decide +kernel
def st22 : State := T prog [(F.FOC_C_STAT_STATE,0,4),(F.FOC_C_STAT_STATE,1,4),(F.FOC_C_LIMIT_IMAX,1,500),(F.FOC_C_LIMIT_ISCALE,1,5000)]
theorem witness_motor_protection_4 :
    (st22.focPresent 1 = false ∨ st22.focState 1 = 6 ∨ ¬(false = true ∨ st22.fget F.FOC_C_LIMIT_IMAX 1 ≤ (st22.focShunt 1 2050).natAbs)) := by
  decide +kernel

end Motor

namespace Motion

/-! States for axis_commands, axis_events. -/

def nzb : State := { prog with committed := true, phase := 15 }
def xs (s : State) (x : Axis) (l : List (FldDesc × Nat × Nat)) : State := (State.put s l).setAxis 1 x
def w32 (r : RegDesc) : FldDesc := ⟨r, 31, 0⟩
def pl : List (FldDesc × Nat × Nat) := [(F.AXS_A_CFG_MODE,1,2),(F.AXS_A_CFG_LIMEN,1,0),(F.AXS_A_CFG_CRIT,1,0),(F.AXS_A_CFG_QUAL,1,3),(F.AXS_A_STAT_SWLO,1,0),(F.AXS_A_STAT_SWHI,1,0),(F.AXS_A_SW_GPLO,1,5),(F.AXS_A_SW_GPHI,1,0x7F),(F.AXS_A_SW_GPHOME,1,6),(F.AXS_A_HOME_METHOD,1,1),
 (w32 R.AXS_A_VMAX,1,5000),(w32 R.AXS_A_AMAX,1,50),(w32 R.AXS_A_DSTOP,1,50),(w32 R.AXS_A_JMAX,1,5),(w32 R.AXS_A_JSTOP,1,5),(w32 R.AXS_A_TGT_LO,1,100),(w32 R.AXS_A_TGT_HI,1,0),(w32 R.AXS_A_VTGT,1,100)]
def A : Axis := Axis.blank
def st0 : State := xs prog {A with p := 6000000, v := 33, a := -5} (pl ++ [(F.AXS_A_STAT_STATE,1,0)])
theorem witness_axis_commands_1 :
    1 < 36 ∧
    st0.motion.axis.length = 36 ∧
    -2 ^ 47 ≤ -77 ∧
    -77 < 2 ^ 47 ∧
    2 ≤ st0.axMode 1 ∧
    st0.axPlannable 1 = true ∧
    st0.fget F.AXS_A_CFG_LIMEN 1 = 0 ∧
    (st0.axState 1 ≤ 3 ∨ st0.axState 1 = 5 ∨ st0.axState 1 = 6) ∧
    st0.axBlocked 1 (st0.pair48 R.AXS_A_TGT_LO R.AXS_A_TGT_HI 1 - (st0.axis 1).cmdPos) = false ∧
    st0.axBlocked 1 (st0.fsigned { reg := R.AXS_A_VTGT, hi := 31, lo := 0 : FldDesc } 1) = false ∧
    (st0.axState 1 = 0 ∨ st0.axState 1 = 5 ∨ st0.axState 1 = 6) ∧
    st0.homeConfigured 1 = true ∧
    1 ≤ st0.axMode 1 ∧
    0 < 2 := by
  decide +kernel
def st1 : State := xs prog {A with p := 6000000, v := 33, a := -5} (pl ++ [(F.AXS_A_STAT_STATE,1,2)])
theorem witness_axis_commands_2 :
    1 < 36 ∧
    st1.motion.axis.length = 36 ∧
    2 ≤ st1.axMode 1 ∧
    (st1.axState 1 = 1 ∨ st1.axState 1 = 2 ∨ st1.axState 1 = 3) ∧
    st1.fget F.AXS_A_CFG_LIMEN 1 = 0 := by
  decide +kernel
def st2 : State := xs prog {A with p := 6000000, v := 33, a := -5} (pl ++ [(F.AXS_A_STAT_STATE,1,7)])
theorem witness_axis_commands_3 :
    1 < 36 ∧
    st2.motion.axis.length = 36 ∧
    2 ≤ st2.axMode 1 ∧
    st2.axPlannable 1 = true ∧
    st2.fget F.AXS_A_CFG_LIMEN 1 = 0 ∧
    (st2.axState 1 = 4 ∨ st2.axState 1 = 7) ∧
    st2.axState 1 = 7 := by
  decide +kernel
def st4 : State := xs nzb {A with goal := .move, segs := [(2^64, 5)], p := 5, endP := some 7} (pl ++ [(F.AXS_A_STAT_STATE,1,1)])
theorem witness_axis_events_1 :
    1 < 36 ∧
    st4.motion.axis.length = 36 ∧
    st4.motion.enc.length = 24 ∧
    st4.boundary = true ∧
    st4.seq.rel = [] ∧
    st4.ring.writes = [] ∧
    st4.ticking = true ∧
    (st4.axis 1).goal = Goal.move ∧
    (st4.axis 1).segs ≠ [] ∧
    (st4.axis 1).ended ((st4.axis 1).t + 1) = true ∧
    (st4.axis 1).endP = some 7 ∧
    2 ≤ st4.axMode 1 ∧
    3 < 24 ∧
    st4.fget F.AXS_E_CFG_FILT 3 ≤ 50 ∧
    (st4.fget F.AXS_E_CFG_EN 3 = 0 ∨ quadPlace (bit true + 2 * bit false) = quadPlace (nth st4.motion.encAB 3 0)) ∧
    (st4.fget F.AXS_E_CFG_EN 3 = 0 ∨ true = (st4.fget F.AXS_E_CFG_ZPOL 3 == 1)) := by
  decide +kernel
def st5 : State := xs nzb {A with sw := [⟨5, true, 3, 4⟩,⟨5, true, 3, 4⟩,⟨5, true, 3, 4⟩]} (pl ++ [(F.AXS_A_STAT_STATE,1,1),(F.AXS_A_CFG_ENC,1,3),(F.AXS_E_CFG_EN,3,1),(F.AXS_E_CFG_FILT,3,10),(F.AXS_E_CFG_ZPOL,3,0)])
theorem witness_axis_events_2 :
    1 < 36 ∧
    st5.motion.axis.length = 36 ∧
    st5.motion.enc.length = 24 ∧
    st5.boundary = true ∧
    st5.seq.rel = [] ∧
    st5.ring.writes = [] ∧
    st5.ticking = true ∧
    0 < 2 ∧
    ((st5.axis 1).swOf 0).active = true ∧
    max (st5.fget F.AXS_A_CFG_QUAL 1) 1 ≤ ((st5.axis 1).swOf 0).run ∧
    st5.fget (swBit 0) 1 = 0 ∧
    st5.swPin 1 0 ≠ 127 ∧
    2 ≤ st5.axMode 1 ∧
    st5.axState 1 ≠ 4 ∧
    st5.axState 1 ≠ 7 ∧
    st5.fget F.AXS_A_CFG_CRIT 1 = 0 ∧
    3 < 24 ∧
    st5.fget F.AXS_E_CFG_FILT 3 ≤ 50 ∧
    st5.fget F.AXS_E_CFG_EN 3 = 1 ∧
    (quadPlace (bit false + 2 * bit true) = (quadPlace (nth st5.motion.encAB 3 0) + 1) % 4 ∨ quadPlace (nth st5.motion.encAB 3 0) = (quadPlace (bit false + 2 * bit true) + 1) % 4) := by
  decide +kernel
def st6 : State := xs nzb {A with goal := .search, ticks := 50000000000, sw := [⟨5, true, 3, 4⟩,⟨5, true, 3, 4⟩,⟨5, true, 3, 7⟩]} (pl ++ [(F.AXS_A_STAT_SWHOME,1,1),(F.AXS_A_STAT_STATE,1,4),(F.AXS_A_CFG_ENC,1,3),(F.AXS_E_CFG_EN,3,1),(F.AXS_E_CFG_FILT,3,10),(F.AXS_E_CFG_ZPOL,3,0)])
theorem witness_axis_events_3 :
    1 < 36 ∧
    st6.motion.axis.length = 36 ∧
    st6.motion.enc.length = 24 ∧
    st6.boundary = true ∧
    st6.seq.rel = [] ∧
    st6.ring.writes = [] ∧
    st6.ticking = true ∧
    st6.axState 1 = 4 ∧
    (st6.axis 1).goal = Goal.search ∧
    st6.homeCapture 1 = some 7 ∧
    (st6.axis 1).rev = false ∧
    (st6.axis 1).goal ≠ Goal.homing ∧
    max (st6.fget F.AXS_A_HOME_HTMO 1) 1 * 50000 ≤ (st6.axis 1).ticks := by
  decide +kernel
def st8 : State := xs nzb {A with stall := 1000} (pl ++ [(F.AXS_A_STAT_STATE,1,1),(F.AXS_A_CFG_ENC,1,3),(F.AXS_E_CFG_EN,3,1),(F.AXS_E_CFG_FILT,3,10),(F.AXS_E_CFG_ZPOL,3,0)])
theorem witness_axis_events_4 :
    1 < 36 ∧
    st8.motion.axis.length = 36 ∧
    st8.motion.enc.length = 24 ∧
    st8.boundary = true ∧
    st8.seq.rel = [] ∧
    st8.ring.writes = [] ∧
    st8.ticking = true ∧
    st8.axState 1 ≠ 4 ∧
    st8.axState 1 ≠ 7 ∧
    max (st8.fget F.AXS_A_STALL_STALLN 1) 1 ≤ (st8.axis 1).stall ∧
    st8.fget F.AXS_A_CFG_CRIT 1 = 0 ∧
    5 < st8.fget F.AXS_E_CFG_FILT 3 := by
  decide +kernel
def st9 : State := xs prog {A with stall := 1000} (pl ++ [(F.AXS_A_STAT_STATE,1,1),(F.AXS_A_CFG_ENC,1,3),(F.AXS_E_CFG_EN,3,1)])
theorem witness_axis_events_5 :
    1 < 36 ∧
    st9.motion.axis.length = 36 ∧
    st9.motion.enc.length = 24 ∧
    st9.boundary = false ∧
    3 < 24 ∧
    st9.fget F.AXS_E_CFG_FILT 3 ≤ 50 ∧
    st9.fget F.AXS_E_CFG_EN 3 = 1 ∧
    (quadPlace (bit true + 2 * bit true) + 2) % 4 = quadPlace (nth st9.motion.encAB 3 0) ∧
    true ≠ (st9.fget F.AXS_E_CFG_ZPOL 3 == 1) ∧
    6 < 64 := by
  decide +kernel

end Motion

namespace Dram

/-! States for dram_service, dram_upkeep. -/

def rq (p : Nat) (wr : Bool) (a : Nat) (l : List Nat) (dl : Nat) : DramReq := { port := p, wr := wr, addr := a, data := List.replicate 100 7, left := l, bad := [], issue := 0, dl := dl }
def dc (s : State) (x : DramChan) (l : List (FldDesc × Nat × Nat)) : State := (State.put s ([(F.DRC_C_STAT_STATE,1,3),(F.DRC_C_STAT_RANKS,1,2),(F.DRC_C_STAT_DENS,1,2)] ++ l)).setChan 1 x
def mode4 (s : State) : State := { s with boot := { s.boot with step := .bivouac } }
def X : DramChan := { DramChan.blank with refDue := [9999999, 9999999] }
def okT : TrainTry := ⟨[16,20,30,16], true⟩
def pgq (s : State) : State := { s with fmt := { s.fmt with env := s.fmt.env.set 1 (some ⟨65, .imaging, 77, 1, 1, 0, 0, 64, 512, 3, 210, 0, 64, 1408, [], 0, 0, false⟩) } }
def sc : State := dc {prog with elapsed := 10^9} {X with drift := 3, scrub := 77, refDue := [10^14,10^14], scrubFrom := 0} [(F.DRC_SCRUB_EN,0,1)]
def tr : State := dc prog {X with reqs := [rq 4 false 100 [1,2,3] 50]} [(F.DRC_C_STAT_STATE,1,2),(F.DRC_C_CFG_RATE,1,3)]
def st0 : State := dc prog X []
theorem witness_dram_service_1 :
    1 < st0.variant.drch ∧
    st0.dramCh.length = 4 ∧
    st0.bivouac = false ∧
    portDir 4 false = true ∧
    [1, 2, 3] ≠ [] ∧
    (burstsOf 100 [1, 2, 3].length).length ≤ 64 ∧
    100 + [1, 2, 3].length ≤ st0.dramCap 1 * 65536 ∧
    (¬st0.fget F.DRC_C_STAT_STATE 1 = 3 ∨ st0.candidates 1 7 true = []) ∧
    st0.fget F.DRC_C_STAT_STATE 1 = 3 ∧
    0 < st0.fget F.DRC_C_STAT_RANKS 1 ∧
    0 < 2 ∧
    (st0.chan 1).owed.length = 2 ∧
    (st0.chan 1).forced.length = 2 ∧
    (st0.chan 1).refDue.length = 2 ∧
    (st0.chan 1).refInt.length = 2 ∧
    (st0.chan 1).stall.length = 2 ∧
    (st0.chan 1).rows.length = 32 ∧
    0 < nth (st0.chan 1).refInt 0 0 ∧
    nth (st0.chan 1).stall 0 0 ≤ st0.cycNow 7 ∧
    (nth (st0.chan 1).forced 0 false = true ∨ 8 ≤ (st0.chan 1).owedOf 0 (st0.cycNow 7) ∨ 0 < (st0.chan 1).owedOf 0 (st0.cycNow 7) ∧ st0.rankUrgent 1 0 (st0.drcNow 7) = false ∨ (¬∃ q ∈ (st0.chan 1).reqs, ∃ b ∈ q.left, (st0.burstMap 1 b).rank = 0) ∧ -8 < (st0.chan 1).owedOf 0 (st0.cycNow 7)) := by
  decide +kernel
def st4 : State := dc prog {X with reqs := [rq 4 false 100 [1,2,3] 50, rq 6 true 700 [10,11] 40000, rq 4 false 6000 [20] 45000]} []
theorem witness_dram_service_2 :
    1 < st4.variant.drch ∧
    st4.dramCh.length = 4 ∧
    (¬(st4.bivouac = false ∧ portDir 4 true = true ∧ [1, 2, 3] ≠ [] ∧ (burstsOf 100 [1, 2, 3].length).length ≤ 64 ∧ 100 + [1, 2, 3].length ≤ st4.dramCap 1 * 65536)) ∧
    st4.candidates 1 7 true ≠ [] ∧
    st4.chooseBurst 1 7 true = some (0, 1) ∧
    st4.fget F.DRC_C_STAT_STATE 1 = 3 ∧
    (st4.chan 1).reqs[0]? = some (rq 4 false 100 [1, 2, 3] 50) ∧
    (rq 4 false 100 [1, 2, 3] 50).wr = false ∧
    (st4.chan 1).link = false ∧
    (rq 4 false 100 [1, 2, 3] 50).port < 10 ∧
    st4.doneReq 1 false = none ∧
    st4.doneReq 1 true = none ∧
    st4.fget F.DRC_C_STAT_STATE 1 ≠ 7 ∧
    (st4.chan 1).retrainAt = none ∧
    0 < st4.fget F.DRC_C_STAT_RANKS 1 ∧
    0 < 2 ∧
    (st4.chan 1).owed.length = 2 ∧
    (st4.chan 1).refDue.length = 2 ∧
    0 < nth (st4.chan 1).refInt 0 0 ∧
    (¬(nth (st4.chan 1).stall 0 0 ≤ st4.cycNow 7 ∧ (nth (st4.chan 1).forced 0 false = true ∨ 8 ≤ (st4.chan 1).owedOf 0 (st4.cycNow 7) ∨ 0 < (st4.chan 1).owedOf 0 (st4.cycNow 7) ∧ st4.rankUrgent 1 0 (st4.drcNow 7) = false ∨ (¬∃ q ∈ (st4.chan 1).reqs, ∃ b ∈ q.left, (st4.burstMap 1 b).rank = 0) ∧ -8 < (st4.chan 1).owedOf 0 (st4.cycNow 7)))) := by
  decide +kernel
def st7 : State := dc prog {X with reqs := [rq 4 false 100 [] 50, rq 6 true 700 [] 40000, rq 4 false 6000 [20] 45000]} []
theorem witness_dram_service_3 :
    1 < st7.variant.drch ∧
    st7.dramCh.length = 4 ∧
    st7.doneReq 1 true = some (1, rq 6 true 700 [] 40000) ∧
    ((rq 6 true 700 [] 40000).port ≠ 3 ∨ (rq 6 true 700 [] 40000).bad = []) := by
  decide +kernel
def st8 : State := dc prog {X with reqs := [rq 4 false 100 [] 50, rq 6 true 700 [] 40000, rq 4 false 6000 [20] 45000]} []
theorem witness_dram_service_4 :
    1 < st8.variant.drch ∧
    st8.dramCh.length = 4 ∧
    st8.doneReq 1 false = some (0, rq 4 false 100 [] 50) := by
  decide +kernel
def st9 : State := dc prog {X with reqs := [rq 6 true 700 [10, 11] 40000, rq 4 false 6000 [20] 45000]} [(F.DRC_C_STAT_STATE,1,7)]
theorem witness_dram_service_5 :
    1 < st9.variant.drch ∧
    st9.dramCh.length = 4 ∧
    st9.doneReq 1 true = none ∧
    st9.fget F.DRC_C_STAT_STATE 1 = 7 ∧
    (st9.chan 1).reqs = rq 6 true 700 [10, 11] 40000 :: List.drop 1 (st9.chan 1).reqs ∧
    (rq 6 true 700 [10, 11] 40000).wr = true ∧
    (rq 6 true 700 [10, 11] 40000).port ≠ 3 ∧
    (¬st9.fget F.DRC_C_STAT_STATE 1 = 3 ∨ st9.fget F.DRC_C_STAT_RANKS 1 ≤ 0) := by
  decide +kernel
def st16 : State := sc
theorem witness_dram_upkeep_1 :
    1 < st16.variant.drch ∧
    st16.dramCh.length = 4 ∧
    st16.fget F.DRC_C_STAT_STATE 1 = 3 ∧
    (st16.chan 1).mr4Due ≤ st16.elapsed ∧
    List.foldl max 0 (List.take (st16.fget F.DRC_C_STAT_RANKS 1) [1, 2]) < 5 ∧
    (st16.chan 1).oscDue ≤ st16.elapsed ∧
    -8 ≤ (st16.chan 1).drift + 3 ∧
    (st16.chan 1).drift + 3 ≤ 8 ∧
    st16.bivouac = false ∧
    st16.pageBusy = false ∧
    st16.fget F.DRC_C_STAT_STATE 1 ≠ 2 ∧
    st16.fget F.DRC_SCRUB_EN = 1 ∧
    st16.scrubDue 1 = true ∧
    st16.rankHeld 1 (st16.burstMap 1 (st16.chan 1).scrub).rank 0 = false ∧
    (st16.chan 1).link = false := by
  decide +kernel
def st17 : State := sc
theorem witness_dram_upkeep_2 :
    1 < st17.variant.drch ∧
    st17.dramCh.length = 4 ∧
    st17.fget F.DRC_C_STAT_STATE 1 = 3 ∧
    (st17.chan 1).mr4Due ≤ st17.elapsed ∧
    5 ≤ List.foldl max 0 (List.take (st17.fget F.DRC_C_STAT_RANKS 1) [6, 2]) ∧
    (st17.chan 1).oscDue ≤ st17.elapsed ∧
    (8 < (st17.chan 1).drift + 7 ∨ (st17.chan 1).drift + 7 < -8) := by
  decide +kernel
def st21 : State := mode4 (dc prog X [])
theorem witness_dram_upkeep_3 :
    1 < st21.variant.drch ∧
    st21.dramCh.length = 4 ∧
    st21.bivouac = true := by
  decide +kernel
def st22 : State := dc (pgq prog) X []
theorem witness_dram_upkeep_4 :
    1 < st22.variant.drch ∧
    st22.dramCh.length = 4 ∧
    st22.bivouac = false ∧
    st22.pageBusy = true := by
  decide +kernel
def st23 : State := tr
theorem witness_dram_upkeep_5 :
    1 < st23.variant.drch ∧
    st23.dramCh.length = 4 ∧
    (¬st23.fget F.DRC_C_STAT_STATE 1 = 3 ∨ st23.elapsed < (st23.chan 1).mr4Due) ∧
    (¬st23.fget F.DRC_C_STAT_STATE 1 = 3 ∨ st23.elapsed < (st23.chan 1).oscDue) ∧
    st23.fget F.DRC_C_STAT_STATE 1 = 2 ∧
    st23.boot.ready = true ∧
    (2 = 1 ∨ 2 = 2) ∧
    (2 = 1 ∨ 2 = 2 ∨ 2 = 4) ∧
    (¬(2 = 1 ∧ 2 = 1)) ∧
    st23.trainEnd 1 [okT] = some (3, 0) ∧
    0 = 0 ∧
    (¬(st23.fget F.DRC_C_STAT_STATE 1 = 3 ∧ st23.fget F.DRC_SCRUB_EN = 1 ∧ st23.scrubDue 1 = true ∧ st23.rankHeld 1 (st23.burstMap 1 (st23.chan 1).scrub).rank 0 = false)) := by
  decide +kernel
def st25 : State := tr
theorem witness_dram_upkeep_6 :
    1 < st25.variant.drch ∧
    st25.dramCh.length = 4 ∧
    st25.fget F.DRC_C_STAT_STATE 1 = 2 ∧
    (1 = 1 ∨ 1 = 2) ∧
    (4 = 1 ∨ 4 = 2 ∨ 4 = 4) ∧
    (¬(1 = 1 ∧ 4 = 1)) ∧
    st25.trainEnd 1 [{ eyes := [16, 15, 30, 16], aligned := true : TrainTry }] = none := by
  decide +kernel
def st26 : State := tr
theorem witness_dram_upkeep_7 :
    1 < st26.variant.drch ∧
    st26.dramCh.length = 4 ∧
    st26.fget F.DRC_C_STAT_STATE 1 = 2 ∧
    st26.boot.ready = true ∧
    (2 = 1 ∨ 2 = 2) ∧
    (4 = 1 ∨ 4 = 2 ∨ 4 = 4) ∧
    (¬(2 = 1 ∧ 4 = 1)) ∧
    st26.trainEnd 1 [{ eyes := [16, 15, 30, 16], aligned := true : TrainTry }, { eyes := [16, 15, 30, 16], aligned := true : TrainTry }, { eyes := [16, 15, 30, 16], aligned := true : TrainTry }, { eyes := [16, 15, 30, 16], aligned := true : TrainTry }] = some (0, 3) ∧
    0 < 3 ∧
    3 < 8 := by
  decide +kernel
def st28 : State := tr
theorem witness_dram_upkeep_8 :
    1 < st28.variant.drch ∧
    st28.dramCh.length = 4 ∧
    st28.fget F.DRC_C_STAT_STATE 1 = 2 ∧
    st28.boot.ready = true ∧
    (¬((1 = 1 ∨ 1 = 2) ∧ (1 = 1 ∨ 1 = 2 ∨ 1 = 4) ∧ ¬(1 = 1 ∧ 1 = 1))) ∧
    1 < 4 ∧
    1 < 8 ∧
    1 = 1 := by
  decide +kernel

end Dram

namespace Dma

/-! States for dma_control, dma_program. -/

def dp (s : State) (w : Nat) (l : List (FldDesc × Nat × Nat)) (x : DmaChan) : State :=
  ((State.put ((s.rset R.DMA_C_PROG_LO (w % 2^32) 1 2).rset R.DMA_C_PROG_HI (w / 2^32) 1 2) ([(F.DMA_C_STAT_STATE,1,2),(F.DMA_C_STAT_PC,1,2),(F.DMA_C_CFG_SLOTS,1,8)] ++ l))).setDma 1 x
def Y : DmaChan := DmaChan.blank
def fin (s : State) : State := ((s.rset R.DMA_C_PROG_LO 0 1 0).rset R.DMA_C_PROG_HI (5 * 2 ^ 28) 1 0)
def mv : DmaMove := { ssp := 1, dsp := 0, sa := 0, da := 1, sinc := false, dinc := false, enc := 0, len := 4, src := 0x1000, dst := 0x20000, issued := 4, given := 0, chunks := [], lastWr := (0, []), flush := none, gather := [] }
def ck : DmaChunk := { off := 0, len := 4, data := none, tries := 1, slot := true, ready := 0 }
def mvi (ssp len : Nat) : Nat := 2^60 + ssp * 2^58 + 0*2^56 + 1 * 2^54 + 2 * 2^52 + len * 2^24
def mw : DmaMove := {mv with given := 4, chunks := [{ck with data := some [1,2,3,4]}]}
def sf (s : State) : State := s.rset R.SEQ_EV (2^4) 4
def full (s : State) : State := State.put s [(F.DMA_C_CFG_SLOTS,0,64),(F.DMA_C_SLOT_BASE,0,0),(F.DMA_C_CFG_SLOTS,2,64),(F.DMA_C_SLOT_BASE,2,64),(F.DMA_C_CFG_SLOTS,3,64),(F.DMA_C_SLOT_BASE,3,128),(F.DMA_C_CFG_SLOTS,4,64),(F.DMA_C_SLOT_BASE,4,192)]
def st0 : State := fin (dp prog 0 [(F.DMA_C_STAT_STATE,1,1),(F.DMA_C_CTRL_EN,1,1),(F.DMA_C_CFG_SEQ,1,1)] {Y with starts := [.host, .badAddr]})
theorem witness_dma_control_1 :
    1 < 64 ∧
    st0.dma.length = 64 ∧
    st0.dmaSeq 1 = true := by
  decide +kernel
def st1 : State := fin (dp prog 0 [(F.DMA_C_STAT_STATE,1,1),(F.DMA_C_CTRL_EN,1,0),(F.DMA_C_CFG_SEQ,1,0)] {Y with starts := [.host, .badAddr]})
theorem witness_dma_control_2 :
    1 < 64 ∧
    st1.dma.length = 64 ∧
    st1.dmaSeq 1 = false ∧
    st1.dmaBusy 1 = false ∧
    0 = 0 := by
  decide +kernel
def st2 : State := fin (dp prog 0 [(F.DMA_C_STAT_STATE,1,5),(F.DMA_C_CTRL_EN,1,0),(F.DMA_C_CFG_SEQ,1,0)] {Y with starts := [.host, .badAddr]})
theorem witness_dma_control_3 :
    1 < 64 ∧
    st2.dma.length = 64 ∧
    st2.dmaSt 1 = 5 ∧
    st2.fget F.DMA_C_CTRL_EN 1 = 0 ∧
    st2.dmaSeq 1 = false ∧
    st2.dmaBusy 1 = false ∧
    (1 = 1 ∨ 64 < 1 ∧ 1 < 128) := by
  decide +kernel
def st3 : State := fin (dp base 0 [(F.DMA_C_STAT_STATE,1,3),(F.DMA_C_CTRL_EN,1,0),(F.DMA_C_CFG_SEQ,1,0)] {Y with starts := [.host, .badAddr]})
theorem witness_dma_control_4 :
    1 < 64 ∧
    st3.dma.length = 64 ∧
    (st3.dmaSt 1 = 2 ∨ st3.dmaSt 1 = 3) ∧
    (st3.dmaCh 1).move = none ∧
    st3.dmaSeq 1 = false ∧
    st3.dmaBusy 1 = true := by
  decide +kernel
def st4 : State := fin (dp base 0 [(F.DMA_C_STAT_STATE,1,5),(F.DMA_C_CTRL_EN,1,0),(F.DMA_C_CFG_SEQ,1,0)] {Y with starts := [.host, .badAddr]})
theorem witness_dma_control_5 :
    1 < 64 ∧
    st4.dma.length = 64 ∧
    st4.dmaSeq 1 = false ∧
    st4.dmaBusy 1 = false ∧
    2 ≤ 9 ∧
    9 ≤ 64 ∧
    (((st4.fset F.DMA_C_CFG_PRIO (bits (putBits (st4.rget R.DMA_C_CFG 1) 26 20 9) 29 28) 1).fset F.DMA_C_CFG_CLAT (bits (putBits (st4.rget R.DMA_C_CFG 1) 26 20 9) 15 0) 1).freeSlots 1).slotRun 9 false = some 247 := by
  decide +kernel
def st5 : State := dp prog (mvi 1 256) [(⟨R.DMA_C_A_LO,31,0⟩,1,0)] Y
theorem witness_dma_program_1 :
    1 < 64 ∧
    st5.dma.length = 64 ∧
    st5.dmaRuns 1 2 = false ∧
    st5.dmaRuns 1 3 = false ∧
    st5.dmaRuns 1 4 = false ∧
    st5.dmaRuns 1 5 = false ∧
    st5.dmaSt 1 ≠ 3 ∧
    (st5.dmaCh 1).move = none ∧
    st5.dmaRuns 1 1 = true ∧
    bits (st5.dmaInstr 1) 59 58 ≠ 3 ∧
    0 < bits (st5.dmaInstr 1) 47 24 ∧
    bits (st5.dmaInstr 1) 47 24 ≤ 4096 - st5.dmaA 1 (bits (st5.dmaInstr 1) 55 54) % 4096 ∧
    st5.inSpace (bits (st5.dmaInstr 1) 59 58) (st5.dmaA 1 (bits (st5.dmaInstr 1) 55 54)) (bits (st5.dmaInstr 1) 47 24) = true ∧
    0 < st5.dmaSlots 1 := by
  decide +kernel
def st7 : State := dp prog 0 [(F.DRC_C_STAT_RANKS,0,2),(F.DRC_C_STAT_DENS,0,2),(F.PLC_RETAIN_GRAN,0,1000)] {Y with move := some {mv with chunks := [ck]}}
theorem witness_dma_program_2 :
    1 < 64 ∧
    st7.dma.length = 64 ∧
    st7.dmaRuns 1 1 = false ∧
    (st7.dmaCh 1).move = some { ssp := mv.ssp, dsp := mv.dsp, sa := mv.sa, da := mv.da, sinc := mv.sinc, dinc := mv.dinc, enc := mv.enc, len := mv.len, src := mv.src, dst := mv.dst, issued := mv.issued, given := mv.given, chunks := [ck], lastWr := mv.lastWr, flush := mv.flush, gather := mv.gather : DmaMove } ∧
    { ssp := mv.ssp, dsp := mv.dsp, sa := mv.sa, da := mv.da, sinc := mv.sinc, dinc := mv.dinc, enc := mv.enc, len := mv.len, src := mv.src, dst := mv.dst, issued := mv.issued, given := mv.given, chunks := [ck], lastWr := mv.lastWr, flush := mv.flush, gather := mv.gather : DmaMove }.chunks = [ck] ∧
    ck.off = 0 ∧
    ck.len = { ssp := mv.ssp, dsp := mv.dsp, sa := mv.sa, da := mv.da, sinc := mv.sinc, dinc := mv.dinc, enc := mv.enc, len := mv.len, src := mv.src, dst := mv.dst, issued := mv.issued, given := mv.given, chunks := [ck], lastWr := mv.lastWr, flush := mv.flush, gather := mv.gather : DmaMove }.len ∧
    { ssp := mv.ssp, dsp := mv.dsp, sa := mv.sa, da := mv.da, sinc := mv.sinc, dinc := mv.dinc, enc := mv.enc, len := mv.len, src := mv.src, dst := mv.dst, issued := mv.issued, given := mv.given, chunks := [ck], lastWr := mv.lastWr, flush := mv.flush, gather := mv.gather : DmaMove }.issued = { ssp := mv.ssp, dsp := mv.dsp, sa := mv.sa, da := mv.da, sinc := mv.sinc, dinc := mv.dinc, enc := mv.enc, len := mv.len, src := mv.src, dst := mv.dst, issued := mv.issued, given := mv.given, chunks := [ck], lastWr := mv.lastWr, flush := mv.flush, gather := mv.gather : DmaMove }.len ∧
    { ssp := mv.ssp, dsp := mv.dsp, sa := mv.sa, da := mv.da, sinc := mv.sinc, dinc := mv.dinc, enc := mv.enc, len := mv.len, src := mv.src, dst := mv.dst, issued := mv.issued, given := mv.given, chunks := [ck], lastWr := mv.lastWr, flush := mv.flush, gather := mv.gather : DmaMove }.len < 2 ^ 24 ∧
    0 < { ssp := mv.ssp, dsp := mv.dsp, sa := mv.sa, da := mv.da, sinc := mv.sinc, dinc := mv.dinc, enc := mv.enc, len := mv.len, src := mv.src, dst := mv.dst, issued := mv.issued, given := mv.given, chunks := [ck], lastWr := mv.lastWr, flush := mv.flush, gather := mv.gather : DmaMove }.len ∧
    { ssp := mv.ssp, dsp := mv.dsp, sa := mv.sa, da := mv.da, sinc := mv.sinc, dinc := mv.dinc, enc := mv.enc, len := mv.len, src := mv.src, dst := mv.dst, issued := mv.issued, given := mv.given, chunks := [ck], lastWr := mv.lastWr, flush := mv.flush, gather := mv.gather : DmaMove }.ssp ≠ 3 ∧
    { ssp := mv.ssp, dsp := mv.dsp, sa := mv.sa, da := mv.da, sinc := mv.sinc, dinc := mv.dinc, enc := mv.enc, len := mv.len, src := mv.src, dst := mv.dst, issued := mv.issued, given := mv.given, chunks := [ck], lastWr := mv.lastWr, flush := mv.flush, gather := mv.gather : DmaMove }.enc < 2 ∧
    ck.data = none ∧
    { ssp := mv.ssp, dsp := mv.dsp, sa := mv.sa, da := mv.da, sinc := mv.sinc, dinc := mv.dinc, enc := mv.enc, len := mv.len, src := mv.src, dst := mv.dst, issued := mv.issued, given := mv.given, chunks := [ck], lastWr := mv.lastWr, flush := mv.flush, gather := mv.gather : DmaMove }.ssp = 1 ∧
    { ssp := mv.ssp, dsp := mv.dsp, sa := mv.sa, da := mv.da, sinc := mv.sinc, dinc := mv.dinc, enc := mv.enc, len := mv.len, src := mv.src, dst := mv.dst, issued := mv.issued, given := mv.given, chunks := [ck], lastWr := mv.lastWr, flush := mv.flush, gather := mv.gather : DmaMove }.dsp = 0 ∧
    { ssp := mv.ssp, dsp := mv.dsp, sa := mv.sa, da := mv.da, sinc := mv.sinc, dinc := mv.dinc, enc := mv.enc, len := mv.len, src := mv.src, dst := mv.dst, issued := mv.issued, given := mv.given, chunks := [ck], lastWr := mv.lastWr, flush := mv.flush, gather := mv.gather : DmaMove }.given = 0 ∧
    st7.dmaSt 1 = 2 ∧
    [1, 2, 3, 4].length = ck.len ∧
    (∀ b ∈ [1, 2, 3, 4], b < 256) ∧
    st7.dstErr 0 { ssp := mv.ssp, dsp := mv.dsp, sa := mv.sa, da := mv.da, sinc := mv.sinc, dinc := mv.dinc, enc := mv.enc, len := mv.len, src := mv.src, dst := mv.dst, issued := mv.issued, given := mv.given, chunks := [ck], lastWr := mv.lastWr, flush := mv.flush, gather := mv.gather : DmaMove }.dst { ssp := mv.ssp, dsp := mv.dsp, sa := mv.sa, da := mv.da, sinc := mv.sinc, dinc := mv.dinc, enc := mv.enc, len := mv.len, src := mv.src, dst := mv.dst, issued := mv.issued, given := mv.given, chunks := [ck], lastWr := mv.lastWr, flush := mv.flush, gather := mv.gather : DmaMove }.len = 0 := by
  decide +kernel
def st8 : State := dp prog 0 [(F.DRC_C_STAT_RANKS,0,2),(F.DRC_C_STAT_DENS,0,2),(F.PLC_RETAIN_GRAN,0,1000),(F.DMA_RETRY_RETRY,0,0)] {Y with move := some {mv with ssp := 0, chunks := [ck]}}
theorem witness_dma_program_3 :
    1 < 64 ∧
    st8.dma.length = 64 ∧
    (st8.dmaCh 1).move = some { ssp := 0, dsp := mv.dsp, sa := mv.sa, da := mv.da, sinc := mv.sinc, dinc := mv.dinc, enc := mv.enc, len := mv.len, src := mv.src, dst := mv.dst, issued := mv.issued, given := mv.given, chunks := [ck], lastWr := mv.lastWr, flush := mv.flush, gather := mv.gather : DmaMove } ∧
    { ssp := 0, dsp := mv.dsp, sa := mv.sa, da := mv.da, sinc := mv.sinc, dinc := mv.dinc, enc := mv.enc, len := mv.len, src := mv.src, dst := mv.dst, issued := mv.issued, given := mv.given, chunks := [ck], lastWr := mv.lastWr, flush := mv.flush, gather := mv.gather : DmaMove }.chunks = [ck] ∧
    ck.off = 0 ∧
    ck.len = { ssp := 0, dsp := mv.dsp, sa := mv.sa, da := mv.da, sinc := mv.sinc, dinc := mv.dinc, enc := mv.enc, len := mv.len, src := mv.src, dst := mv.dst, issued := mv.issued, given := mv.given, chunks := [ck], lastWr := mv.lastWr, flush := mv.flush, gather := mv.gather : DmaMove }.len ∧
    { ssp := 0, dsp := mv.dsp, sa := mv.sa, da := mv.da, sinc := mv.sinc, dinc := mv.dinc, enc := mv.enc, len := mv.len, src := mv.src, dst := mv.dst, issued := mv.issued, given := mv.given, chunks := [ck], lastWr := mv.lastWr, flush := mv.flush, gather := mv.gather : DmaMove }.issued = { ssp := 0, dsp := mv.dsp, sa := mv.sa, da := mv.da, sinc := mv.sinc, dinc := mv.dinc, enc := mv.enc, len := mv.len, src := mv.src, dst := mv.dst, issued := mv.issued, given := mv.given, chunks := [ck], lastWr := mv.lastWr, flush := mv.flush, gather := mv.gather : DmaMove }.len ∧
    { ssp := 0, dsp := mv.dsp, sa := mv.sa, da := mv.da, sinc := mv.sinc, dinc := mv.dinc, enc := mv.enc, len := mv.len, src := mv.src, dst := mv.dst, issued := mv.issued, given := mv.given, chunks := [ck], lastWr := mv.lastWr, flush := mv.flush, gather := mv.gather : DmaMove }.len < 2 ^ 24 ∧
    0 < { ssp := 0, dsp := mv.dsp, sa := mv.sa, da := mv.da, sinc := mv.sinc, dinc := mv.dinc, enc := mv.enc, len := mv.len, src := mv.src, dst := mv.dst, issued := mv.issued, given := mv.given, chunks := [ck], lastWr := mv.lastWr, flush := mv.flush, gather := mv.gather : DmaMove }.len ∧
    { ssp := 0, dsp := mv.dsp, sa := mv.sa, da := mv.da, sinc := mv.sinc, dinc := mv.dinc, enc := mv.enc, len := mv.len, src := mv.src, dst := mv.dst, issued := mv.issued, given := mv.given, chunks := [ck], lastWr := mv.lastWr, flush := mv.flush, gather := mv.gather : DmaMove }.ssp ≠ 3 ∧
    { ssp := 0, dsp := mv.dsp, sa := mv.sa, da := mv.da, sinc := mv.sinc, dinc := mv.dinc, enc := mv.enc, len := mv.len, src := mv.src, dst := mv.dst, issued := mv.issued, given := mv.given, chunks := [ck], lastWr := mv.lastWr, flush := mv.flush, gather := mv.gather : DmaMove }.enc < 2 ∧
    ck.data = none ∧
    { ssp := 0, dsp := mv.dsp, sa := mv.sa, da := mv.da, sinc := mv.sinc, dinc := mv.dinc, enc := mv.enc, len := mv.len, src := mv.src, dst := mv.dst, issued := mv.issued, given := mv.given, chunks := [ck], lastWr := mv.lastWr, flush := mv.flush, gather := mv.gather : DmaMove }.ssp = 0 ∧
    st8.fget F.DMA_RETRY_RETRY ≤ ck.tries := by
  decide +kernel
def st9 : State := dp prog 0 [(F.DRC_C_STAT_RANKS,0,2),(F.DRC_C_STAT_DENS,0,2),(F.PLC_RETAIN_GRAN,0,1000),(F.DMA_RETRY_RETRY,0,3)] {Y with move := some {mv with ssp := 0, chunks := [ck]}}
theorem witness_dma_program_4 :
    1 < 64 ∧
    st9.dma.length = 64 ∧
    (st9.dmaCh 1).move = some { ssp := 0, dsp := mv.dsp, sa := mv.sa, da := mv.da, sinc := mv.sinc, dinc := mv.dinc, enc := mv.enc, len := mv.len, src := mv.src, dst := mv.dst, issued := mv.issued, given := mv.given, chunks := [ck], lastWr := mv.lastWr, flush := mv.flush, gather := mv.gather : DmaMove } ∧
    { ssp := 0, dsp := mv.dsp, sa := mv.sa, da := mv.da, sinc := mv.sinc, dinc := mv.dinc, enc := mv.enc, len := mv.len, src := mv.src, dst := mv.dst, issued := mv.issued, given := mv.given, chunks := [ck], lastWr := mv.lastWr, flush := mv.flush, gather := mv.gather : DmaMove }.chunks = [ck] ∧
    ck.off = 0 ∧
    ck.len = { ssp := 0, dsp := mv.dsp, sa := mv.sa, da := mv.da, sinc := mv.sinc, dinc := mv.dinc, enc := mv.enc, len := mv.len, src := mv.src, dst := mv.dst, issued := mv.issued, given := mv.given, chunks := [ck], lastWr := mv.lastWr, flush := mv.flush, gather := mv.gather : DmaMove }.len ∧
    { ssp := 0, dsp := mv.dsp, sa := mv.sa, da := mv.da, sinc := mv.sinc, dinc := mv.dinc, enc := mv.enc, len := mv.len, src := mv.src, dst := mv.dst, issued := mv.issued, given := mv.given, chunks := [ck], lastWr := mv.lastWr, flush := mv.flush, gather := mv.gather : DmaMove }.issued = { ssp := 0, dsp := mv.dsp, sa := mv.sa, da := mv.da, sinc := mv.sinc, dinc := mv.dinc, enc := mv.enc, len := mv.len, src := mv.src, dst := mv.dst, issued := mv.issued, given := mv.given, chunks := [ck], lastWr := mv.lastWr, flush := mv.flush, gather := mv.gather : DmaMove }.len ∧
    { ssp := 0, dsp := mv.dsp, sa := mv.sa, da := mv.da, sinc := mv.sinc, dinc := mv.dinc, enc := mv.enc, len := mv.len, src := mv.src, dst := mv.dst, issued := mv.issued, given := mv.given, chunks := [ck], lastWr := mv.lastWr, flush := mv.flush, gather := mv.gather : DmaMove }.len < 2 ^ 24 ∧
    0 < { ssp := 0, dsp := mv.dsp, sa := mv.sa, da := mv.da, sinc := mv.sinc, dinc := mv.dinc, enc := mv.enc, len := mv.len, src := mv.src, dst := mv.dst, issued := mv.issued, given := mv.given, chunks := [ck], lastWr := mv.lastWr, flush := mv.flush, gather := mv.gather : DmaMove }.len ∧
    { ssp := 0, dsp := mv.dsp, sa := mv.sa, da := mv.da, sinc := mv.sinc, dinc := mv.dinc, enc := mv.enc, len := mv.len, src := mv.src, dst := mv.dst, issued := mv.issued, given := mv.given, chunks := [ck], lastWr := mv.lastWr, flush := mv.flush, gather := mv.gather : DmaMove }.ssp ≠ 3 ∧
    { ssp := 0, dsp := mv.dsp, sa := mv.sa, da := mv.da, sinc := mv.sinc, dinc := mv.dinc, enc := mv.enc, len := mv.len, src := mv.src, dst := mv.dst, issued := mv.issued, given := mv.given, chunks := [ck], lastWr := mv.lastWr, flush := mv.flush, gather := mv.gather : DmaMove }.enc < 2 ∧
    ck.data = none ∧
    { ssp := 0, dsp := mv.dsp, sa := mv.sa, da := mv.da, sinc := mv.sinc, dinc := mv.dinc, enc := mv.enc, len := mv.len, src := mv.src, dst := mv.dst, issued := mv.issued, given := mv.given, chunks := [ck], lastWr := mv.lastWr, flush := mv.flush, gather := mv.gather : DmaMove }.ssp = 0 ∧
    ck.tries < st9.fget F.DMA_RETRY_RETRY := by
  decide +kernel
def st10 : State := dp prog 0 [(F.DRC_C_STAT_RANKS,0,2),(F.DRC_C_STAT_DENS,0,2),(F.PLC_RETAIN_GRAN,0,1000),(F.DMA_RETRY_RETRY,0,3)] {Y with move := some mw}
theorem witness_dma_program_5 :
    1 < 64 ∧
    st10.dma.length = 64 ∧
    (st10.dmaCh 1).move = some mw ∧
    mw.chunks = [{ off := ck.off, len := ck.len, data := some [1, 2, 3, 4], tries := ck.tries, slot := ck.slot, ready := ck.ready : DmaChunk }] ∧
    { off := ck.off, len := ck.len, data := some [1, 2, 3, 4], tries := ck.tries, slot := ck.slot, ready := ck.ready : DmaChunk }.off = 0 ∧
    { off := ck.off, len := ck.len, data := some [1, 2, 3, 4], tries := ck.tries, slot := ck.slot, ready := ck.ready : DmaChunk }.len = mw.len ∧
    mw.issued = mw.len ∧
    mw.len < 2 ^ 24 ∧
    0 < mw.len ∧
    mw.ssp ≠ 3 ∧
    mw.enc < 2 ∧
    { off := ck.off, len := ck.len, data := some [1, 2, 3, 4], tries := ck.tries, slot := ck.slot, ready := ck.ready : DmaChunk }.data = some [1, 2, 3, 4] ∧
    mw.dsp = 0 ∧
    mw.given = mw.len ∧
    mw.sinc = false ∧
    mw.dinc = false ∧
    st10.dmaSt 1 = 2 := by
  decide +kernel
def st11 : State := dp prog (2*2^60 + 1) [] Y
theorem witness_dma_program_6 :
    1 < 64 ∧
    st11.dma.length = 64 ∧
    st11.dmaRuns 1 2 = true ∧
    bits (st11.dmaInstr 1) 47 32 = 0 ∧
    bits (st11.dmaInstr 1) 5 0 ≤ st11.fget F.DMA_C_STAT_PC 1 := by
  decide +kernel
def st12 : State := dp prog (2*2^60 + 5 * 2^32 + 1) [(F.DMA_C_LC_LC0,1,0)] Y
theorem witness_dma_program_7 :
    1 < 64 ∧
    st12.dma.length = 64 ∧
    st12.dmaRuns 1 2 = true ∧
    (st12.dmaInstr 1).testBit 59 = false ∧
    1 < bits (st12.dmaInstr 1) 47 32 ∧
    bits (st12.dmaInstr 1) 5 0 ≤ st12.fget F.DMA_C_STAT_PC 1 ∧
    st12.fget F.DMA_C_LC_LC0 1 = 0 := by
  decide +kernel
def st13 : State := dp prog (2*2^60 + 2^59 + 5 * 2^32 + 1) [(F.DMA_C_LC_LC1,1,1)] Y
theorem witness_dma_program_8 :
    1 < 64 ∧
    st13.dma.length = 64 ∧
    st13.dmaRuns 1 2 = true ∧
    (st13.dmaInstr 1).testBit 59 = true ∧
    bits (st13.dmaInstr 1) 47 32 ≠ 0 ∧
    st13.fget F.DMA_C_LC_LC1 1 = 1 := by
  decide +kernel
def st14 : State := dp prog (3*2^60 + 2^58 + 5) [] Y
theorem witness_dma_program_9 :
    1 < 64 ∧
    st14.dma.length = 64 ∧
    st14.dmaRuns 1 3 = true := by
  decide +kernel
def st15 : State := dp prog (3*2^60 + 2^58 + 5) [(F.DMA_C_STAT_STATE,1,3)] Y
theorem witness_dma_program_10 :
    1 < 64 ∧
    st15.dma.length = 64 ∧
    st15.dmaSt 1 = 3 ∧
    dmaOp (st15.dmaInstr 1) = 3 ∧
    bits (st15.dmaInstr 1) 59 58 = 1 ∧
    (st15.dmaCh 1).waitTick ≤ st15.elapsed := by
  decide +kernel
def st16 : State := dp prog (3*2^60 + 2^58 + 5) [(F.DMA_C_STAT_STATE,1,3)] {Y with waitTick := 10000}
theorem witness_dma_program_11 :
    1 < 64 ∧
    st16.dma.length = 64 ∧
    st16.dmaSt 1 = 3 ∧
    dmaOp (st16.dmaInstr 1) = 3 ∧
    bits (st16.dmaInstr 1) 59 58 = 1 ∧
    st16.elapsed < (st16.dmaCh 1).waitTick := by
  decide +kernel
def st17 : State := sf (dp base (3*2^60 + 2^57 + 132 * 2^24) [(F.DMA_C_STAT_STATE,1,3)] Y)
theorem witness_dma_program_12 :
    1 < 64 ∧
    st17.dma.length = 64 ∧
    st17.dmaOnFlag (bits (st17.dmaInstr 1) 33 24) true 1 = true ∧
    st17.phase = 0 ∧
    st17.flag (bits (st17.dmaInstr 1) 33 24) = true ∧
    (∀ d < 64, d ≠ 1 → st17.dmaOnFlag (bits (st17.dmaInstr 1) 33 24) true d = false ∧ st17.dmaOnFlag (bits (st17.dmaInstr 1) 33 24) false d = false) := by
  decide +kernel
def st18 : State := dp prog (4*2^60 + 2^59 + 2^58 + 132*2^32) [] Y
theorem witness_dma_program_13 :
    1 < 64 ∧
    st18.dma.length = 64 ∧
    st18.dmaRuns 1 4 = true ∧
    (st18.dmaInstr 1).testBit 59 = true ∧
    (st18.dmaInstr 1).testBit 58 = true ∧
    (st18.dmaInstr 1).testBit 57 = false := by
  decide +kernel
def st19 : State := dp prog (4*2^60 + 2^57 + 13) [] Y
theorem witness_dma_program_14 :
    1 < 64 ∧
    st19.dma.length = 64 ∧
    st19.dmaRuns 1 4 = true ∧
    (st19.dmaInstr 1).testBit 59 = false ∧
    (st19.dmaInstr 1).testBit 58 = false ∧
    (st19.dmaInstr 1).testBit 57 = true := by
  decide +kernel
def st20 : State := dp prog (5*2^60) [] Y
theorem witness_dma_program_15 :
    1 < 64 ∧
    st20.dma.length = 64 ∧
    st20.dmaRuns 1 5 = true := by
  decide +kernel
def st22 : State := fin (dp prog 0 [(F.DMA_C_STAT_STATE,1,1),(F.DMA_C_CTRL_EN,1,1),(F.DMA_C_CFG_SEQ,1,0)] {Y with starts := [.host]})
theorem witness_dma_control_6 :
    1 < 64 ∧
    st22.dma.length = 64 ∧
    st22.phase = 0 ∧
    (st22.dmaCh 1).starts = [DmaStart.host] ∧
    st22.dmaRefuse 1 DmaStart.host = 0 ∧
    st22.fget F.DMA_C_CTRL_EN 1 ≠ 0 ∧
    st22.fget F.DMA_C_CTRL_EN 1 = 1 ∧
    (∀ (m : DmaMove), (st22.dmaCh 1).move = some m → m.ssp ≠ 3) := by
  decide +kernel
def st23 : State := fin (dp prog 0 [(F.DMA_C_STAT_STATE,1,1),(F.DMA_C_CTRL_EN,1,1),(F.DMA_C_CFG_SEQ,1,0)] {Y with starts := [.badAddr]})
theorem witness_dma_control_7 :
    1 < 64 ∧
    st23.dma.length = 64 ∧
    st23.phase = 0 ∧
    (st23.dmaCh 1).starts = [DmaStart.badAddr] ∧
    st23.dmaRefuse 1 DmaStart.badAddr ≠ 0 := by
  decide +kernel
def st26 : State := full (dp prog 0 [(F.DMA_C_STAT_STATE,1,1),(F.DMA_C_CTRL_EN,1,1),(F.DMA_C_CFG_SEQ,1,0)] {Y with starts := []})
theorem witness_dma_control_8 :
    1 < 64 ∧
    st26.dma.length = 64 ∧
    (st26.phase ≠ 0 ∨ (st26.dmaCh 1).starts = []) ∧
    st26.dmaSeq 1 = false ∧
    st26.dmaBusy 1 = false ∧
    2 ≤ 2 ∧
    2 ≤ 64 ∧
    (((st26.fset F.DMA_C_CFG_PRIO (bits (putBits (st26.rget R.DMA_C_CFG 1) 26 20 2) 29 28) 1).fset F.DMA_C_CFG_CLAT (bits (putBits (st26.rget R.DMA_C_CFG 1) 26 20 2) 15 0) 1).freeSlots 1).slotRun 2 false = none := by
  decide +kernel
def st27 : State := (dp prog (mvi 0 256) [(F.DRC_C_STAT_RANKS,0,0),(F.DRC_C_STAT_DENS,0,0)] Y).dmaPutA 1 1 0x800
theorem witness_dma_program_16 :
    1 < 64 ∧
    st27.dma.length = 64 ∧
    st27.dmaRuns 1 1 = true ∧
    bits (st27.dmaInstr 1) 59 58 ≠ 3 ∧
    0 < bits (st27.dmaInstr 1) 47 24 ∧
    0 < st27.dmaSlots 1 ∧
    st27.inSpace (bits (st27.dmaInstr 1) 59 58) (st27.dmaA 1 (bits (st27.dmaInstr 1) 55 54)) (min (bits (st27.dmaInstr 1) 47 24) (4096 - st27.dmaA 1 (bits (st27.dmaInstr 1) 55 54) % 4096)) = false := by
  decide +kernel
def st28 : State := dp prog (mvi 3 0) [] Y
theorem witness_dma_program_17 :
    1 < 64 ∧
    st28.dma.length = 64 ∧
    st28.dmaRuns 1 1 = true ∧
    bits (st28.dmaInstr 1) 59 58 = 3 ∧
    (∀ d ∈ (st28.enc (bits (st28.dmaInstr 1) 49 49)).desc, d.taken = true) := by
  decide +kernel

end Dma

namespace Ring

/-! States for ring_links, ring_frames, ring_requests. -/

def up : List (FldDesc × Nat × Nat) := [(F.EUN_P_STAT_UP,0,1),(F.EUN_P_STAT_UP,1,1),(F.EUN_CFG_ROOT,0,0),(F.EUN_STAT_WRAPA,0,0),(F.EUN_STAT_WRAPB,0,0),(F.EUN_STAT_ADDRV,0,1),(F.EUN_STAT_ADDR,0,5),(F.EUN_STAT_TICKSRC,0,0)]
def rg (s : State) (l : List (FldDesc × Nat × Nat)) (r : Ring) : State := { State.put s (up ++ l) with ring := r }
def R0 : Ring := { Ring.blank with ports := [⟨true,false,none,0,0⟩,⟨true,false,none,0,0⟩] }
def fe (cnt eid : Nat) (wr : Bool) : RingFrame := { ft := 1, wrap := wr, dst := 1023, src := 0, seq := 3, payload := [eid * 2^16 + cnt] }
def fr (n : Nat) (p : List Nat) : RingFrame := { ft := n, dst := 5, src := 7, seq := 33, payload := p }
def tx : RingTx := ⟨{ ft := 3, dst := 7, src := 5, seq := 12, payload := [0x100] }, .access, 1, 3⟩
def nzb : State := { prog with committed := true, phase := 15, tick := 5000, elapsed := 5000 }
def st0 : State := rg prog [(F.EUN_P_STAT_UP,0,0)] {R0 with ports := [⟨false,false,none,0,0⟩,⟨true,false,none,0,0⟩] }
theorem witness_ring_links_1 :
    0 < 2 ∧
    st0.ring.ports.length = 2 ∧
    st0.ring.lastSet.length = 2 ∧
    st0.bivouac = false ∧
    128 ≤ 130 ∧
    (st0.port 0).trained = false ∧
    (¬(400 ≤ 0 ∨ 400 ≤ 0 ∨ ∃ i ∈ List.range [1, 2].length, i + 15 < [1, 2].length ∧ nth [1, 2] (i + 15) 0 ≤ nth [1, 2] i 0 + 400)) ∧
    st0.phase ≠ 15 ∧
    (¬((st0.port 0).trained = true ∧ ((st0.port 0).due = true ∨ st0.portUp 0 = true ∧ (st0.port 0).reqTick + 1024 ≤ st0.elapsed))) ∧
    (st0.portUp 0 = false ∨ (fe 3 9 false).ft ≠ 1) ∧
    st0.boundary = false := by
  decide +kernel
def st1 : State := rg {prog with tick := 10240, elapsed := 10240, phase := 15} [(F.EUN_STAT_WRAPA,0,1)] {R0 with ports := [⟨true,false,some 2000,20,0⟩,⟨true,false,none,0,0⟩] }
theorem witness_ring_links_2 :
    0 < 2 ∧
    st1.ring.ports.length = 2 ∧
    st1.ring.lastSet.length = 2 ∧
    st1.bivouac = false ∧
    (st1.port 0).trained = true ∧
    (st1.port 0).req = some 2000 ∧
    2000 + 64000 ≤ 70000 ∧
    st1.portUp 0 = true ∧
    st1.isRoot = false ∧
    st1.tickPort 0 = 0 ∧
    (fe 3 9 false).ft = 1 ∧
    (fe 3 9 false).lenOk = true ∧
    st1.arrives 0 = true ∧
    st1.ring.eid ≠ some (bits (nth (fe 3 9 false).payload 0 0) 23 16) ∧
    bits (nth (fe 3 9 false).payload 0 0) 10 0 < 1024 := by
  decide +kernel
def st2 : State := rg {prog with tick := 10240, elapsed := 10240, phase := 15} [(F.EUN_P_STAT_UP,0,0)] {R0 with ports := [⟨true,true,some 2000,20,0⟩,⟨true,false,none,0,0⟩] }
theorem witness_ring_links_3 :
    0 < 2 ∧
    st2.ring.ports.length = 2 ∧
    st2.ring.lastSet.length = 2 ∧
    st2.bivouac = false ∧
    (400 ≤ 0 ∨ 400 ≤ 400 ∨ ∃ i ∈ List.range [1, 2].length, i + 15 < [1, 2].length ∧ nth [1, 2] (i + 15) 0 ≤ nth [1, 2] i 0 + 400) ∧
    st2.portUp 0 = false := by
  decide +kernel
def st6 : State := rg {prog with tick := 10240, elapsed := 10240, phase := 15, committed := true} [(F.EUN_CFG_ROOT,0,1)] {R0 with eid := some 9, enumAt := some 2000 }
theorem witness_ring_links_4 :
    0 < 2 ∧
    st6.ring.ports.length = 2 ∧
    st6.ring.lastSet.length = 2 ∧
    st6.bivouac = false ∧
    (127 < 128 ∨ (st6.port 0).trained = true) ∧
    (400 ≤ 0 ∨ 400 ≤ 400 ∨ ∃ i ∈ List.range [1, 2].length, i + 15 < [1, 2].length ∧ nth [1, 2] (i + 15) 0 ≤ nth [1, 2] i 0 + 400) ∧
    st6.portUp 0 = true ∧
    st6.phase = 15 ∧
    (st6.port 0).trained = true ∧
    ((st6.port 0).due = true ∨ st6.portUp 0 = true ∧ (st6.port 0).reqTick + 1024 ≤ st6.elapsed) ∧
    (st6.port 0).req = none ∧
    ((st6.port 0).trained = false ∨ (st6.port 0).req = none ∨ (st6.port 0).req = some 2000 ∧ 70000 < 2000 + 64000) ∧
    (st6.portUp 0 = false ∨ st6.isRoot = true) ∧
    st6.isRoot = true ∧
    (st6.boundary = false ∨ st6.isRoot = true ∨ st6.ring.noTick ≠ 63) ∧
    (fe 3 9 false).ft = 1 ∧
    (fe 3 9 false).lenOk = true ∧
    st6.arrives 0 = true ∧
    st6.ring.eid = some (bits (nth (fe 3 9 false).payload 0 0) 23 16) ∧
    st6.ring.enumAt ≠ none ∧
    st6.boundary = true ∧
    st6.seq.rel = [] ∧
    st6.ring.writes = [] ∧
    st6.ticking = true ∧
    st6.ring.enumAt = some 2000 ∧
    2000 + 1000 ≤ st6.elapsed + 1 := by
  decide +kernel
def st7 : State := rg {prog with tick := 10240, elapsed := 10240, phase := 15, committed := true} [(F.EUN_CFG_ROOT,0,0)] {R0 with eid := some 8, noTick := 63, enumAt := some 2000 }
theorem witness_ring_links_5 :
    0 < 2 ∧
    st7.ring.ports.length = 2 ∧
    st7.ring.lastSet.length = 2 ∧
    st7.bivouac = false ∧
    st7.boundary = true ∧
    st7.seq.rel = [] ∧
    st7.ring.writes = [] ∧
    st7.ticking = true ∧
    st7.isRoot = false ∧
    st7.ring.noTick = 63 ∧
    st7.portUp 0 = true ∧
    { ft := (fe 3 9 false).ft, bcast := (fe 3 9 false).bcast, auth := (fe 3 9 false).auth, wrap := (fe 3 9 false).wrap, dst := (fe 3 9 false).dst, src := (fe 3 9 false).src, seq := (fe 3 9 false).seq, payload := [] : RingFrame }.ft = 1 ∧
    { ft := (fe 3 9 false).ft, bcast := (fe 3 9 false).bcast, auth := (fe 3 9 false).auth, wrap := (fe 3 9 false).wrap, dst := (fe 3 9 false).dst, src := (fe 3 9 false).src, seq := (fe 3 9 false).seq, payload := [] : RingFrame }.lenOk = false := by
  decide +kernel
def st8 : State := rg {prog with tick := 10240, elapsed := 10240, phase := 15, committed := true} [(F.EUN_CFG_ROOT,0,0)] {R0 with eid := some 8, noTick := 63, enumAt := some 2000 }
theorem witness_ring_links_6 :
    1 < 2 ∧
    st8.ring.ports.length = 2 ∧
    st8.ring.lastSet.length = 2 ∧
    st8.bivouac = false ∧
    st8.portUp 1 = true ∧
    (fe 3 9 false).ft = 1 ∧
    (fe 3 9 false).lenOk = true ∧
    st8.arrives 1 = false := by
  decide +kernel
def st10 : State := rg prog [] R0
theorem witness_ring_frames_1 :
    st10.bivouac = false ∧
    (2, Instr.msgFrame 0 (fr 2 [272, 6, 7]) true) ∈ [(2, Instr.msgFrame 0 (fr 2 [272, 6, 7]) true), (3, Instr.rrdFrame 0 (fr 2 [272, 6, 7]) true), (4, Instr.rwrFrame 0 (fr 2 [272, 6, 7]) true), (5, Instr.rspFrame 0 (fr 2 [272, 6, 7]) true), (6, Instr.ackFrame 0 (fr 2 [272, 6, 7]) true), (7, Instr.sheetFrame 0 (fr 2 [272, 6, 7]) true)] ∧
    (fr 2 [272, 6, 7]).ft = 2 ∧
    st10.portUp 0 = true ∧
    true = true ∧
    (fr 2 [272, 6, 7]).lenOk = true ∧
    st10.addrValid = true ∧
    st10.portUp 1 = true ∧
    st10.fget F.EUN_STAT_WRAPB = 0 ∧
    (fr 2 [272, 6, 7]).dst = st10.ownAddr ∧
    (fr 2 [272, 6, 7]).src ≠ st10.ownAddr ∧
    (fr 2 [272, 6, 7]).bcast = false ∧
    (fr 2 [272, 6, 7]).auth = false ∧
    st10.ringSrc (fr 2 [272, 6, 7]).src = none ∧
    2 = 2 ∧
    bits (nth (fr 2 [272, 6, 7]).payload 0 0) 7 0 ≠ 241 ∧
    st10.ring.fifo.length < 32 := by
  decide +kernel
def st11 : State := rg prog [] R0
theorem witness_ring_frames_2 :
    st11.bivouac = false ∧
    (2, Instr.msgFrame 0 (fr 2 [272, 6]) true) ∈ [(2, Instr.msgFrame 0 (fr 2 [272, 6]) true), (3, Instr.rrdFrame 0 (fr 2 [272, 6]) true), (4, Instr.rwrFrame 0 (fr 2 [272, 6]) true), (5, Instr.rspFrame 0 (fr 2 [272, 6]) true), (6, Instr.ackFrame 0 (fr 2 [272, 6]) true), (7, Instr.sheetFrame 0 (fr 2 [272, 6]) true)] ∧
    (fr 2 [272, 6]).ft = 2 ∧
    st11.portUp 0 = true ∧
    (true = false ∨ (fr 2 [272, 6]).lenOk = false) := by
  decide +kernel
def st12 : State := rg prog [] R0
theorem witness_ring_frames_3 :
    st12.bivouac = false ∧
    (2, Instr.msgFrame 0 { ft := (fr 2 [272, 6, 7]).ft, bcast := (fr 2 [272, 6, 7]).bcast, auth := (fr 2 [272, 6, 7]).auth, wrap := (fr 2 [272, 6, 7]).wrap, dst := 9, src := (fr 2 [272, 6, 7]).src, seq := (fr 2 [272, 6, 7]).seq, payload := (fr 2 [272, 6, 7]).payload : RingFrame } true) ∈ [(2, Instr.msgFrame 0 { ft := (fr 2 [272, 6, 7]).ft, bcast := (fr 2 [272, 6, 7]).bcast, auth := (fr 2 [272, 6, 7]).auth, wrap := (fr 2 [272, 6, 7]).wrap, dst := 9, src := (fr 2 [272, 6, 7]).src, seq := (fr 2 [272, 6, 7]).seq, payload := (fr 2 [272, 6, 7]).payload : RingFrame } true), (3, Instr.rrdFrame 0 { ft := (fr 2 [272, 6, 7]).ft, bcast := (fr 2 [272, 6, 7]).bcast, auth := (fr 2 [272, 6, 7]).auth, wrap := (fr 2 [272, 6, 7]).wrap, dst := 9, src := (fr 2 [272, 6, 7]).src, seq := (fr 2 [272, 6, 7]).seq, payload := (fr 2 [272, 6, 7]).payload : RingFrame } true), (4, Instr.rwrFrame 0 { ft := (fr 2 [272, 6, 7]).ft, bcast := (fr 2 [272, 6, 7]).bcast, auth := (fr 2 [272, 6, 7]).auth, wrap := (fr 2 [272, 6, 7]).wrap, dst := 9, src := (fr 2 [272, 6, 7]).src, seq := (fr 2 [272, 6, 7]).seq, payload := (fr 2 [272, 6, 7]).payload : RingFrame } true), (5, Instr.rspFrame 0 { ft := (fr 2 [272, 6, 7]).ft, bcast := (fr 2 [272, 6, 7]).bcast, auth := (fr 2 [272, 6, 7]).auth, wrap := (fr 2 [272, 6, 7]).wrap, dst := 9, src := (fr 2 [272, 6, 7]).src, seq := (fr 2 [272, 6, 7]).seq, payload := (fr 2 [272, 6, 7]).payload : RingFrame } true), (6, Instr.ackFrame 0 { ft := (fr 2 [272, 6, 7]).ft, bcast := (fr 2 [272, 6, 7]).bcast, auth := (fr 2 [272, 6, 7]).auth, wrap := (fr 2 [272, 6, 7]).wrap, dst := 9, src := (fr 2 [272, 6, 7]).src, seq := (fr 2 [272, 6, 7]).seq, payload := (fr 2 [272, 6, 7]).payload : RingFrame } true), (7, Instr.sheetFrame 0 { ft := (fr 2 [272, 6, 7]).ft, bcast := (fr 2 [272, 6, 7]).bcast, auth := (fr 2 [272, 6, 7]).auth, wrap := (fr 2 [272, 6, 7]).wrap, dst := 9, src := (fr 2 [272, 6, 7]).src, seq := (fr 2 [272, 6, 7]).seq, payload := (fr 2 [272, 6, 7]).payload : RingFrame } true)] ∧
    { ft := (fr 2 [272, 6, 7]).ft, bcast := (fr 2 [272, 6, 7]).bcast, auth := (fr 2 [272, 6, 7]).auth, wrap := (fr 2 [272, 6, 7]).wrap, dst := 9, src := (fr 2 [272, 6, 7]).src, seq := (fr 2 [272, 6, 7]).seq, payload := (fr 2 [272, 6, 7]).payload : RingFrame }.ft = 2 ∧
    st12.portUp 0 = true ∧
    true = true ∧
    { ft := (fr 2 [272, 6, 7]).ft, bcast := (fr 2 [272, 6, 7]).bcast, auth := (fr 2 [272, 6, 7]).auth, wrap := (fr 2 [272, 6, 7]).wrap, dst := 9, src := (fr 2 [272, 6, 7]).src, seq := (fr 2 [272, 6, 7]).seq, payload := (fr 2 [272, 6, 7]).payload : RingFrame }.lenOk = true ∧
    (st12.addrValid = false ∨ { ft := (fr 2 [272, 6, 7]).ft, bcast := (fr 2 [272, 6, 7]).bcast, auth := (fr 2 [272, 6, 7]).auth, wrap := (fr 2 [272, 6, 7]).wrap, dst := 9, src := (fr 2 [272, 6, 7]).src, seq := (fr 2 [272, 6, 7]).seq, payload := (fr 2 [272, 6, 7]).payload : RingFrame }.bcast = false ∧ { ft := (fr 2 [272, 6, 7]).ft, bcast := (fr 2 [272, 6, 7]).bcast, auth := (fr 2 [272, 6, 7]).auth, wrap := (fr 2 [272, 6, 7]).wrap, dst := 9, src := (fr 2 [272, 6, 7]).src, seq := (fr 2 [272, 6, 7]).seq, payload := (fr 2 [272, 6, 7]).payload : RingFrame }.src ≠ st12.ownAddr ∧ { ft := (fr 2 [272, 6, 7]).ft, bcast := (fr 2 [272, 6, 7]).bcast, auth := (fr 2 [272, 6, 7]).auth, wrap := (fr 2 [272, 6, 7]).wrap, dst := 9, src := (fr 2 [272, 6, 7]).src, seq := (fr 2 [272, 6, 7]).seq, payload := (fr 2 [272, 6, 7]).payload : RingFrame }.dst ≠ st12.ownAddr) := by
  decide +kernel
def st14 : State := rg prog [] {R0 with fifo := List.replicate 32 ⟨5, false, false, 3, [4]⟩}
theorem witness_ring_frames_4 :
    st14.bivouac = false ∧
    (2, Instr.msgFrame 0 (fr 2 [272, 6, 7]) true) ∈ [(2, Instr.msgFrame 0 (fr 2 [272, 6, 7]) true), (3, Instr.rrdFrame 0 (fr 2 [272, 6, 7]) true), (4, Instr.rwrFrame 0 (fr 2 [272, 6, 7]) true), (5, Instr.rspFrame 0 (fr 2 [272, 6, 7]) true), (6, Instr.ackFrame 0 (fr 2 [272, 6, 7]) true), (7, Instr.sheetFrame 0 (fr 2 [272, 6, 7]) true)] ∧
    (fr 2 [272, 6, 7]).ft = 2 ∧
    st14.portUp 0 = true ∧
    true = true ∧
    (fr 2 [272, 6, 7]).lenOk = true ∧
    st14.addrValid = true ∧
    st14.portUp 1 = true ∧
    st14.fget F.EUN_STAT_WRAPB = 0 ∧
    (fr 2 [272, 6, 7]).dst = st14.ownAddr ∧
    (fr 2 [272, 6, 7]).src ≠ st14.ownAddr ∧
    (fr 2 [272, 6, 7]).bcast = false ∧
    (fr 2 [272, 6, 7]).auth = false ∧
    st14.ringSrc (fr 2 [272, 6, 7]).src = none ∧
    2 = 2 ∧
    bits (nth (fr 2 [272, 6, 7]).payload 0 0) 7 0 ≠ 241 ∧
    32 ≤ st14.ring.fifo.length := by
  decide +kernel
def st15 : State := rg prog [] {R0 with srcs := [⟨7, 34, [(33, some (6,[3]))], none⟩]}
theorem witness_ring_frames_5 :
    st15.bivouac = false ∧
    (2, Instr.msgFrame 0 (fr 2 [272, 6, 7]) true) ∈ [(2, Instr.msgFrame 0 (fr 2 [272, 6, 7]) true), (3, Instr.rrdFrame 0 (fr 2 [272, 6, 7]) true), (4, Instr.rwrFrame 0 (fr 2 [272, 6, 7]) true), (5, Instr.rspFrame 0 (fr 2 [272, 6, 7]) true), (6, Instr.ackFrame 0 (fr 2 [272, 6, 7]) true), (7, Instr.sheetFrame 0 (fr 2 [272, 6, 7]) true)] ∧
    (fr 2 [272, 6, 7]).ft = 2 ∧
    st15.portUp 0 = true ∧
    true = true ∧
    (fr 2 [272, 6, 7]).lenOk = true ∧
    st15.addrValid = true ∧
    st15.portUp 1 = true ∧
    st15.fget F.EUN_STAT_WRAPB = 0 ∧
    (fr 2 [272, 6, 7]).dst = st15.ownAddr ∧
    (fr 2 [272, 6, 7]).src ≠ st15.ownAddr ∧
    (fr 2 [272, 6, 7]).bcast = false ∧
    (fr 2 [272, 6, 7]).auth = false ∧
    (2 = 2 ∨ 2 = 3 ∨ 2 = 4 ∨ 2 = 7) ∧
    st15.ringSrc (fr 2 [272, 6, 7]).src = some { src := (fr 2 [272, 6, 7]).src, hi := 34, seen := [((fr 2 [272, 6, 7]).seq, some (6, [3]))], ctr := none : RingSrc } := by
  decide +kernel
def st16 : State := rg prog [] R0
theorem witness_ring_frames_6 :
    st16.bivouac = false ∧
    (3, Instr.rrdFrame 0 (fr 3 [65540]) true) ∈ [(2, Instr.msgFrame 0 (fr 3 [65540]) true), (3, Instr.rrdFrame 0 (fr 3 [65540]) true), (4, Instr.rwrFrame 0 (fr 3 [65540]) true), (5, Instr.rspFrame 0 (fr 3 [65540]) true), (6, Instr.ackFrame 0 (fr 3 [65540]) true), (7, Instr.sheetFrame 0 (fr 3 [65540]) true)] ∧
    (fr 3 [65540]).ft = 3 ∧
    st16.portUp 0 = true ∧
    true = true ∧
    (fr 3 [65540]).lenOk = true ∧
    st16.addrValid = true ∧
    st16.portUp 1 = true ∧
    st16.fget F.EUN_STAT_WRAPB = 0 ∧
    (fr 3 [65540]).dst = st16.ownAddr ∧
    (fr 3 [65540]).src ≠ st16.ownAddr ∧
    (fr 3 [65540]).bcast = false ∧
    (fr 3 [65540]).auth = false ∧
    st16.ringSrc (fr 3 [65540]).src = none ∧
    3 = 3 ∧
    raOk (nth (fr 3 [65540]).payload 0 0) = true := by
  decide +kernel
def st17 : State := rg prog [] R0
theorem witness_ring_frames_7 :
    st17.bivouac = false ∧
    (4, Instr.rwrFrame 0 (fr 4 [65540, 9]) true) ∈ [(2, Instr.msgFrame 0 (fr 4 [65540, 9]) true), (3, Instr.rrdFrame 0 (fr 4 [65540, 9]) true), (4, Instr.rwrFrame 0 (fr 4 [65540, 9]) true), (5, Instr.rspFrame 0 (fr 4 [65540, 9]) true), (6, Instr.ackFrame 0 (fr 4 [65540, 9]) true), (7, Instr.sheetFrame 0 (fr 4 [65540, 9]) true)] ∧
    (fr 4 [65540, 9]).ft = 4 ∧
    st17.portUp 0 = true ∧
    true = true ∧
    (fr 4 [65540, 9]).lenOk = true ∧
    st17.addrValid = true ∧
    st17.portUp 1 = true ∧
    st17.fget F.EUN_STAT_WRAPB = 0 ∧
    (fr 4 [65540, 9]).dst = st17.ownAddr ∧
    (fr 4 [65540, 9]).src ≠ st17.ownAddr ∧
    (fr 4 [65540, 9]).bcast = false ∧
    (fr 4 [65540, 9]).auth = false ∧
    st17.ringSrc (fr 4 [65540, 9]).src = none ∧
    4 = 4 := by
  decide +kernel
def st18 : State := rg prog [] R0
theorem witness_ring_frames_8 :
    st18.bivouac = false ∧
    (7, Instr.sheetFrame 0 (fr 7 [458753, 9, 8]) true) ∈ [(2, Instr.msgFrame 0 (fr 7 [458753, 9, 8]) true), (3, Instr.rrdFrame 0 (fr 7 [458753, 9, 8]) true), (4, Instr.rwrFrame 0 (fr 7 [458753, 9, 8]) true), (5, Instr.rspFrame 0 (fr 7 [458753, 9, 8]) true), (6, Instr.ackFrame 0 (fr 7 [458753, 9, 8]) true), (7, Instr.sheetFrame 0 (fr 7 [458753, 9, 8]) true)] ∧
    (fr 7 [458753, 9, 8]).ft = 7 ∧
    st18.portUp 0 = true ∧
    true = true ∧
    (fr 7 [458753, 9, 8]).lenOk = true ∧
    st18.addrValid = true ∧
    st18.portUp 1 = true ∧
    st18.fget F.EUN_STAT_WRAPB = 0 ∧
    (fr 7 [458753, 9, 8]).dst = st18.ownAddr ∧
    (fr 7 [458753, 9, 8]).src ≠ st18.ownAddr ∧
    (fr 7 [458753, 9, 8]).bcast = false ∧
    (fr 7 [458753, 9, 8]).auth = false ∧
    st18.ringSrc (fr 7 [458753, 9, 8]).src = none ∧
    7 = 7 := by
  decide +kernel
def st19 : State := rg prog [] {R0 with pend := [tx]}
theorem witness_ring_frames_9 :
    st19.bivouac = false ∧
    (5, Instr.rspFrame 0 (fr 5 [3073, 9]) true) ∈ [(2, Instr.msgFrame 0 (fr 5 [3073, 9]) true), (3, Instr.rrdFrame 0 (fr 5 [3073, 9]) true), (4, Instr.rwrFrame 0 (fr 5 [3073, 9]) true), (5, Instr.rspFrame 0 (fr 5 [3073, 9]) true), (6, Instr.ackFrame 0 (fr 5 [3073, 9]) true), (7, Instr.sheetFrame 0 (fr 5 [3073, 9]) true)] ∧
    (fr 5 [3073, 9]).ft = 5 ∧
    st19.portUp 0 = true ∧
    true = true ∧
    (fr 5 [3073, 9]).lenOk = true ∧
    st19.addrValid = true ∧
    (fr 5 [3073, 9]).dst = st19.ownAddr ∧
    (fr 5 [3073, 9]).src ≠ st19.ownAddr ∧
    (fr 5 [3073, 9]).bcast = false ∧
    (fr 5 [3073, 9]).auth = false ∧
    st19.ring.pend = [tx] ∧
    tx.frame.seq = bits (nth (fr 5 [3073, 9]).payload 0 0) 15 8 ∧
    5 = 5 ∧
    tx.kind = RingKind.access := by
  decide +kernel
def st21 : State := rg prog [] {R0 with pend := [{tx with kind := .msg 3}]}
theorem witness_ring_frames_10 :
    st21.bivouac = false ∧
    (6, Instr.ackFrame 0 (fr 6 [3076]) true) ∈ [(2, Instr.msgFrame 0 (fr 6 [3076]) true), (3, Instr.rrdFrame 0 (fr 6 [3076]) true), (4, Instr.rwrFrame 0 (fr 6 [3076]) true), (5, Instr.rspFrame 0 (fr 6 [3076]) true), (6, Instr.ackFrame 0 (fr 6 [3076]) true), (7, Instr.sheetFrame 0 (fr 6 [3076]) true)] ∧
    (fr 6 [3076]).ft = 6 ∧
    st21.portUp 0 = true ∧
    true = true ∧
    (fr 6 [3076]).lenOk = true ∧
    st21.addrValid = true ∧
    (fr 6 [3076]).dst = st21.ownAddr ∧
    (fr 6 [3076]).src ≠ st21.ownAddr ∧
    (fr 6 [3076]).bcast = false ∧
    (fr 6 [3076]).auth = false ∧
    st21.ring.pend = [{ frame := tx.frame, kind := RingKind.msg 3, tries := tx.tries, sent := tx.sent : RingTx }] ∧
    { frame := tx.frame, kind := RingKind.msg 3, tries := tx.tries, sent := tx.sent : RingTx }.frame.seq = bits (nth (fr 6 [3076]).payload 0 0) 15 8 ∧
    6 = 6 ∧
    { frame := tx.frame, kind := RingKind.msg 3, tries := tx.tries, sent := tx.sent : RingTx }.kind = RingKind.msg 3 ∧
    st21.ring.acks.length < 32 := by
  decide +kernel
def st22 : State := rg nzb [(F.EUN_CFG_RETRY,0,3),(F.EUN_RA_STAT_BUSY,0,0)] {R0 with pend := [tx]}
theorem witness_ring_requests_1 :
    st22.boundary = true ∧
    st22.seq.rel = [] ∧
    st22.ring.writes = [] ∧
    st22.ticking = true ∧
    st22.ring.pend = [tx] ∧
    tx.sent + max (st22.fget F.EUN_CFG_ACKTMO) 1 ≤ st22.elapsed + 1 ∧
    tx.frame.dst ≠ st22.ownAddr ∧
    tx.tries < st22.fget F.EUN_CFG_RETRY ∧
    st22.portUp 1 = true ∧
    st22.fget F.EUN_STAT_WRAPB = 0 ∧
    st22.fget F.EUN_RA_STAT_BUSY = 0 ∧
    7 < 1024 ∧
    7 ≠ st22.ownAddr ∧
    st22.addrValid = true ∧
    st22.nvm.ringKey = none ∧
    (st22.fbit F.EUN_SH_CFG_EN 1 = false ∨ st22.fbit F.EUN_SH_CFG_FALL 1 ≠ true ∨ st22.bivouac = true) := by
  decide +kernel
def st23 : State := rg nzb [(F.EUN_CFG_RETRY,0,1),(F.EUN_RA_STAT_BUSY,0,1)] {R0 with pend := [{tx with kind := .msg 3}]}
theorem witness_ring_requests_2 :
    st23.boundary = true ∧
    st23.seq.rel = [] ∧
    st23.ring.writes = [] ∧
    st23.ticking = true ∧
    st23.ring.pend = [{ frame := tx.frame, kind := RingKind.msg 3, tries := tx.tries, sent := tx.sent : RingTx }] ∧
    { frame := tx.frame, kind := RingKind.msg 3, tries := tx.tries, sent := tx.sent : RingTx }.sent + max (st23.fget F.EUN_CFG_ACKTMO) 1 ≤ st23.elapsed + 1 ∧
    { frame := tx.frame, kind := RingKind.msg 3, tries := tx.tries, sent := tx.sent : RingTx }.frame.dst ≠ st23.ownAddr ∧
    st23.fget F.EUN_CFG_RETRY ≤ { frame := tx.frame, kind := RingKind.msg 3, tries := tx.tries, sent := tx.sent : RingTx }.tries ∧
    { frame := tx.frame, kind := RingKind.msg 3, tries := tx.tries, sent := tx.sent : RingTx }.kind = RingKind.msg 3 ∧
    st23.ring.acks.length < 32 ∧
    st23.fget F.EUN_RA_STAT_BUSY = 1 ∧
    7 < 1024 := by
  decide +kernel
def st25 : State := rg nzb [(F.EUN_SH_CFG_EN,1,1),(F.EUN_SH_CFG_FALL,1,1),(F.EUN_SH_CFG_DST,1,9),(F.EUN_SH_CFG_AXIS,1,3)] {R0 with pend := [{tx with kind := .msg 3}]}
theorem witness_ring_requests_3 :
    1 < 4 ∧
    st25.ring.sheetNo.length = 4 ∧
    st25.bivouac = false ∧
    st25.fbit F.EUN_SH_CFG_EN 1 = true ∧
    st25.fbit F.EUN_SH_CFG_FALL 1 = true ∧
    st25.addrValid = true ∧
    st25.portUp 1 = true ∧
    st25.fget F.EUN_STAT_WRAPB = 0 ∧
    st25.fget F.EUN_SH_CFG_DST 1 ≠ st25.ownAddr := by
  decide +kernel
def st30 : State := rg {prog with tick := 10240, elapsed := 10240} [(F.EUN_STAT_TICKSRC,0,1)] {R0 with eid := some 9, lastSet := [none, some 10239] }
theorem witness_ring_links_7 :
    0 < 2 ∧
    st30.ring.ports.length = 2 ∧
    st30.ring.lastSet.length = 2 ∧
    st30.bivouac = false ∧
    st30.portUp 0 = true ∧
    st30.isRoot = false ∧
    st30.tickPort 0 ≠ 0 ∧
    (fe 3 9 false).ft = 1 ∧
    (fe 3 9 false).lenOk = true ∧
    st30.arrives 0 = true ∧
    st30.ring.eid = some (bits (nth (fe 3 9 false).payload 0 0) 23 16) := by
  decide +kernel
def st31 : State := rg {prog with tick := 10240, elapsed := 10240} [(F.EUN_CFG_ROOT,0,1)] {R0 with eid := some 8 }
theorem witness_ring_links_8 :
    0 < 2 ∧
    st31.ring.ports.length = 2 ∧
    st31.ring.lastSet.length = 2 ∧
    st31.bivouac = false ∧
    st31.portUp 0 = true ∧
    (fe 3 9 false).ft = 1 ∧
    (fe 3 9 false).lenOk = true ∧
    st31.arrives 0 = true ∧
    st31.isRoot = true ∧
    st31.ring.eid ≠ some (bits (nth (fe 3 9 false).payload 0 0) 23 16) := by
  decide +kernel
def st32 : State := rg {prog with tick := 10240, elapsed := 10240} [] {R0 with eid := some 8 }
theorem witness_ring_links_9 :
    0 < 2 ∧
    st32.ring.ports.length = 2 ∧
    st32.ring.lastSet.length = 2 ∧
    st32.bivouac = false ∧
    st32.portUp 0 = true ∧
    (fe 1024 9 false).ft = 1 ∧
    (fe 1024 9 false).lenOk = true ∧
    st32.arrives 0 = true ∧
    st32.isRoot = false ∧
    st32.ring.eid ≠ some (bits (nth (fe 1024 9 false).payload 0 0) 23 16) ∧
    1024 ≤ bits (nth (fe 1024 9 false).payload 0 0) 10 0 := by
  decide +kernel
def st34 : State := rg prog [] R0
theorem witness_ring_frames_11 :
    st34.bivouac = false ∧
    (3, Instr.rrdFrame 0 (fr 3 [65539]) true) ∈ [(2, Instr.msgFrame 0 (fr 3 [65539]) true), (3, Instr.rrdFrame 0 (fr 3 [65539]) true), (4, Instr.rwrFrame 0 (fr 3 [65539]) true), (5, Instr.rspFrame 0 (fr 3 [65539]) true), (6, Instr.ackFrame 0 (fr 3 [65539]) true), (7, Instr.sheetFrame 0 (fr 3 [65539]) true)] ∧
    (fr 3 [65539]).ft = 3 ∧
    st34.portUp 0 = true ∧
    true = true ∧
    (fr 3 [65539]).lenOk = true ∧
    st34.addrValid = true ∧
    st34.portUp 1 = true ∧
    st34.fget F.EUN_STAT_WRAPB = 0 ∧
    (fr 3 [65539]).dst = st34.ownAddr ∧
    (fr 3 [65539]).src ≠ st34.ownAddr ∧
    (fr 3 [65539]).bcast = false ∧
    (fr 3 [65539]).auth = false ∧
    st34.ringSrc (fr 3 [65539]).src = none ∧
    3 = 3 ∧
    raOk (nth (fr 3 [65539]).payload 0 0) = false := by
  decide +kernel
def st35 : State := rg prog [(F.EUN_P_STAT_UP,0,0)] R0
theorem witness_ring_frames_12 :
    st35.bivouac = false ∧
    (3, Instr.rrdFrame 0 (fr 3 [65539]) true) ∈ [(2, Instr.msgFrame 0 (fr 3 [65539]) true), (3, Instr.rrdFrame 0 (fr 3 [65539]) true), (4, Instr.rwrFrame 0 (fr 3 [65539]) true), (5, Instr.rspFrame 0 (fr 3 [65539]) true), (6, Instr.ackFrame 0 (fr 3 [65539]) true), (7, Instr.sheetFrame 0 (fr 3 [65539]) true)] ∧
    (fr 3 [65539]).ft = 3 ∧
    st35.portUp 0 = false := by
  decide +kernel
def st36 : State := rg {nzb with nvm := { nzb.nvm with ringKey := some (List.replicate 32 7) }} [(F.EUN_CFG_RETRY,0,3),(F.EUN_RA_STAT_BUSY,0,0)] {R0 with pend := [tx]}
theorem witness_ring_requests_4 :
    st36.fget F.EUN_RA_STAT_BUSY = 0 ∧
    7 < 1024 ∧
    7 ≠ st36.ownAddr ∧
    st36.addrValid = true ∧
    st36.portUp 1 = true ∧
    st36.fget F.EUN_STAT_WRAPB = 0 ∧
    st36.nvm.ringKey = some (List.replicate 32 7) := by
  decide +kernel
def st37 : State := rg {nzb with phase := 4} [(F.EUN_STAT_ADDRV,0,0),(F.EUN_CFG_ROOT,0,0),(F.EUN_SH_CFG_EN,1,1),(F.EUN_SH_CFG_FALL,1,1),(F.EUN_SH_CFG_DST,1,9),(F.EUN_SH_CFG_AXIS,1,3)] {R0 with pend := [tx]}
theorem witness_ring_requests_5 :
    st37.boundary = false ∧
    st37.fget F.EUN_RA_STAT_BUSY = 0 ∧
    st37.addrValid = false ∧
    7 < 1024 ∧
    1 < 4 ∧
    st37.ring.sheetNo.length = 4 ∧
    st37.bivouac = false ∧
    st37.fbit F.EUN_SH_CFG_EN 1 = true ∧
    st37.fbit F.EUN_SH_CFG_FALL 1 = true := by
  decide +kernel

end Ring

namespace Power

/-! States for power_states, power_supervision. -/

def nzb : State := { prog with committed := true, phase := 15, tick := 99, elapsed := 99 }
def bb : State := { prog with committed := true, phase := 15, tick := 99, elapsed := 99 }
def ps (s : State) (a b : Nat) (l : List (FldDesc × Nat × Nat)) : State := State.put s ([(F.PWR_STAT_STATE,0,a),(F.PWR_STAT_TARGET,0,b),(F.SEQ_STAT_MODE,0,3)] ++ l)
def rr : Rec := { code := 5, flags := 0, origin := 3, rseq := 4, pcyc := 2, opsec := 3, tick := 4, phase := 5, pflags := 6, payload := [7], snap := [], snapOf := none }
def st0 : State := ps bb 1 1 [(F.PWR_CTRL_DEEPEST,0,3)]
theorem witness_power_states_1 :
    (st0.boundary = true ∧
    st0.seq.rel = [] ∧
    st0.ring.writes = [] ∧
    (st0.tick + 1) % 50 = 0 ∧
    st0.running = true ∧
    st0.pst = 1 ∧
    st0.ptgt = 1 ∧
    2 ≤ 3 ∧
    3 ≤ st0.deepest ∧
    (st0.nextEvt = 0 ∨ ((↑(st0.fget F.PWR_S_CFG_EXIT 3) : Int) + (↑(st0.fget F.PWR_MARGIN_MS) : Int)) * 50 ≤ (↑st0.nextEvt : Int) - ((↑st0.tick : Int) + 1) ∧ 500000 * (↑(st0.fget F.PWR_S_COST_COST 3) : Int) < ((↑(st0.fget F.PWR_S_CFG_DRAW 1) : Int) - (↑(st0.fget F.PWR_S_CFG_DRAW 3) : Int)) * ((↑st0.nextEvt : Int) - ((↑st0.tick : Int) + 1) - 50 * (↑(st0.fget F.PWR_S_CFG_EXIT 3) : Int))) ∧
    (3 ≤ 3 → st0.quiet = true) ∧
    (3 = 4 → st0.sleepable = true)) ∧
    (∀ (j : Nat), 3 < j → ¬(2 ≤ j ∧ j ≤ st0.deepest ∧ (st0.nextEvt = 0 ∨ ((↑(st0.fget F.PWR_S_CFG_EXIT j) : Int) + (↑(st0.fget F.PWR_MARGIN_MS) : Int)) * 50 ≤ (↑st0.nextEvt : Int) - ((↑st0.tick : Int) + 1) ∧ 500000 * (↑(st0.fget F.PWR_S_COST_COST j) : Int) < ((↑(st0.fget F.PWR_S_CFG_DRAW 1) : Int) - (↑(st0.fget F.PWR_S_CFG_DRAW j) : Int)) * ((↑st0.nextEvt : Int) - ((↑st0.tick : Int) + 1) - 50 * (↑(st0.fget F.PWR_S_CFG_EXIT j) : Int))) ∧ (3 ≤ j → st0.quiet = true) ∧ (j = 4 → st0.sleepable = true))) :=
  ⟨by decide +kernel,
    fun j h hx => by
      have hd : st0.deepest ≤ 3 := by decide +kernel
      have h2 := hx.2.1
      omega⟩
def st2 : State := ps bb 1 1 [(F.PWR_CTRL_DEEPEST,0,1)]
theorem witness_power_states_2 :
    (st2.boundary = true ∧
    st2.seq.rel = [] ∧
    st2.ring.writes = [] ∧
    (st2.tick + 1) % 50 = 0 ∧
    st2.running = true ∧
    st2.pst = 1 ∧
    st2.ptgt = 1) ∧
    (∀ (j : Nat), ¬(2 ≤ j ∧ j ≤ st2.deepest ∧ (st2.nextEvt = 0 ∨ ((↑(st2.fget F.PWR_S_CFG_EXIT j) : Int) + (↑(st2.fget F.PWR_MARGIN_MS) : Int)) * 50 ≤ (↑st2.nextEvt : Int) - ((↑st2.tick : Int) + 1) ∧ 500000 * (↑(st2.fget F.PWR_S_COST_COST j) : Int) < ((↑(st2.fget F.PWR_S_CFG_DRAW 1) : Int) - (↑(st2.fget F.PWR_S_CFG_DRAW j) : Int)) * ((↑st2.nextEvt : Int) - ((↑st2.tick : Int) + 1) - 50 * (↑(st2.fget F.PWR_S_CFG_EXIT j) : Int))) ∧ (3 ≤ j → st2.quiet = true) ∧ (j = 4 → st2.sleepable = true))) :=
  ⟨by decide +kernel,
    fun j hx => by
      have hd : st2.deepest ≤ 1 := by decide +kernel
      have h1 := hx.1
      have h2 := hx.2.1
      omega⟩
def st5 : State := ps nzb 3 3 [(⟨R.PWR_NEXTEVT_LO,31,0⟩,0,120),(⟨R.PWR_NEXTEVT_HI,31,0⟩,0,0)]
theorem witness_power_states_3 :
    st5.boundary = true ∧
    st5.seq.rel = [] ∧
    st5.ring.writes = [] ∧
    ((st5.tick + 1) % 50 ≠ 0 ∨ st5.running = false ∨ st5.pst ≠ 1 ∨ st5.ptgt ≠ 1) ∧
    3 ≠ 1 ∧
    (3 ≠ 4 ∨ 50 ≤ 50) ∧
    st5.pwr.ackPend = none ∧
    st5.ptgt = st5.pst ∧
    (st5.pst = 2 ∧ (3 = 2 ∨ 3 = 3 ∨ 3 = 5) ∨ st5.pst = 3 ∧ 2 ≤ 3 ∧ 3 ≤ 6 ∨ st5.pst = 4 ∧ (3 = 4 ∨ 3 = 6 ∨ 3 = 5 ∧ st5.fget F.PWR_CTRL_RINGSLEEP = 1)) ∧
    2 ≤ st5.pst ∧
    st5.pst ≤ 4 ∧
    st5.nextEvt ≠ 0 ∧
    (st5.pwr.asleep = false ∨ st5.ptgt ≠ 1 ∨ ¬(st5.fget F.DRC_C_STAT_STATE = 3 ∧ ∀ d ∈ List.range st5.variant.drch, st5.fget F.DRC_C_STAT_STATE d ≠ 2)) := by
  decide +kernel
def st7 : State := ps {prog with pwr := {prog.pwr with asleep := true}} 4 1 [(F.CAL_SET_BOOT,0,5),(F.DRC_C_STAT_STATE,0,3)]
theorem witness_power_states_4 :
    st7.boundary = false ∧
    5 ≠ 1 ∧
    (5 ≠ 4 ∨ 50 ≤ 50) ∧
    st7.pwr.ackPend = none ∧
    (¬(st7.ptgt = st7.pst ∧ (st7.pst = 2 ∧ (5 = 2 ∨ 5 = 3 ∨ 5 = 5) ∨ st7.pst = 3 ∧ 2 ≤ 5 ∧ 5 ≤ 6 ∨ st7.pst = 4 ∧ (5 = 4 ∨ 5 = 6 ∨ 5 = 5 ∧ st7.fget F.PWR_CTRL_RINGSLEEP = 1)))) ∧
    st7.pwr.asleep = true ∧
    st7.ptgt = 1 ∧
    st7.fget F.DRC_C_STAT_STATE = 3 ∧
    (∀ d ∈ List.range st7.variant.drch, st7.fget F.DRC_C_STAT_STATE d ≠ 2) ∧
    4 ≤ st7.fget F.CAL_SET_BOOT ∧
    (st7.phase ≠ 0 ∨ st7.pst ≠ 3 ∨ st7.ptgt ≠ 3 ∨ st7.pwr.sbTick ≠ 50) := by
  decide +kernel
def st8 : State := ps {prog with seq := {prog.seq with ctx := prog.seq.ctx.set 3 { Ctx.blank with st := .ready }}, pwr := {prog.pwr with sbTick := 50}} 3 3 [(F.PWR_CTRL_HBCTX,0,3)]
theorem witness_power_states_5 :
    st8.phase = 0 ∧
    st8.pst = 3 ∧
    st8.ptgt = 3 ∧
    st8.pwr.sbTick = 50 ∧
    st8.fget F.PWR_CTRL_HBCTX < st8.seq.ctx.length := by
  decide +kernel
def st9 : State := State.put prog [(F.PWR_SUP_WARN,0,4)]
theorem witness_power_supervision_1 :
    1 < 7 ∧
    st9.ticking = true ∧
    1000 ≤ 1000 ∧
    -40 ≤ -40 ∧
    (st9.fget F.PWR_SUP_WARN).testBit 1 = false := by
  decide +kernel
def st11 : State := State.put prog [(F.PWR_SUP_WARN,0,4)]
theorem witness_power_supervision_2 :
    32 ≤ 33 ∧
    2 < 7 ∧
    st11.ticking = true ∧
    1000 ≤ 1000 ∧
    -40 < 81 ∧
    (st11.fget F.PWR_SUP_WARN).testBit 2 = true ∧
    (¬(st11.pwr.holdSup = true ∧ -30 < 81 ∧ 1000 ≤ 999)) ∧
    st11.boot.step ≠ BootStep.off ∧
    (81 ≤ -80 ∨ 80 < 81) := by
  decide +kernel
def st12 : State := State.put {prog with variant := .p6l} [(F.PWR_SUP_WARN,0,4)]
theorem witness_power_supervision_3 :
    3 < 32 ∧
    (3 = 3 ∨ 3 = 23 ∨ 3 = 24) ∧
    st12.variant.mains = false ∧
    2 < 7 ∧
    st12.ticking = true ∧
    1000 ≤ 1000 ∧
    -40 ≤ -40 ∧
    (st12.fget F.PWR_SUP_WARN).testBit 2 = true := by
  decide +kernel
def st16 : State := State.put {prog with rcd := {prog.rcd with queue := [rr]}, pwr := {prog.pwr with holdSup := true}, nvm := {prog.nvm with frank := prog.nvm.frank.set 3 ⟨5, 6, 7, [], [], false⟩}} [(F.PWR_SUP_WARN,0,4),(F.PWR_STAT_THR,0,3),(F.PWR_HK_VAL_VALUE,0,5)]
theorem witness_power_supervision_4 :
    3 < 32 ∧
    (3 = 3 ∨ 3 = 23 ∨ 3 = 24) ∧
    st16.variant.mains = true ∧
    1 < 7 ∧
    st16.ticking = true ∧
    1000 ≤ 1000 ∧
    -40 < -20 ∧
    (st16.fget F.PWR_SUP_WARN).testBit 1 = false ∧
    st16.pwr.holdSup = true ∧
    -30 < -20 ∧
    st16.fget F.PWR_SUP_WARN ≠ 0 ∧
    (st16.pwr.holdTemp = true ∨ st16.sec.minPend ≤ st16.nvm.minver ∧ st16.sec.rollPend = none) ∧
    (¬(1 < 7 ∧ st16.boot.step ≠ BootStep.off ∧ 1000 ≤ 1000 ∧ (-20 ≤ -80 ∨ 80 < -20))) := by
  decide +kernel
def st18 : State := State.put prog [(F.PWR_SUP_WARN,0,4)]
theorem witness_power_supervision_5 :
    (7 ≤ 7 ∨ st18.ticking = false ∨ 1000 < 1000) := by
  decide +kernel
def st19 : State := State.put prog [(F.PWR_SUP_WARN,0,4)]
theorem witness_power_supervision_6 :
    4 < 32 ∧
    (¬(4 = 3 ∨ 4 = 23 ∨ 4 = 24)) := by
  decide +kernel
def st20 : State := ps {bb with tick := 100} 1 1 [(F.PWR_CTRL_DEEPEST,0,3)]
theorem witness_power_states_6 :
    4 = 4 ∧
    49 < 50 := by
  decide +kernel

end Power

namespace Sec

/-! States for security_effects. -/

def nzb : State := { prog with committed := true, phase := 15, tick := 99, elapsed := 99 }
def ss (s : State) (x : Sec) (l : List (FldDesc × Nat × Nat)) : State := { State.put s l with sec := x }
def S : Sec := Sec.blank
def hold (s : State) : State := { s with pwr := { s.pwr with holdTemp := true } }
def cust (s : State) (a b : KeySlot) : State := { s with nvm := { s.nvm with cust := [a, b] } }
def k0 : KeySlot := ⟨.set, [5]⟩
def stp (b : BootStep) (s : State) : State := { s with boot := { s.boot with step := b } }
def st0 : State := ss nzb {S with btnLow := 99999} [(F.SEC_SEAL_BROKEN,0,0)]
theorem witness_security_effects_1 :
    st0.boundary = true ∧
    st0.seq.rel = [] ∧
    st0.ring.writes = [] ∧
    st0.ticking = true ∧
    st0.sec.btnHigh = true ∧
    st0.sec.btnLow = 99999 ∧
    st0.bivouac = false ∧
    st0.fget F.SEC_SEAL_BROKEN = 0 ∧
    (st0.sec.sealFail = 0 ∨ st0.fget F.SEC_SEAL_BROKEN = 1) ∧
    7 < 2 ^ 32 ∧
    st0.presence = false ∧
    7 ≠ st0.nvm.minver ∧
    3 < 16 ∧
    (st0.nvmHold = true ∨ st0.fget F.SEC_STAT_FRKLOCK = 1 ∨ st0.sec.batch = []) ∧
    1 < 4 := by
  decide +kernel
def st2 : State := ss nzb {S with btnLow := 99999, remRing := 1, sealGood := 99} [(F.SEC_SEAL_BROKEN,0,1),(⟨R.SEC_KEYSEL,31,0⟩,0,2)]
theorem witness_security_effects_2 :
    st2.fget F.SEC_SEAL_BROKEN = 1 ∧
    st2.bivouac = false ∧
    st2.presence = true ∧
    st2.nvmHold = false ∧
    st2.rget R.SEC_KEYSEL = 2 := by
  decide +kernel
def st3 : State := ss nzb {S with sealFail := 1, remRing := 1} [(F.SEC_SEAL_BROKEN,0,0),(⟨R.SEC_KEYSEL,31,0⟩,0,1)]
theorem witness_security_effects_3 :
    1 ≤ st3.sec.sealFail ∧
    st3.fget F.SEC_SEAL_BROKEN = 0 ∧
    st3.ticking = true ∧
    st3.bivouac = false ∧
    st3.presence = true ∧
    st3.nvmHold = false ∧
    st3.rget R.SEC_KEYSEL < 2 ∧
    (st3.custSlot (st3.rget R.SEC_KEYSEL)).state ≠ KeyState.revoked := by
  decide +kernel
def st6 : State := hold (ss nzb {S with strap := true} [(F.SEC_SEAL_BROKEN,0,0),(⟨R.SEC_KEYSEL,31,0⟩,0,2)])
theorem witness_security_effects_4 :
    st6.bivouac = false ∧
    7 < 2 ^ 32 ∧
    st6.presence = true ∧
    st6.nvmHold = true ∧
    st6.nvm.minver ≤ 7 := by
  decide +kernel
def st8 : State := cust (ss {nzb with nvm := {nzb.nvm with minver := 9}} {S with strap := true, nonce := some [4]} [(F.SEC_SEAL_BROKEN,0,0),(⟨R.SEC_KEYSEL,31,0⟩,0,1)]) k0 ⟨.revoked, []⟩
theorem witness_security_effects_5 :
    st8.bivouac = false ∧
    7 < 2 ^ 32 ∧
    st8.presence = true ∧
    7 < st8.nvm.minver ∧
    st8.nvmHold = false ∧
    st8.rget R.SEC_KEYSEL < 2 ∧
    (st8.custSlot (st8.rget R.SEC_KEYSEL)).state = KeyState.revoked ∧
    1 < 4 ∧
    st8.sec.nonce = some [4] := by
  decide +kernel
def st9 : State := cust (ss {nzb with nvm := {nzb.nvm with minver := 9, frank := nzb.nvm.frank.set 3 ⟨5, 6, 7, [], [], false⟩}} {S with batch := [(3, 70)]} [(F.SEC_STAT_FRKLOCK,0,0),(⟨R.SEC_KEYSEL,31,0⟩,0,1)]) k0 ⟨.revoked, []⟩
theorem witness_security_effects_6 :
    st9.nvmHold = false ∧
    st9.fget F.SEC_STAT_FRKLOCK = 0 ∧
    3 < 16 ∧
    st9.nvm.frank.length = 16 ∧
    st9.sec.batch = [(3, 70)] := by
  decide +kernel
def st10 : State := stp .bivouac (ss nzb {S with btnLow := 99999} [(F.SEC_SEAL_BROKEN,0,0)])
theorem witness_security_effects_7 :
    st10.bivouac = true := by
  decide +kernel
def st11 : State := stp .locking (ss {nzb with phase := 3} {S with btnLow := 99999, sealFail := 1} [(F.SEC_SEAL_BROKEN,0,0)])
theorem witness_security_effects_8 :
    1 ≤ st11.sec.sealFail ∧
    st11.fget F.SEC_SEAL_BROKEN = 0 ∧
    st11.ticking = false := by
  decide +kernel
def st12 : State := ss {nzb with phase := 3} {S with strap := true} [(F.SEC_SEAL_BROKEN,0,0),(⟨R.SEC_KEYSEL,31,0⟩,0,3)]
theorem witness_security_effects_9 :
    (st12.boundary = false ∨ st12.sec.btnHigh = false ∨ st12.sec.btnLow ≠ 99999) ∧
    st12.boundary = false ∧
    st12.bivouac = false ∧
    7 < 2 ^ 32 ∧
    st12.presence = true ∧
    st12.nvmHold = false ∧
    st12.nvm.minver < 7 ∧
    3 ≤ st12.rget R.SEC_KEYSEL ∧
    16 ≤ 16 ∧
    1 < 4 ∧
    st12.sec.nonce = none := by
  decide +kernel
def st13 : State := ss {nzb with phase := 3, nvm := {nzb.nvm with minver := 7}} {S with strap := true} [(F.SEC_SEAL_BROKEN,0,0),(⟨R.SEC_KEYSEL,31,0⟩,0,3)]
theorem witness_security_effects_10 :
    st13.bivouac = false ∧
    7 < 2 ^ 32 ∧
    7 = st13.nvm.minver ∧
    (st13.nvmHold = false ∨ st13.presence = false) := by
  decide +kernel

end Sec

namespace Rec

/-! States for recorder_effects. -/

def nzb : State := { prog with committed := true, phase := 15, tick := 99, elapsed := 99 }
def rr (c : Nat) : Rec := { code := c, flags := 0, origin := 3, rseq := 4, pcyc := 2, opsec := 3, tick := 4, phase := 5, pflags := 6, payload := [7], snap := [], snapOf := none }
def rs (s : State) (x : Recorder) (f b : Nat) : State := { State.put s [(F.REC_STAT_LOGMEM_FAIL,0,f),(F.REC_STAT_CLRBUSY,0,b)] with rcd := x }
def X : Recorder := Recorder.blank
def w (n : Nat) (e : Nat) : RlWin := { key := 5, endTick := e, accepted := 3, supp := n, firstCode := 7, firstOrig := 8, lastCode := 9 }
def st0 : State := rs nzb {X with queue := [rr 5, rr 6]} 0 0
theorem witness_recorder_effects_1 :
    st0.recReady = true ∧
    st0.rcd.queue = [rr 5, rr 6] ∧
    st0.rcd.lostNow = 0 ∧
    st0.fget F.REC_STAT_LOGMEM_FAIL = 0 ∧
    0 ≠ 2 ∧
    0 ≠ 4 ∧
    (st0.areaOf (secCode (rr 5).code)).1 + 1 < (st0.areaOf (secCode (rr 5).code)).2 ∧
    ((st0.areaOf (secCode (rr 5).code)).1 + 65 = (st0.areaOf (secCode (rr 5).code)).2 → secCode (rr 5).code = true) := by
  decide +kernel
def st2 : State := rs nzb {X with queue := [rr 0x5001, rr 6], sec := [(254, (rr 5).bytes)]} 0 0
theorem witness_recorder_effects_2 :
    st2.recReady = true ∧
    st2.rcd.queue = [rr 20481, rr 6] ∧
    st2.rcd.lostNow = 0 ∧
    st2.fget F.REC_STAT_LOGMEM_FAIL = 0 ∧
    0 ≠ 2 ∧
    0 ≠ 4 ∧
    secCode (rr 20481).code = true ∧
    (st2.areaOf (secCode (rr 20481).code)).1 + 1 = (st2.areaOf (secCode (rr 20481).code)).2 := by
  decide +kernel
def st3 : State := rs nzb {X with queue := [rr 0x5001, rr 6], sec := [(255, (rr 5).bytes)]} 0 0
theorem witness_recorder_effects_3 :
    st3.recReady = true ∧
    st3.rcd.queue = [rr 20481, rr 6] ∧
    st3.rcd.lostNow = 0 ∧
    st3.fget F.REC_STAT_LOGMEM_FAIL = 0 ∧
    (st3.areaOf (secCode (rr 20481).code)).2 ≤ (st3.areaOf (secCode (rr 20481).code)).1 := by
  decide +kernel
def st4 : State := rs nzb {X with queue := [rr 5, rr 6], gen := [(11966, (rr 5).bytes)]} 0 0
theorem witness_recorder_effects_4 :
    st4.recReady = true ∧
    st4.rcd.queue = [rr 5, rr 6] ∧
    st4.rcd.lostNow = 0 ∧
    st4.fget F.REC_STAT_LOGMEM_FAIL = 0 ∧
    0 ≠ 2 ∧
    0 ≠ 4 ∧
    secCode (rr 5).code = false ∧
    ((st4.areaOf (secCode (rr 5).code)).1 + 65 = (st4.areaOf (secCode (rr 5).code)).2 ∨ (st4.areaOf (secCode (rr 5).code)).1 + 1 = (st4.areaOf (secCode (rr 5).code)).2) ∧
    [rr 6].length < 256 := by
  decide +kernel
def st6 : State := rs nzb {X with queue := [rr 5, rr 6], gen := [(5, (rr 5).bytes)]} 1 0
theorem witness_recorder_effects_5 :
    st6.recReady = true ∧
    st6.rcd.queue = [rr 5, rr 6] ∧
    st6.rcd.lostNow = 0 ∧
    st6.fget F.REC_STAT_LOGMEM_FAIL = 1 ∧
    st6.rcd.bank.length < 8 := by
  decide +kernel
def st7 : State := rs nzb {X with queue := [rr 5, rr 6], bank := List.replicate 8 []} 1 0
theorem witness_recorder_effects_6 :
    st7.recReady = true ∧
    st7.rcd.queue = [rr 5, rr 6] ∧
    st7.rcd.lostNow = 0 ∧
    st7.fget F.REC_STAT_LOGMEM_FAIL = 1 ∧
    8 ≤ st7.rcd.bank.length := by
  decide +kernel
def st8 : State := rs nzb {X with queue := [rr 5, rr 6], bank := List.replicate 6 []} 0 0
theorem witness_recorder_effects_7 :
    st8.recReady = true ∧
    st8.rcd.queue = [rr 5, rr 6] ∧
    st8.rcd.lostNow = 0 ∧
    st8.fget F.REC_STAT_LOGMEM_FAIL = 0 ∧
    (2 = 2 ∨ 2 = 4) ∧
    (st8.areaOf (secCode (rr 5).code)).1 < (st8.areaOf (secCode (rr 5).code)).2 ∧
    st8.rcd.bank.length < 7 := by
  decide +kernel
def st9 : State := rs nzb {X with wins := [w 0 100]} 0 1
theorem witness_recorder_effects_8 :
    st9.recReady = false ∧
    (st9.boundary = false ∨ (st9.boundary = true ∧ st9.seq.rel = [] ∧ st9.ring.writes = []) ∧ st9.rateWin 0 = none) ∧
    st9.boundary = true ∧
    st9.seq.rel = [] ∧
    st9.ring.writes = [] ∧
    st9.ticking = true ∧
    st9.rateWin (w 0 100).key = some (w 0 100) ∧
    (w 0 100).endTick ≤ st9.tick + 1 ∧
    (w 0 100).supp = 0 ∧
    st9.presence = false ∧
    st9.fget F.REC_STAT_CLRBUSY = 1 ∧
    0 < 2 ∧
    (∀ k ∈ st9.recIndices, k < 12296) := by
  decide +kernel
def st10 : State := rs nzb {X with wins := [w 0 101]} 0 1
theorem witness_recorder_effects_9 :
    st10.boundary = true ∧
    st10.seq.rel = [] ∧
    st10.ring.writes = [] ∧
    st10.ticking = true ∧
    st10.rateWin (w 0 101).key = some (w 0 101) ∧
    st10.tick + 1 < (w 0 101).endTick := by
  decide +kernel
def st11 : State := { (rs nzb {X with wins := [w 4 99]} 0 1) with sec := {nzb.sec with strap := true}}
theorem witness_recorder_effects_10 :
    st11.boundary = true ∧
    st11.seq.rel = [] ∧
    st11.ring.writes = [] ∧
    st11.ticking = true ∧
    st11.rateWin (w 4 99).key = some (w 4 99) ∧
    (w 4 99).endTick ≤ st11.tick + 1 ∧
    (w 4 99).supp ≠ 0 ∧
    st11.rcd.queue.length < 256 ∧
    st11.presence = true := by
  decide +kernel
def st13 : State := rs nzb {X with queue := [rr 5, rr 6], lostNow := 4} 1 0
theorem witness_recorder_effects_11 :
    st13.recReady = true ∧
    st13.rcd.queue = [rr 5, rr 6] ∧
    0 < st13.rcd.lostNow ∧
    st13.fget F.REC_STAT_LOGMEM_FAIL = 1 ∧
    st13.rcd.bank.length < 8 ∧
    [rr 6].length < 256 ∧
    st13.fget F.REC_STAT_CLRBUSY = 0 ∧
    2 ≤ 3 := by
  decide +kernel
def st14 : State := rs nzb {X with queue := [rr 5, rr 6], bank := List.replicate 7 []} 0 0
theorem witness_recorder_effects_12 :
    st14.recReady = true ∧
    st14.rcd.queue = [rr 5, rr 6] ∧
    st14.rcd.lostNow = 0 ∧
    st14.fget F.REC_STAT_LOGMEM_FAIL = 0 ∧
    (2 = 2 ∨ 2 = 4) ∧
    (st14.areaOf (secCode (rr 5).code)).1 < (st14.areaOf (secCode (rr 5).code)).2 ∧
    7 ≤ st14.rcd.bank.length := by
  decide +kernel

end Rec

namespace Start

/-! States for start_sequence, io_effects. -/

def nzb : State := { prog with committed := true, phase := 15, tick := 9999999, elapsed := 9999999 }
def bo (s : State) (f : Boot → Boot) : State := { s with boot := f s.boot }
def io (s : State) (l : List (FldDesc × Nat × Nat)) (x : Iox) : State := { State.put s l with iox := x }
def I : Iox := Iox.blank
def on : List (FldDesc × Nat × Nat) := [(F.IOX_EVC_CFG_EN,1,1),(F.IOX_EVC_CFG_EDGE,1,1),(F.IOX_SPI_CFG_EN,1,1),(F.IOX_I2C_CFG_EN,1,1),(F.IOX_U_CFG_EN,1,1),(F.IOX_I2C_STAT_BUSY,1,0),(F.IOX_SPI_CFG_LEN,1,16)]
def st0 : State := bo prog (fun b => {b with step := .off})
theorem witness_start_sequence_1 :
    st0.boot.step = BootStep.off ∧
    (st0.boot.step = BootStep.off ∨ 1000 < 1000) ∧
    st0.ticking = false := by
  decide +kernel
def st2 : State := bo prog (fun b => {b with step := .locking, fscnt := 2})
theorem witness_start_sequence_2 :
    st2.boot.step = BootStep.locking ∧
    st2.boot.fscnt < 3 ∧
    10000 ≤ 10000 := by
  decide +kernel
def st4 : State := bo prog (fun b => {b with step := .locking, fscnt := 3})
theorem witness_start_sequence_3 :
    st4.boot.step = BootStep.locking ∧
    3 ≤ st4.boot.fscnt ∧
    10000 < 10001 := by
  decide +kernel
def st5 : State := bo nzb (fun b => {b with step := .image, ready := false, stepAt := 10})
theorem witness_start_sequence_4 :
    st5.boot.step = BootStep.image ∧
    st5.boundary = true ∧
    st5.seq.rel = [] ∧
    st5.ring.writes = [] ∧
    st5.ticking = true ∧
    0 < 3 ∧
    st5.stepLate 0 (st5.elapsed + 1) = true ∧
    st5.boot.ready = false ∧
    (st5.boot.step = BootStep.image ∨ st5.boot.step = BootStep.admission ∨ st5.boot.step = BootStep.running) ∧
    max (st5.fget F.SYS_BCCFG_SBUDGET) 1 * 100000 ≤ st5.boot.lockUs + 20 * (st5.elapsed + 1) ∧
    st5.running = true ∧
    4 ≤ 5 ∧
    5 ≤ 9 := by
  decide +kernel
def st6 : State := bo nzb (fun b => {b with step := .running, ready := false, wdog := 1})
theorem witness_start_sequence_5 :
    st6.boundary = true ∧
    st6.seq.rel = [] ∧
    st6.ring.writes = [] ∧
    st6.wdogRuns = true ∧
    st6.boot.wdog ≤ 1 ∧
    st6.boot.ready = false := by
  decide +kernel
def st8 : State := { (bo nzb (fun b => {b with step := .running, ready := true, wdog := 1})) with sec := {nzb.sec with strap := true}}
theorem witness_start_sequence_6 :
    st8.boundary = true ∧
    st8.seq.rel = [] ∧
    st8.ring.writes = [] ∧
    st8.wdogRuns = true ∧
    st8.boot.wdog ≤ 1 ∧
    st8.boot.ready = true ∧
    st8.presence = true := by
  decide +kernel
def st9 : State := io prog on I
theorem witness_io_effects_1 :
    1 < 16 ∧
    st9.fget F.IOX_EVC_CFG_EN 1 = 1 ∧
    (st9.fget F.IOX_EVC_CFG_EDGE 1 = 2 ∨ st9.fget F.IOX_EVC_CFG_EDGE 1 = bit true) ∧
    10 ≤ 10 ∧
    (¬st9.fget F.IOX_SPI_CFG_EN 1 = 1 ∨ st9.spiQ 1 = []) ∧
    1 < 2 ∧
    st9.spiQ 1 = [] ∧
    st9.fget F.IOX_SPI_CFG_EN 1 = 1 ∧
    st9.iox.spi.length = 2 ∧
    1 < 4 ∧
    st9.fget F.IOX_I2C_STAT_BUSY 1 = 0 ∧
    3 < 8 ∧
    2 < 8 ∧
    5 < 128 ∧
    st9.fget F.IOX_I2C_CFG_EN 1 = 1 ∧
    st9.uartTx 1 = [] ∧
    st9.fget F.IOX_U_CFG_EN 1 = 1 ∧
    st9.iox.tx.length = 2 ∧
    (¬st9.fget F.IOX_U_CFG_EN 1 = 1 ∨ st9.uartTx 1 = []) ∧
    st9.uartRx 1 = [] := by
  decide +kernel
def st10 : State := io prog (on ++ [(F.IOX_EVC_CFG_EN,1,0),(F.IOX_I2C_STAT_BUSY,1,1)]) { spi := [[],[5,6]], tx := [[],[5,6]], rx := [[],[5,6]]}
theorem witness_io_effects_2 :
    1 < 2 ∧
    st10.iox.spi.length = 2 ∧
    st10.spiQ 1 = [5, 6] ∧
    st10.fget F.IOX_SPI_CFG_EN 1 = 1 ∧
    st10.iox.tx.length = 2 ∧
    st10.uartTx 1 = [5, 6] ∧
    st10.fget F.IOX_U_CFG_EN 1 = 1 := by
  decide +kernel
def st11 : State := io prog (on ++ [(F.IOX_EVC_CFG_EN,1,0),(F.IOX_I2C_STAT_BUSY,1,1)]) { spi := [[],[5,6]], tx := [[],[5,6]], rx := [[],[5,6]]}
theorem witness_io_effects_3 :
    (16 ≤ 1 ∨ ¬(st11.fget F.IOX_EVC_CFG_EN 1 = 1 ∧ (st11.fget F.IOX_EVC_CFG_EDGE 1 = 2 ∨ st11.fget F.IOX_EVC_CFG_EDGE 1 = bit true) ∧ 10 ≤ 10)) ∧
    1 < 2 ∧
    st11.spiQ 1 = [5, 6] ∧
    [5, 6].length < 8 ∧
    ([5, 6] ≠ [] ∨ st11.fget F.IOX_SPI_CFG_EN 1 = 0) ∧
    1 < 4 ∧
    3 < 8 ∧
    2 < 8 ∧
    5 < 128 ∧
    st11.fget F.IOX_I2C_STAT_BUSY 1 = 1 ∧
    st11.uartTx 1 = [5, 6] ∧
    [5, 6].length < 16 ∧
    ([5, 6] ≠ [] ∨ st11.fget F.IOX_U_CFG_EN 1 = 0) ∧
    st11.fget F.IOX_U_CFG_EN 1 = 1 ∧
    st11.uartRx 1 = [5, 6] ∧
    [5, 6] ≠ [] := by
  decide +kernel
def st12 : State := io prog (on ++ [(F.IOX_EVC_CFG_EN,1,0),(F.IOX_I2C_STAT_BUSY,1,1)]) { spi := [[],List.replicate 8 5], tx := [[],List.replicate 16 5], rx := [[],List.replicate 16 5]}
theorem witness_io_effects_4 :
    1 < 2 ∧
    st12.spiQ 1 = List.replicate 8 5 ∧
    8 ≤ (List.replicate 8 5).length := by
  decide +kernel
def st13 : State := io prog (on ++ [(F.IOX_EVC_CFG_EN,1,0),(F.IOX_I2C_STAT_BUSY,1,1)]) { spi := [[],List.replicate 8 5], tx := [[],List.replicate 16 5], rx := [[],List.replicate 16 5]}
theorem witness_io_effects_5 :
    1 < 2 ∧
    st13.uartTx 1 = List.replicate 16 5 ∧
    16 ≤ (List.replicate 16 5).length ∧
    st13.fget F.IOX_U_CFG_EN 1 = 1 ∧
    st13.uartRx 1 = List.replicate 16 5 := by
  decide +kernel
def st15 : State := bo {prog with phase := 4} (fun b => {b with step := .held})
theorem witness_start_sequence_7 :
    st15.boot.step = BootStep.held ∧
    1000 ≤ 1000 := by
  decide +kernel
def st16 : State := bo {prog with phase := 4} (fun b => {b with step := .running, ready := true})
theorem witness_start_sequence_8 :
    st16.boot.step ≠ BootStep.off ∧
    1000 ≤ 1000 ∧
    st16.ticking = true ∧
    (st16.boot.step ≠ BootStep.held ∨ 999 < 1000) ∧
    st16.boot.step ≠ BootStep.locking ∧
    st16.boot.step ≠ BootStep.image ∧
    st16.boundary = false ∧
    0 ≠ 7 ∧
    st16.boot.ready = true ∧
    st16.presence = false ∧
    9 < 10 ∧
    0 < 6 ∧
    st16.img.stn.length = 6 ∧
    77 < 2 ^ 32 := by
  decide +kernel
def st18 : State := io prog (on ++ [(F.IOX_EVC_CFG_EN,1,0),(F.IOX_SPI_CFG_EN,1,0),(F.IOX_U_CFG_EN,1,0)]) I
theorem witness_io_effects_6 :
    2 ≤ 16 := by
  decide +kernel
def st19 : State := io prog (on ++ [(F.IOX_EVC_CFG_EN,1,0),(F.IOX_SPI_CFG_EN,1,0),(F.IOX_U_CFG_EN,1,0),(F.IOX_I2C_CFG_EN,1,0),(F.IOX_I2C_STAT_BUSY,1,0)]) I
theorem witness_io_effects_7 :
    1 < 4 ∧
    3 < 8 ∧
    2 < 8 ∧
    5 < 128 ∧
    st19.fget F.IOX_I2C_STAT_BUSY 1 = 0 ∧
    st19.fget F.IOX_I2C_CFG_EN 1 = 0 ∧
    1 < 2 ∧
    ¬st19.fget F.IOX_U_CFG_EN 1 = 1 := by
  decide +kernel
def st20 : State := bo prog (fun b => {b with step := .locking, fscnt := 2})
theorem witness_start_sequence_9 :
    st20.boot.step = BootStep.locking ∧
    st20.boot.fscnt < 3 ∧
    10000 < 10001 := by
  decide +kernel
def st21 : State := State.put (bo {prog with phase := 4} (fun b => {b with step := .admission, ready := false})) [(F.SEQ_STAT_MODE,0,2)]
theorem witness_start_sequence_10 :
    st21.running = false ∧
    st21.boot.ready = false := by
  decide +kernel

end Start

end Sys2Proof.Tests
end

section
/-! Identification: the registers that are views, the read mask of a register whose fields tile its 32 bits, and SYS_IDENT and
SYS_FEAT of each variant (R8, Table 0-2). -/

namespace Sys2Proof.Machine

/-! ### Registers without reserved or write-only bits -/

/-- The fields, from the highest down, cover exactly the bits below `top`, and each of them reads back. -/
def readableTiling : Nat → List FieldDesc → Bool
  | top, [] => top == 0
  | top, f :: fs => f.hi + 1 == top && decide (f.lo ≤ f.hi) && f.acc != .wo && f.acc != .w1p && readableTiling f.lo fs

/-- The top field of a number and what lies below it. -/
theorem bits_add_mod_two_pow (v hi lo : Nat) (h : lo ≤ hi) : bits v hi lo * 2 ^ lo + v % 2 ^ lo = v % 2 ^ (hi + 1) := by
  have hsplit : hi + 1 = lo + (hi + 1 - lo) := by omega
  rw [bits, Nat.shiftRight_eq_div_pow, hsplit, Nat.add_sub_cancel_left, Nat.pow_add, Nat.mod_mul, Nat.mul_comm, Nat.add_comm]

/-- Readable fields that tile the bits below `top` add those bits of the value to what the fields above them gave. -/
theorem foldl_readMask_of_tiling (v : Nat) (fs : List FieldDesc) (top a : Nat) (h : readableTiling top fs = true) :
    fs.foldl (fun a f => if f.acc = .wo || f.acc = .w1p then a else a + bits v f.hi f.lo * 2 ^ f.lo) a = a + v % 2 ^ top := by
  induction fs generalizing top a with
  | nil =>
    obtain rfl : top = 0 := by simpa [readableTiling] using h
    simp [Nat.mod_one]
  | cons f fs ih =>
    simp only [readableTiling, Bool.and_eq_true, beq_iff_eq, bne_iff_ne, decide_eq_true_eq] at h
    obtain ⟨⟨⟨⟨rfl, hle⟩, hwo⟩, hw1p⟩, hrest⟩ := h
    have hstep := ih f.lo (a + bits v f.hi f.lo * 2 ^ f.lo) hrest
    simpa [hwo, hw1p, Nat.add_assoc, bits_add_mod_two_pow v f.hi f.lo hle] using hstep

/-- A register whose readable fields tile its 32 bits hides no bit of its value. -/
theorem RegDesc.readMask_of_tiling (r : RegDesc) (v : Nat) (h : readableTiling 32 r.fields = true) :
    r.readMask v = v % 2 ^ 32 := by
  rw [RegDesc.readMask, foldl_readMask_of_tiling v r.fields 32 0 h, Nat.zero_add]

/-! ### Registers that are views -/

/-- A register that every variant has and that keeps its function in Bivouac mode reads, where it is a view, the view's value in
every state. -/
theorem State.readReg_of_view (s : State) {a i j : Nat} {r : RegDesc} {view : RegDesc × (State → Nat → Nat → Nat)}
    (hreg : findReg a = some (r, i, j)) (hres : r.res = .always) (hbiv : bivouacReg a = true)
    (hview : views.find? (fun v => v.1.base == r.base && v.1.i0 == r.i0) = some view) :
    s.readReg a = r.readMask (view.2 s i j % 2 ^ 32) := by
  simp [State.readReg, hreg, hres, hbiv, hview, Res.absent]

/-- Such a register reads the view's value itself where its readable fields tile its 32 bits and the value fits them. -/
theorem State.readReg_of_tiled_view (s : State) {a i j x : Nat} {r : RegDesc} {view : RegDesc × (State → Nat → Nat → Nat)}
    (hreg : findReg a = some (r, i, j)) (hres : r.res = .always) (hbiv : bivouacReg a = true)
    (hview : views.find? (fun v => v.1.base == r.base && v.1.i0 == r.i0) = some view)
    (htile : readableTiling 32 r.fields = true) (hx : view.2 s i j = x) (hlt : x < 2 ^ 32) : s.readReg a = x := by
  rw [s.readReg_of_view hreg hres hbiv hview, RegDesc.readMask_of_tiling r _ htile, Nat.mod_mod, hx, Nat.mod_eq_of_lt hlt]

/-! ### SYS_IDENT and SYS_FEAT -/

/-- A variant code fits its field of 8 bits. -/
theorem Variant.code_lt (v : Variant) : v.code < 2 ^ 8 := by cases v <;> decide

/-- SYS_FEAT of a variant is a 32-bit word. -/
theorem Variant.feat_lt (v : Variant) : v.feat < 2 ^ 32 := by cases v <;> decide

/-- SYS_IDENT reads family, variant code, stepping and fuse revision in every state. -/
theorem State.readReg_sysIdent (s : State) (hstep : s.stepping < 16) (hfuse : s.fuseRev < 16) :
    s.readReg (R.SYS_IDENT.addr 0 0) = 0x5659 * 2 ^ 16 + s.variant.code * 2 ^ 8 + s.stepping * 16 + s.fuseRev := by
  have hreg : findReg (R.SYS_IDENT.addr 0 0) = some (R.SYS_IDENT, 0, 0) := by decide
  have hcode := s.variant.code_lt
  exact s.readReg_of_tiled_view hreg rfl rfl rfl (by decide) rfl (by omega)

/-- SYS_FEAT reads the feature word of the variant in every state. -/
theorem State.readReg_sysFeat (s : State) : s.readReg (R.SYS_FEAT.addr 0 0) = s.variant.feat := by
  have hreg : findReg (R.SYS_FEAT.addr 0 0) = some (R.SYS_FEAT, 0, 0) := by decide
  exact s.readReg_of_tiled_view hreg rfl rfl rfl (by decide) rfl s.variant.feat_lt

/-- Settles O5: both registers are views that Bivouac mode keeps, and each variant's code and feature word are those of
Table 0-2. -/
theorem identification : Obligations.identification := by
  unfold Obligations.identification
  intro s hstep hfuse ident feat
  have hident := s.readReg_sysIdent hstep hfuse
  have hfeat := s.readReg_sysFeat
  cases hv : s.variant <;> rw [hv] at hident hfeat <;> exact ⟨hident, hfeat⟩

end Sys2Proof.Machine
end

section
/-! Which of several contexts is the best one (R75, R81): the choice that `bestCtx` makes among the contexts of a list. -/

namespace Sys2Proof.Machine

/-- Context k comes before context i: the higher priority first, ties to the lower number. -/
def ranksBefore (l : List Ctx) (k i : Nat) : Prop :=
  (nth l i Ctx.blank).prio < (nth l k Ctx.blank).prio ∨ (nth l i Ctx.blank).prio = (nth l k Ctx.blank).prio ∧ k < i

/-- What `betterCtx` has found in the contexts of l: none of them satisfies p, or the one it names, with its priority, comes before
every other that does. -/
def BestSoFar (l : List Ctx) (p : Nat → Ctx → Bool) : Option (Nat × Nat) → Prop
  | none => ∀ i, i < l.length → p i (nth l i Ctx.blank) = false
  | some (q, k) => k < l.length ∧ p k (nth l k Ctx.blank) = true ∧ q = (nth l k Ctx.blank).prio ∧
      ∀ i, i < l.length → p i (nth l i Ctx.blank) = true → i ≠ k → ranksBefore l k i

/-- The contexts of l keep their places when one more follows them. -/
theorem nth_concat_lt (l : List Ctx) (x : Ctx) {i : Nat} (h : i < l.length) : nth (l ++ [x]) i Ctx.blank = nth l i Ctx.blank := by
  simp [nth, List.getD, List.getElem?_append_left h]

/-- The one that follows them has the next number. -/
theorem nth_concat_length (l : List Ctx) (x : Ctx) : nth (l ++ [x]) l.length Ctx.blank = x := by
  simp [nth, List.getD]

/-- A number in a list with one more context is one of the list, or the next. -/
theorem lt_length_concat {l : List Ctx} {x : Ctx} {i : Nat} (h : i < (l ++ [x]).length) : i < l.length ∨ i = l.length := by
  rw [List.length_append, List.length_singleton] at h
  omega

/-- Among none that satisfies p there is none still after a context that does not. -/
theorem BestSoFar.none_concat {l : List Ctx} {p : Nat → Ctx → Bool} {x : Ctx} (h : BestSoFar l p none) (hx : p l.length x = false) :
    BestSoFar (l ++ [x]) p none := by
  intro i hi
  rcases lt_length_concat hi with hil | rfl
  · rw [nth_concat_lt l x hil]
    exact h i hil
  · rw [nth_concat_length]
    exact hx

/-- The best stays best after a context that does not satisfy p or has no higher priority: a tie goes to the lower number. -/
theorem BestSoFar.some_concat {l : List Ctx} {p : Nat → Ctx → Bool} {x : Ctx} {q k : Nat} (h : BestSoFar l p (some (q, k)))
    (hx : p l.length x = true → x.prio ≤ q) : BestSoFar (l ++ [x]) p (some (q, k)) := by
  obtain ⟨hk, hpk, rfl, hbest⟩ := h
  have hkeep := nth_concat_lt l x hk
  refine ⟨by simp; omega, by rw [hkeep]; exact hpk, by rw [hkeep], fun i hi hpi hne => ?_⟩
  rw [ranksBefore, hkeep]
  rcases lt_length_concat hi with hil | rfl
  · rw [nth_concat_lt l x hil] at hpi ⊢
    exact hbest i hil hpi hne
  · rw [nth_concat_length] at hpi ⊢
    have hle := hx hpi
    omega

/-- A context that satisfies p is the best where every earlier one that does has a lower priority. -/
theorem BestSoFar.concat_new {l : List Ctx} {p : Nat → Ctx → Bool} {x : Ctx} (hx : p l.length x = true)
    (h : ∀ i, i < l.length → p i (nth l i Ctx.blank) = true → (nth l i Ctx.blank).prio < x.prio) :
    BestSoFar (l ++ [x]) p (some (x.prio, l.length)) := by
  have hnew := nth_concat_length l x
  refine ⟨by simp, by rw [hnew]; exact hx, by rw [hnew], fun i hi hpi hne => Or.inl ?_⟩
  have hil : i < l.length := (lt_length_concat hi).resolve_right hne
  rw [nth_concat_lt l x hil] at hpi ⊢
  rw [hnew]
  exact h i hil hpi

/-- One more context, looked at after all of l, keeps what has been found right. -/
theorem BestSoFar.concat {l : List Ctx} {p : Nat → Ctx → Bool} {b : Option (Nat × Nat)} (h : BestSoFar l p b) (x : Ctx) :
    BestSoFar (l ++ [x]) p (betterCtx p b (x, l.length)) := by
  cases hx : p l.length x with
  | false =>
    simp only [betterCtx, hx, Bool.false_eq_true, if_false]
    cases b with
    | none => exact h.none_concat hx
    | some qk => exact h.some_concat (by simp [hx])
  | true =>
    simp only [betterCtx, hx, if_true]
    cases b with
    | none => exact concat_new hx (fun i hi hpi => by simp [h i hi] at hpi)
    | some qk =>
      obtain ⟨q, k⟩ := qk
      by_cases hq : q < x.prio
      · simp only [hq, if_true]
        obtain ⟨-, -, rfl, hbest⟩ := h
        refine concat_new hx (fun i hi hpi => ?_)
        by_cases hik : i = k
        · rw [hik]; exact hq
        · rcases hbest i hi hpi hik with hlt | ⟨heq, -⟩ <;> omega
      · simp only [hq, if_false]
        exact h.some_concat (fun _ => Nat.le_of_not_lt hq)

/-- The fold of `bestCtx` finds the best of the whole list. -/
theorem foldl_betterCtx_bestSoFar (l : List Ctx) (p : Nat → Ctx → Bool) : BestSoFar l p (l.zipIdx.foldl (betterCtx p) none) := by
  induction l using List.reverseRecOn with
  | nil => intro i hi; cases hi
  | append_singleton l x ih =>
    rw [List.zipIdx_append, List.foldl_append]
    simpa using ih.concat x

/-- Where `bestCtx` chooses none, none satisfies the condition. -/
theorem bestCtx_eq_none {l : List Ctx} {p : Nat → Ctx → Bool} (h : bestCtx l p = none) (i : Nat) (hi : i < l.length) :
    p i (nth l i Ctx.blank) = false := by
  have hall := foldl_betterCtx_bestSoFar l p
  rw [Option.map_eq_none_iff.mp h] at hall
  exact hall i hi

/-- The context that `bestCtx` chooses comes before every other that satisfies the condition. -/
theorem bestCtx_ranksBefore {l : List Ctx} {p : Nat → Ctx → Bool} {k : Nat} (h : bestCtx l p = some k) (i : Nat) (hi : i < l.length)
    (hp : p i (nth l i Ctx.blank) = true) (hne : i ≠ k) : ranksBefore l k i := by
  have hall := foldl_betterCtx_bestSoFar l p
  obtain ⟨⟨q, j⟩, hj, rfl⟩ := Option.map_eq_some_iff.mp h
  rw [hj] at hall
  obtain ⟨-, -, -, hbest⟩ := hall
  exact hbest i hi hp hne

end Sys2Proof.Machine
end

section
/-! Setting an event flag (R81): what becomes of the flag, of its waiters and of every other context and flag. -/

namespace Sys2Proof.Machine

/-- A context waits on f where it is WAITING and f is its flag. -/
theorem Ctx.waitsOn_iff (x : Ctx) (f : Nat) : x.waitsOn f = true ↔ x.st = .waiting ∧ x.waitFlag = f := by
  simp [Ctx.waitsOn]

/-- A context that is woken is READY. -/
@[simp] theorem Ctx.wakeUp_st (x : Ctx) (b : Bool) : (x.wakeUp b).st = .ready := rfl

/-- A number that waits on a flag names a context of the list: one outside it is blank. -/
theorem State.lt_length_of_waitsOn {s : State} {k f : Nat} (h : (s.ctx k).waitsOn f = true) : k < s.seq.ctx.length := by
  by_contra hk
  have hblank : s.ctx k = Ctx.blank := by simp [State.ctx, nth, List.getD, List.getElem?_eq_none (Nat.le_of_not_lt hk)]
  rw [hblank] at h
  simp [Ctx.waitsOn, Ctx.blank] at h

/-- The waiter with the consume option that takes flag f when it is set (R81). -/
def State.taker (s : State) (f : Nat) : Option Nat := bestCtx s.seq.ctx (fun _ x => x.waitsOn f && x.waitConsume)

/-- The taker waits on the flag with the consume option. -/
theorem State.taker_some {s : State} {f k : Nat} (h : s.taker f = some k) :
    (s.ctx k).waitsOn f = true ∧ (s.ctx k).waitConsume = true := by
  obtain ⟨-, hp⟩ := bestCtx_some _ _ _ h
  exact Bool.and_eq_true_iff.mp hp

/-- The taker has the highest priority of the waiters with the consume option, and of these the lowest number. -/
theorem State.taker_ranksBefore {s : State} {f k i : Nat} (h : s.taker f = some k) (hw : (s.ctx i).waitsOn f = true)
    (hc : (s.ctx i).waitConsume = true) (hne : i ≠ k) : ranksBefore s.seq.ctx k i :=
  bestCtx_ranksBefore h i (State.lt_length_of_waitsOn hw) (Bool.and_eq_true_iff.mpr ⟨hw, hc⟩) hne

/-- There is no taker exactly where nobody waits on the flag with the consume option. -/
theorem State.taker_eq_none_iff (s : State) (f : Nat) :
    s.taker f = none ↔ ∀ k, ¬ ((s.ctx k).waitsOn f = true ∧ (s.ctx k).waitConsume = true) := by
  constructor
  · rintro h k ⟨hw, hc⟩
    have hnot := bestCtx_eq_none h k (State.lt_length_of_waitsOn hw)
    change ((s.ctx k).waitsOn f && (s.ctx k).waitConsume) = false at hnot
    rw [hw, hc] at hnot
    cases hnot
  · intro h
    rcases ht : s.taker f with _ | k
    · rfl
    · exact absurd (State.taker_some ht) (h k)

/-- A context when flag f is set, apart from the taker: it is woken where it waits on the flag without the consume option. -/
def Ctx.wakePlain (f : Nat) (x : Ctx) : Ctx := if x.waitsOn f && !x.waitConsume then x.wakeUp false else x

/-- A waiter with the consume option is left to the choice of the taker. -/
theorem Ctx.wakePlain_of_consume (f : Nat) {x : Ctx} (h : x.waitConsume = true) : x.wakePlain f = x := by
  simp [Ctx.wakePlain, h]

/-- Blank places of the list stay blank, so waking the list wakes each number's context. -/
theorem nth_map_wakePlain (l : List Ctx) (f k : Nat) :
    nth (l.map (Ctx.wakePlain f)) k Ctx.blank = (nth l k Ctx.blank).wakePlain f := by
  have hblank : Ctx.blank.wakePlain f = Ctx.blank := rfl
  simp only [nth, List.getD, List.getElem?_map]
  cases l[k]? with
  | none => exact hblank.symm
  | some x => rfl

/-- The contexts after a flag is set that nobody takes. -/
theorem State.ctxs_setFlag_of_none {s : State} {f : Nat} (h : s.taker f = none) :
    (s.setFlag f).seq.ctx = s.seq.ctx.map (Ctx.wakePlain f) := by
  unfold State.taker at h
  simp only [State.setFlag, State.raiseFlag, h]
  rfl

/-- The contexts after a flag is set that context c takes. -/
theorem State.ctxs_setFlag_of_some {s : State} {f c : Nat} (h : s.taker f = some c) :
    (s.setFlag f).seq.ctx = (s.seq.ctx.map (Ctx.wakePlain f)).set c ((s.ctx c).wakeUp false) := by
  have hc : nth (s.seq.ctx.map (Ctx.wakePlain f)) c Ctx.blank = s.ctx c := by
    rw [nth_map_wakePlain]
    exact Ctx.wakePlain_of_consume f (State.taker_some h).2
  unfold State.taker at h
  rw [← hc]
  simp only [State.setFlag, State.raiseFlag, h]
  rfl

/-- The taker is woken. -/
theorem State.ctx_setFlag_taker {s : State} {f c : Nat} (h : s.taker f = some c) :
    (s.setFlag f).ctx c = (s.ctx c).wakeUp false := by
  have hc : c < s.seq.ctx.length := State.lt_length_of_waitsOn (State.taker_some h).1
  rw [State.ctx, State.ctxs_setFlag_of_some h]
  simp [nth, List.getD, hc]

/-- Every other context is woken where it waits without the consume option. -/
theorem State.ctx_setFlag_of_ne_taker {s : State} {f k : Nat} (h : s.taker f ≠ some k) :
    (s.setFlag f).ctx k = (s.ctx k).wakePlain f := by
  cases ht : s.taker f with
  | none => rw [State.ctx, State.ctxs_setFlag_of_none ht, nth_map_wakePlain, State.ctx]
  | some c =>
    have hne : c ≠ k := fun e => h (e ▸ ht)
    have hset : (s.setFlag f).ctx k = nth (s.seq.ctx.map (Ctx.wakePlain f)) k Ctx.blank := by
      rw [State.ctx, State.ctxs_setFlag_of_some ht, nth, nth, List.getD, List.getD, List.getElem?_set_ne hne]
    rw [hset, nth_map_wakePlain, State.ctx]

/-- A waiter without the consume option is woken. -/
theorem State.ctx_setFlag_of_plain {s : State} {f k : Nat} (hw : (s.ctx k).waitsOn f = true) (hc : (s.ctx k).waitConsume = false) :
    (s.setFlag f).ctx k = (s.ctx k).wakeUp false := by
  rw [State.ctx_setFlag_of_ne_taker fun ht => by simp [(State.taker_some ht).2] at hc]
  simp [Ctx.wakePlain, hw, hc]

/-- A context that does not wait on the flag stays. -/
theorem State.ctx_setFlag_of_not_waiting {s : State} {f k : Nat} (h : ¬ (s.ctx k).waitsOn f = true) :
    (s.setFlag f).ctx k = s.ctx k := by
  rw [State.ctx_setFlag_of_ne_taker fun ht => h (State.taker_some ht).1]
  simp [Ctx.wakePlain, h]

/-- A waiter with the consume option that is not the taker stays. -/
theorem State.ctx_setFlag_of_passed_over {s : State} {f k : Nat} (hc : (s.ctx k).waitConsume = true) (h : s.taker f ≠ some k) :
    (s.setFlag f).ctx k = s.ctx k := by
  rw [State.ctx_setFlag_of_ne_taker h, Ctx.wakePlain_of_consume f hc]

/-- The flag is written: 0 where it is taken, and 1 where it is not. -/
theorem State.regs_setFlag (s : State) (f : Nat) :
    (s.setFlag f).regs = (s.putFlag f (s.taker f).isNone).regs := rfl

/-- A flag just written reads back. -/
theorem State.flag_putFlag_same (s : State) (f : Nat) (b : Bool) : (s.putFlag f b).flag f = b := by
  have hlo : f % 32 ≤ f % 32 + 1 := Nat.le_succ _
  have h32 : f % 32 < 32 := Nat.mod_lt _ (by decide)
  rw [State.flag, State.putFlag, State.rget_rset_same,
    Nat.mod_eq_of_lt (putBits_lt _ _ _ _ hlo h32 (s.rget_lt _ _ _)), testBit_putBits _ _ _ _ _ hlo]
  cases b <;> simp [bit]

/-- A write of one flag leaves every other flag. -/
theorem State.flag_putFlag_ne (s : State) (f h : Nat) (b : Bool) (hne : h ≠ f) : (s.putFlag f b).flag h = s.flag h := by
  by_cases hword : h / 32 = f / 32
  · -- another bit of the same word
    have hbit : h % 32 ≠ f % 32 := by omega
    have hlo : f % 32 ≤ f % 32 + 1 := Nat.le_succ _
    have h32 : f % 32 < 32 := Nat.mod_lt _ (by decide)
    rw [State.flag, State.flag, State.putFlag, hword, State.rget_rset_same,
      Nat.mod_eq_of_lt (putBits_lt _ _ _ _ hlo h32 (s.rget_lt _ _ _)), testBit_putBits _ _ _ _ _ hlo]
    split
    · rfl
    · rw [if_neg (by omega)]
  · -- another word
    have haddr : R.SEQ_EV.addr (h / 32) 0 ≠ R.SEQ_EV.addr (f / 32) 0 := by
      simp only [RegDesc.addr, R.SEQ_EV]
      omega
    rw [State.flag, State.putFlag, State.rget_rset_ne _ _ _ _ _ _ _ _ haddr, State.flag]

/-- Flags are read from the register file alone. -/
theorem State.flag_congr {s t : State} (h : s.regs = t.regs) (f : Nat) : s.flag f = t.flag f := by
  rw [State.flag, State.rget, h, State.flag, State.rget]

/-- A flag that is set stands where nobody takes it. -/
theorem State.flag_setFlag_same (s : State) (f : Nat) : (s.setFlag f).flag f = (s.taker f).isNone := by
  rw [State.flag_congr (s.regs_setFlag f), State.flag_putFlag_same]

/-- Setting a flag leaves every other flag. -/
theorem State.flag_setFlag_ne (s : State) (f h : Nat) (hne : h ≠ f) : (s.setFlag f).flag h = s.flag h := by
  rw [State.flag_congr (s.regs_setFlag f), State.flag_putFlag_ne _ _ _ _ hne]

/-- EVSET of a host flag outside Bivouac mode is the flag's set arriving (R80). -/
theorem exec_evset (s : State) (f : Nat) (hb : s.bivouac = false) (hf : f < 768) : exec (.evset f) s = .next (s.setFlag f) := by
  have hmod : f % 1024 = f := Nat.mod_eq_of_lt (by omega)
  change execEvset f s = _
  simp [execEvset, State.evSet, hb, hmod, hf]

/-- Setting a flag changes the registers, the contexts and the arrivals only. -/
theorem State.setFlag_frame (s : State) (f : Nat) :
    s.setFlag f = { s with
      regs := (s.setFlag f).regs
      seq := { s.seq with ctx := (s.setFlag f).seq.ctx, arrivals := s.seq.arrivals ++ [.set f] } } := rfl

/-- Settles O19: the taker of the flag, where there is one, is the best of the waiters with the consume option. -/
theorem flagWakesWaiters : Obligations.flag_wakes_waiters := by
  unfold Obligations.flag_wakes_waiters
  intro s f hb hf waits keen
  have hwaits : ∀ k, (s.ctx k).waitsOn f = true ↔ waits k := fun k => Ctx.waitsOn_iff _ _
  refine ⟨s.setFlag f, exec_evset s f hb hf, s.setFlag_frame f, s.regsApart_setFlag f rfl, s.flag_setFlag_ne f,
    ?_, ?_, ?_, ?_⟩
  · intro k hw hplain
    have hwoken := State.ctx_setFlag_of_plain ((hwaits k).mpr hw) hplain
    exact ⟨hwoken, hwoken ▸ Ctx.wakeUp_st _ _⟩
  · exact fun k hno => State.ctx_setFlag_of_not_waiting (mt (hwaits k).mp hno)
  · intro hnobody
    have hnone : s.taker f = none := (s.taker_eq_none_iff f).mpr fun k ⟨hw, hc⟩ => hnobody k ⟨(hwaits k).mp hw, hc⟩
    rw [s.flag_setFlag_same, hnone]
    rfl
  · rintro j ⟨hwj, hcj⟩
    rcases ht : s.taker f with _ | k
    · exact absurd ⟨(hwaits j).mpr hwj, hcj⟩ ((s.taker_eq_none_iff f).mp ht j)
    · obtain ⟨hwk, hck⟩ := State.taker_some ht
      refine ⟨by rw [s.flag_setFlag_same, ht]; rfl, k, ⟨(hwaits k).mp hwk, hck⟩, State.ctx_setFlag_taker ht, ?_⟩
      rintro i ⟨hwi, hci⟩ hne
      have hnot : s.taker f ≠ some i := fun e => hne (Option.some.inj (e.symm.trans ht))
      exact ⟨State.ctx_setFlag_of_passed_over hci hnot, State.taker_ranksBefore ht ((hwaits i).mpr hwi) hci hne⟩

end Sys2Proof.Machine
end

section
/-! The timers (R84): one timer's count, its expiry, and the 64 of them at phase 0. -/

namespace Sys2Proof.Machine

/-! ### A timer's registers -/

/-- The registers of timer t: SEQ_T{t}_CTRL and SEQ_T{t}_CNT. -/
def timerReg (t a : Nat) : Prop := a = R.SEQ_T_CTRL.addr t 0 ∨ a = R.SEQ_T_CNT.addr t 0

/-- What one timer may write at phase 0: its own registers and the word of its flag. -/
def timerTouched (t a : Nat) : Prop := timerReg t a ∨ a = R.SEQ_EV.addr ((960 + t) / 32) 0

/-- The fields of a timer lie in its own registers. -/
theorem timerReg_of_field {f : FldDesc} (h : f.reg = R.SEQ_T_CTRL ∨ f.reg = R.SEQ_T_CNT) (t : Nat) : timerReg t (f.reg.addr t 0) := by
  rcases h with h | h <;> simp [timerReg, h]

/-- The registers of the 64 timers are no event flags. -/
theorem ne_flagWord_of_timerReg {t g a : Nat} (hg : g < 32) (ha : timerReg t a) : a ≠ R.SEQ_EV.addr g 0 := by
  simp only [timerReg, RegDesc.addr, R.SEQ_T_CTRL, R.SEQ_T_CNT, R.SEQ_EV] at *
  omega

/-- A timer writes no other timer's registers. -/
theorem not_timerTouched_of_timerReg {t k a : Nat} (hk : k < 64) (hne : t ≠ k) (ha : timerReg t a) : ¬ timerTouched k a := by
  rintro (hreg | hflag)
  · simp only [timerReg, RegDesc.addr, R.SEQ_T_CTRL, R.SEQ_T_CNT] at *
    omega
  · exact ne_flagWord_of_timerReg (by omega) ha hflag

/-- The count and the control word of a timer are two registers. -/
theorem addr_cnt_ne_ctrl (t : Nat) : R.SEQ_T_CNT.addr t 0 ≠ R.SEQ_T_CTRL.addr t 0 := by
  simp only [RegDesc.addr, R.SEQ_T_CNT, R.SEQ_T_CTRL]
  omega

/-- A write of a timer's field touches its own registers only. -/
theorem State.regsApart_fset_timer (s : State) (f : FldDesc) (v t : Nat) (h : f.reg = R.SEQ_T_CTRL ∨ f.reg = R.SEQ_T_CNT) :
    s.regsApart (timerTouched t) (s.fset f v t) := s.regsApart_fset f v t 0 (Or.inl (timerReg_of_field h t))

/-- A timer's flag leaves the timer's fields. -/
theorem State.fget_setFlag_timer (s : State) {f : FldDesc} {t : Nat} (ht : t < 64) (h : f.reg = R.SEQ_T_CTRL ∨ f.reg = R.SEQ_T_CNT) :
    (s.setFlag (960 + t)).fget f t = s.fget f t :=
  (s.regsApart_setFlag (P := (· = R.SEQ_EV.addr ((960 + t) / 32) 0)) _ rfl).fget f t 0
    (ne_flagWord_of_timerReg (by omega) (timerReg_of_field h t))

/-- A write of the count reads back, cut to its 24 bits. -/
theorem State.fget_fset_count (s : State) (v t : Nat) (hv : v < 2 ^ 24) :
    (s.fset F.SEQ_T_CNT_COUNT v t).fget F.SEQ_T_CNT_COUNT t = v :=
  (s.fget_fset_same F.SEQ_T_CNT_COUNT v t 0 (by decide) (by decide)).trans (Nat.mod_eq_of_lt hv)

/-- A write of the count leaves EN. -/
theorem State.fget_en_fset_count (s : State) (v t : Nat) :
    (s.fset F.SEQ_T_CNT_COUNT v t).fget F.SEQ_T_CTRL_EN t = s.fget F.SEQ_T_CTRL_EN t :=
  s.fget_fset_ne _ _ _ _ _ _ _ (addr_cnt_ne_ctrl t).symm

/-! ### One timer at phase 0 -/

/-- A timer reaches 0: its own registers, and its flag. -/
theorem State.regsApart_timerExpire (s : State) (t : Nat) : s.regsApart (timerTouched t) (s.timerExpire t) := by
  have hflag : ∀ u : State, u.regsApart (timerTouched t) (u.setFlag (960 + t)) := fun u => u.regsApart_setFlag _ (Or.inr rfl)
  unfold State.timerExpire
  dsimp only
  split
  · exact (s.regsApart_fset_timer _ _ _ (Or.inr rfl)).trans (hflag _)
  · exact ((s.regsApart_fset_timer _ _ _ (Or.inl rfl)).trans (State.regsApart_fset_timer _ _ _ _ (Or.inr rfl))).trans (hflag _)

/-- An expiry is an arrival of the timer's flag, and no other. -/
theorem State.timerExpire_arrivals (s : State) (t : Nat) :
    (s.timerExpire t).seq.arrivals = s.seq.arrivals ++ [.set (960 + t)] := by
  unfold State.timerExpire
  dsimp only
  split <;> rfl

/-- An expiry at phase 0 leaves the marks of the expiries commanded before it. -/
theorem State.timerExpire_timersDone (s : State) (t : Nat) : (s.timerExpire t).seq.timersDone = s.seq.timersDone := by
  unfold State.timerExpire
  dsimp only
  split <;> rfl

/-- What one timer's turn does: nothing, an expiry, or one count down. -/
theorem State.timerPhase0_cases (s : State) (t : Nat) :
    s.timerPhase0 t = s ∨ s.timerPhase0 t = s.timerExpire t ∨
      s.timerPhase0 t = s.fset F.SEQ_T_CNT_COUNT (s.fget F.SEQ_T_CNT_COUNT t - 1) t := by
  unfold State.timerPhase0
  split
  · exact Or.inl rfl
  · split
    · exact Or.inr (Or.inl rfl)
    · exact Or.inr (Or.inr rfl)

/-- A timer that is not enabled stays. -/
theorem State.timerPhase0_of_disabled {s : State} {t : Nat} (h : s.fget F.SEQ_T_CTRL_EN t = 0) : s.timerPhase0 t = s := by
  simp [State.timerPhase0, State.fbit, h]

/-- A timer whose count is at its end expires. -/
theorem State.timerPhase0_of_due {s : State} {t : Nat} (hdone : s.seq.timersDone = []) (hen : s.fget F.SEQ_T_CTRL_EN t = 1)
    (hn : s.fget F.SEQ_T_CNT_COUNT t ≤ 1) : s.timerPhase0 t = s.timerExpire t := by
  simp [State.timerPhase0, State.timerDue, State.fbit, hdone, hen, hn]

/-- A timer with more to go counts down by 1. -/
theorem State.timerPhase0_of_counting {s : State} {t : Nat} (hdone : s.seq.timersDone = []) (hen : s.fget F.SEQ_T_CTRL_EN t = 1)
    (hn : 1 < s.fget F.SEQ_T_CNT_COUNT t) :
    s.timerPhase0 t = s.fset F.SEQ_T_CNT_COUNT (s.fget F.SEQ_T_CNT_COUNT t - 1) t := by
  simp [State.timerPhase0, State.timerDue, State.fbit, hdone, hen, Nat.not_le.mpr hn]

/-- A periodic timer reloads, of which 0 counts as 1, and goes on. -/
theorem State.timerExpire_of_periodic {s : State} {t : Nat} (ht : t < 64) (hp : s.fget F.SEQ_T_CTRL_PERIODIC t = 1) :
    (s.timerExpire t).fget F.SEQ_T_CNT_COUNT t = max (s.fget F.SEQ_T_CTRL_RELOAD t) 1 ∧
      (s.timerExpire t).fget F.SEQ_T_CTRL_EN t = s.fget F.SEQ_T_CTRL_EN t := by
  have hfbit : s.fbit F.SEQ_T_CTRL_PERIODIC t = true := by simp [State.fbit, hp]
  have hreload : s.fget F.SEQ_T_CTRL_RELOAD t < 2 ^ 24 := bits_lt _ 23 0
  rw [State.timerExpire, if_pos hfbit, State.fget_setFlag_timer _ ht (Or.inr rfl), State.fget_setFlag_timer _ ht (Or.inl rfl),
    State.fget_en_fset_count]
  exact ⟨s.fget_fset_count _ t (by omega), rfl⟩

/-- A timer that is not periodic ends. -/
theorem State.timerExpire_of_single {s : State} {t : Nat} (ht : t < 64) (hp : s.fget F.SEQ_T_CTRL_PERIODIC t = 0) :
    (s.timerExpire t).fget F.SEQ_T_CTRL_EN t = 0 := by
  have hfbit : ¬ s.fbit F.SEQ_T_CTRL_PERIODIC t = true := by simp [State.fbit, hp]
  rw [State.timerExpire, if_neg hfbit, State.fget_setFlag_timer _ ht (Or.inl rfl), State.fget_en_fset_count]
  exact s.fget_fset_same F.SEQ_T_CTRL_EN 0 t 0 (by decide) (by decide)

/-! ### A timer among the others -/

/-- Nothing of timer t differs, no arrival is lost, and the same timers are marked as expired already. -/
structure TimerKept (t : Nat) (s u : State) : Prop where
  regs : s.regsApart (fun a => ¬ timerReg t a) u
  arrivals : s.seq.arrivals ⊆ u.seq.arrivals
  timersDone : u.seq.timersDone = s.seq.timersDone

theorem TimerKept.refl (t : Nat) (s : State) : TimerKept t s s := ⟨State.regsApart_of_regs rfl, fun _ h => h, rfl⟩

theorem TimerKept.trans {t : Nat} {s u w : State} (h : TimerKept t s u) (k : TimerKept t u w) : TimerKept t s w :=
  ⟨h.regs.trans k.regs, fun _ hx => k.arrivals (h.arrivals hx), k.timersDone.trans h.timersDone⟩

/-- The timer's fields read as before. -/
theorem TimerKept.fget {t : Nat} {s u : State} (h : TimerKept t s u) (f : FldDesc)
    (hf : f.reg = R.SEQ_T_CTRL ∨ f.reg = R.SEQ_T_CNT) : u.fget f t = s.fget f t :=
  h.regs.fget f t 0 (not_not_intro (timerReg_of_field hf t))

/-- Another timer's turn leaves timer t. -/
theorem timerKept_timerPhase0 (s : State) {t k : Nat} (hk : k < 64) (hne : t ≠ k) : TimerKept t s (s.timerPhase0 k) := by
  have hapart : ∀ a, timerTouched k a → ¬ timerReg t a := fun a ha hreg => not_timerTouched_of_timerReg hk hne hreg ha
  rcases s.timerPhase0_cases k with h | h | h <;> rw [h]
  · exact TimerKept.refl t s
  · exact ⟨(s.regsApart_timerExpire k).mono hapart, by simp [s.timerExpire_arrivals], s.timerExpire_timersDone k⟩
  · exact ⟨(s.regsApart_fset_timer _ _ _ (Or.inr rfl)).mono hapart, by simp, rfl⟩

/-- The turns of other timers leave timer t. -/
theorem timerKept_foldl {t : Nat} (l : List Nat) (s : State) (hl : ∀ k ∈ l, k < 64) (ht : t ∉ l) :
    TimerKept t s (l.foldl State.timerPhase0 s) := by
  induction l generalizing s with
  | nil => exact TimerKept.refl t s
  | cons k l ih =>
    obtain ⟨hne, ht⟩ : t ≠ k ∧ t ∉ l := by simpa using ht
    exact (timerKept_timerPhase0 s (hl k List.mem_cons_self) hne).trans (ih _ (fun i hi => hl i (List.mem_cons_of_mem k hi)) ht)

/-- The 64 timers at phase 0, seen from timer t: the others have had their turns or have them later, and leave it. -/
theorem State.timersPhase0_split (s : State) {t : Nat} (ht : t < 64) (hdone : s.seq.timersDone = []) :
    ∃ v, TimerKept t s v ∧ v.seq.timersDone = [] ∧
      ∃ w, TimerKept t (v.timerPhase0 t) w ∧ s.timersPhase0 = { w with seq := { w.seq with timersDone := [] } } := by
  obtain ⟨l, r, hrange⟩ := List.append_of_mem (List.mem_range.mpr ht)
  have hnodup : (l ++ t :: r).Nodup := hrange ▸ List.nodup_range
  obtain ⟨htl, htr⟩ : t ∉ l ∧ t ∉ r := by simpa using (List.nodup_middle.mp hnodup).notMem
  have hlt : ∀ k ∈ l ++ t :: r, k < 64 := fun k hk => List.mem_range.mp (hrange ▸ hk)
  have hv := timerKept_foldl l s (fun k hk => hlt k (List.mem_append_left _ hk)) htl
  refine ⟨_, hv, hv.timersDone.trans hdone, _,
    timerKept_foldl r _ (fun k hk => hlt k (List.mem_append_right _ (List.mem_cons_of_mem t hk))) htr, ?_⟩
  rw [State.timersPhase0, hrange, List.foldl_append, List.foldl_cons]

/-! ### A write of a timer -/

/-- A write of SEQ_T{t}_CTRL with EN = 1 loads the count from RELOAD, of which 0 counts as 1. -/
theorem State.fget_count_timerWrite (s : State) (t v : Nat) (hen : v.testBit 31 = true) :
    (s.timerWrite t v).fget F.SEQ_T_CNT_COUNT t = max (bits v 23 0) 1 := by
  have hreload : bits v 23 0 < 2 ^ 24 := bits_lt v 23 0
  rw [State.timerWrite, if_pos hen]
  refine (State.fget_rset_same _ F.SEQ_T_CNT_COUNT _ t 0 (by decide)).trans ?_
  change (max (bits v 23 0) 1 >>> 0) % 2 ^ 24 = _
  rw [Nat.shiftRight_zero, Nat.mod_eq_of_lt (by omega)]

/-- TIMER_WRITE of a word outside Bivouac mode. -/
theorem exec_timerWrite (s : State) {t val : Nat} (hb : s.bivouac = false) (ht : t < 64) (hval : val < 2 ^ 32) :
    exec (.timerWrite t val) s = .next (s.timerWrite t val) := by
  have hno : ¬ 64 ≤ t := by omega
  have hmod : val % 2 ^ 32 = val := Nat.mod_eq_of_lt hval
  change execTimerWrite t val s = _
  rw [execTimerWrite, hmod]
  simp [hb, hno]

/-- Settles O26: the other timers leave timer t, so its fields are those of its own turn. -/
theorem timersCountDown : Obligations.timers_count_down := by
  unfold Obligations.timers_count_down
  intro s t ht hdone u n
  obtain ⟨v, hbefore, hv, w, hafter, hu⟩ := s.timersPhase0_split ht hdone
  have hctrl : ∀ f : FldDesc, f.reg = R.SEQ_T_CTRL → v.fget f t = s.fget f t := fun f hf => hbefore.fget f (Or.inl hf)
  have hcount : v.fget F.SEQ_T_CNT_COUNT t = n := hbefore.fget _ (Or.inr rfl)
  have huen : u.fget F.SEQ_T_CTRL_EN t = (v.timerPhase0 t).fget F.SEQ_T_CTRL_EN t :=
    (congrArg (·.fget F.SEQ_T_CTRL_EN t) hu).trans (hafter.fget _ (Or.inl rfl))
  have hucount : u.fget F.SEQ_T_CNT_COUNT t = (v.timerPhase0 t).fget F.SEQ_T_CNT_COUNT t :=
    (congrArg (·.fget F.SEQ_T_CNT_COUNT t) hu).trans (hafter.fget _ (Or.inr rfl))
  rw [← hctrl F.SEQ_T_CTRL_EN rfl, ← hctrl F.SEQ_T_CTRL_PERIODIC rfl, ← hctrl F.SEQ_T_CTRL_RELOAD rfl, ← hcount, huen, hucount]
  refine ⟨fun hen hn => ?_, fun hen hn => ?_, fun hen => ?_, fun x hx hb => ?_⟩
  · have hlt : v.fget F.SEQ_T_CNT_COUNT t < 2 ^ 24 := bits_lt _ 23 0
    rw [State.timerPhase0_of_counting hv hen hn, State.fget_en_fset_count]
    exact ⟨v.fget_fset_count _ t (by omega), hen⟩
  · rw [State.timerPhase0_of_due hv hen hn] at hafter ⊢
    refine ⟨?_, fun hp => ?_, State.timerExpire_of_single ht⟩
    · have hmem : Arrival.set (960 + t) ∈ (v.timerExpire t).seq.arrivals := by simp [v.timerExpire_arrivals]
      rw [show u.seq.arrivals = w.seq.arrivals from congrArg (·.seq.arrivals) hu]
      exact hafter.arrivals hmem
    · obtain ⟨hload, hkeep⟩ := State.timerExpire_of_periodic ht hp
      exact ⟨hload, hkeep.trans hen⟩
  · rw [State.timerPhase0_of_disabled hen]
    exact ⟨rfl, hen⟩
  · have hbit : (2 ^ 31 + x).testBit 31 = true := by
      rw [Nat.testBit_two_pow_add_eq, Nat.testBit_lt_two_pow (by omega)]
      rfl
    have hreload : bits (2 ^ 31 + x) 23 0 = x := by
      rw [bits, Nat.shiftRight_zero]
      omega
    exact ⟨_, exec_timerWrite s hb ht (by omega), by rw [State.fget_count_timerWrite _ _ _ hbit, hreload]⟩

end Sys2Proof.Machine
end

section
/-! Branches (R119, R120, Table 4-3): where a branch goes, what each branch instruction does with its context, and what the
conditions say after a compare of two words. -/

namespace Sys2Proof.Machine

/-! ### Where a branch goes -/

/-- The sign of a w-bit field is told by its top bit. -/
theorem signed_eq {w : Nat} (v : Nat) (hw : 0 < w) :
    signed w v = if v % 2 ^ w < 2 ^ (w - 1) then ((v % 2 ^ w : Nat) : Int) else ((v % 2 ^ w : Nat) : Int) - 2 ^ w := by
  have htop : 2 ^ w = 2 * 2 ^ (w - 1) := (mul_pow_sub_one hw.ne' 2).symm
  have hiff : 2 * (v % 2 ^ w) < 2 ^ w ↔ v % 2 ^ w < 2 ^ (w - 1) := by omega
  simp only [signed, hiff, Nat.cast_pow, Nat.cast_ofNat]

/-- A branch target lies in the program space already. -/
theorem branchPc_mod (pc w off : Nat) : branchPc pc w off % 2 ^ 20 = (((pc : Int) + signed w off) % 2 ^ 20).toNat := by
  simp only [branchPc]
  omega

/-! ### The branch instructions -/

/-- An instruction that runs and does not fault gives the state of its operation. -/
theorem State.instr_eq_next {s t : State} {c : Nat} {i : Instr} {f : Ctx → (Nat × Nat) ⊕ State} (hrun : s.executes c i = true)
    (hf : f (s.ctx c) = .inr t) : s.instr c i f = .next t := by
  rw [State.instr, if_pos hrun, hf]

/-- A branch replaces its context: at the target where it is taken, else past itself. -/
theorem State.branch_eq (s : State) (c : Nat) (taken : Bool) (target cycT cycN : Nat) : s.branch c taken target cycT cycN =
    s.setCtx c (if taken then (s.ctx c).retireTo target cycT else (s.ctx c).past cycN) := rfl

section
variable (s : State) (c : Nat)

/-- B.cond is taken where its condition holds. -/
theorem State.onlyCtx_bCond {cond : Nat} (off : Nat) (hne : cond ≠ 8) : s.onlyCtx c (.bCond c cond off)
    (if condHolds cond (s.ctx c) then (s.ctx c).retireTo (branchPc (s.ctx c).pc 22 off) 2 else (s.ctx c).past 1) := by
  intro hrun
  change execBCond c cond off s = _
  exact State.instr_eq_next hrun (if_neg hne)

/-- BL writes the return address to X15 and is always taken. -/
theorem State.onlyCtx_bl (off : Nat) : s.onlyCtx c (.bl c off)
    (((s.ctx c).setReg 15 (BitVec.ofNat 32 (((s.ctx c).pc + 1) % 2 ^ 20))).retireTo (branchPc (s.ctx c).pc 26 off) 2) := by
  intro hrun
  change execBl c off s = _
  exact State.instr_eq_next hrun rfl

/-- CBZ is taken on zero. -/
theorem State.onlyCtx_cbz (a : Fin 16) (off : Nat) : s.onlyCtx c (.cbz c a off)
    (if (s.ctx c).reg a = 0 then (s.ctx c).retireTo (branchPc (s.ctx c).pc 21 off) 2 else (s.ctx c).past 1) := by
  intro hrun
  change execCbz c a off s = _
  exact State.instr_eq_next hrun (by simp only [State.branch_eq, beq_iff_eq])

/-- CBNZ is taken on all but zero. -/
theorem State.onlyCtx_cbnz (a : Fin 16) (off : Nat) : s.onlyCtx c (.cbnz c a off)
    (if (s.ctx c).reg a = 0 then (s.ctx c).past 1 else (s.ctx c).retireTo (branchPc (s.ctx c).pc 21 off) 2) := by
  intro hrun
  change execCbnz c a off s = _
  exact State.instr_eq_next hrun (by simp only [State.branch_eq, bne_iff_ne, ne_eq, ite_not])

/-- BR goes to Xa, cut to the program space. -/
theorem State.onlyCtx_br (a : Fin 16) : s.onlyCtx c (.br c a) ((s.ctx c).retireTo ((s.ctx c).reg a).toNat 3) := by
  intro hrun
  change execBr c a s = _
  exact State.instr_eq_next hrun rfl

/-- BLR goes to the Xa from before it wrote the return address to X15. -/
theorem State.onlyCtx_blr (a : Fin 16) : s.onlyCtx c (.blr c a)
    (((s.ctx c).setReg 15 (BitVec.ofNat 32 (((s.ctx c).pc + 1) % 2 ^ 20))).retireTo ((s.ctx c).reg a).toNat 3) := by
  intro hrun
  change execBlr c a s = _
  exact State.instr_eq_next hrun rfl

end

/-! ### The conditions (Table 4-3) -/

/-- Bit 3 of the condition negates it. -/
theorem condHolds_add_eight {k : Nat} (x : Ctx) (hk : k < 8) : condHolds (k + 8) x = !condHolds k x := by
  simp [condHolds, Nat.not_le.mpr hk]

/-- So the negated condition says the opposite of what the condition says. -/
theorem condHolds_add_eight_iff {k : Nat} {x : Ctx} {P : Prop} (hk : k < 8) (h : condHolds k x = true ↔ P) :
    condHolds (k + 8) x = true ↔ ¬ P := by
  rw [condHolds_add_eight x hk, Bool.not_eq_true', ← Bool.not_eq_true, h]

/-- After a compare, N ≠ V tells the signed order: V tells where the difference has left the 32 bits, and there its sign is
the wrong one. -/
theorem msb_sub_ne_outS32_iff (p q : Word) : ((p - q).msb != outS32 (p.toInt - q.toInt)) = true ↔ p.toInt < q.toInt := by
  have hp := p.le_toInt
  have hp' := p.toInt_lt
  have hq := q.le_toInt
  have hq' := q.toInt_lt
  rw [bne_iff_ne, ne_eq, Bool.eq_iff_iff]
  simp only [BitVec.msb_eq_toInt, BitVec.toInt_sub, Int.bmod_def, outS32, Bool.or_eq_true, decide_eq_true_eq]
  omega

section
variable {x : Ctx} {p q : Word}

/-- Condition 1 after a compare. -/
theorem condHolds_eq_iff (hz : x.z = decide (p = q)) : condHolds 1 x = true ↔ p = q := by
  simp [condHolds, hz]

/-- Condition 2 after a compare. -/
theorem condHolds_ult_iff (hc : x.cy = decide (p.toNat < q.toNat)) : condHolds 2 x = true ↔ p.toNat < q.toNat := by
  simp [condHolds, hc]

/-- Condition 3 after a compare. -/
theorem condHolds_ule_iff (hz : x.z = decide (p = q)) (hc : x.cy = decide (p.toNat < q.toNat)) :
    condHolds 3 x = true ↔ p.toNat ≤ q.toNat := by
  have hsplit : condHolds 3 x = (condHolds 2 x || condHolds 1 x) := rfl
  rw [hsplit, Bool.or_eq_true, condHolds_ult_iff hc, condHolds_eq_iff hz, ← BitVec.toNat_inj, Nat.le_iff_lt_or_eq]

/-- Condition 4 after a compare. -/
theorem condHolds_slt_iff (hn : x.n = (p - q).msb) (hv : x.v = outS32 (p.toInt - q.toInt)) :
    condHolds 4 x = true ↔ p.toInt < q.toInt := by
  rw [← msb_sub_ne_outS32_iff, ← hn, ← hv]
  rfl

/-- Condition 5 after a compare. -/
theorem condHolds_sle_iff (hz : x.z = decide (p = q)) (hn : x.n = (p - q).msb) (hv : x.v = outS32 (p.toInt - q.toInt)) :
    condHolds 5 x = true ↔ p.toInt ≤ q.toInt := by
  have hsplit : condHolds 5 x = (condHolds 1 x || condHolds 4 x) := rfl
  rw [hsplit, Bool.or_eq_true, condHolds_eq_iff hz, condHolds_slt_iff hn hv, ← BitVec.toInt_inj, Int.le_iff_eq_or_lt]

end

/-- Settles O10: a branch replaces its context and nothing else, the listed conditions are those of `condHolds`, and each
condition from 9 on is the negation of the one 8 below it. -/
theorem branchResult : Obligations.branch_result := by
  unfold Obligations.branch_result
  intro s c cond off a x sx goto holds target compared
  have hgoto : ∀ w cyc, 0 < w → goto w cyc = x.retireTo (branchPc x.pc w off) cyc := by
    intro w cyc hw
    simp only [goto, sx, Ctx.retireTo, branchPc_mod, signed_eq off hw]
  have hholds : cond < 16 → cond ≠ 8 → holds = condHolds cond x := by
    intro hlt hne
    simp only [holds]
    interval_cases cond <;> simp [condHolds, bne] at hne ⊢
  refine ⟨fun hlt hne => ?_, ?_, ?_, ?_, s.onlyCtx_br c a, s.onlyCtx_blr c a, ?_⟩
  · rw [hholds hlt hne, hgoto 22 2 (by decide)]
    exact s.onlyCtx_bCond c off hne
  · rw [hgoto 26 2 (by decide)]
    exact s.onlyCtx_bl c off
  · rw [hgoto 21 2 (by decide)]
    exact s.onlyCtx_cbz c a off
  · rw [hgoto 21 2 (by decide)]
    exact s.onlyCtx_cbnz c a off
  · have hcond : ∀ k, k < 16 ∧ k ≠ 8 → cond = k → (holds = true ↔ condHolds k x = true) := by
      rintro k ⟨hlt, hne⟩ rfl
      rw [hholds hlt hne]
    rintro p q ⟨hz, hc, hn, hv⟩
    have heq := condHolds_eq_iff hz
    have hult := condHolds_ult_iff hc
    have hule := condHolds_ule_iff hz hc
    have hslt := condHolds_slt_iff hn hv
    have hsle := condHolds_sle_iff hz hn hv
    refine ⟨fun h => ?eq, fun h => ?ne, fun h => ?ult, fun h => ?uge, fun h => ?ule, fun h => ?ugt, fun h => ?slt, fun h => ?sge,
      fun h => ?sle, fun h => ?sgt⟩
    case eq => exact (hcond 1 (by decide) h).trans heq
    case ne => exact (hcond 9 (by decide) h).trans (condHolds_add_eight_iff (k := 1) (by decide) heq)
    case ult => exact (hcond 2 (by decide) h).trans hult
    case uge => exact (hcond 10 (by decide) h).trans ((condHolds_add_eight_iff (k := 2) (by decide) hult).trans not_lt)
    case ule => exact (hcond 3 (by decide) h).trans hule
    case ugt => exact (hcond 11 (by decide) h).trans ((condHolds_add_eight_iff (k := 3) (by decide) hule).trans not_le)
    case slt => exact (hcond 4 (by decide) h).trans hslt
    case sge => exact (hcond 12 (by decide) h).trans ((condHolds_add_eight_iff (k := 4) (by decide) hslt).trans not_lt)
    case sle => exact (hcond 5 (by decide) h).trans hsle
    case sgt => exact (hcond 13 (by decide) h).trans ((condHolds_add_eight_iff (k := 5) (by decide) hsle).trans not_le)

end Sys2Proof.Machine
end
